-- ==== Sys2Proof/Word.lean ====
section
/-! DEFINITION. The word types of the model. -/

namespace Sys2Proof

/-- A 32-bit word: a working register, a parameter value, a schedule-memory word. -/
abbrev Word := BitVec 32

/-- An octet. -/
abbrev Byte := BitVec 8

end Sys2Proof
end

