-- ==== Sys2Proof/Syntax.lean ====
section
/-! DEFINITION. The commands of the Cylith 8832 (spec/opcode_table.json): the operand types and the one inductive `Instr`.
The table gives its rows no operand fields, so every operand here is the model's: what an instruction word carries by its
reference entry (chapters 03 and 04), and what an event brings with it from outside the chip (DESIGN CHOICE, log entry 1). -/

namespace Sys2Proof

/-- The two host worlds (R48). -/
inductive World where
  | operator
  | custodian
deriving DecidableEq, Repr

/-- The two host links (R479, R480). -/
inductive HostLink where
  | pcie
  | qspi
deriving DecidableEq, Repr

/-- Who executes an instruction: a slice sequencer SA-SL; the conductor taking a word directly from a record of a world
(ring context, R51); or the conductor inside a routine called by the open record (R51). -/
inductive Who where
  | slice (n : Fin 12)
  | ring (w : World)
  | routine
deriving DecidableEq, Repr

/-- One of the thirteen sequencers. -/
inductive Seqr where
  | sl (n : Fin 12)
  | cond
deriving DecidableEq, Repr

/-- The condition field COND (R73): 0 always; 1-4 if p0-p3 true; 5-8 if p0-p3 false. -/
inductive Cond where
  | always
  | ifT (p : Fin 4)
  | ifF (p : Fin 4)
deriving DecidableEq, Repr

/-- Operand 2 (R76): an immediate, or a working register. -/
inductive Op2 where
  | imm (v : Word)
  | reg (r : Fin 16)
deriving DecidableEq, Repr

/-- A queue operand (R77): an immediate, or a working register. -/
inductive QRef where
  | imm (q : Fin 1024)
  | reg (r : Fin 16)
deriving DecidableEq, Repr

/-- The relations of CMP (Table FC-6). -/
inductive Rel where
  | eq | ne | ltu | leu | gtu | geu | lts | les | gts | ges
deriving DecidableEq, Repr

/-- The modes 0-7 of MOV with their operands (Table FC-5). -/
inductive MovOp where
  | ww (d s : Fin 16)
  | secLo (d : Fin 16) (t : Fin 4)
  | secHi (d : Fin 16) (t : Fin 4)
  | nsOf (d : Fin 16) (t : Fin 4)
  | setSecLo (t : Fin 4) (s : Fin 16)
  | setSecHi (t : Fin 4) (s : Fin 16)
  | setNs (t : Fin 4) (s : Fin 16)
  | tt (d s : Fin 4)
deriving DecidableEq, Repr

/-- An address field of an IEEE 802.15.4 frame. -/
inductive Addr where
  | none
  | short (a : BitVec 16)
  | ext (e : BitVec 64)
deriving DecidableEq, Repr

/-- What a parse of a frame's octets by IEEE 802.15.4-2020 gives. The standard's formats are not in the spec (00), so the
command that brings a frame states these facts (DESIGN CHOICE, log entry 5). -/
structure FrameInfo where
  /-- frame control and addressing can be parsed -/
  parseOk : Bool := true
  /-- frame type: 0 beacon, 1 data, 2 acknowledgement, 3 MAC command, 4-7 others (R607) -/
  ftype : Nat := 1
  /-- destination PAN ID -/
  pan : BitVec 16 := 0
  /-- destination address -/
  dst : Addr := .none
  /-- source address -/
  src : Addr := .none
  /-- sequence number, none when suppressed -/
  seqNo : Option (BitVec 8) := none
  /-- the frame requests an acknowledgement -/
  ackReq : Bool := false
  /-- Security Enabled -/
  sec : Bool := false
  /-- security level -/
  level : Nat := 0
  /-- Key Identifier mode -/
  keyMode : Nat := 0
  /-- Key Index -/
  keyIndex : BitVec 8 := 0
  /-- Key Source of mode 2, first octet least significant (R425) -/
  keySource : BitVec 32 := 0
  /-- frame counter suppressed, or the ASN-based nonce (R434) -/
  ctrSuppressed : Bool := false
  /-- frame counter -/
  counter : BitVec 32 := 0
  /-- association request -/
  assocReq : Bool := false
  /-- association response, with the short address it gives -/
  assocResp : Option (BitVec 16) := none
  /-- enhanced beacon -/
  beacon : Bool := false
  /-- ASN of its TSCH Synchronization IE -/
  syncAsn : Option Nat := none
  /-- place of that IE's content in the octets: the ASN, then the join metric (R207) -/
  syncAt : Option Nat := none
  /-- ACK/NACK Time Correction IE, in microseconds -/
  timeCorr : Option Int := none
  /-- NACK bit of that IE -/
  nack : Bool := false
  /-- fewest octets its header and MIC need -/
  minLen : Nat := 0
deriving DecidableEq, Repr

/-- A complex amplitude of a subcarrier, in the receiver's own units. -/
structure Cpx where
  /-- in phase -/
  re : Int := 0
  /-- in quadrature -/
  im : Int := 0
deriving DecidableEq, Repr, Inhabited

/-- A symbol of a frame's payload as S4's transform gives it (R268, R270). -/
inductive RxSym where
  /-- payload symbol: its data subcarriers and its pilots, each in ascending frequency -/
  | data (y pilots : List Cpx)
  /-- midamble: the estimate H'_k it gives for each data subcarrier -/
  | midamble (h : List Cpx)
deriving DecidableEq, Repr

/-- What an FSK lane has received (R269). -/
structure FskRx where
  /-- the octets of the PSDU as the discriminator gives them, before the whitening is taken off -/
  octets : List Byte := []
  /-- SNR, 0.25 dB -/
  snr : Int := 0
deriving DecidableEq, Repr

/-- What an OFDM lane takes from the LTF (R270, R277). -/
structure LtfRx where
  /-- H_k of each data subcarrier -/
  h : List Cpx := []
  /-- noise variance, in the units of a squared amplitude -/
  noise : Nat := 1
deriving DecidableEq, Repr

/-- What a lane has received when its frame has ended (R269-R271, R277). -/
structure RxPay extends FskRx, LtfRx where
  /-- OFDM: payload symbols and midambles in order -/
  syms : List RxSym := []
deriving DecidableEq, Repr

/-- What a watcher has seen when it fires (R269, R294). -/
structure Seen where
  /-- mean power of the tap over the 16 us before it fired, 0.25 dBFS -/
  power : Int := 0
  /-- OFDM: least normalised autocorrelation over those 16 us, in 1/256 (R294) -/
  corr : Nat := 256
  /-- FSK: octets of preamble seen (R255, R294) -/
  octets : Nat := 4
  /-- instant, ns of the timebase -/
  at_ : Nat := 0
deriving DecidableEq, Repr

/-- One firing of a watcher. -/
structure Det extends Seen where
  /-- slice -/
  sl : Fin 12 := 0
  /-- tap -/
  tap : Fin 16 := 0
deriving DecidableEq, Repr

/-- An edge of PPS_IN with its pulse (R163). -/
structure PpsPulse where
  /-- width, ns -/
  width : Nat := 0
  /-- the edge rises -/
  rising : Bool := false
deriving DecidableEq, Repr

/-- A slice's power P as its gain control measures it (R333). -/
structure AgcPower where
  /-- slice -/
  sl : Fin 12 := 0
  /-- P, dBFS -/
  power : Int := 0
deriving DecidableEq, Repr

/-- What calls for less gain: P, or a sample that clips (R333). -/
structure AgcHigh extends AgcPower where
  /-- a sample clips -/
  clip : Bool := false
deriving DecidableEq, Repr

/-- The quality measures of a reception (R277). -/
structure Quality where
  /-- RSSI at the aerial port, 0.25 dBm (R335) -/
  rssi : Int := 0
  /-- SNR, 0.25 dB -/
  snr : Int := 0
  /-- carrier frequency offset, Hz -/
  cfo : Int := 0
  /-- SNR_k of each data subcarrier, 0.25 dB (OFDM) -/
  snrK : List Int := []
deriving DecidableEq, Repr

/-- The extended header of a bit-loaded frame as received (Table OM-4). -/
structure Xhr where
  /-- its CRC-8 and its reserved fields are right -/
  ok : Bool := true
  /-- PROFILE -/
  profile : Fin 256 := 0
  /-- DIST -/
  dist : Bool := false
  /-- MID -/
  mid : Fin 8 := 0
  /-- PGEN -/
  pgen : Fin 4 := 0
deriving DecidableEq, Repr

/-- A PHR as S5 decodes it (R273). -/
structure Phr where
  /-- HCS right (OFDM), or the mode switch and reserved bits right (FSK) -/
  hcsOk : Bool := true
  /-- Rate field: MCS 0-6, or 24; ignored for FSK -/
  rate : Nat := 0
  /-- other reserved bits zero -/
  resOk : Bool := true
  /-- frame length in octets -/
  len : Nat := 0
  /-- FSK: the FCS type gives 4 octets -/
  fcs4 : Bool := true
  /-- FSK: the data whitening field -/
  whiten : Bool := false
  /-- OFDM: the Scrambler field -/
  seed : Fin 4 := 0
  /-- the XHR, for Rate 24 -/
  xhr : Xhr := {}
  /-- the frame requests an acknowledgement, as far as the lane's output shows when its PHR passes -/
  ackReq : Bool := false
  /-- S3's synchronisation point, ns of the timebase: the start of the LTF, or the end of the SFD (R269) -/
  sync : Nat := 0
  /-- mean power of the tap over the 16 us before that point, 0.25 dBFS (R277) -/
  rssi : Int := 0
  /-- carrier frequency offset at the end of the LTF or the SFD, Hz (R277) -/
  cfo : Int := 0
deriving DecidableEq, Repr

/-- An XIQ sample block as received (R304, R309). -/
structure XiqBlk where
  /-- comma in place, no code error, zero fields zero -/
  ok : Bool := true
  /-- OVL, or a sample of -32,768 -/
  ovl : Bool := false
  /-- GAIN -/
  gain : Fin 16 := 0
  /-- GSTEP -/
  gstep : Bool := false
deriving DecidableEq, Repr

/-- The engine kinds of S1-S12 (Table AR-3, Table CH-8): stage 3 has watchers and acquisition engines. -/
inductive Eng where
  | s1 | s2 | s3watch | s3acq | s4 | s5 | s6 | s7 | s8 | s9 | s10 | s11 | s12
deriving DecidableEq, Repr

/-- A transmit descriptor as the host wrote it (Table HI-13), with the data it names. -/
structure TxDesc where
  /-- octet 0: SECURED -/
  secured : Bool := false
  /-- octet 0: ROUTE -/
  route : Bool := false
  /-- every reserved and zero field is zero, and the data address is aligned and in place -/
  fieldsOk : Bool := true
  /-- EOI also set -/
  eoi : Bool := false
  /-- PHYMODE -/
  phymode : BitVec 8 := 0
  /-- queue -/
  queue : Fin 1024 := 0
  /-- declared length D -/
  decl : Nat := 0
  /-- destination INDEX -/
  index : BitVec 17 := 0x1FFFF
  /-- ROUTE: destination EUI-64 -/
  eui : BitVec 64 := 0
  /-- ROUTE: district -/
  dist : Bool := false
  /-- the data octets -/
  data : List Byte := []
  /-- the parse of the whole item, read only at its end (log entry 5) -/
  info : FrameInfo := {}
deriving DecidableEq, Repr

/-- A TRAIN block (Table CT-2). -/
structure TrainBlk where
  pos : Fin 8 := 0
  master : Bool := false
  twinen : Bool := false
  role : Fin 4 := 0
  verHi : Fin 16 := 2
  verLo : Fin 16 := 1
  grant : Fin 256 := 32
  epoch : Fin 256 := 0
  ack : Bool := false
deriving DecidableEq, Repr

/-- A STATUS block (Table CT-2). -/
structure StatusBlk where
  pos : Fin 8 := 0
  hop : Fin 16 := 15
  role : Fin 4 := 0
  master : Bool := false
  gridRun : Bool := false
  tbQual : Bool := false
  subtree : BitVec 8 := 0
  present : BitVec 8 := 0
  version : Fin 16 := 0
deriving DecidableEq, Repr

/-- An item received whole on a data virtual channel (R526). -/
structure CasItemF where
  num : BitVec 16 := 0
  dest : Fin 8 := 0
  src : Fin 8 := 0
  destQ : Fin 1024 := 0
  decl : Nat := 0
  index : BitVec 17 := 0x1FFFF
  phymode : BitVec 8 := 0
  secured : Bool := false
  data : List Byte := []
  info : FrameInfo := {}
deriving DecidableEq, Repr

/-- A message of the control virtual channel (R532). -/
structure CasMsg where
  kind : BitVec 8 := 0
  dest : Fin 16 := 0
  src : Fin 8 := 0
  num : BitVec 16 := 0
  w1 : Word := 0
  w2 : Word := 0
  /-- the further words of a relay or its result (log entry 23) -/
  more : List Word := []
deriving DecidableEq, Repr

/-- A TIME frame (R528). -/
structure TimeFr where
  asn : Nat := 0
  boundary : Nat := 0
  slotLen : Nat := 10000
  gridRun : Bool := false
  qual : Bool := true
  holdover : Bool := false
  tDep : Nat := 0
  tArr : Nat := 0
deriving DecidableEq, Repr

/-- A heartbeat (R538). -/
structure Hb where
  role : Fin 4 := 0
  mirror : Fin 8 := 0
  activeAsn : BitVec 32 := 0
  lastCycle : BitVec 32 := 0
  lastOk : Bool := true
  fault : Bool := false
  claim : Option (BitVec 32) := none
deriving DecidableEq, Repr

/-- An end marker (R540, R546). -/
structure EndMark where
  asn : Nat := 0
  records : Nat := 0
  digest : BitVec 64 := 0
  ledgerOk : Bool := true
  lost : Bool := false
  yielding : Bool := false
deriving DecidableEq, Repr

/-- The facts of an image header in transit form (Table BU-4), with the octets the tag and the key need. -/
structure ImgHdr where
  formatOk : Bool := true
  part : BitVec 16 := 0x8832
  minRev : BitVec 8 := 0xB0
  vkey : Fin 4 := 0
  arb : Fin 64 := 0
  revoke : BitVec 4 := 0
  version : BitVec 32 := 0
  schemaMin : BitVec 16 := 1
  schemaMax : BitVec 16 := 1
  bodyLen : Nat := 16
  octets : List Byte := []
deriving DecidableEq, Repr

/-- The straps latched at main power-up (R513, R559, R593). -/
structure Straps where
  caspos : Fin 8 := 0
  master : Bool := false
  twinen : Bool := false
  bootsel : Fin 4 := 0
  test : Bool := false
  /-- the part on the reference pins is a TCXO (05 R186; the board's, log entry 121) -/
  tcxo : Bool := false
deriving DecidableEq, Repr

/-- A mirrored input presented to a standby (Table CT-7). The random draws, host inputs and the rest arrive as the commands
they were; a table change of the active arrives as the place and the words written. -/
inductive MirIn where
  | radio | host | cascade | lane
  | draw (v : Nat)
  | fault
  | krevoke (slot : Fin 8192)
  | kzero (slot : Fin 8192)
  | kzeroAll
  | cntset (idx : BitVec 17) (inbound : Bool) (v : Word)
  | entryWrite (place : Nat) (key : BitVec 64) (dist : Bool) (result : Word) (static : Bool)
  | entryClear (place : Nat)
deriving DecidableEq, Repr

/-- What is wrong with a memory word: a single bit, which the ECC corrects; more bits, which it finds; or a CHECK that fails though
the ECC does not (R24, R236, R403). -/
inductive ErrKind where
  | single | double | check
deriving DecidableEq, Repr

/-- An error that has arisen in a memory: the region's position in Table AR-7, and the place in it: a roster index, a place of the
tables as Table CT-8 counts them, a cell, a word of schedule, program or ring memory, a job record of the journal by its index, a
profile slot or 512 + a lane, a cache entry, a job record; 0 in a region without places (R24). -/
structure MemErr where
  region : Fin 13 := 0
  place : Nat := 0
  kind : ErrKind := .single
deriving DecidableEq, Repr

/-- The commands: one constructor per row of spec/opcode_table.json, in the table's order. -/
inductive Instr where
  /-- NOP (R80): Control instruction that does nothing for one clock period. -/
  | nop (who : Who) (c : Cond)
  /-- MOVI (R80): Loads a 32-bit immediate into a working register. -/
  | movi (who : Who) (c : Cond) (wd : Fin 16) (imm : Word)
  /-- MOV (R81): Moves a value between working and time registers, in the mode chosen by field S2. -/
  | mov (who : Who) (c : Cond) (m : MovOp)
  /-- ADD (R80): Adds modulo 2^32 into a working register. -/
  | add (who : Who) (c : Cond) (wd ws1 : Fin 16) (op2 : Op2)
  /-- SUB (R80): Subtracts modulo 2^32 into a working register. -/
  | sub (who : Who) (c : Cond) (wd ws1 : Fin 16) (op2 : Op2)
  /-- AND (R80): Bitwise AND into a working register. -/
  | and_ (who : Who) (c : Cond) (wd ws1 : Fin 16) (op2 : Op2)
  /-- OR (R80): Bitwise OR into a working register. -/
  | or_ (who : Who) (c : Cond) (wd ws1 : Fin 16) (op2 : Op2)
  /-- XOR (R80): Bitwise XOR into a working register. -/
  | xor_ (who : Who) (c : Cond) (wd ws1 : Fin 16) (op2 : Op2)
  /-- SHL (R80): Logical left shift; the result is 0 when the shift is 32 or more. -/
  | shl (who : Who) (c : Cond) (wd ws1 : Fin 16) (op2 : Op2)
  /-- SHR (R80): Logical right shift; the result is 0 when the shift is 32 or more. -/
  | shr (who : Who) (c : Cond) (wd ws1 : Fin 16) (op2 : Op2)
  /-- CMP (R82): Sets a predicate from a signed or unsigned comparison. -/
  | cmp (who : Who) (c : Cond) (pd : Fin 4) (rel : Rel) (ws1 : Fin 16) (op2 : Op2)
  /-- TEST (R80): Sets a predicate to whether the AND of two operands is non-zero. -/
  | test (who : Who) (c : Cond) (pd : Fin 4) (ws1 : Fin 16) (op2 : Op2)
  /-- JMP (R80): Jumps to an address; refused in ring context. -/
  | jmp (who : Who) (c : Cond) (addr : BitVec 16)
  /-- BR (R80): Jumps to base plus a register value, modulo 65,536. -/
  | br (who : Who) (c : Cond) (ws1 : Fin 16) (base : BitVec 16)
  /-- CALL (R51): Pushes a return address and calls a routine; the only control transfer allowed in ring context. -/
  | call (who : Who) (c : Cond) (addr : BitVec 16)
  /-- RET (R80): Returns to the popped address, or ends the called routine of a record. -/
  | ret (who : Who) (c : Cond)
  /-- LOOP (R80): Decrements a counter register and branches while it is non-zero. -/
  | loop (who : Who) (c : Cond) (wd : Fin 16) (addr : BitVec 16)
  /-- HALT (R68): Halts a slice sequencer with reason 1, or ends the current record on the conductor. -/
  | halt (who : Who) (c : Cond)
  /-- TRAP (R68): Halts with reason 2 and records the trap code. -/
  | trap (who : Who) (c : Cond) (code : BitVec 8)
  /-- FENCE (R59): Waits until the sequencer's pending work and earlier STWs are complete and visible. -/
  | fence (who : Who) (c : Cond)
  /-- LDW (R47): Reads one schedule-memory word. -/
  | ldw (who : Who) (c : Cond) (wd ws1 : Fin 16) (off : BitVec 18)
  /-- STW (R47): Writes one schedule-memory word. -/
  | stw (who : Who) (c : Cond) (ws1 ws2 : Fin 16) (off : BitVec 18)
  /-- ILLEGAL_INSTRUCTION (R152): Decode of an unassigned opcode, reserved condition or non-zero reserved field; halts with reason 3 or ends the record. -/
  | illegalInstruction (who : Who) (word : BitVec 64)
  /-- AT (R84): Waits until the timebase is at or after a target instant. -/
  | at_ (who : Who) (c : Cond) (ts : Fin 4) (off : BitVec 40)
  /-- AT_TARGET_REACHED (R56): The timebase reaches a waiting AT's target and the AT completes. -/
  | atTargetReached (q : Seqr)
  /-- AFTER (R85): Waits for an interval of timebase increments. -/
  | after (who : Who) (c : Cond) (interval : BitVec 40) (ws : Fin 16)
  /-- AFTER_INTERVAL_END (R85): The interval of a waiting AFTER ends and it completes. -/
  | afterIntervalEnd (q : Seqr)
  /-- TNOW (R86): Reads the timebase and its qualification flags. -/
  | tnow (who : Who) (c : Cond) (td : Fin 4)
  /-- TADD (R87): Adds a signed delta to a time value. -/
  | tadd (who : Who) (c : Cond) (td ts : Fin 4) (delta : BitVec 40) (ws : Fin 16)
  /-- SLOT (R88): Waits for the next slot boundary and then reports its offset, time and ASN. -/
  | slot (who : Who) (c : Cond) (wd : Fin 16) (td : Fin 4) (sf : Fin 8)
  /-- ASN_CUR (R89): Reads the ASN of the slot in progress into a register pair. -/
  | asnCur (who : Who) (c : Cond) (pair : Fin 16)
  /-- ASN_TIME (R89): Converts an ASN into its boundary time. -/
  | asnTime (who : Who) (c : Cond) (td : Fin 4) (pair : Fin 16)
  /-- TSTEP_ABS (R90): Steps the timebase to an absolute value, using the one step allowance. -/
  | tstepAbs (who : Who) (c : Cond) (ts : Fin 4)
  /-- TSTEP_REL (R90): Steps the timebase by a delta, using the one step allowance. -/
  | tstepRel (who : Who) (c : Cond) (delta : BitVec 40)
  /-- TSTEP_EPOCH (R160): Re-epochs the timebase with every slice stopped; uses no allowance and re-anchors the grid. -/
  | tstepEpoch (who : Who) (c : Cond) (ts : Fin 4)
  /-- TRATE_SET (R91): Sets the timebase rate offset. -/
  | trateSet (who : Who) (c : Cond) (ws : Fin 16)
  /-- TRATE_ADD (R91): Adds to the timebase rate offset. -/
  | trateAdd (who : Who) (c : Cond) (ws : Fin 16)
  /-- TSEAL (R92): Forbids absolute and relative steps until the next power-up. -/
  | tseal (who : Who) (c : Cond)
  /-- TCAP (R93): Reads the latest captured timestamp of a source and its count. -/
  | tcap (who : Who) (c : Cond) (td : Fin 4) (source : Fin 16) (sl : Fin 16)
  /-- TUNE (R125): Selects a channel tap or starts a synthesiser change to another segment. -/
  | tune (who : Who) (c : Cond) (ws sl : Fin 16)
  /-- CAL (R126): Runs the selected calibrations of a slice and relocks it. -/
  | cal (who : Who) (c : Cond) (mask : BitVec 4) (sl : Fin 16)
  /-- RXWIN (R127): Arms a dedicated or shared receive window and waits for its outcome. -/
  | rxwin (who : Who) (c : Cond) (ws : Fin 16) (ts : Fin 4) (res : Bool) (half : BitVec 24)
  /-- TXF (R129): Launches the head frame of a queue at a programmed instant and waits for its outcome. -/
  | txf (who : Who) (c : Cond) (ts : Fin 4) (q : QRef) (latest : BitVec 16)
  /-- TXF_HELD (R129): Launches a held item at a programmed instant and waits for its outcome. -/
  | txfHeld (who : Who) (c : Cond) (ts : Fin 4) (ws : Fin 16) (latest : BitVec 16)
  /-- RSTATE (R131): Reads a slice's radio state, lock, calibration and channel. -/
  | rstate (who : Who) (c : Cond) (wd sl : Fin 16)
  /-- AERIAL (R132): Sets port selection and tuner state at a quiet instant, optionally measuring return loss. -/
  | aerial (who : Who) (c : Cond) (port : Fin 4) (tuner : BitVec 6) (measure : Bool) (sl : Fin 16)
  /-- RQUAL_LAST (R133): Reads the quality measures of the slice's last frame whose PHR passed. -/
  | rqualLast (who : Who) (c : Cond) (wd sl : Fin 16)
  /-- RQUAL_FLOOR (R133): Reads the idle noise floor of one tap. -/
  | rqualFloor (who : Who) (c : Cond) (wd : Fin 16) (tap : Fin 16) (sl : Fin 16)
  /-- FEOUT_TUNING_WORD (R351): Sends a tuning word over FECTL and makes the external slice Settling. -/
  | feoutTuningWord (who : Who) (c : Cond) (ws sl : Fin 16)
  /-- FEOUT_STATIC_CONTROLS (R349): Sends LNA bypass, AUX and PA-inhibit controls to an external front-end. -/
  | feoutStaticControls (who : Who) (c : Cond) (ws sl : Fin 16)
  /-- FEOUT_REGISTER_WRITE (R134): Sends a front-end register write over FECTL and waits for its acknowledgement. -/
  | feoutRegisterWrite (who : Who) (c : Cond) (ws sl : Fin 16)
  /-- KLOAD (R424): Unwraps a wrapped key record from a queue into an empty vault slot. -/
  | kload (who : Who) (c : Cond) (slot : Fin 8192) (q : QRef)
  /-- KDERIVE (R137): Derives a node's link key into the derived-key cache. -/
  | kderive (who : Who) (c : Cond) (wd ws : Fin 16) (slot : Fin 8192)
  /-- KREVOKE (R431): Zeroises a slot's key, advances its generation and marks its children revoked-pending. -/
  | krevoke (who : Who) (c : Cond) (slot : Fin 8192)
  /-- KQUERY (R139): Reads a slot's attribute word, generation and child count. -/
  | kquery (who : Who) (c : Cond) (wd : Fin 16) (slot : Fin 8192)
  /-- CNTSET_OUT (R140): Raises a node's outbound frame counter. -/
  | cntsetOut (who : Who) (c : Cond) (ws wc : Fin 16)
  /-- CNTSET_IN (R140): Raises a node's last accepted inbound counter and invalidates its MIC digest. -/
  | cntsetIn (who : Who) (c : Cond) (ws wc : Fin 16)
  /-- CNTEXP (R439): Starts an export of high-water marks for a range of roster entries. -/
  | cntexp (who : Who) (c : Cond) (ws : Fin 16) (q : QRef) (count : BitVec 13)
  /-- KZERO (R433): Zeroises one slot's key and attributes. -/
  | kzero (who : Who) (c : Cond) (slot : Fin 8192)
  /-- KZERO_ALL (R142): Zeroises every non-device vault slot. -/
  | kzeroAll (who : Who) (c : Cond)
  /-- CLKSEL (R147): Switches the core and sequencer clocks between the RC and the PLL. -/
  | clksel (who : Who) (c : Cond) (src : Fin 4)
  /-- PMODE (R449): Moves between run modes or arms a sleep mode. -/
  | pmode (who : Who) (c : Cond) (m : Fin 8)
  /-- REST (R145): Enters the armed sleep mode by stopping blocks in order. -/
  | rest (who : Who) (c : Cond)
  /-- WAKEON (R146): Sets the sources that end a sleep. -/
  | wakeon (who : Who) (c : Cond) (ws : Fin 16) (mask : BitVec 16)
  /-- SETP (R62): Writes a parameter with the effect of its class; the general write for parameters without a row of their own. -/
  | setp (who : Who) (c : Cond) (id : BitVec 12) (scope ws : Fin 16) (imm : Word)
  /-- GETP (R114): Reads a parameter's value as its class states. -/
  | getp (who : Who) (c : Cond) (wd : Fin 16) (id : BitVec 12) (scope : Fin 16)
  /-- NOTE (R115): Reports a program notice to the coalescing table. -/
  | note (who : Who) (c : Cond) (kind : BitVec 16) (ws : Fin 16)
  /-- SETUP (R116): Hands the settings block at a queue head to the settings parser. -/
  | setup (who : Who) (c : Cond) (q : QRef)
  /-- QUERY_JOB (R117): Reports a job's stage, attempts and truncation, searching the journal if needed. -/
  | queryJob (who : Who) (c : Cond) (wd ws : Fin 16)
  /-- QUERY_SLICE (R117): Reports a slice's last transmission that reached LAUNCHED. -/
  | querySlice (who : Who) (c : Cond) (wd sl : Fin 16)
  /-- HEALTH (R118): Reads one health counter from a snapshot. -/
  | health (who : Who) (c : Cond) (wd : Fin 16) (sel : BitVec 16)
  /-- CONFIRM_IMAGE (R565): CONFIRM mode 0: starts confirmation of the trial image. -/
  | confirmImage (who : Who) (c : Cond) (wd : Fin 16)
  /-- CONFIRM_REJECT (R566): CONFIRM mode 1: rejects the trial image and resets to the fallback slot. -/
  | confirmReject (who : Who) (c : Cond) (wd : Fin 16)
  /-- CONFIRM_READ (R119): CONFIRM mode 2: reads the trial state and the seconds left. -/
  | confirmRead (who : Who) (c : Cond) (wd : Fin 16)
  /-- QPUSH (R97): Appends a held item to a queue. -/
  | qpush (who : Who) (c : Cond) (ws : Fin 16) (q : QRef)
  /-- QPOP (R98): Removes the poppable head item of a queue and holds it. -/
  | qpop (who : Who) (c : Cond) (wd : Fin 16) (q : QRef)
  /-- QPEEK (R99): Reads the head item of a queue without removing it. -/
  | qpeek (who : Who) (c : Cond) (wd : Fin 16) (q : QRef)
  /-- QDROP_HEAD (R100): Drops the head item of a queue. -/
  | qdropHead (who : Who) (c : Cond) (q : QRef)
  /-- QDROP_HELD (R100): Drops an item held by the sequencer. -/
  | qdropHeld (who : Who) (c : Cond) (ws : Fin 16)
  /-- QDROP_REST (R373): Drops the incomplete item at the tail of a queue. -/
  | qdropRest (who : Who) (c : Cond) (q : QRef)
  /-- QFLUSH (R371): Empties a queue, including its incomplete item. -/
  | qflush (who : Who) (c : Cond) (q : QRef)
  /-- QLEN (R102): Reads a queue's item and cell counts and flags. -/
  | qlen (who : Who) (c : Cond) (wd : Fin 16) (q : QRef)
  /-- QATTR (R364): Sets one attribute of a queue. -/
  | qattr (who : Who) (c : Cond) (q : QRef) (ws : Fin 16) (attr : BitVec 8)
  /-- LEDGER (R104): Runs the ledger check of one kind at once and refreshes the LEDGER window. -/
  | ledger (who : Who) (c : Cond) (wd : Fin 16) (kind : Fin 4) (link : Fin 8) (vc : Fin 4)
  /-- LOOKUP (R402): Searches both candidate buckets and the overflow store for a key. -/
  | lookup (who : Who) (c : Cond) (wd ws : Fin 16) (dist : Bool)
  /-- INSERT (R396): Places or replaces a table entry. -/
  | insert (who : Who) (c : Cond) (ws wr : Fin 16) (dist static : Bool)
  /-- DELETE (R108): Removes a table entry and promotes an overflow entry. -/
  | delete (who : Who) (c : Cond) (ws : Fin 16) (dist static : Bool)
  /-- LEARNACK (R405): Closes or declines the open learning notice for a key. -/
  | learnack (who : Who) (c : Cond) (ws : Fin 16) (dist inserted : Bool)
  /-- PIN (R110): Makes an existing entry static. -/
  | pin (who : Who) (c : Cond) (ws : Fin 16) (dist : Bool)
  /-- UNPIN (R110): Makes an existing entry non-static. -/
  | unpin (who : Who) (c : Cond) (ws : Fin 16) (dist : Bool)
  /-- TLOAD (R111): Starts applying the table or roster load items of a queue. -/
  | tload (who : Who) (c : Cond) (q : QRef) (region : Fin 4)
  /-- TSCRUB (R112): Starts a scrub of the tables or the roster. -/
  | tscrub (who : Who) (c : Cond) (region : Fin 4)
  /-- CSEND (R148): Sends a program message on the control virtual channel, waiting for credit. -/
  | csend (who : Who) (c : Cond) (ws : Fin 16) (dest : Fin 16) (kind : BitVec 8) (latest : BitVec 16)
  /-- CBAR (R149): Reports arrival at a cascade barrier and waits for its announcement. -/
  | cbar (who : Who) (c : Cond) (bar : BitVec 8) (latest : BitVec 16)
  /-- MIRROR_STATUS (R150): MIRROR mode 0: reads the twin mirror state. -/
  | mirrorStatus (who : Who) (c : Cond) (wd : Fin 16)
  /-- MIRROR_SYNC (R539): MIRROR mode 1: requests a full sync of the standby. -/
  | mirrorSync (who : Who) (c : Cond) (wd : Fin 16)
  /-- MIRROR_DIGEST (R150): MIRROR mode 2: reads the last compared digest. -/
  | mirrorDigest (who : Who) (c : Cond) (wd : Fin 16)
  /-- ROLE_READ (R151): ROLE mode 0: reads the chip's twin role. -/
  | roleRead (who : Who) (c : Cond) (wd : Fin 16)
  /-- ROLE_YIELD (R546): ROLE mode 1: the active chip hands its role to the standby at the end of the cycle. -/
  | roleYield (who : Who) (c : Cond) (wd : Fin 16)
  /-- ROLE_WITHDRAW (R151): ROLE mode 2: stops air action and mirroring and withdraws until reset. -/
  | roleWithdraw (who : Who) (c : Cond) (wd : Fin 16)
  /-- SEQ_START (R71): SEQ.CTRL = 1 resets and starts an Idle or Halted slice sequencer. -/
  | seqStart (who : Who) (c : Cond) (sl : Fin 12)
  /-- SEQ_HALT (R70): SEQ.CTRL = 2 halts a slice sequencer at its next instruction boundary. -/
  | seqHalt (who : Who) (c : Cond) (sl : Fin 12)
  /-- SEQ_RESTART (R71): SEQ.CTRL = 3 halts and then starts a slice sequencer. -/
  | seqRestart (who : Who) (c : Cond) (sl : Fin 12)
  /-- SEQ_HANDOVER (R46): SEQ.HANDOVER arms or disarms a program handover at the next SLOT. -/
  | seqHandover (who : Who) (c : Cond) (sl : Fin 12) (arm : Bool)
  /-- GRID_STOP (R196): MAC.GRID_CTRL = 0 stops the slot grid. -/
  | gridStop (who : Who) (c : Cond)
  /-- GRID_START (R196): MAC.GRID_CTRL = 1 starts the grid from its origin. -/
  | gridStart (who : Who) (c : Cond)
  /-- GRID_ACQUIRE (R229): MAC.GRID_CTRL = 2 waits for the time parent's first beacon to start the grid. -/
  | gridAcquire (who : Who) (c : Cond)
  /-- TIME_DISCIPLINE_CHANGE (R162): A write of TIME.DISCIPLINE changes the rate holder and clears servo state and holdover. -/
  | timeDisciplineChange (who : Who) (c : Cond) (v : Word)
  /-- PPS_IN_ENABLE (R164): PPS_IN becomes enabled or disabled by TIME.PPS_IN_CTRL or TIME.DISCIPLINE. -/
  | ppsInEnable (who : Who) (c : Cond) (v : Word)
  /-- RTC_COMMIT_TIME (R178): TIME.RTC_COMMIT = 1 transfers the staged time to the RTC. -/
  | rtcCommitTime (who : Who) (c : Cond)
  /-- RTC_COMMIT_DATE (R178): TIME.RTC_COMMIT = 2 transfers the staged date and weekday to the RTC. -/
  | rtcCommitDate (who : Who) (c : Cond)
  /-- RTC_COMMIT_BOTH (R178): TIME.RTC_COMMIT = 3 transfers time and date and sets the RTC. -/
  | rtcCommitBoth (who : Who) (c : Cond)
  /-- RTC_COMMIT_ACK (R179): The backup domain acknowledges an RTC transfer and RTC_STATUS[3] clears. -/
  | rtcCommitAck
  /-- RTC_ALARM_ARM (R183): TIME.RTC_ALARM_CTRL = 1 arms the RTC alarm. -/
  | rtcAlarmArm (who : Who) (c : Cond)
  /-- RTC_ALARM_DISARM (R183): TIME.RTC_ALARM_CTRL = 0 disarms the RTC alarm. -/
  | rtcAlarmDisarm (who : Who) (c : Cond)
  /-- TRIG_ARM (R174): TRIG.CTRL[0] = 1 latches a trigger's start, period and width and arms it. -/
  | trigArm (who : Who) (c : Cond) (n : Fin 2) (invert : Bool)
  /-- TRIG_DISARM (R174): TRIG.CTRL[0] = 0 disarms a trigger. -/
  | trigDisarm (who : Who) (c : Cond) (n : Fin 2) (invert : Bool)
  /-- PROF_COMMIT_WRITE (R262): OM.PROF_COMMIT write operation checks and installs a staged profile. -/
  | profCommitWrite (who : Who) (c : Cond) (idx : Fin 256) (dist : Bool)
  /-- PROF_COMMIT_INVALIDATE (R262): OM.PROF_COMMIT invalidate operation invalidates both maps of a profile. -/
  | profCommitInvalidate (who : Who) (c : Cond) (idx : Fin 256) (dist : Bool)
  /-- PROF_COMMIT_READ (R262): OM.PROF_COMMIT read operation copies a current map into the staging words. -/
  | profCommitRead (who : Who) (c : Cond) (idx : Fin 256) (dist : Bool)
  /-- SEG_COMMIT_WRITE (R290): CH.SEG_COMMIT write operation checks and installs a staged segment. -/
  | segCommitWrite (who : Who) (c : Cond) (sl : Fin 12) (seg : Fin 4)
  /-- SEG_COMMIT_CLEAR (R290): CH.SEG_COMMIT clear operation empties a segment. -/
  | segCommitClear (who : Who) (c : Cond) (sl : Fin 12) (seg : Fin 4)
  /-- SEG_COMMIT_READ (R290): CH.SEG_COMMIT read operation copies a segment into the staging words. -/
  | segCommitRead (who : Who) (c : Cond) (sl : Fin 12) (seg : Fin 4)
  /-- XIQ_ENABLE (R308): CH.XIQ_CTRL[0] = 1 starts training of an XIQ lane. -/
  | xiqEnable (who : Who) (c : Cond) (sl : Fin 12) (bits : BitVec 3)
  /-- XIQ_DISABLE (R308): CH.XIQ_CTRL[0] = 0 disables an XIQ lane. -/
  | xiqDisable (who : Who) (c : Cond) (sl : Fin 12) (bits : BitVec 3)
  /-- LC_ADVANCE_DEPLOY (R416): SEC.LC_ADVANCE = 2 burns the Deployed fuse. -/
  | lcAdvanceDeploy (who : Who) (c : Cond)
  /-- LC_ADVANCE_RETURN (R416): SEC.LC_ADVANCE = 4 enters Returned, zeroising keys and re-deriving device keys. -/
  | lcAdvanceReturn (who : Who) (c : Cond)
  /-- LOCK_ACK (R417): SEC.LOCK_ACK with the lock identifier clears the lock and resumes Trailhead. -/
  | lockAck (who : Who) (c : Cond) (v : Word)
  /-- TAMP_CTRL_WRITE (R441): A write of SEC.TAMP_CTRL, refused in Deployed if it relaxes protection. -/
  | tampCtrlWrite (who : Who) (c : Cond) (v : Word)
  /-- TAMP_CLEAR (R443): SEC.TAMP_CLEAR = 1 clears the tamper records. -/
  | tampClear (who : Who) (c : Cond)
  /-- GRP_FLOOR_RAISE (R445): A write of SEC.GRP_FLOOR_Dn raises the group counter. -/
  | grpFloorRaise (who : Who) (c : Cond) (dist : Bool) (v : Word)
  /-- BKP_STATUS_CLEAR (R476): A SETP of 1 to PW.BKP_STATUS clears INTEG and WHY. -/
  | bkpStatusClear (who : Who) (c : Cond)
  /-- SILENT_TIMEOUT_CHANGE (R251): A change of HOST.SILENT_TIMEOUT compares the silence timer with the new value at once. -/
  | silentTimeoutChange (who : Who) (c : Cond) (v : Word)
  /-- ACTIVATE (R537): CT.ACTIVATE = 1 makes a standby claim the active role. -/
  | activate (who : Who) (c : Cond)
  /-- RELAY_GO (R534): CT.RELAY_GO sends the staged instruction record to a member. -/
  | relayGo (who : Who) (c : Cond) (pos : Fin 8) (count : Fin 4)
  /-- BOOT_RESTART (R574): BOOT.RESTART = 1 resets the core domain. -/
  | bootRestart (who : Who) (c : Cond)
  /-- INSTRUCTION_RECORD (R50): The conductor executes the instruction words of a command record in order. -/
  | instructionRecord (w : World) (tag : BitVec 32) (words : List (BitVec 64)) (errs : List MemErr)
  /-- PROGRAM_LOAD_RECORD (R43): The conductor writes a record's instruction words into program memory. -/
  | programLoadRecord (w : World) (tag : BitVec 32) (start : BitVec 16) (words : List (BitVec 64))
  /-- SCHEDULE_LOAD_RECORD (R33): The conductor writes a record's words into schedule memory. -/
  | scheduleLoadRecord (w : World) (tag : BitVec 32) (addr : BitVec 18) (words : List Word)
  /-- MALFORMED_RECORD (R496): A command record of unknown kind or bad layout completes with ST_RANGE. -/
  | malformedRecord (w : World) (tag : BitVec 32) (kind : BitVec 8) (check : Fin 5)
  /-- RELAYED_RECORD (R534): A member executes an instruction record relayed by the master. -/
  | relayedRecord (w : World) (words : List (BitVec 64))
  /-- RECORD_TIMEOUT (R52): A record exceeds COND.CMD_LIMIT and is abandoned with ST_TIMEOUT. -/
  | recordTimeout
  /-- SEQ_WATCHDOG (R68): No AT, AFTER or SLOT completes within SEQ.WATCHDOG; the sequencer halts with reason 7. -/
  | seqWatchdog (sl : Fin 12)
  /-- TLOAD_COMPLETE (R111): A pending TLOAD finishes and posts its completion notice. -/
  | tloadComplete
  /-- TSCRUB_COMPLETE (R409): A pending scrub finishes and posts its completion notice. -/
  | tscrubComplete (errs : List MemErr)
  /-- SETUP_COMPLETE (R509): The settings parser finishes checking and applying a settings part. -/
  | setupComplete
  /-- CNTEXP_COMPLETE (R141): A pending counter export completes its item and sets the marks. -/
  | cntexpComplete
  /-- CAL_COMPLETE (R126): The calibrations of a CAL end and the slice relocks or ends unlocked. -/
  | calComplete (sl : Fin 12) (failed : Option (Fin 4))
  /-- CONFIRM_COMPLETE (R565): A pending confirmation writes its boot record and burns fuses. -/
  | confirmComplete
  /-- PMODE_COMPLETE (R450): A pending change between run modes completes after reference qualification. -/
  | pmodeComplete (refOk : Bool)
  /-- HELD_NOTICE_POST (R499): Held completion notices and halt records are posted in order once the ring has room. -/
  | heldNoticePost (w : World)
  /-- SLOT_BOUNDARY (R203): A slot boundary advances the ASN, applies bank switches, sets queue counters and runs end-of-cycle work. -/
  | slotBoundary
  /-- STOPPED_GRID_TICK (R369): Every 10 ms while the grid is stopped the device sets queue counters and applies latched values. -/
  | stoppedGridTick
  /-- TIMEBASE_END (R153): The timebase reaches its maximum value and holds. -/
  | timebaseEnd
  /-- REFERENCE_QUALIFIED (R155): The reference is qualified and the timebase starts counting or is requalified. -/
  | referenceQualified
  /-- REFERENCE_COUNT (R156): The once-per-second reference count verifies or disqualifies the reference. -/
  | referenceCount (count : Nat)
  /-- REFERENCE_EDGE_LOST (R156): No reference edge for 200 ns disqualifies the reference and timebase. -/
  | referenceEdgeLost
  /-- REF_RETRY (R462): In degraded service the reference is started again once per PW.REF_RETRY. -/
  | refRetry (ok : Bool)
  /-- PPS_IN_EDGE (R165): An accepted or rejected PPS_IN edge is captured and drives the servo. -/
  | ppsInEdge (capture : Nat) (pulse : PpsPulse)
  /-- PPS_MISSED (R168): No edge is accepted by the tolerance end; a miss is counted or holdover entered. -/
  | ppsMissed
  /-- PPS_OUT_EDGE (R173): The timebase reaches a whole second and PPS_OUT makes its edge. -/
  | ppsOutEdge
  /-- TRIGGER_EDGE (R174): The timebase reaches a trigger grid point and the trigger makes its edge. -/
  | triggerEdge (n : Fin 2)
  /-- RTC_SECOND (R176): The RTC completes a second and carries into the calendar. -/
  | rtcSecond
  /-- RTC_TRIM_WINDOW (R181): A window of 2^20 crystal pulses ends and a new trim takes effect. -/
  | rtcTrimWindow
  /-- CRYSTAL_STOP (R182): No 32.768 kHz pulse for 2 ms; the RTC becomes not set. -/
  | crystalStop
  /-- RXWIN_OPEN (R128): An armed receive window reaches its open time and opens, possibly reserving a lane. -/
  | rxwinOpen (sl : Fin 12)
  /-- RXWIN_CLOSE (R128): A receive window reaches its close time with no passed PHR and completes. -/
  | rxwinClose (sl : Fin 12)
  /-- TXF_SELECTION (R129): The timebase reaches ts minus lead and TXF selects its frame. -/
  | txfSelection (sl : Fin 12)
  /-- TXF_DEADLINE (R129): The timebase reaches deadline minus lead before the slice is ready; TXF ends with ST_LATE_LOCK. -/
  | txfDeadline (sl : Fin 12)
  /-- BLANKING_START (R302): 20 µs before a launch the slice and its group are blanked and receptions abandoned. -/
  | blankingStart (sl : Fin 12)
  /-- LAUNCH (R129): The launch instant is reached and the frame goes AIRING. -/
  | launch (sl : Fin 12)
  /-- FRAME_AIRED (R224): A transmission ends; the frame is AIRED and retired or awaits its Enh-Ack. -/
  | frameAired (sl : Fin 12)
  /-- TX_RAMP_DOWN_END (R318): The PA ramp-down ends and the slice returns to Listening or Idle. -/
  | txRampDownEnd (sl : Fin 12)
  /-- BLANKING_END (R302): 100 µs after AIRED blanking ends and watchers re-arm. -/
  | blankingEnd (sl : Fin 12)
  /-- ACK_WAIT_EXPIRY (R224): No acceptable Enh-Ack arrives in the acknowledgement window; the job goes to NOACK. -/
  | ackWaitExpiry (sl : Fin 12)
  /-- TX_MISMATCH_MEASURE (R344): A return-loss average during transmission finds a mismatch and applies the action. -/
  | txMismatchMeasure (sl : Fin 12) (loss : BitVec 8)
  /-- CT_CELL_DEADLINE (R375): S11 takes a cut-through cell 20 µs before its symbol; a missing cell underruns the frame. -/
  | ctCellDeadline (sl : Fin 12)
  /-- ENH_ACK_LAUNCH (R339): An Enh-Ack reaches its launch instant, or is abandoned if late. -/
  | enhAckLaunch (sl : Fin 12)
  /-- WATCHER_DETECTION (R300): A watcher fires and the arbiter assigns a lane, pre-empts a victim or refuses. -/
  | watcherDetection (sl : Fin 12) (tap : Fin 16) (seen : Seen) (more : List Det)
  /-- WATCHER_REARM (R294): A watcher's 32 µs hold-off after a refusal ends and it re-arms. -/
  | watcherRearm (sl : Fin 12) (tap : Fin 16)
  /-- PHR_CHECK (R273): S5 completes the PHR and XHR checks of a reception. -/
  | phrCheck (ln : Fin 64) (phr : Phr)
  /-- FCS_CHECK (R273): S5 completes the FCS check of a reception. -/
  | fcsCheck (ln : Fin 64) (fsk : FskRx) (ltf : LtfRx) (syms : List RxSym)
  /-- FRAME_ADMISSION (R379): S6 takes a lane's finished frame, parses, looks up, and passes it to S7. -/
  | frameAdmission (ln : Fin 64) (info : FrameInfo) (errs : List MemErr)
  /-- PARENT_BEACON_MISS (R231): A parent beacon slot ends with no beacon accepted; miss handling and holdover. -/
  | parentBeaconMiss
  /-- NOISE_FLOOR_WINDOW (R278): An OM.NF_WINDOW ends and each tap's noise floor is computed. -/
  | noiseFloorWindow (sl : Fin 12) (tap : Fin 16) (blocks : List Nat)
  /-- SYNTH_LOCK (R320): The synthesiser reports lock for 10 µs and the slice becomes locked. -/
  | synthLock (sl : Fin 12)
  /-- LOCK_LOSS (R323): The lock detector reports loss of lock; receptions and launches are handled. -/
  | lockLoss (sl : Fin 12)
  /-- RELOCK_TIMEOUT (R323): Lock is not regained within 1 ms; notice 0x0103. -/
  | relockTimeout (sl : Fin 12)
  /-- DEFERRED_RETUNE_START (R324): A waiting retune begins its synthesiser change when no transmission or ack holds it. -/
  | deferredRetuneStart (sl : Fin 12)
  /-- SLICE_TEMP_MEASURE (R327): A slice's front-end temperature is measured every 100 ms and may make a calibration pending. -/
  | sliceTempMeasure (sl : Fin 12) (t : Int)
  /-- TEMP_CAL_START (R328): A pending temperature calibration starts at the first gap. -/
  | tempCalStart (sl : Fin 12)
  /-- TEMP_CAL_END (R327): A temperature calibration ends and the slice relocks. -/
  | tempCalEnd (sl : Fin 12)
  /-- TCAL_DEFER_TIMEOUT (R329): A temperature calibration stays pending for RF.TCAL_MAX_DEFER; notice 0x0101. -/
  | tcalDeferTimeout (sl : Fin 12)
  /-- AGC_STEP_DOWN (R333): Wideband power above RF.AGC_HIGH or a clip steps the gain down. -/
  | agcStepDown (m : AgcHigh)
  /-- AGC_STEP_UP (R333): Power below RF.AGC_LOW for 64 µs steps the gain up. -/
  | agcStepUp (m : AgcPower)
  /-- FORCED_GAIN_STEP (R334): Clipping for 1 µs during a reception forces a gain step compensated in S2. -/
  | forcedGainStep (sl : Fin 12)
  /-- DIVERSITY_SWITCH (R342): At a quiet instant the device chooses the listening port. -/
  | diversitySwitch (sl : Fin 12)
  /-- FECTL_TRANSFER (R347): One FECTL control word is sent and its acknowledgement octet read. -/
  | fectlTransfer (port : Fin 2) (ack : BitVec 8)
  /-- EXT_SETTLE_ELAPSED (R351): RF.EXT_SETTLE elapses after an acknowledged tuning word; the external slice counts as locked. -/
  | extSettleElapsed (sl : Fin 12)
  /-- EXT_CAL_TIME_ELAPSED (R352): RF.EXT_CAL_TIME elapses after a calibrate word. -/
  | extCalTimeElapsed (sl : Fin 12)
  /-- XIQ_BLOCK (R309): An XIQ sample block arrives, well formed or malformed, with its gain control. -/
  | xiqBlock (sl : Fin 12) (b : XiqBlk)
  /-- XIQ_SLIP (R307): The elastic buffer over- or underflows and one block is discarded or inserted. -/
  | xiqSlip (sl : Fin 12) (overflow : Bool)
  /-- XIQ_TRAINING_TIMEOUT (R308): An XIQ lane does not train in 10 ms and becomes Lost. -/
  | xiqTrainingTimeout (sl : Fin 12)
  /-- XIQ_LANE_LOSS (R309): No well-formed block for 4 µs, or too many bad blocks, loses the lane. -/
  | xiqLaneLoss (sl : Fin 12)
  /-- ENGINE_FAULT (R7): A residue or parity check finds an engine fault; the spare is substituted or the stage degrades. -/
  | engineFault (e : Eng) (unit : Nat)
  /-- SELF_TEST_STEP (R310): A rotation step hands a unit to the spare and starts a built-in test. -/
  | selfTestStep (e : Eng)
  /-- SELF_TEST_END (R310): A built-in test ends; the engine becomes the spare or is marked faulty. -/
  | selfTestEnd (e : Eng) (pass : Bool)
  /-- SLICE_FAULT (R15): A slice fault takes the slice offline in the order of Table AR-4. -/
  | sliceFault (sl : Fin 12) (cause : Fin 5)
  /-- CHIP_FAULT (R16): A chip fault stops every air action and instruction until reset. -/
  | chipFault (cause : Fin 3) (region : Fin 13)
  /-- START_WAIT_GRANT (R361): A waiting item start is granted when the queue's incomplete item completes or leaves. -/
  | startWaitGrant (q : Fin 1024)
  /-- START_WAIT_TIMEOUT (R361): A waiting start is not granted within QP.START_WAIT; ST_TIMEOUT. -/
  | startWaitTimeout (w : World)
  /-- ITEM_TIMEOUT (R361): An incomplete item receives no data for QP.ITEM_TIMEOUT and is dropped. -/
  | itemTimeout (p : Fin 1024 ⊕ World)
  /-- NOTICE_QUIET_EXPIRY (R250): No report reaches an entry for NOTICE.QUIET; it closes. -/
  | noticeQuietExpiry (kind : BitVec 16) (subject : Word)
  /-- NOTICE_MAX_AGE_EXPIRY (R250): An entry reaches NOTICE.MAX_AGE and closes. -/
  | noticeMaxAgeExpiry (kind : BitVec 16) (subject : Word)
  /-- NOTICE_DESCRIPTOR_POST (R250): A waiting coalesced descriptor is posted once the notice ring has room. -/
  | noticeDescriptorPost (w : World)
  /-- DECLINE_HOLD_EXPIRY (R405): FT.DECLINE_HOLD passes after a declined learning notice; the entry closes. -/
  | declineHoldExpiry (subject : Word)
  /-- AGING_PASS (R406): Once per FT.AGE_PERIOD an aging pass ages entries and removes old ones. -/
  | agingPass
  /-- AGING_RESUME (R406): A waiting aging pass gets room on the learning queue and continues. -/
  | agingResume
  /-- CACHE_SWEEP (R431): Revoked-pending cache entries are zeroised by the sweep or at release; notice 0x0702 at the last. -/
  | cacheSweep
  /-- TAMPER_EVENT (R442): A filtered tamper input zeroises the vault and responds by phase. -/
  | tamperEvent (input : Fin 2)
  /-- HOST_SILENCE (R251): HOST.SILENT_TIMEOUT passes without a PSUM read; ST_HOST_SILENT is shown. -/
  | hostSilence
  /-- STATUS_WINDOW_WRITE (R22): A host write to an offset without behaviour of its own is ignored and counted. -/
  | statusWindowWrite (w : World) (l : HostLink) (off : BitVec 13) (v : Word)
  /-- PSUM_READ (R486): A PSUM read latches the summary, clears RC fields and the silence timer. -/
  | psumRead (w : World)
  /-- PSUM_MIRROR_WRITE (R488): The device writes PSUM to the host's mirror address after a change. -/
  | psumMirrorWrite (w : World)
  /-- TIME_SNAPSHOT_READ (R192): A read at 0x0900 latches the time snapshot and clears latched XOVR flags. -/
  | timeSnapshotRead (w : World)
  /-- LEDGER_WINDOW_READ (R387): A read at 0x0400 latches the LEDGER window and clears LSTAT.STICKY. -/
  | ledgerWindowRead (w : World)
  /-- HEALTH_WINDOW_READ (R579): A read at 0x0600 latches the HEALTH window. -/
  | healthWindowRead (w : World)
  /-- NFLOOR_READ (R279): A read at 0x0800 latches all 48 noise-floor words. -/
  | nfloorRead (w : World)
  /-- HELLO (R505): The HELLO doorbell negotiates the host interface version and stops the world's rings. -/
  | hello (w : World) (l : HostLink) (v : Word)
  /-- COMMAND_PRODUCER (R493): The command producer doorbell offers new command records. -/
  | commandProducer (w : World) (l : HostLink) (p : Word)
  /-- TRANSMIT_PRODUCER (R493): A transmit ring producer doorbell offers new transmit descriptors. -/
  | transmitProducer (w : World) (l : HostLink) (n : Fin 8) (p : Word)
  /-- RING_START (R491): A write of a non-zero SIZE starts a ring, or is refused. -/
  | ringStart (w : World) (l : HostLink) (b : Fin 20) (size : BitVec 16)
  /-- RING_STOP (R491): A write of SIZE = 0 stops a ring and abandons its work. -/
  | ringStop (w : World) (l : HostLink) (b : Fin 20)
  /-- CONSUMER_INDEX (R493): A CONS write frees entries of a device-produced ring. -/
  | consumerIndex (w : World) (l : HostLink) (b : Fin 20) (v : BitVec 16)
  /-- QSPI_READ (R480): QSPI command 0xEB reads the status window or ring memory. -/
  | qspiRead (w : World) (addr : BitVec 24) (len : Nat)
  /-- QSPI_WRITE (R480): QSPI command 0x32 writes ring pointers, doorbells or ring memory. -/
  | qspiWrite (w : World) (addr : BitVec 24) (data : List Word)
  /-- QSPI_BAD_TRANSFER (R510): A malformed QSPI transfer is discarded and counted. -/
  | qspiBadTransfer (w : World)
  /-- ASLEEP_QSPI_READ (R464): A QSPI read while the core is stopped returns AON_STATUS and is host link activity. -/
  | asleepQspiRead (w : World)
  /-- TX_START_OF_ITEM (R503): An SOI transmit descriptor starts an item on a queue or as routed. -/
  | txStartOfItem (w : World) (ring : Fin 8) (d : TxDesc)
  /-- TX_DATA (R503): A transmit descriptor carries data into the open item. -/
  | txData (w : World) (ring : Fin 8) (d : TxDesc)
  /-- TX_END_OF_ITEM (R503): An EOI descriptor ends the item, which goes to S6 or S9. -/
  | txEndOfItem (w : World) (ring : Fin 8) (d : TxDesc) (errs : List MemErr)
  /-- RECEIVE_DELIVERY (R500): An item of a bound queue is delivered into a receive ring with room. -/
  | receiveDelivery (w : World) (ring : Fin 8)
  /-- DMA_ERROR (R511): A DMA completion with error or poisoned data stops the ring and drops work. -/
  | dmaError (w : World) (b : Fin 20) (ld : Option (Fin 2 × BitVec 32))
  /-- DMA_TIMEOUT (R511): No DMA completion within 50 ms is handled as a bad end. -/
  | dmaTimeout (w : World) (b : Fin 20) (ld : Option (Fin 2 × BitVec 32))
  /-- PERST_N (R602): PCIe reset assertion or release retrains the PCIe link. -/
  | perstN (asserted : Bool)
  /-- WAKE_SOURCE (R452): An enabled wake source aborts a sleep being entered or starts a wake. -/
  | wakeSource (src : Fin 8)
  /-- DOZE_WAKE_TIMER (R457): The always-on wake timer expires for a marked slot or the horizon. -/
  | dozeWakeTimer
  /-- REGULATOR_READY (R460): The core regulator reports ready at a wake and the RC and reference start. -/
  | regulatorReady
  /-- REGULATOR_TIMEOUT (R461): The regulator-ready timeout of a wake expires; retry or wake failure. -/
  | regulatorTimeout
  /-- REFERENCE_TIMEOUT (R461): The reference-ready timeout of a wake expires; retry or degraded service. -/
  | referenceTimeout
  /-- RETURN_TO_SLEEP (R458): After a slot wake the chip returns to sleep once its conditions hold. -/
  | returnToSleep
  /-- DIE_TEMP_MEASURE (R465): The die temperature is measured every 100 ms asleep and may hold the regulator in normal mode. -/
  | dieTempMeasure (t : Int)
  /-- LP_OVERLOAD (R466): A load above 5 mA in low-power mode trips the regulator and browns out the core. -/
  | lpOverload
  /-- CORE_BROWN_OUT (R466): The core voltage falls below threshold; chip fault and core-domain reset. -/
  | coreBrownOut
  /-- MAIN_BROWN_OUT (R469): VIN falls below 2.80 V and resets the core and always-on domains. -/
  | mainBrownOut
  /-- NV_INHIBIT_ENTER (R468): VIN falls below 3.05 V and non-volatile writes are inhibited. -/
  | nvInhibitEnter (mv : Nat)
  /-- NV_INHIBIT_RELEASE (R468): VIN is held above 3.10 V for 1 ms and the inhibit is released. -/
  | nvInhibitRelease (mv : Nat)
  /-- VIN_MEASURE (R467): VIN is measured every 1 ms into PW.VIN. -/
  | vinMeasure (mv : Nat)
  /-- BACKUP_SWITCH_TO_VBAT (R471): VIN falls below 2.60 V and the backup node switches to VBAT. -/
  | backupSwitchToVbat
  /-- BACKUP_SWITCH_TO_VIN (R475): VIN rises above 2.65 V; the node switches to VIN and the integrity check runs. -/
  | backupSwitchToVin (crcOk canaryOk : Bool)
  /-- PWRON_DELAY (R472): PW.PWRON_DELAY after the core clock stops in Backup, PWRON is deasserted. -/
  | pwronDelay
  /-- VBAT_MEASURE (R476): VBAT is measured every 60 s and VBATLOW updated. -/
  | vbatMeasure (mv : Nat)
  /-- BACKUP_DOMAIN_POWER_UP (R473): The backup domain powers up with reset values and PWRON asserted. -/
  | backupDomainPowerUp
  /-- MAIN_POWER_UP (R447): Main power comes up; RTC status is latched and the chip starts in Service. -/
  | mainPowerUp (st : Straps) (crcOk canaryOk : Bool)
  /-- CORE_RESET_RELEASE (R560): The core domain leaves reset and Trailhead takes its start-up steps. -/
  | coreResetRelease (flash : Bool) (stagedOk activeOk fallbackOk : Bool)
  /-- RECOVERY_LISTEN_TIMEOUT (R559): With BOOTSEL recovery-first, 10 s pass without a service HELLO and the image is read. -/
  | recoveryListenTimeout
  /-- RECORD_INHIBIT_WAIT (R564): A record write waits 5 s for the inhibit; Trailhead then starts without writing. -/
  | recordInhibitWait
  /-- TRIAL_WINDOW_EXPIRY (R566): The trial window expires without confirmation; a fallback request and reset follow. -/
  | trialWindowExpiry
  /-- SVC_HELLO (R570): Service-port HELLO opens a session at a chosen version and rate. -/
  | svcHello (sq : BitVec 8) (lo hi : BitVec 8) (baud : BitVec 8)
  /-- SVC_INFO (R570): Service-port INFO returns identity, boot state and the update key. -/
  | svcInfo (sq : BitVec 8)
  /-- SVC_BEGIN (R571): Service-port BEGIN checks a transit header and opens staging. -/
  | svcBegin (sq : BitVec 8) (h : ImgHdr)
  /-- SVC_DATA (R571): Service-port DATA decrypts, re-encrypts and programs body octets. -/
  | svcData (sq : BitVec 8) (off : Nat) (body : List Byte)
  /-- SVC_END (R572): Service-port END verifies the staged image and may restart. -/
  | svcEnd (sq : BitVec 8) (restart : Bool)
  /-- SVC_ABORT (R571): Service-port ABORT closes the session and empties staging. -/
  | svcAbort (sq : BitVec 8)
  /-- SVC_STATUS (R570): Service-port STATUS reports the session state. -/
  | svcStatus (sq : BitVec 8)
  /-- SVC_OCTET_GAP_TIMEOUT (R569): A gap of over 5 ms between octets discards the frame. -/
  | svcOctetGapTimeout
  /-- SVC_SESSION_IDLE (R571): A session with no valid frame for 30 s closes as ABORT. -/
  | svcSessionIdle
  /-- SVC_RATE_SWITCH (R570): 1 ms after a version 2 HELLO response both sides switch rate. -/
  | svcRateSwitch
  /-- SVC_RATE_SWITCH_TIMEOUT (R570): No valid frame within 2 s of a rate switch returns to 115,200 baud. -/
  | svcRateSwitchTimeout
  /-- TRAIN (R517): A TRAIN block is received and training progresses or fails. -/
  | train (l : Fin 6) (b : TrainBlk)
  /-- CAS_TRAINING_TIMEOUT (R517): Training does not complete in 10 ms and the link fails. -/
  | casTrainingTimeout (l : Fin 6)
  /-- CAS_TRAINING_RETRY (R517): A Failed link retries training every 100 ms. -/
  | casTrainingRetry (l : Fin 6)
  /-- CAS_LINK_DOWN (R516): No block for 10 µs or bad sync headers take a link down; retained items return. -/
  | casLinkDown (l : Fin 6)
  /-- STATUS (R515): A STATUS block is received and routes, hop counts and masks are recomputed. -/
  | status (l : Fin 6) (b : StatusBlk)
  /-- STATUS_SEND (R516): Every 100 µs each end sends STATUS. -/
  | statusSend (l : Fin 6)
  /-- CREDIT (R520): A CREDIT block returns credits and reports DELIVERED. -/
  | credit (l : Fin 6) (vc : Fin 4) (count delivered : BitVec 16)
  /-- CREDIT_SEND (R516): A CREDIT block is sent on a change or at least every 10 µs. -/
  | creditSend (l : Fin 6) (vc : Fin 4)
  /-- CREDIT_TIMEOUT (R521): No credit progress for CT.CREDIT_TIMEOUT starts a resynchronisation. -/
  | creditTimeout (l : Fin 6) (vc : Fin 4)
  /-- RESYNC_REQUEST (R523): A RESYNC request stops sending and the receiver discards and replies. -/
  | resyncRequest (l : Fin 6) (vc : Fin 4)
  /-- RESYNC_REPLY (R523): A RESYNC reply restores credits and the sender resends retained items. -/
  | resyncReply (l : Fin 6) (vc : Fin 4) (delivered : BitVec 16) (grant : Fin 256)
  /-- RESYNC_REPLY_TIMEOUT (R523): No reply in 1 ms repeats the request or retrains the link. -/
  | resyncReplyTimeout (l : Fin 6) (vc : Fin 4)
  /-- LINK_FRAME_ERROR (R516): A link frame fails its CRC or order and is discarded. -/
  | linkFrameError (l : Fin 6) (vc : Fin 4)
  /-- CAS_ITEM_SEND (R524): The link layer pops an item of a forwarding source queue and sends it with credit. -/
  | casItemSend (l : Fin 6) (p : Fin 8)
  /-- CAS_ITEM (R526): A received cascade item is discarded as a repeat, queued here or forwarded. -/
  | casItem (l : Fin 6) (vc : Fin 4) (it : CasItemF)
  /-- CAS_MESSAGE (R532): A program message is delivered to CT.MSG_QUEUE or forwarded. -/
  | casMessage (l : Fin 6) (m : CasMsg)
  /-- BARRIER_ARRIVAL (R533): The master records a member's barrier arrival and announces when all have arrived. -/
  | barrierArrival (pos : Fin 8) (bar : BitVec 8)
  /-- BARRIER_ANNOUNCE (R533): A barrier announcement completes waiting CBARs. -/
  | barrierAnnounce (bar : BitVec 8) (mask : BitVec 8)
  /-- BARRIER_FORGET (R533): An arrival not announced within 1 s is forgotten. -/
  | barrierForget (bar : BitVec 8)
  /-- RELAY_RESULT (R534): The master receives a relay's result and places it in CT.RELAY_RES. -/
  | relayResult (executed w0 w1 w2 : Word)
  /-- RELAY_TIMEOUT (R534): A relay without a result completes with ST_TIMEOUT. -/
  | relayTimeout
  /-- POSITION_ABSENT (R515): A position missing from the present mask for CT.LINK_TIMEOUT becomes absent. -/
  | positionAbsent (p : Fin 8)
  /-- TIME_FRAME (R529): A TIME frame from upstream disciplines a member's time and anchors its grid. -/
  | timeFrame (l : Fin 6) (f : TimeFr)
  /-- LINK_DELAY_MEASURE (R528): Once per second a DREQ is sent to measure link delay. -/
  | linkDelayMeasure (l : Fin 6)
  /-- DREQ (R528): A received DREQ is answered with DRESP. -/
  | dreq (l : Fin 6) (t2 : Nat)
  /-- DRESP (R528): A received DRESP completes the link delay measurement. -/
  | dresp (l : Fin 6) (t2 t3 t4 : Nat)
  /-- HEARTBEAT_SEND (R538): Every 100 µs a heartbeat is sent on both mate lanes. -/
  | heartbeatSend
  /-- HEARTBEAT (R538): A partner heartbeat is received with role, state and claim. -/
  | heartbeat (lane : Fin 2) (h : Hb)
  /-- HEARTBEAT_TIMEOUT (R544): Heartbeats are silent on both lanes for CT.HB_TIMEOUT. -/
  | heartbeatTimeout
  /-- ROLE_IN_CHANGE (R535): The filtered ROLE_IN level changes. -/
  | roleInChange (high : Bool)
  /-- CLAIM_RESOLUTION (R537): 300 µs after a claim the chip becomes active unless outdrawn. -/
  | claimResolution
  /-- TAKEOVER (R545): A mirrored standby takes the active role once the witnesses agree. -/
  | takeover
  /-- MIRROR_INPUT (R541): A mirrored input is presented to the standby's blocks in order. -/
  | mirrorInput (order : Nat) (m : MirIn)
  /-- END_MARKER (R543): The standby compares its digest with the cycle's end marker and commits or diverges. -/
  | endMarker (m : EndMark)
  /-- FULL_SYNC_START (R539): A full sync starts after Guyline comes up, a divergence or an activation. -/
  | fullSyncStart
  /-- FULL_SYNC_TIMEOUT (R539): No matching comparison within CT.SYNC_TIMEOUT; the sync fails. -/
  | fullSyncTimeout
  /-- LATEST_DEADLINE (R55): The LATEST deadline of a waiting CSEND or CBAR is reached and the instruction completes with ST_CREDIT_TIMEOUT or ST_TIMEOUT. -/
  | latestDeadline (q : Seqr)
  /-- YIELD_TIMEOUT (R151): A ROLE yield waits one cycle plus 1 ms without the standby's confirmation and completes with ST_TIMEOUT, roles unchanged. -/
  | yieldTimeout
  /-- TIME_FRAME_MISSED (R529): No TIME frame from the cascade master is accepted by the end of its tolerance, so a miss is counted or holdover is entered. -/
  | timeFrameMissed
  /-- PULSE_WIDTH_END (R174): The width of a PPS_OUT or trigger pulse elapses and the output returns to its inactive level. -/
  | pulseWidthEnd (out : Fin 3)
  /-- TAMPER_INPUT_INACTIVE (R441): A tamper input returns to its inactive level, so it can raise another event. -/
  | tamperInputInactive (input : Fin 2)
  /-- CRYSTAL_RESTART (R182): The 32.768 kHz crystal starts oscillating again after a stop, and the RTC counts from that instant. -/
  | crystalRestart
  /-- VIO_RANGE_CHANGE (R587): A bank supply VIOn enters or leaves its range, which enables or isolates that bank and lets Trailhead leave step 1 once VIO4 is in range. -/
  | vioRangeChange (bank : Fin 4) (mv : Nat)
  /-- SVC_CTS_CHANGE (R568): SVC_CTS changes level, so the device stops sending or resumes sending on the service port. -/
  | svcCtsChange (high : Bool)
  /-- SVC_BAD_FRAME (R569): A service-port frame with a bad CRC or an excess LEN is discarded and counted in BOOT.CNT_SVC_BAD. -/
  | svcBadFrame
  /-- RING_BASE_WRITE (R491): A host write of BASE or BUFBASE of a ring pointer block, stored while the ring is stopped and ignored and counted while it runs. -/
  | ringBaseWrite (w : World) (l : HostLink) (b : Fin 20) (word : Fin 4) (v : Word)
deriving DecidableEq, Repr

end Sys2Proof
end

