-- ==== Sys2Proof/Decode.lean ====
section
/-! DEFINITION. The 64-bit instruction word of a command record (03 R73-R77 and the encoding of each entry of chapters 03 and
04), and the table's word: spec/opcode_table.json gives no row any bits. -/

namespace Sys2Proof

/-- What a word of a record reads as. -/
inductive Decoded where
  /-- an instruction -/
  | instr (i : Instr)
  /-- an unassigned opcode, a reserved condition, or a reserved field that is not zero (02 R68, 03 R74) -/
  | illegal
  /-- a mode of the instruction that its entry puts out of range; its position in the syntax, none where it is a suffix -/
  | badMode (c : Cond) (op mode : Nat) (pos : Option Nat)
deriving DecidableEq, Repr

/-- Bits hi down to lo of a word. -/
def bitsOf (w : BitVec 64) (hi lo : Nat) : Nat := w.toNat / 2 ^ lo % 2 ^ (hi + 1 - lo)

/-- A four-bit field. -/
def fld16 (n : Nat) : Fin 16 := ⟨n % 16, Nat.mod_lt _ (by decide)⟩

/-- A two-bit field. -/
def fld4 (n : Nat) : Fin 4 := ⟨n % 4, Nat.mod_lt _ (by decide)⟩

/-- A three-bit field. -/
def fld8 (n : Nat) : Fin 8 := ⟨n % 8, Nat.mod_lt _ (by decide)⟩

/-- A vault slot field. -/
def fldSlot (n : Nat) : Fin 8192 := ⟨n % 8192, Nat.mod_lt _ (by decide)⟩

/-- The condition field (03 Table FC-1). -/
def condOf (n : Nat) : Option Cond :=
  if n = 0 then some .always
  else if n ≤ 4 then some (.ifT (fld4 (n - 1)))
  else if n ≤ 8 then some (.ifF (fld4 (n - 5)))
  else none

/-- A relation of CMP (03 Table FC-6). -/
def relOf (n : Nat) : Option Rel :=
  [Rel.eq, .ne, .ltu, .leu, .gtu, .geu, .lts, .les, .gts, .ges][n]?

/-- An instruction whose reserved fields are zero as stated. -/
def when_ (p : Bool) (i : Instr) : Decoded := if p then .instr i else .illegal

/-- The operand-2 form (03 R76), with bits 38:32 already looked at. -/
def withOp2 (w : BitVec 64) (k : Op2 → Decoded) : Decoded :=
  if bitsOf w 39 39 = 1 then (if bitsOf w 43 40 = 0 then k (.imm (BitVec.ofNat 32 (bitsOf w 31 0))) else .illegal)
  else if bitsOf w 31 0 = 0 then k (.reg (fld16 (bitsOf w 43 40)))
  else .illegal

/-- A queue operand (03 R77). -/
def withQ (w : BitVec 64) (k : QRef → Decoded) : Decoded :=
  if bitsOf w 39 39 = 0 then
    (if bitsOf w 43 40 = 0 then k (.imm ⟨bitsOf w 9 0 % 1024, Nat.mod_lt _ (by decide)⟩) else .illegal)
  else if bitsOf w 9 0 = 0 then k (.reg (fld16 (bitsOf w 43 40)))
  else .illegal

/-- The modes of MOV (03 Table FC-5). -/
def movOf (d s1 mode : Nat) : Option MovOp :=
  match mode with
  | 0 => some (.ww (fld16 d) (fld16 s1))
  | 1 => if s1 < 4 then some (.secLo (fld16 d) (fld4 s1)) else none
  | 2 => if s1 < 4 then some (.secHi (fld16 d) (fld4 s1)) else none
  | 3 => if s1 < 4 then some (.nsOf (fld16 d) (fld4 s1)) else none
  | 4 => if d < 4 then some (.setSecLo (fld4 d) (fld16 s1)) else none
  | 5 => if d < 4 then some (.setSecHi (fld4 d) (fld16 s1)) else none
  | 6 => if d < 4 then some (.setNs (fld4 d) (fld16 s1)) else none
  | 7 => if d < 4 && s1 < 4 then some (.tt (fld4 d) (fld4 s1)) else none
  | _ => none

/-- Control group (03 R80-R83). -/
def decodeControl (who : Who) (c : Cond) (op : Nat) (w : BitVec 64) : Decoded :=
  let d := bitsOf w 51 48
  let s1 := bitsOf w 47 44
  let s2 := bitsOf w 43 40
  let imm := bitsOf w 39 0
  let wd := fld16 d
  let ws := fld16 s1
  let z := w.toNat % 2 ^ 52 = 0
  let alu (k : Op2 → Instr) : Decoded := if bitsOf w 38 32 = 0 then withOp2 w (fun o => .instr (k o)) else .illegal
  match op with
  | 0x00 => when_ z (.nop who c)
  | 0x01 => when_ (s1 = 0 && s2 = 0 && bitsOf w 39 32 = 0) (.movi who c wd (BitVec.ofNat 32 (bitsOf w 31 0)))
  | 0x02 => match movOf d s1 s2 with
    | some m => when_ (imm = 0) (.mov who c m)
    | none => .illegal
  | 0x03 => alu (.add who c wd ws)
  | 0x04 => alu (.sub who c wd ws)
  | 0x05 => alu (.and_ who c wd ws)
  | 0x06 => alu (.or_ who c wd ws)
  | 0x07 => alu (.xor_ who c wd ws)
  | 0x08 => alu (.shl who c wd ws)
  | 0x09 => alu (.shr who c wd ws)
  | 0x0A => match relOf (bitsOf w 38 35) with
    | some r => if d < 4 && bitsOf w 34 32 = 0 then withOp2 w (fun o => .instr (.cmp who c (fld4 d) r ws o)) else .illegal
    | none => .illegal
  | 0x0B => if d < 4 then alu (.test who c (fld4 d) ws) else .illegal
  | 0x10 => when_ (bitsOf w 51 16 = 0) (.jmp who c (BitVec.ofNat 16 (bitsOf w 15 0)))
  | 0x11 => when_ (d = 0 && bitsOf w 43 16 = 0) (.br who c ws (BitVec.ofNat 16 (bitsOf w 15 0)))
  | 0x12 => when_ (bitsOf w 51 16 = 0) (.call who c (BitVec.ofNat 16 (bitsOf w 15 0)))
  | 0x13 => when_ z (.ret who c)
  | 0x14 => when_ (bitsOf w 47 16 = 0) (.loop who c wd (BitVec.ofNat 16 (bitsOf w 15 0)))
  | 0x15 => when_ z (.halt who c)
  | 0x16 => when_ (bitsOf w 51 8 = 0) (.trap who c (BitVec.ofNat 8 (bitsOf w 7 0)))
  | 0x17 => when_ z (.fence who c)
  | 0x18 => when_ (bitsOf w 43 18 = 0) (.ldw who c wd ws (BitVec.ofNat 18 (bitsOf w 17 0)))
  | 0x19 => when_ (d = 0 && bitsOf w 39 18 = 0) (.stw who c ws (fld16 s2) (BitVec.ofNat 18 (bitsOf w 17 0)))
  | _ => .illegal

/-- Time group (03 R84-R93). -/
def decodeTime (who : Who) (c : Cond) (op : Nat) (w : BitVec 64) : Decoded :=
  let d := bitsOf w 51 48
  let s1 := bitsOf w 47 44
  let s2 := bitsOf w 43 40
  let imm := bitsOf w 39 0
  let i40 := BitVec.ofNat 40 imm
  match op with
  | 0x20 => when_ (d = 0 && s1 < 4 && s2 = 0) (.at_ who c (fld4 s1) i40)
  | 0x21 => when_ (d = 0 && s1 = 0) (.after who c i40 (fld16 s2))
  | 0x22 => when_ (d < 4 && bitsOf w 47 0 = 0) (.tnow who c (fld4 d))
  | 0x23 => when_ (d < 4 && s1 < 4) (.tadd who c (fld4 d) (fld4 s1) i40 (fld16 s2))
  | 0x24 => when_ (s1 < 4 && s2 = 0 && bitsOf w 39 3 = 0) (.slot who c (fld16 d) (fld4 s1) (fld8 imm))
  | 0x25 =>
    if imm ≠ 0 then .illegal
    else if s2 = 0 then when_ (s1 = 0) (.asnCur who c (fld16 d))
    else if s2 = 1 then when_ (d < 4) (.asnTime who c (fld4 d) (fld16 s1))
    else .badMode c op s2 none
  | 0x26 =>
    if d ≠ 0 then .illegal
    else if s2 = 0 then when_ (s1 < 4 && imm = 0) (.tstepAbs who c (fld4 s1))
    else if s2 = 1 then when_ (s1 = 0) (.tstepRel who c i40)
    else if s2 = 2 then when_ (s1 < 4 && imm = 0) (.tstepEpoch who c (fld4 s1))
    else .badMode c op s2 none
  | 0x27 =>
    if d ≠ 0 || s2 ≠ 0 || bitsOf w 39 1 ≠ 0 then .illegal
    else .instr (if imm = 0 then .trateSet who c (fld16 s1) else .trateAdd who c (fld16 s1))
  | 0x28 => when_ (w.toNat % 2 ^ 52 = 0) (.tseal who c)
  | 0x29 => when_ (d < 4 && s1 = 0 && bitsOf w 39 4 = 0) (.tcap who c (fld4 d) (fld16 imm) (fld16 s2))
  | _ => .illegal

/-- Radio group (04 R121-R134). -/
def decodeRadio (who : Who) (c : Cond) (op : Nat) (w : BitVec 64) : Decoded :=
  let d := bitsOf w 51 48
  let s1 := bitsOf w 47 44
  let s2 := bitsOf w 43 40
  let imm := bitsOf w 39 0
  let sl := fld16 s2
  match op with
  | 0x30 => when_ (d = 0 && imm = 0) (.tune who c (fld16 s1) sl)
  | 0x31 => when_ (d = 0 && s1 = 0 && bitsOf w 39 4 = 0) (.cal who c (BitVec.ofNat 4 imm) sl)
  | 0x32 => when_ (d = 0 && s2 < 4 && bitsOf w 39 25 = 0)
      (.rxwin who c (fld16 s1) (fld4 s2) (bitsOf w 24 24 = 1) (BitVec.ofNat 24 imm))
  | 0x33 =>
    if d ≠ 0 || 4 ≤ s1 || bitsOf w 37 32 ≠ 0 || bitsOf w 15 10 ≠ 0 then .illegal
    else if bitsOf w 38 38 = 0 then withQ w (fun q => .instr (.txf who c (fld4 s1) q (BitVec.ofNat 16 (bitsOf w 31 16))))
    else when_ (bitsOf w 39 39 = 0 && bitsOf w 9 0 = 0)
      (.txfHeld who c (fld4 s1) (fld16 s2) (BitVec.ofNat 16 (bitsOf w 31 16)))
  | 0x34 => when_ (s1 = 0 && imm = 0) (.rstate who c (fld16 d) sl)
  | 0x35 => when_ (d = 0 && s1 = 0 && bitsOf w 39 11 = 0 && bitsOf w 3 2 = 0)
      (.aerial who c (fld4 imm) (BitVec.ofNat 6 (bitsOf w 9 4)) (bitsOf w 10 10 = 1) sl)
  | 0x36 =>
    if s1 ≠ 0 || bitsOf w 39 12 ≠ 0 || bitsOf w 7 2 ≠ 0 then .illegal
    else if imm % 4 = 0 then when_ (bitsOf w 11 8 = 0) (.rqualLast who c (fld16 d) sl)
    else if imm % 4 = 1 then .instr (.rqualFloor who c (fld16 d) (fld16 (bitsOf w 11 8)) sl)
    else if bitsOf w 11 8 = 0 then .badMode c op (imm % 4) none
    else .illegal
  | 0x37 =>
    if d ≠ 0 || bitsOf w 39 2 ≠ 0 then .illegal
    else match imm with
      | 0 => .instr (.feoutTuningWord who c (fld16 s1) sl)
      | 1 => .instr (.feoutStaticControls who c (fld16 s1) sl)
      | 2 => .instr (.feoutRegisterWrite who c (fld16 s1) sl)
      | _ => .badMode c op 3 (some 2)
  | _ => .illegal

/-- Queue group (03 R94-R104). -/
def decodeQueue (who : Who) (c : Cond) (op : Nat) (w : BitVec 64) : Decoded :=
  let d := bitsOf w 51 48
  let s1 := bitsOf w 47 44
  let plain (p : Bool) (k : QRef → Instr) : Decoded :=
    if p && bitsOf w 38 10 = 0 then withQ w (fun q => .instr (k q)) else .illegal
  match op with
  | 0x40 => plain (d = 0) (.qpush who c (fld16 s1))
  | 0x41 => plain (s1 = 0) (.qpop who c (fld16 d))
  | 0x42 => plain (s1 = 0) (.qpeek who c (fld16 d))
  | 0x43 =>
    if d ≠ 0 || bitsOf w 38 14 ≠ 0 || bitsOf w 11 10 ≠ 0 then .illegal
    else match bitsOf w 13 12 with
      | 0 => if s1 = 0 then withQ w (fun q => .instr (.qdropHead who c q)) else .illegal
      | 1 => when_ (bitsOf w 43 39 = 0 && bitsOf w 9 0 = 0) (.qdropHeld who c (fld16 s1))
      | 2 => if s1 = 0 then withQ w (fun q => .instr (.qdropRest who c q)) else .illegal
      | _ => if s1 = 0 then withQ w (fun _ => .badMode c op 3 none) else .illegal
  | 0x44 => plain (d = 0 && s1 = 0) (.qflush who c)
  | 0x45 => plain (s1 = 0) (.qlen who c (fld16 d))
  | 0x46 =>
    if d ≠ 0 || bitsOf w 38 24 ≠ 0 || bitsOf w 15 10 ≠ 0 then .illegal
    else withQ w (fun q => .instr (.qattr who c q (fld16 s1) (BitVec.ofNat 8 (bitsOf w 23 16))))
  | 0x47 => when_ (s1 = 0 && bitsOf w 43 14 = 0 && bitsOf w 11 11 = 0 && bitsOf w 7 2 = 0)
      (.ledger who c (fld16 d) (fld4 (bitsOf w 1 0)) (fld8 (bitsOf w 10 8)) (fld4 (bitsOf w 13 12)))
  | _ => .illegal

/-- Table group (03 R105-R112). -/
def decodeTable (who : Who) (c : Cond) (op : Nat) (w : BitVec 64) : Decoded :=
  let d := bitsOf w 51 48
  let s1 := bitsOf w 47 44
  let s2 := bitsOf w 43 40
  let key := fld16 s1
  let b0 : Bool := bitsOf w 0 0 = 1
  let b1 : Bool := bitsOf w 1 1 = 1
  match op with
  | 0x50 => when_ (s2 = 0 && bitsOf w 39 1 = 0) (.lookup who c (fld16 d) key b0)
  | 0x51 => when_ (d = 0 && bitsOf w 39 2 = 0) (.insert who c key (fld16 s2) b0 b1)
  | 0x52 => when_ (d = 0 && s2 = 0 && bitsOf w 39 2 = 0) (.delete who c key b0 b1)
  | 0x53 => when_ (d = 0 && s2 = 0 && bitsOf w 39 2 = 0) (.learnack who c key b0 b1)
  | 0x54 => when_ (d = 0 && s2 = 0 && bitsOf w 39 1 = 0) (.pin who c key b0)
  | 0x55 => when_ (d = 0 && s2 = 0 && bitsOf w 39 1 = 0) (.unpin who c key b0)
  | 0x56 =>
    if d ≠ 0 || s1 ≠ 0 || bitsOf w 38 18 ≠ 0 || bitsOf w 15 10 ≠ 0 then .illegal
    else withQ w (fun q => .instr (.tload who c q (fld4 (bitsOf w 17 16))))
  | 0x57 => when_ (bitsOf w 51 2 = 0) (.tscrub who c (fld4 (bitsOf w 1 0)))
  | _ => .illegal

/-- Security group (04 R135-R141). -/
def decodeSecurity (who : Who) (c : Cond) (op : Nat) (w : BitVec 64) : Decoded :=
  let d := bitsOf w 51 48
  let s1 := bitsOf w 47 44
  let s2 := bitsOf w 43 40
  let slot := fldSlot (bitsOf w 12 0)
  match op with
  | 0x60 =>
    if d ≠ 0 || s1 ≠ 0 || bitsOf w 38 26 ≠ 0 || bitsOf w 12 10 ≠ 0 then .illegal
    else withQ w (fun q => .instr (.kload who c (fldSlot (bitsOf w 25 13)) q))
  | 0x61 => when_ (s2 = 0 && bitsOf w 39 13 = 0) (.kderive who c (fld16 d) (fld16 s1) slot)
  | 0x62 => when_ (bitsOf w 51 13 = 0) (.krevoke who c slot)
  | 0x63 => when_ (bitsOf w 47 13 = 0) (.kquery who c (fld16 d) slot)
  | 0x64 =>
    if d ≠ 0 || bitsOf w 39 1 ≠ 0 then .illegal
    else .instr (if bitsOf w 0 0 = 0 then .cntsetOut who c (fld16 s1) (fld16 s2) else .cntsetIn who c (fld16 s1) (fld16 s2))
  | 0x65 =>
    if d ≠ 0 || bitsOf w 38 29 ≠ 0 || bitsOf w 15 10 ≠ 0 then .illegal
    else withQ w (fun q => .instr (.cntexp who c (fld16 s1) q (BitVec.ofNat 13 (bitsOf w 28 16))))
  | 0x66 =>
    if bitsOf w 51 14 ≠ 0 then .illegal
    else if bitsOf w 13 13 = 0 then .instr (.kzero who c slot)
    else when_ (bitsOf w 12 0 = 0) (.kzeroAll who c)
  | _ => .illegal

/-- Power and clock group (04 R142-R147). -/
def decodePower (who : Who) (c : Cond) (op : Nat) (w : BitVec 64) : Decoded :=
  let s1 := bitsOf w 47 44
  match op with
  | 0x70 => when_ (bitsOf w 51 2 = 0) (.clksel who c (fld4 (bitsOf w 1 0)))
  | 0x71 => when_ (bitsOf w 51 3 = 0) (.pmode who c (fld8 (bitsOf w 2 0)))
  | 0x72 => when_ (w.toNat % 2 ^ 52 = 0) (.rest who c)
  | 0x73 => when_ (bitsOf w 51 48 = 0 && bitsOf w 43 16 = 0 && (s1 = 0 || bitsOf w 15 0 = 0))
      (.wakeon who c (fld16 s1) (BitVec.ofNat 16 (bitsOf w 15 0)))
  | _ => .illegal

/-- Parameter, notice and job group (03 R113-R119). -/
def decodeParam (who : Who) (c : Cond) (op : Nat) (w : BitVec 64) : Decoded :=
  let d := bitsOf w 51 48
  let s1 := bitsOf w 47 44
  let s2 := bitsOf w 43 40
  let mode := bitsOf w 1 0
  match op with
  | 0x80 => when_ (s1 = 0 || bitsOf w 31 0 = 0)
      (.setp who c (BitVec.ofNat 12 (d * 256 + bitsOf w 39 32)) (fld16 s2) (fld16 s1) (BitVec.ofNat 32 (bitsOf w 31 0)))
  | 0x81 => when_ (s1 = 0 && bitsOf w 39 12 = 0) (.getp who c (fld16 d) (BitVec.ofNat 12 (bitsOf w 11 0)) (fld16 s2))
  | 0x82 => when_ (d = 0 && bitsOf w 43 16 = 0) (.note who c (BitVec.ofNat 16 (bitsOf w 15 0)) (fld16 s1))
  | 0x83 => if d = 0 && s1 = 0 && bitsOf w 38 10 = 0 then withQ w (fun q => .instr (.setup who c q)) else .illegal
  | 0x84 =>
    if s2 ≠ 0 || bitsOf w 39 12 ≠ 0 || bitsOf w 7 2 ≠ 0 then .illegal
    else match mode with
      | 0 => when_ (bitsOf w 11 8 = 0) (.queryJob who c (fld16 d) (fld16 s1))
      | 1 => when_ (s1 = 0) (.querySlice who c (fld16 d) (fld16 (bitsOf w 11 8)))
      | _ => if s1 = 0 && bitsOf w 11 8 = 0 then .badMode c op mode none else .illegal
  | 0x85 => when_ (bitsOf w 47 16 = 0) (.health who c (fld16 d) (BitVec.ofNat 16 (bitsOf w 15 0)))
  | 0x86 =>
    if bitsOf w 47 2 ≠ 0 then .illegal
    else match mode with
      | 0 => .instr (.confirmImage who c (fld16 d))
      | 1 => .instr (.confirmReject who c (fld16 d))
      | 2 => .instr (.confirmRead who c (fld16 d))
      | _ => .badMode c op 3 (some 2)
  | _ => .illegal

/-- Cascade and twin group (04 R148-R151). -/
def decodeCascade (who : Who) (c : Cond) (op : Nat) (w : BitVec 64) : Decoded :=
  let d := bitsOf w 51 48
  let mode := bitsOf w 1 0
  match op with
  | 0x90 => when_ (d = 0 && bitsOf w 43 32 = 0 && bitsOf w 7 4 = 0)
      (.csend who c (fld16 (bitsOf w 47 44)) (fld16 (bitsOf w 3 0)) (BitVec.ofNat 8 (bitsOf w 15 8))
        (BitVec.ofNat 16 (bitsOf w 31 16)))
  | 0x91 => when_ (bitsOf w 51 32 = 0 && bitsOf w 15 8 = 0)
      (.cbar who c (BitVec.ofNat 8 (bitsOf w 7 0)) (BitVec.ofNat 16 (bitsOf w 31 16)))
  | 0x92 =>
    if bitsOf w 47 2 ≠ 0 then .illegal
    else match mode with
      | 0 => .instr (.mirrorStatus who c (fld16 d))
      | 1 => .instr (.mirrorSync who c (fld16 d))
      | 2 => .instr (.mirrorDigest who c (fld16 d))
      | _ => .badMode c op 3 (some 2)
  | 0x93 =>
    if bitsOf w 47 2 ≠ 0 then .illegal
    else match mode with
      | 0 => .instr (.roleRead who c (fld16 d))
      | 1 => .instr (.roleYield who c (fld16 d))
      | 2 => .instr (.roleWithdraw who c (fld16 d))
      | _ => .badMode c op 3 (some 2)
  | _ => .illegal

/-- What a word reads as for an issuer (03 R73, R74). -/
def decodeWord (who : Who) (w : BitVec 64) : Decoded :=
  let op := bitsOf w 63 56
  match condOf (bitsOf w 55 52) with
  | none => .illegal
  | some c =>
    match op / 16 with
    | 0 => decodeControl who c op w
    | 1 => decodeControl who c op w
    | 2 => decodeTime who c op w
    | 3 => decodeRadio who c op w
    | 4 => decodeQueue who c op w
    | 5 => decodeTable who c op w
    | 6 => decodeSecurity who c op w
    | 7 => decodePower who c op w
    | 8 => decodeParam who c op w
    | 9 => decodeCascade who c op w
    | _ => .illegal

/-- The command that a word spells by the bits of spec/opcode_table.json: the table gives no row any. -/
def decodeTableWord (_nbits _w : Nat) : Option Instr := none

end Sys2Proof
end

