-- ==== Sys2Proof/Config.lean ====
section
/-! DEFINITION. What the spec leaves open: free values and functions with no body, of which nothing can be proved. -/

namespace Sys2Proof.Config

/-- A free value: the n-th draw of the run (log entry 7). Each use reduces it to the range the spec gives. -/
opaque draw : Nat → Nat

/-- CCM* of AES-128: is the MIC of these octets right under this key material? (the cryptographic standards are not in the
spec; log entry 8) -/
opaque micOk (key : Nat) (counter : Nat) (data : List Byte) : Bool

/-- CCM* of AES-128: the secured octets of a frame (log entry 8). -/
opaque secure (key : Nat) (counter : Nat) (data : List Byte) : List Byte

/-- CCM* of AES-128: the octets of a received frame as S7 hands them on (log entry 8). -/
opaque unsecure (key : Nat) (counter : Nat) (data : List Byte) : List Byte

/-- The queue that a received frame is delivered to, by its roster index: the spec names none (log entry 18). -/
opaque rxQueue (index : Nat) : Nat

/-- AES-CMAC of the octets under the key (log entry 8). -/
opaque cmac (key : Nat) (data : List Byte) : Nat

/-- Order of the P-256 curve (log entry 8). -/
opaque p256n : Nat

/-- AES-256-GCM: opens wrapped octets under a key, none when the tag fails (log entry 8). -/
opaque gcmOpen (key : Nat) (data : List Byte) : Option (List Byte)

/-- AES-256-GCM: seals octets under a key with an initialisation vector (log entry 8). -/
opaque gcmSeal (key iv : Nat) (data : List Byte) : List Byte

/-- ECDH shared value of a private key and a public key (log entry 8). -/
opaque ecdh (priv : Nat) (pub : List Byte) : Nat

/-- Public key of a private key (log entry 8). -/
opaque ecPub (priv : Nat) : List Byte

/-- Is the ECDSA signature of these octets right under this public key? (log entry 8) -/
opaque ecdsaOk (pub data sig : List Byte) : Bool

/-- SHA-256 of octets (log entry 8). -/
opaque sha256 (data : List Byte) : List Byte

/-- Public key of vendor verification key k, in Trailhead's ROM (17 R558; log entry 8). -/
opaque vendorKey (k : Nat) : List Byte

/-- Check sequence of n octets over a frame's octets, as IEEE 802.15.4 has it (log entry 115). -/
opaque fcs (n : Nat) (data : List Byte) : Nat

/-- CRC-8 over 22 header bits, as IEEE 802.15.4 computes the HCS of a PHR (08 R258; log entry 115). -/
opaque hcs (bits : Nat) : BitVec 8

/-- Bit i of the PN9 scrambling sequence of a PHR Scrambler field (08 R267; log entry 115). -/
opaque pn9 (seed i : Nat) : Bool

/-- The scrambled pad bit at place i: the spec gives pad bits no value (08 R267; log entry 115). -/
opaque padBit (seed i : Nat) : Bool

/-! What S4, S5, S11 and S12 take from IEEE 802.15.4 (log entry 115), and the parts of S4's arithmetic that the spec does not give
(log entry 118). -/

/-- Bit i of the 36-bit SUN-OFDM PHR of a Rate, a frame length and a Scrambler field (08 R253). -/
opaque phrBit (rate len seed i : Nat) : Bool

/-- Subcarrier and label bit of the j-th carrying of coded bit i of a symbol of an option and MCS: the standard's interleaver,
mapping and frequency repetition (08 R253, R266). -/
opaque stdPlace (option mcs i j : Nat) : Nat × Nat

/-- Position and value of pilot j of an option at place `idx` of the pilot sequence (08 R265). -/
opaque pilot (option j idx : Nat) : Nat × Int

/-- Value of the LTF's sequence on the k-th data or pilot subcarrier of an option (08 R268). -/
opaque ltfSeq (option k : Nat) : Int

/-- Bit i of the SUN-FSK preamble pattern (08 R255). -/
opaque fskPreamble (i : Nat) : Bool

/-- Bit i of the uncoded SFD (08 R255). -/
opaque fskSfd (i : Nat) : Bool

/-- Bit i of the SUN-FSK PHR of a frame length, a whitening field and an FCS type field (08 R255). -/
opaque fskPhrBit (len : Nat) (whiten shortFcs : Bool) (i : Nat) : Bool

/-- Bit i of the SUN-FSK data whitening sequence (08 R255). -/
opaque fskPn (i : Nat) : Bool

/-- Factory value of a slice's receive path delay, ns (05 R170). -/
opaque rxDelay (slice : Nat) : Int

/-- Factory value of a slice's transmit path delay, ns (05 R170). -/
opaque txDelay (slice : Nat) : Int

/-- Factory value of FS of a slice, band and port, 0.25 dBm (10 R335). -/
opaque fullScale (slice band port : Nat) : Int

/-- Factory value of G of a gain state of a slice, band and port, 0.25 dB (10 R335). -/
opaque gainOf (slice band port state : Nat) : Int

/-- A subcarrier's amplitude with the common phase error and the residual frequency offset removed, by the pilots of its symbol
and of those before it, latest first (08 R270). -/
opaque derotate (pilots : List (List Cpx)) (y : Cpx) : Cpx

/-- The square root of the power of a constellation's levels, by its bits, in S4's fixed point (08 Table OM-7). -/
opaque levelScale (bits : Nat) : Int

/-- The 6-bit quantiser of a soft value over its scale, before it saturates (08 R271). -/
opaque softQuant (x : Int) (scale : Nat) : Int

/-- Does the Viterbi decoder take the second of two equal paths at this step and state? (08 R271) -/
opaque viterbiTie (step state : Nat) : Bool

/-- A ratio in 0.25 dB, rounded (08 R277). -/
opaque quarterDb (num den : Nat) : Int

/-- A mean tap power in 0.25 dBFS: a sum over a number of blocks (08 R278). -/
opaque quarterDbfs (sum blocks : Nat) : Int

end Sys2Proof.Config
end

