-- ==== Sys2Proof/Machine/State.lean ====
section
/-! DEFINITION. The state of the Cylith 8832 (inventory: '## State'), the reasons a step can stop, and the state after reset. -/

namespace Sys2Proof.Machine

/-- A sparse map in canonical form: (key, value) pairs, keys strictly rising, no value equal to what an unlisted key reads
as (that default is named by each map's accessor in Ops.lean). -/
abbrev Tbl (α : Type) := List (Nat × α)

/-- A time value: 64 bits of seconds since the PTP epoch and 32 bits of nanoseconds (00 Notation). -/
structure TVal where
  /-- seconds (00 Notation) -/
  sec : BitVec 64 := 0
  /-- nanoseconds, 0-999,999,999 in a valid value (00 Notation) -/
  ns : BitVec 32 := 0
deriving DecidableEq, Repr

/-- What a received item carries besides its header, for its receive descriptor (R501). -/
structure AirFacts where
  /-- receive timestamp (15 R501) -/
  at_ : TVal := {}
  /-- RSSI, 0.25 dBm (15 R501) -/
  rssi : Int := 0
  /-- SNR, 0.25 dB (15 R501) -/
  snr : Int := 0
  /-- link quality (15 R501) -/
  lq : Nat := 0
  /-- timestamp unqualified (15 R501) -/
  unqual : Bool := false
  /-- S7 verified the frame's security (15 R501) -/
  verified : Bool := false
deriving DecidableEq, Repr

/-- What a cell holds: its payload and its control word of Table QP-1 (11 R355). -/
structure Cell where
  /-- payload octets; those beyond the list are 0 (11 R355) -/
  payload : List Byte := []
  /-- NEXT: the item's next cell, 0xFFFF in the last (11 R355) -/
  next : Nat := 0
  /-- FILL: payload octets in use (11 R355) -/
  fill : Nat := 0
  /-- FIRST (11 R355) -/
  first : Bool := false
  /-- LAST (11 R355) -/
  last : Bool := false
  /-- JOBREF (11 R355) -/
  job : Nat := 0
deriving DecidableEq, Repr

/-- An item: its header of Table QP-2, its data, and what the device tracks of it. -/
structure Item where
  /-- JOBREF (R94) (11 R358) -/
  job : Nat := 0
  /-- WRITTEN: the length slot is written (11 R359) -/
  written : Bool := false
  /-- L once written (11 R359) -/
  len : Nat := 0
  /-- declared length D (11 R358) -/
  decl : Nat := 0
  /-- CT, started as a cut-through item (11 R374) -/
  ct : Bool := false
  /-- SECURED, entered at S9 already secured (11 R358) -/
  secured : Bool := false
  /-- PHYMODE (11 R358) -/
  phymode : Nat := 0
  /-- PORT (11 R358) -/
  port : Nat := 0
  /-- INDEX (11 R358) -/
  index : Nat := 0x1FFFF
  /-- EXC (11 R358) -/
  exc : Nat := 0
  /-- SLICE (11 R358) -/
  slice : Nat := 0xFF
  /-- data octets (11 R358) -/
  data : List Byte := []
  /-- its cells, first first (11 R355) -/
  chain : List Nat := []
  /-- cells reserved and not yet taken (11 R357) -/
  resv : Nat := 0
  /-- a cut-through item that POPPABLE has counted at a boundary (11 R374) -/
  counted : Bool := false
  /-- slice whose TXF has selected it (11 R370) -/
  selBy : Option (Fin 12) := none
  /-- elapsed time of its last data (11 R361) -/
  lastData : Nat := 0
  /-- parsed facts of its octets (log entry 5) (00) -/
  info : FrameInfo := {}
  /-- air fields (15 R501) -/
  air : AirFacts := {}
  /-- frame counter S7 took for it (11 R360) -/
  secCtr : Option Nat := none
  /-- it is an enhanced beacon (06 R207) -/
  beacon : Bool := false
  /-- district of its roster entry or descriptor (07 R235) -/
  dist : Bool := false
  /-- ROUTE: destination EUI-64 (15 R502) -/
  dstEui : BitVec 64 := 0
  /-- vault slot whose key secured it (13 R431) -/
  keySlot : Nat := 0
  /-- generation of that slot (13 R431) -/
  keyGen : Nat := 0
deriving DecidableEq, Repr

/-- A job record (Table QP-8). -/
structure JobRec where
  /-- STAGE; 0 free (11 R380) -/
  stage : Nat := 0
  /-- ATTEMPTS (11 R380) -/
  attempts : Nat := 0
  /-- TRUNC (11 R380) -/
  trunc : Bool := false
  /-- EXC (11 R380) -/
  exc : Bool := false
  /-- GEN (11 R380) -/
  gen : Nat := 0
  /-- TNS (11 R380) -/
  tns : Nat := 0
  /-- WHY (11 R380) -/
  why : Nat := 0
  /-- outcome of the Enh-Ack of a received frame: 0 none, 1 AIRED, 2 abandoned, 3 cut; DESIGN CHOICE, Table QP-8 has no place for
  it (log entry 119) (01 R21) -/
  ack : Nat := 0
deriving DecidableEq, Repr

/-- A journal entry (Table QP-10). -/
structure JEntry where
  /-- JOBREF (11 R384) -/
  job : Nat := 0
  /-- stage before (11 R384) -/
  before : Nat := 0
  /-- stage after (11 R384) -/
  after : Nat := 0
  /-- attempt count after (11 R384) -/
  attempts : Nat := 0
  /-- truncation flag (11 R384) -/
  trunc : Bool := false
  /-- on the exception queue (11 R384) -/
  exc : Bool := false
  /-- STATUS (11 R384) -/
  status : Nat := 0
  /-- TSEC and TNS (11 R384) -/
  at_ : TVal := {}
  /-- marked lost by an uncorrectable error (01 Table AR-7) -/
  lost : Bool := false
deriving DecidableEq, Repr

/-- A queue (R363, Table QP-5). -/
structure Queue where
  /-- complete items (cut-through items from their start), head first (11 R363) -/
  items : List Item := []
  /-- the incomplete item at the tail (11 R360) -/
  inc : Option Item := none
  /-- poppable (11 R367) -/
  poppable : Nat := 0
  /-- room (11 R367) -/
  room : Nat := 256
  /-- LIMIT (11 Table QP-5) -/
  limit : Nat := 256
  /-- HIGH (11 Table QP-5) -/
  high : Nat := 192
  /-- LOW (11 Table QP-5) -/
  low : Nat := 128
  /-- FLUSHMODE = 1 (11 Table QP-5) -/
  dropMode : Bool := false
  /-- FLOW (11 Table QP-5) -/
  flow : Nat := 15
  /-- CUTTHRU (11 Table QP-5) -/
  cutthru : Bool := false
  /-- NOTIFY (11 Table QP-5) -/
  notify : Bool := false
  /-- high state (11 R377) -/
  isHigh : Bool := false
  /-- backoff exponent; MAC.MIN_BE at its default (06 R226) -/
  be : Nat := 1
  /-- backoff count (06 R226) -/
  bc : Nat := 0
  /-- flushes of the queue (03 R95) -/
  flushes : Nat := 0
deriving DecidableEq, Repr

/-- A start that waits for a queue (R361). -/
structure Wait where
  /-- queue (11 R361) -/
  q : Nat := 0
  /-- custodian world's port (11 R361) -/
  cust : Bool := false
  /-- transmit ring (11 R361) -/
  ring : Nat := 0
  /-- its descriptor (11 R361) -/
  desc : TxDesc := {}
  /-- its index in the ring (11 R361) -/
  idx : Nat := 0
  /-- elapsed time at which it was made (11 R361) -/
  madeAt : Nat := 0
deriving DecidableEq, Repr

/-- A host world's streaming port (R360). -/
structure Port where
  /-- queue of its open item (11 R360) -/
  qOpen : Option Nat := none
  /-- its open routed item, held by S6 (11 R360) -/
  held : Option Item := none
  /-- job reference of the open item (11 R360) -/
  job : Nat := 0
  /-- discard until start of item (11 R372) -/
  discard : Bool := false
deriving DecidableEq, Repr

/-- The LEDGER window (Table QP-12) and the hold. -/
structure Ledger where
  /-- CELLS, JOBS, CREDITS of the last check (11 Table QP-12) -/
  lstat : BitVec 3 := 0
  /-- STICKY (11 Table QP-12) -/
  sticky : Bool := false
  /-- LATCHID (11 Table QP-12) -/
  latchId : BitVec 16 := 0
  /-- ASN of the boundary checked (11 Table QP-12) -/
  asn : Nat := 0
  /-- CF, CQ, CH, JF, JQ, JH of the last check (11 Table QP-12) -/
  terms : List Word := [0, 0, 0, 0, 0, 0]
  /-- CREDFAIL (11 Table QP-12) -/
  credFail : BitVec 24 := 0
  /-- RESERVED of the last check (11 Table QP-12) -/
  reserved : Nat := 0
  /-- OVERFLOW of the last check (11 Table QP-12) -/
  overflow : Nat := 0
  /-- the window's latch (11 R387) -/
  latch : List Word := [0, 0, 0, 0, 0, 0, 0, 0, 0, 0, 0, 0]
  /-- the last boundary or tick check failed (PSUM.LEDGER) (11 R388) -/
  psum : Bool := false
  /-- starts refused until the next power-up (11 R388) -/
  hold : Bool := false
deriving DecidableEq, Repr

/-- Queues, pool, job records, ledger (chapter 11). -/
structure QpS where
  /-- queues 0-1,023; unlisted: the defaults (11 R363) -/
  queues : Tbl Queue := []
  /-- job records; unlisted: free, GEN 0 (11 R380) -/
  jobs : Tbl JobRec := []
  /-- the last 4,096 transitions, newest first (11 R384) -/
  journal : List JEntry := []
  /-- free cells (11 R386) -/
  cf : Nat := 49152
  /-- head of the free list: cells that have returned (11 R356) -/
  freed : List Nat := []
  /-- the rest of the free list: this cell and those above it, not taken since power-up; DESIGN CHOICE ascending (log entry 114) (11 R356) -/
  fresh : Nat := 0
  /-- what the cells that have returned hold; unlisted: zeros (log entry 4) (11 R355) -/
  left : Tbl Cell := []
  /-- cells in queues (11 R386) -/
  cq : Nat := 0
  /-- cells held (11 R386) -/
  ch : Nat := 0
  /-- free job records (11 R386) -/
  jf : Nat := 32768
  /-- job records in queues (11 R386) -/
  jq : Nat := 0
  /-- job records held (11 R386) -/
  jh : Nat := 0
  /-- cells taken since power-up (11 R386) -/
  taken : Nat := 0
  /-- cells returned since power-up (11 R386) -/
  returned : Nat := 0
  /-- reservations of all producers (11 R357) -/
  reserved : Nat := 0
  /-- waiting starts, oldest first (11 R361) -/
  waits : List Wait := []
  /-- operator world's port (11 R360) -/
  portOp : Port := {}
  /-- custodian world's port (11 R360) -/
  portCust : Port := {}
  /-- the ledger's last check (11 R387) -/
  ledger : Ledger := {}
  /-- FLOW outputs enabled at least once since power-up (11 R378) -/
  flowOnce : BitVec 4 := 0
deriving DecidableEq, Repr

/-- The halt record of Table FM-7. -/
structure HaltRec where
  /-- REASON, Table FM-9 (02 R72) -/
  reason : Nat := 0
  /-- STATUS at the halt (02 R72) -/
  status : Nat := 0
  /-- SEQ: 0-11, or 15 for the conductor (02 R72) -/
  seqNo : Nat := 0
  /-- STATE code after the halt (02 R72) -/
  state : Nat := 0
  /-- TRAPCODE (02 R72) -/
  trap : Nat := 0
  /-- address of the halting instruction (02 R72) -/
  pc : Nat := 0
  /-- bits 63:48 of the halting word (02 R72) -/
  opword : BitVec 16 := 0
  /-- w0 at the halt (02 R72) -/
  w0 : Word := 0
  /-- w1 at the halt (02 R72) -/
  w1 : Word := 0
  /-- w2 at the halt (02 R72) -/
  w2 : Word := 0
  /-- TSEC and TNS, the timebase at the halt (02 R72) -/
  at_ : TVal := {}
deriving DecidableEq, Repr

/-- One Flivixa register set (Table FM-3). -/
structure RegSet where
  /-- working registers w0-w15, 32 bits each (02 R37) -/
  w : Vector Word 16 := Vector.replicate 16 0
  /-- time registers t0-t3, 96 bits each (02 R37) -/
  t : Vector TVal 4 := Vector.replicate 4 {}
  /-- predicates p0-p3 (02 R37) -/
  p : Vector Bool 4 := Vector.replicate 4 false
  /-- call stack, at most 8 return addresses, top first (02 R37) -/
  stack : List Nat := []
deriving DecidableEq, Repr

/-- One instruction pending under R79. -/
structure Pend where
  /-- ticket 1-65,535 (03 R79) -/
  ticket : Nat := 0
  /-- opcode (03 R79) -/
  op : Nat := 0
deriving DecidableEq, Repr

/-- An item held by QPOP (R95). -/
structure HeldItem where
  /-- the item (03 R95) -/
  item : Item := {}
  /-- queue it was popped from (03 R95) -/
  fromQ : Nat := 0
  /-- the queue's flush count at the pop (03 R95) -/
  flushGen : Nat := 0
deriving DecidableEq, Repr

/-- What a slice sequencer, or a conductor world, keeps besides its program place. -/
structure Ctx where
  /-- register set (02 R37) -/
  regs : RegSet := {}
  /-- next ticket, 1-65,535 (03 R79) -/
  nextTicket : Nat := 1
  /-- pending instructions, at most four (03 R79) -/
  pend : List Pend := []
  /-- held items, latest popped first, at most eight (03 R95) -/
  held : List HeldItem := []
  /-- last halt record (02 R72) -/
  halt : HaltRec := {}
deriving DecidableEq, Repr

/-- What a Blocked sequencer or the conductor waits for (R54, R55). -/
inductive Await where
  /-- AT: the target instant in ns (R84) -/
  | at_ (target : Nat)
  /-- AFTER: the increment sum, in 2^-32 ns, at which it ends (R85) -/
  | after (done : Nat)
  /-- SLOT (R88) -/
  | slot (wd : Fin 16) (td : Fin 4) (sf : Fin 8)
  /-- FENCE (R59) -/
  | fence
  /-- CAL on a slice sequencer (R126) -/
  | cal (sl : Fin 12)
  /-- RXWIN; its window is the slice's (R127) -/
  | rxwin (sl : Fin 12)
  /-- TXF; its transmission is the slice's (R129) -/
  | txf (sl : Fin 12)
  /-- FEOUT, or a CAL word over FECTL (R134) -/
  | feout (sl : Fin 12)
  /-- CSEND waiting for a credit (R148) -/
  | csend (w1 w2 : Word) (dest kind : Nat) (deadline : Nat)
  /-- CBAR (R149) -/
  | cbar (bar : Nat) (deadline : Nat)
  /-- REST (R144) -/
  | rest
  /-- ROLE mode 1 (R151) -/
  | yield (deadline : Nat)
deriving DecidableEq, Repr

/-- Table FM-8. -/
inductive SeqState where
  /-- 0 Idle -/
  | idle
  /-- 1 Running -/
  | running
  /-- 2 Blocked -/
  | blocked
  /-- 3 Halted -/
  | halted
  /-- 4 Offline -/
  | offline
deriving DecidableEq, Repr

/-- One slice sequencer SA-SL. -/
structure SeqS where
  /-- registers, tickets, held items, halt record (02 R37) -/
  ctx : Ctx := {}
  /-- state code of Table FM-8 (02 R67) -/
  state : SeqState := .idle
  /-- program counter, 16 bits (02 R44) -/
  pc : Nat := 0
  /-- first page of the window in force (02 R44) -/
  winFirst : Nat := 0
  /-- page count of the window in force (02 R44) -/
  winCount : Nat := 0
  /-- the awaiting instruction of a Blocked sequencer (02 R54) -/
  await : Option Await := none
  /-- handover armed (SEQ.HANDOVER reads it) (02 R46) -/
  handover : Bool := false
  /-- the armed handover is the rescan's, to MAC.RESCAN_ENTRY (06 R232) -/
  rescan : Bool := false
  /-- elapsed time of the last AT, AFTER or SLOT completion (02 R68) -/
  wdogMark : Nat := 0
  /-- a host halt that waits for the end of a FEOUT: SEQ.CTRL's value 2 or 3, 0 none (02 R70) -/
  haltDue : Nat := 0
deriving DecidableEq, Repr

/-- The record the conductor has open (R49-R52). -/
structure Record where
  /-- world of the record (02 R48) -/
  world : World := .operator
  /-- taken from a command ring, so that a completion descriptor is due; false for a word presented directly (log entry 2) (02 R50) -/
  posts : Bool := true
  /-- its entry is still to be passed by DEVIDX of the command ring (15 R490) -/
  fromRing : Bool := false
  /-- TAG (15 R495) -/
  tag : BitVec 32 := 0
  /-- KIND (15 R495) -/
  kind : Nat := 1
  /-- words not yet executed (02 R50) -/
  words : List (BitVec 64) := []
  /-- the word being executed (02 R50) -/
  cur : BitVec 64 := 0
  /-- words executed (02 R50) -/
  executed : Nat := 0
  /-- a word of it is being executed within the current command (never between commands) (02 R50) -/
  live : Bool := false
  /-- status the current word has reported, if any (02 R50) -/
  status : Option Word := none
  /-- a routine called by the current word runs (02 R51) -/
  routine : Bool := false
  /-- return addresses stacked when the routine was called (02 R51) -/
  depth : Nat := 0
  /-- program counter inside the routine (02 R51) -/
  pc : Nat := 0
  /-- issued by the cascade master (M_CAS) (16 R534) -/
  relayed : Bool := false
  /-- elapsed time at which execution began (02 R52) -/
  startedAt : Nat := 0
  /-- a mirrored input of the active, or a relay result is due (16 R541) -/
  mirrored : Bool := false
  /-- time asleep in ns, not counted to COND.CMD_LIMIT (04 R144) -/
  asleep : Nat := 0
deriving DecidableEq, Repr

/-- The conductor. -/
structure CondS where
  /-- register set of the operator world (02 R37) -/
  op : Ctx := {}
  /-- register set of the custodian world (02 R37) -/
  cust : Ctx := {}
  /-- the open record (02 R49) -/
  record : Option Record := none
  /-- what its blocked instruction waits for (02 R54) -/
  await : Option Await := none
  /-- custodian records taken in a row (02 R49) -/
  custRun : Nat := 0
deriving DecidableEq, Repr

/-- One capture source (R93). -/
structure Capture where
  /-- latest capture (03 R93) -/
  at_ : TVal := {}
  /-- captures since power-up, saturating at 0xFFFF_FFFF (03 R93) -/
  count : Nat := 0
deriving DecidableEq, Repr

/-- One time trigger (R174). -/
structure Trig where
  /-- armed (05 R174) -/
  armed : Bool := false
  /-- inverted output (05 R174) -/
  invert : Bool := false
  /-- latched start, ns (05 R174) -/
  start : Nat := 0
  /-- latched period, ns; 0 one-shot (05 R174) -/
  period : Nat := 0
  /-- latched width, ns (05 R174) -/
  width : Nat := 0
  /-- index of the next grid point to fire (05 R174) -/
  next : Nat := 0
  /-- output at its active level (05 R174) -/
  active : Bool := false
  /-- timebase ns at which the active level ends (05 R174) -/
  activeEnd : Nat := 0
  /-- last edge flagged late (05 R174) -/
  late : Bool := false
  /-- its start lay in the past when it was armed and it has made no edge yet (05 R174) -/
  pastArm : Bool := false
  /-- grid points passed at the last edge: 0 at an edge that no step skipped (05 R175) -/
  skipped : Nat := 0
  /-- TCAP sources 3 and 4 (03 R93) -/
  cap : Capture := {}
deriving DecidableEq, Repr

/-- The timebase, its discipline, PPS and triggers (chapter 05). -/
structure TimeS where
  /-- timebase in 2^-32 ns: 64 bits of seconds, 32 of nanoseconds, 32 of fraction (log entry 6) (05 R153) -/
  tb : Nat := 0
  /-- increment register (05 R154) -/
  incr : BitVec 40 := 0x0800000000
  /-- the timebase counts (05 R154) -/
  counting : Bool := false
  /-- timebase qualified (05 R155) -/
  qual : Bool := false
  /-- the timebase PLL is locked (05 R155; log entry 121) -/
  tbPll : Bool := false
  /-- the reference has been started (05 R186) -/
  refStarted : Bool := false
  /-- TIME.REF_KIND as read at the first start of the reference (05 R186) -/
  refKind : Option Nat := none
  /-- reference qualified (05 R155) -/
  refQual : Bool := false
  /-- qualified on amplitude alone (05 R155) -/
  refUnver : Bool := false
  /-- rate offset r, ppb (05 R154) -/
  rate : Int := 0
  /-- frequency estimate kept for holdover, ppb (05 R166) -/
  rFreq : Int := 0
  /-- step allowance used (05 R154) -/
  stepUsed : Bool := false
  /-- sealed by TSEAL (05 R154) -/
  sealed_ : Bool := false
  /-- TIME.DISCIPLINE in effect (05 R154) -/
  disc : BitVec 32 := 0
  /-- holdover (05 R168) -/
  holdover : Bool := false
  /-- capture of the last accepted PPS_IN edge, ns (05 R165) -/
  ppsL : Option Nat := none
  /-- the next accepted edge is a first edge (05 R165) -/
  ppsFirst : Bool := true
  /-- consecutive missed pulses (05 R168) -/
  ppsMissed : Nat := 0
  /-- a pulse was missed since the last accepted edge (05 R166) -/
  ppsAfterMiss : Bool := false
  /-- consecutive accepted edges while in holdover (05 R168) -/
  ppsRecover : Nat := 0
  /-- phase error e of the last accepted edge, ns (05 R166) -/
  ppsErr : Int := 0
  /-- consecutive accepted edges within TIME.PPS_LOCKED (05 R167) -/
  ppsRun : Nat := 0
  /-- servo locked (05 R167) -/
  ppsLocked : Bool := false
  /-- rejected edges counted (05 R165) -/
  ppsRejected : Nat := 0
  /-- pulses under 100 ns counted (05 R163) -/
  ppsShort : Nat := 0
  /-- missed pulses counted (05 R168) -/
  ppsMissCount : Nat := 0
  /-- TCAP source 0 (03 R93) -/
  ppsCap : Capture := {}
  /-- TCAP source 5 (03 R93) -/
  slotCap : Capture := {}
  /-- PPS_OUT at its active level (05 R173) -/
  ppsOut : Bool := false
  /-- timebase ns at which the active level ends (05 R173) -/
  ppsOutEnd : Nat := 0
  /-- TRIG0 and TRIG1 (05 R174) -/
  trig : Vector Trig 2 := Vector.replicate 2 {}
  /-- live overrun flags (05 R192) -/
  xovr : BitVec 32 := 0
  /-- flags whose first setting has raised its notice (05 R187) -/
  xovrSeen : BitVec 32 := 0
  /-- flags of the latest latch that a read of XOVR has still to clear (05 R192) -/
  xovrDue : BitVec 32 := 0
  /-- STAT.LATCHID (05 R192) -/
  latchId : BitVec 16 := 0
  /-- the time snapshot latch, 12 words (05 R192) -/
  latch : List Word := [1, 0, 0, 0, 0, 0, 0, 0, 0, 0, 0, 0]
  /-- the core clock runs (01 Table AR-8) -/
  coreOn : Bool := true
  /-- elapsed time in ns while the core clock ran (log entry 3) (07 R250) -/
  coreNs : Nat := 0
  /-- elapsed time in ns since State.reset (the model's own measure of the spans the core measures; log entry 3) (07 R250) -/
  elapsed : Nat := 0
  /-- sum of timebase increments in 2^-32 ns, for AFTER (03 R85) -/
  incSum : Nat := 0
  /-- schedule memory as the clock period in progress began; none between periods (02 R47) -/
  schedOld : Option (Tbl Word) := none
  /-- slice sequencer granted last; DESIGN CHOICE 11, so that SA is the first (log entry 11) (02 R58) -/
  lastGrant : Fin 12 := 11
  /-- increment per 8 ns while the timebase counts unqualified: a free value drawn at the disqualification (log entry 7) (05 R156) -/
  rcIncr : Nat := 1
deriving DecidableEq, Repr

/-- A calendar reading (R176). -/
structure RtcTime where
  /-- year 0-9999 (05 R176) -/
  year : Nat := 0
  /-- month 1-12 (05 R182) -/
  month : Nat := 1
  /-- day 1-31 (05 R182) -/
  day : Nat := 1
  /-- hours (05 R176) -/
  hour : Nat := 0
  /-- minutes (05 R176) -/
  min : Nat := 0
  /-- seconds (05 R176) -/
  sec : Nat := 0
deriving DecidableEq, Repr

/-- Alarm settings as they cross to the backup domain: the alarm's words, and arming (true) or disarming (05 R187, R191). -/
structure AlarmSet where
  /-- TIME word (05 R193) -/
  time : Word := 0
  /-- DATE word (05 R193) -/
  date : Word := 0
  /-- arm or disarm, none when only the words are set (05 R193) -/
  arm : Option Bool := none
deriving DecidableEq, Repr

/-- The backup-domain RTC (R176-R185). -/
structure RtcS where
  /-- time and date: 0000-01-01 00:00:00 (05 R182) -/
  t : RtcTime := {}
  /-- weekday 0-6 (05 R182) -/
  wday : Nat := 0
  /-- elapsed time at which the prescaler held presc and the trim window winP pulses; pulses are taken at the crystal's nominal rate (log entry 3); DESIGN CHOICE 0 (05 R176) -/
  secAt : Nat := 0
  /-- the 15-bit prescaler at secAt (05 R176) -/
  presc : Nat := 0
  /-- crystal pulses of the trim window in progress at secAt (log entry 3); DESIGN CHOICE 0 (05 R181) -/
  winP : Nat := 0
  /-- trim count in effect (05 R193) -/
  trim : Int := 0
  /-- trim count written (05 R193) -/
  trimNew : Int := 0
  /-- RTC_STATUS SET (05 Table TM-4) -/
  set_ : Bool := false
  /-- ARMED (05 Table TM-4) -/
  armed : Bool := false
  /-- FIRED (05 Table TM-4) -/
  fired : Bool := false
  /-- INFLIGHT (05 Table TM-4) -/
  inflight : Bool := false
  /-- STOPPED (05 Table TM-4) -/
  stopped : Bool := false
  /-- the crystal has stopped and not restarted (05 R182) -/
  crystalOff : Bool := false
  /-- WRAPPED (05 Table TM-4) -/
  wrapped : Bool := false
  /-- TRIMPEND (05 Table TM-4) -/
  trimpend : Bool := false
  /-- LATE (05 Table TM-4) -/
  late : Bool := false
  /-- a commit offered while one is in flight: time, date, TIME word, DATE word (05 R179) -/
  staged : Option (Bool × Bool × Word × Word) := none
  /-- a trim is on its way to the backup domain (05 R187) -/
  trimBusy : Bool := false
  /-- a trim offered while one is on its way (05 R187) -/
  trimStaged : Option Int := none
  /-- alarm settings are on their way to the backup domain (05 R187) -/
  alarmBusy : Bool := false
  /-- alarm settings offered while others are on their way (05 R187) -/
  alarmStaged : Option AlarmSet := none
  /-- RTC_STATUS as latched at the main power-up; 0 once the alarm is next armed (05 R185; log entry 79) -/
  statusAt : Nat := 0
  /-- alarm TIME word (05 R193) -/
  alarmTime : Word := 0
  /-- alarm DATE word (05 R193) -/
  alarmDate : Word := 0
deriving DecidableEq, Repr

/-- Parameters (R60-R66). -/
structure ParS where
  /-- values written, by id * 16 + scope; unlisted: the default (02 R66) -/
  vals : Tbl Word := []
  /-- pending slot-latched values, by id * 16 + scope (02 R63) -/
  latched : Tbl (Option Word) := []
  /-- sealed parameters written since power-up (02 R63) -/
  sealedDone : List Nat := []
  /-- read-only counts, by id * 16 + scope, saturating at 0xFFFF_FFFF (02 R63) -/
  counts : Tbl Nat := []
deriving DecidableEq, Repr

/-- One ring pointer block (Table HI-7). -/
structure Ring where
  /-- BASE (15 R490) -/
  base : BitVec 64 := 0
  /-- SIZE, 16 bits; 0 stops the ring (15 R490) -/
  size : Nat := 0
  /-- CONS, 16 bits (15 R490) -/
  cons : Nat := 0
  /-- DEVIDX, 16 bits (15 R490) -/
  dev : Nat := 0
  /-- BUFBASE (15 R490) -/
  bufbase : BitVec 64 := 0
  /-- last accepted producer index (host-produced rings) (15 R493) -/
  lastP : Nat := 0
  /-- descriptors the device has written and the host not yet consumed, oldest first (15 R492) -/
  unread : List (List Word) := []
deriving DecidableEq, Repr

/-- What a transmit ring has open (R503). -/
structure TxRing where
  /-- an item is open on this ring (15 R503) -/
  open_ : Bool := false
  /-- an SOI was refused with this status; later descriptors up to the next SOI get it (15 R503) -/
  refused : Option Word := none
  /-- the last descriptor written back, eight words (15 R503) -/
  lastWb : List Word := []
deriving DecidableEq, Repr

/-- One host world. -/
structure WHost where
  /-- ring pointer blocks 0-19 (15 R489) -/
  rings : Vector Ring 20 := Vector.replicate 20 {}
  /-- transmit ring state (15 R503) -/
  tx : Vector TxRing 8 := Vector.replicate 8 {}
  /-- ring the device stays on until its EOI (15 R503) -/
  txCur : Option (Fin 8) := none
  /-- next ring in turn (15 R503) -/
  txNext : Nat := 0
  /-- queue served last on each receive ring (15 R500) -/
  rxTurn : Vector Nat 8 := Vector.replicate 8 0
  /-- VERS.HELLO (15 R485) -/
  hello : BitVec 8 := 0xFF
  /-- PSUM.TXDONE, this world's copy (15 R487) -/
  txdone : BitVec 8 := 0
  /-- PSUM.HOSTSILENT, this world's copy (15 R487) -/
  hostSilent : Bool := false
  /-- PSUM.LPOVL, this world's copy (15 R487) -/
  lpovl : Bool := false
  /-- PSUM.FALLBACK, this world's copy (15 R487) -/
  fallback : Bool := false
  /-- PSUM.SEQ (15 R487) -/
  psumSeq : BitVec 16 := 0
  /-- bits 47:0 as last accounted in SEQ (15 R487) -/
  psumShown : BitVec 48 := 0x200000000000
  /-- latch of the last PSUM read (15 R486) -/
  psumLatch : BitVec 64 := 0
  /-- a change waits for a mirror write (15 R488) -/
  mirrorDue : Bool := false
  /-- elapsed time of the last mirror write (15 R488) -/
  mirrorAt : Nat := 0
  /-- value that the last mirror write wrote (15 R488) -/
  mirrorOut : BitVec 64 := 0
deriving DecidableEq, Repr

/-- The host interface (chapter 15). -/
structure HostS where
  /-- operator world (15 R489) -/
  op : WHost := {}
  /-- custodian world (15 R489) -/
  cust : WHost := {}
  /-- the host link, once chosen (15 R481) -/
  link : Option HostLink := none
  /-- VERS.HIF_MIN (15 R485) -/
  hifMin : BitVec 8 := 0
  /-- VERS.HIF_MAX (15 R485) -/
  hifMax : BitVec 8 := 0
  /-- VERS.HIF_NEG (15 R485) -/
  hifNeg : BitVec 8 := 0
  /-- VERS.SCHEMA_MIN (15 R485) -/
  schemaMin : BitVec 16 := 0
  /-- VERS.SCHEMA_MAX (15 R485) -/
  schemaMax : BitVec 16 := 0
  /-- VERS.SCHEMA_APPLIED (15 R485) -/
  schemaApplied : BitVec 16 := 0
  /-- schema of the current settings sequence (15 R509) -/
  setSchema : Option (BitVec 16) := none
  /-- last part applied (15 R509) -/
  setPart : Nat := 0
  /-- parts of the sequence (15 R509) -/
  setParts : Nat := 0
  /-- PSUM.SETTINGS (15 R487) -/
  settingsBad : Bool := false
  /-- a settings sequence has been applied with ST_OK since start (03 R119) -/
  setupDone : Bool := false
  /-- held completion notices and halt records (72 at most), in order; the flag marks a halt record (15 R499) -/
  held : List (World × Bool × List Word) := []
  /-- elapsed time of the last PSUM read (07 R251) -/
  lastPsum : Nat := 0
  /-- ST_HOST_SILENT is shown (07 R251) -/
  silent : Bool := false
  /-- a pending SETUP: world, ticket, the item that holds the block (03 R116) -/
  setup : Option (World × Nat × Item) := none
  /-- what the checks of its block have found: the offset of the first failure (15 R509) -/
  setupBad : Option Nat := none
  /-- the PCIe link is trained (19 R602) -/
  pcieUp : Bool := false
  /-- words that the last QSPI read returned (15 R480) -/
  qspiOut : List Word := []
  /-- ring memory, 262,144 words; DESIGN CHOICE 0 (log entry 4) (15 R480) -/
  ringMem : Tbl Word := []
deriving DecidableEq, Repr

/-- An entry of the coalescing table (R249). -/
structure Notice where
  /-- KIND (07 R249) -/
  kind : Nat := 0
  /-- SUBJECT (07 R249) -/
  subject : Word := 0
  /-- STATUS (07 R249) -/
  status : Word := 0
  /-- COUNT, 16 bits, saturating (07 R249) -/
  count : Nat := 0
  /-- FIRST_TIME (07 R249) -/
  first : TVal := {}
  /-- LAST_TIME (07 R249) -/
  last : TVal := {}
  /-- LAST_REPORTER (07 R249) -/
  reporter : Word := 0
  /-- elapsed time at which it opened (07 R250) -/
  openedAt : Nat := 0
  /-- elapsed time of its last report (07 R250) -/
  lastAt : Nat := 0
  /-- closed (07 R250) -/
  closed : Bool := false
  /-- core time of the LEARNACK that declined it (12 R405) -/
  declined : Option Nat := none
  /-- its first descriptor has been posted (07 R250) -/
  firstPosted : Bool := false
deriving DecidableEq, Repr

/-- The coalescing table: 1,023 ordinary entries and the overflow entry (R249). -/
structure NoticeS where
  /-- ordinary entries in use, oldest first (07 R249) -/
  entries : List Notice := []
  /-- the overflow entry, when open (07 R249) -/
  overflow : Option Notice := none
  /-- entries marked lost by an error of their region (01 Table AR-7) -/
  lost : Nat := 0
deriving DecidableEq, Repr

/-- A tap of a channel-plan segment (09 R288). -/
structure Tap where
  /-- CHAN (09 R288) -/
  chan : Nat := 0
  /-- OFFSET, kHz, 13 bits signed (09 R288) -/
  offset : Int := 0
  /-- FAMILY; 0 unused (09 R288) -/
  family : Nat := 0
deriving DecidableEq, Repr

/-- A segment of a channel plan (09 R287, R288). -/
structure Seg where
  /-- CENTRE, kHz (09 R288) -/
  centre : Nat := 0
  /-- FETUNE, 24 bits (09 R288) -/
  fetune : Nat := 0
  /-- FETUNE word's reserved bits 31:24 (09 R288) -/
  rsv : Nat := 0
  /-- TAP 0-15 (09 R288) -/
  taps : Vector Tap 16 := Vector.replicate 16 {}
deriving DecidableEq, Repr

/-- A calibration that runs, or waits for the end of a transmission (10 R325-R328). -/
structure CalRun where
  /-- a temperature calibration; otherwise commanded by CAL (10 R327) -/
  temp : Bool := false
  /-- mask (04 R126) -/
  mask : Nat := 0
  /-- waits for the end of a transmission (10 R326) -/
  waiting : Bool := false
  /-- elapsed time at which the calibrations end, or the bound on it while waiting (10 R325) -/
  endAt : Nat := 0
  /-- its calibrate word was not acknowledged (10 R352) -/
  wordFail : Bool := false
  /-- RF.EXT_CAL_TIME has elapsed after its acknowledged calibrate word (10 R352) -/
  extDone : Bool := false
  /-- world and ticket of a conductor's CAL (04 R126) -/
  ticket : Option (World × Nat) := none
  /-- the slice was locked when it began (10 R325) -/
  wasLocked : Bool := false
  /-- elapsed time at which the regulators of a slice that was Off are ready and it begins (10 R318) -/
  startAt : Nat := 0
  /-- elapsed time at which its image rejection ends; 0 it has none (10 R327) -/
  irEnd : Nat := 0
  /-- last temperature measured until then (10 R327) -/
  irTemp : Int := 0
  /-- a temperature trigger has arisen during it (10 R330) -/
  trigger : Bool := false
deriving DecidableEq, Repr

/-- The receive window of an RXWIN (04 R127, R128). -/
structure Win where
  /-- roster index, none for a shared window (04 R127) -/
  node : Option Nat := none
  /-- open time, timebase ns (04 R127) -/
  openAt : Nat := 0
  /-- close time, timebase ns (04 R127) -/
  closeAt : Nat := 0
  /-- predicted arrival, timebase ns (04 R127) -/
  pred : Int := 0
  /-- asks for a reservation (09 R298) -/
  wantRes : Bool := false
  /-- the slice's current channel tap at its opening (04 R127) -/
  tap : Nat := 0
  /-- open, or opened (04 R128) -/
  opened : Bool := false
  /-- its close time has passed; it waits for its reception (04 R128) -/
  closed : Bool := false
  /-- reservation admitted (09 R298) -/
  res : Bool := false
  /-- lane of the reception that keeps it (04 R128) -/
  lane : Option Nat := none
  /-- a detection has been bound to the reservation (09 R299) -/
  bound : Bool := false
  /-- a PHR has passed (04 R128) -/
  passed : Bool := false
  /-- measured start of that frame, ns (04 R128) -/
  rxStart : Nat := 0
  /-- PHR failures (04 R128) -/
  phrFails : Nat := 0
  /-- detections refused (09 R301) -/
  refused : Nat := 0
  /-- completion waits for the Enh-Ack; result kept below (04 R128) -/
  ackDue : Bool := false
  /-- status to complete with once the Enh-Ack has left S1 (04 R128) -/
  res0 : Nat := 0
  /-- its w1 (04 R128) -/
  res1 : Nat := 0
deriving DecidableEq, Repr

/-- A TXF up to LAUNCHED (04 R129). -/
structure TxfArm where
  /-- launch operand, ns (04 R129) -/
  ts : Nat := 0
  /-- LATEST, ns (04 R129) -/
  latest : Nat := 0
  /-- queue of mode 0; none in mode 1 (04 R129) -/
  q : Option Nat := none
  /-- job reference of mode 1 (04 R129) -/
  heldRef : Nat := 0
  /-- queue the held item was popped from (03 R95) -/
  heldFrom : Nat := 0
  /-- that queue's flush count at the pop (03 R95) -/
  heldFlush : Nat := 0
  /-- job reference of the selected frame (04 R129) -/
  sel : Option Nat := none
  /-- timebase ns at which it was issued (04 R129) -/
  since : Nat := 0
deriving DecidableEq, Repr

/-- One active data subcarrier of a payload symbol (08 R265). -/
structure Carrier where
  /-- data subcarrier (08 R260) -/
  k : Nat := 0
  /-- bits of its constellation, which give the scale (08 Table OM-7) -/
  bits : Nat := 0
  /-- I, before scaling (08 Table OM-7) -/
  i : Int := 0
  /-- Q, before scaling (08 Table OM-7) -/
  q : Int := 0
deriving DecidableEq, Repr

/-- A part of an OFDM frame on the air (08 R253, R257, R265-R268). -/
inductive AirSym where
  /-- the STF -/
  | stf
  /-- the LTF: its sequence on every data and pilot subcarrier -/
  | ltf (seq : List Int)
  /-- symbol of the PHR, the XHR or the payload: its active data subcarriers and its pilots -/
  | data (cs pilots : List Carrier)
  /-- midamble: the LTF's sequence on every data and pilot subcarrier -/
  | midamble (seq : List Int)
deriving DecidableEq, Repr

/-- The last frame that a slice's S11 gave to S12 (08 R255-R268). -/
structure AirFrame where
  /-- PHY mode (08 Table OM-3) -/
  mode : Nat := 0
  /-- PHR Rate field of an OFDM frame (08 R257) -/
  rate : Nat := 0
  /-- PHR frame length: octets of the PSDU (08 R257) -/
  len : Nat := 0
  /-- PHR Scrambler field of an OFDM frame (08 R267) -/
  seed : Nat := 0
  /-- preamble octets of an FSK frame (08 R255) -/
  preamble : Nat := 0
  /-- PHR data whitening field of an FSK frame (08 R255) -/
  whiten : Bool := false
  /-- PHR FCS type field of an FSK frame: two octets (08 R255) -/
  shortFcs : Bool := false
  /-- XHR of a bit-loaded frame, bit 0 first (08 R258) -/
  xhr : List Bool := []
  /-- PSDU (08 R256) -/
  psdu : List Byte := []
  /-- an OFDM frame's STF, LTF, header symbols and payload symbols in order (08 R253, R265) -/
  syms : List AirSym := []
  /-- an FSK frame's bits in order: preamble, SFD, PHR, PSDU (08 R255) -/
  bits : List Bool := []
  /-- local oscillator, kHz (10 R315) -/
  lo : Int := 0
  /-- offset of its tap from the local oscillator, kHz (10 R315) -/
  offset : Int := 0
deriving DecidableEq, Repr

/-- A transmission that is LAUNCHED or later (04 R129, 10 R317-R345). -/
structure TxRun where
  /-- the frame (11 R370) -/
  item : Item := {}
  /-- queue it returns to; none when it came from a holder (11 R366) -/
  q : Option Nat := none
  /-- for a held frame, the queue it was popped from (03 R95) -/
  heldFrom : Nat := 0
  /-- that queue's flush count at the pop (03 R95) -/
  heldFlush : Nat := 0
  /-- launch operand, ns (04 R130) -/
  ts : Nat := 0
  /-- launch instant, ns (04 R129) -/
  launch : Nat := 0
  /-- when its launch instant was fixed, ns (10 R340) -/
  fixedAt : Nat := 0
  /-- end of the frame, ns (08 R256) -/
  endAt : Nat := 0
  /-- AIRING (04 R129) -/
  airing : Bool := false
  /-- AIRED; the ramp-down and the blanking tail go on (04 R129) -/
  aired : Bool := false
  /-- its channel tap (10 R322) -/
  tap : Nat := 0
  /-- its PHY mode (08 R284) -/
  mode : Nat := 0
  /-- S11's copy of the profile of a bit-loaded frame (08 R263) -/
  map : List Word := []
  /-- that profile: index, district times 256 (08 R258) -/
  prof : Nat := 0
  /-- generation of that copy, modulo 4 (08 R258) -/
  pgen : Nat := 0
  /-- its output power, 0.5 dB steps (10 R336) -/
  power : Int := 0
  /-- requests an acknowledgement (04 R129) -/
  ackReq : Bool := false
  /-- its TXF still waits for it (04 R129) -/
  byTxf : Bool := true
  /-- lowest return loss measured, when a mismatch was seen (10 R344) -/
  minLoss : Option Nat := none
  /-- power reduced by 6 dB (10 R344) -/
  backoff : Bool := false
deriving DecidableEq, Repr

/-- An Enh-Ack due or on the air (01 R21, 10 R338-R340). -/
structure EnhAck where
  /-- lane of its frame (10 R340) -/
  lane : Nat := 0
  /-- launch instant, ns (10 R340) -/
  launch : Nat := 0
  /-- when its launch instant was fixed, ns (10 R340) -/
  fixedAt : Nat := 0
  /-- end of the Enh-Ack, ns (08 R256) -/
  endAt : Nat := 0
  /-- tap of the frame (10 R322) -/
  tap : Nat := 0
  /-- PHY mode (08 R285) -/
  mode : Nat := 0
  /-- map of a bit-loaded frame (08 R285) -/
  map : List Word := []
  /-- its profile: index, district times 256 (08 R285) -/
  prof : Nat := 0
  /-- generation of that map, modulo 4 (08 R285) -/
  pgen : Nat := 0
  /-- built by S7 and taken by S10 (10 R339) -/
  built : Bool := false
  /-- AIRING (06 R219) -/
  airing : Bool := false
  /-- its octets as S7 built them (06 R218) -/
  octets : List Byte := []
  /-- job reference of the frame it acknowledges (01 R21) -/
  job : Nat := 0
  /-- aerial port (10 R342) -/
  port : Nat := 0
  /-- the slice's receive window waits for it (04 R128) -/
  forWin : Bool := false
  /-- it lost a conflict and is not sent (10 R340) -/
  lost : Bool := false
  /-- its output power (10 R336) -/
  power : Int := 0
deriving DecidableEq, Repr

/-- The acknowledgement wait of a frame (06 R224). -/
structure AckWait where
  /-- the frame (06 R224) -/
  item : Item := {}
  /-- queue it returns to (06 R224) -/
  q : Option Nat := none
  /-- for a held frame, the queue it was popped from (03 R95) -/
  heldFrom : Nat := 0
  /-- that queue's flush count at the pop (03 R95) -/
  heldFlush : Nat := 0
  /-- launch operand of its TXF (04 R130) -/
  ts : Nat := 0
  /-- launch instant (04 R130) -/
  launch : Nat := 0
  /-- tap it listens on (10 R322) -/
  tap : Nat := 0
  /-- open, ns (06 R224) -/
  openAt : Nat := 0
  /-- close, ns (06 R224) -/
  closeAt : Nat := 0
  /-- open (09 R298) -/
  opened : Bool := false
  /-- it has opened and asked for its reservation (09 R298) -/
  asked : Bool := false
  /-- reservation admitted (09 R298) -/
  res : Bool := false
  /-- a detection has been bound (09 R299) -/
  bound : Bool := false
  /-- lane of its reception (06 R224) -/
  lane : Option Nat := none
  /-- detections refused (09 R301) -/
  refused : Nat := 0
  /-- its TXF waits for it (04 R129) -/
  byTxf : Bool := true
  /-- mismatch seen during its transmission (10 R344) -/
  minLoss : Option Nat := none
deriving DecidableEq, Repr

/-- A block of a slice's XIQ transmit direction (09 R304). -/
structure XiqTx where
  /-- TXON: the block's samples are to be radiated (09 Table CH-6) -/
  on_ : Bool := false
  /-- its samples are those of the frame; otherwise they are zero (09 R304) -/
  frame : Bool := false
deriving DecidableEq, Repr

/-- The measures of the last frame whose PHR passed (04 R133). -/
structure LastQ where
  /-- RSSI (04 R133) -/
  rssi : Int := 0
  /-- SNR (04 R133) -/
  snr : Int := 0
  /-- carrier frequency offset (04 R133) -/
  cfo : Int := 0
  /-- roster index (04 R133) -/
  idx : Nat := 0x1FFFF
  /-- link quality (04 R133) -/
  lq : Nat := 0
  /-- its lane and receive timestamp, by which its later measures find it (04 R133) -/
  ofLane : Nat := 0
  /-- its receive timestamp, ns (04 R133) -/
  start : Nat := 0
deriving DecidableEq, Repr

/-- A slice: front-end, channelizer, windows, transmissions (chapters 04, 08, 09, 10). -/
structure SliceS where
  /-- channel plan (09 R287) -/
  plan : Vector Seg 4 := Vector.replicate 4 {}
  /-- unpowered, or not yet tuned or calibrated since the power mode powered it (10 R317) -/
  off : Bool := true
  /-- Offline (01 R15) -/
  offline : Bool := false
  /-- a halt has turned the receiver off until the sequencer starts (02 R69) -/
  rxOff : Bool := false
  /-- a CAL has completed with ST_OK since the fault (02 R36) -/
  calOk : Bool := false
  /-- the last CAL completed with ST_OK and no lock has followed (01 R14) -/
  calDoneOk : Bool := false
  /-- segment tuned to (09 R291) -/
  tuned : Option (Fin 4) := none
  /-- current channel tap (09 R291) -/
  tap : Option (Fin 16) := none
  /-- locked (10 R320) -/
  locked : Bool := false
  /-- timebase ns at which it last became locked (04 R130) -/
  lockAt : Nat := 0
  /-- segment the front-end stands at, locked, while a change to the tuned one waits (10 R324) -/
  oldSeg : Option (Fin 4) := none
  /-- the synthesiser or external front-end is moving or unlocked (Settling) (10 R317) -/
  moving : Bool := false
  /-- segment centre the synthesiser stands at, kHz; 0 none (09 R290) -/
  freq : Nat := 0
  /-- the tuned segment was changed or cleared since the synthesiser last moved (10 R320) -/
  fromNone : Bool := false
  /-- elapsed time bounding the lock (10 R320) -/
  lockBy : Nat := 0
  /-- the synthesiser change waits (R324) (10 R324) -/
  retune : Bool := false
  /-- elapsed time of a loss of lock not yet regained (10 R323) -/
  lostAt : Option Nat := none
  /-- notice 0x0103 raised for it (10 R323) -/
  lossTold : Bool := false
  /-- calibration (10 R325) -/
  cal : Option CalRun := none
  /-- temperature calibration pending (10 R327) -/
  tcalPend : Bool := false
  /-- elapsed time since which it pends (10 R329) -/
  tcalSince : Nat := 0
  /-- notice 0x0101 raised for it (10 R329) -/
  tcalTold : Bool := false
  /-- RF.TEMP, 0.125 degC; DESIGN CHOICE 25 degC (log entry 9) (10 R327) -/
  temp : Int := 200
  /-- temperature at the end of the last image-rejection calibration; DESIGN CHOICE 25 degC (log entry 9) (10 R327) -/
  tempRef : Int := 200
  /-- gain state; DESIGN CHOICE 0 (log entry 9) (10 R332) -/
  gain : Nat := 0
  /-- elapsed time of the AGC's last step (10 R333) -/
  agcAt : Nat := 0
  /-- gain states that stood before, each with the timebase ns at which it ended, latest first (10 R335) -/
  gainLog : List (Nat × Nat) := []
  /-- aerial selection: 0, 1, 2 diversity (10 R341) -/
  sel : Nat := 0
  /-- tuner state (10 R341) -/
  tuner : Nat := 0
  /-- listening port (10 R342) -/
  listen : Nat := 0
  /-- SNR of the last 16 accepted frames on port 0 (10 R342) -/
  snr0 : List Int := []
  /-- SNR of the last 16 accepted frames on port 1 (10 R342) -/
  snr1 : List Int := []
  /-- quiet intervals of at least 1 ms counted (10 R342) -/
  quiet : Nat := 0
  /-- mismatch latch (10 R345) -/
  mismatch : Bool := false
  /-- last loss measured, 0.25 dB (10 R345) -/
  lastLoss : Nat := 0
  /-- last static controls acknowledged (10 R349) -/
  statics : Nat := 0
  /-- PA inhibit forced until a static-controls word is acknowledged (10 R349) -/
  inhibit : Bool := false
  /-- elapsed time at which the tuning word was acknowledged (10 R351) -/
  settleFrom : Option Nat := none
  /-- XIQ lane state code (09 Table CH-7) -/
  xiq : Nat := 0
  /-- elapsed time of its last change (09 R308) -/
  xiqSince : Nat := 0
  /-- consecutive well-formed blocks in training (09 R308) -/
  xiqGood : Nat := 0
  /-- elapsed time of the last well-formed block (09 R309) -/
  xiqLast : Nat := 0
  /-- malformed marks of the last 256 blocks, newest first (09 R309) -/
  xiqBad : List Bool := []
  /-- receive window (04 R127) -/
  win : Option Win := none
  /-- armed TXF (04 R129) -/
  txf : Option TxfArm := none
  /-- Transmitting: from blanking start until the ramp-down has ended (10 R317) -/
  txOn : Bool := false
  /-- transmission (04 R129) -/
  tx : Option TxRun := none
  /-- Enh-Acks due or on the air, earliest launch first (01 R21) -/
  enhAcks : List EnhAck := []
  /-- acknowledgement wait (06 R224) -/
  ackWait : Option AckWait := none
  /-- blanked (09 R302) -/
  blank : Bool := false
  /-- end of blanking, ns (09 R302) -/
  blankEnd : Nat := 0
  /-- end of the ramp-down, ns (10 R337) -/
  rampEnd : Nat := 0
  /-- taps deaf for want of a watcher (09 R312) -/
  deaf : Vector Bool 16 := Vector.replicate 16 false
  /-- end of each watcher's hold-off, timebase ns (09 R294) -/
  holdOff : Vector (Option Nat) 16 := Vector.replicate 16 none
  /-- idle noise floor of each tap, 0.25 dBm; none not measured (08 R278) -/
  floors : Vector (Option Int) 16 := Vector.replicate 16 none
  /-- elapsed time at which each tap's noise floor window in progress began; DESIGN CHOICE 0 (log entry 117) (08 R278) -/
  nfFrom : Vector Nat 16 := Vector.replicate 16 0
  /-- spans of receptions that have ended: tap, elapsed time from and to (08 R278) -/
  nfRx : List (Nat × Nat × Nat) := []
  /-- spans of transmissions: elapsed time from and to, the 100 us after included (08 R278) -/
  nfTx : List (Nat × Nat) := []
  /-- TCAP source 1 (03 R93) -/
  rxCap : Capture := {}
  /-- TCAP source 2 (03 R93) -/
  txCap : Capture := {}
  /-- FECTLn_PAENk of slices E-L: timebase ns of its last rise; it falls at rampEnd (10 R350) -/
  paRise : Nat := 0
  /-- what S11 gave to S12 last (08 R265) -/
  air : Option AirFrame := none
  /-- instant at which S12's output started for the last launch, the slice's factory delay apart, ns (05 R170) -/
  outAt : Int := 0
  /-- slices E-L: control octet and content of the block it sends (09 R304) -/
  xiqOut : XiqTx := {}
  /-- last frame whose PHR passed since the slice started (04 R133) -/
  lastQ : Option LastQ := none
  /-- job reference of the last transmission that reached LAUNCHED (03 R117) -/
  lastTx : Nat := 0
  /-- FAULTS (18 Table SF-4) -/
  faults : Nat := 0
  /-- LASTSTAT (18 Table SF-4) -/
  lastStat : Nat := 0
  /-- LASTCAUSE (18 Table SF-4) -/
  lastCause : Nat := 0
deriving DecidableEq, Repr

/-- A frame that waits for admission on its lane (09 R296). -/
structure RxFrame where
  /-- octets (08 R273) -/
  data : List Byte := []
  /-- measures (08 R277) -/
  q : Quality := {}
deriving DecidableEq, Repr

/-- A lane that is held (09 R295-R300). -/
structure Lane where
  /-- slice (09 R296) -/
  sl : Fin 12 := 0
  /-- tap (09 R295) -/
  tap : Nat := 0
  /-- mode family that the tap listens for (09 R288) -/
  fam : Nat := 0
  /-- elapsed time at its assignment (08 R278) -/
  since : Nat := 0
  /-- its detection was reserved (09 R299) -/
  reserved : Bool := false
  /-- its detection fell in an acknowledgement wait (06 R224) -/
  forAck : Bool := false
  /-- its detection fell in the slice's receive window (04 R128) -/
  inWin : Bool := false
  /-- detection time, timebase ns (09 R294) -/
  detAt : Nat := 0
  /-- detection power, 0.25 dBm (08 R269) -/
  power : Int := 0
  /-- PHR passed (08 R273) -/
  passed : Bool := false
  /-- elapsed time at which it passed (06 R222) -/
  passAt : Nat := 0
  /-- RSSI latched at the synchronisation point, 0.25 dBm (08 R277) -/
  rssi : Int := 0
  /-- carrier frequency offset, Hz (08 R277) -/
  cfo : Int := 0
  /-- FSK: its PSDU is whitened (08 R255) -/
  whiten : Bool := false
  /-- OFDM: Scrambler field of its PHR (08 R267) -/
  seed : Nat := 0
  /-- receive timestamp, ns (05 R170) -/
  start : Nat := 0
  /-- timestamp unqualified (05 R172) -/
  unqual : Bool := false
  /-- declared end, ns (09 R293) -/
  endAt : Nat := 0
  /-- PHY mode of reception (08 R272) -/
  mode : Nat := 0
  /-- the lane's copy of the map of a bit-loaded frame (08 R264) -/
  map : List Word := []
  /-- its profile index (08 R264) -/
  prof : Nat := 0
  /-- district of that profile (08 R264) -/
  pdist : Bool := false
  /-- PGEN of the frame (08 R264) -/
  pgen : Nat := 0
  /-- MID (08 R258) -/
  mid : Nat := 0
  /-- PSDU length declared (08 R273) -/
  len : Nat := 0
  /-- FCS octets (08 R273) -/
  fcs : Nat := 4
  /-- requests an acknowledgement (08 R273) -/
  ackReq : Bool := false
  /-- pending detection: time and power (08 R274) -/
  pend : Option (Nat × Int) := none
  /-- complete frame waiting for admission (09 R296) -/
  out : Option RxFrame := none
  /-- aerial port that receives it (10 R342) -/
  port : Nat := 0
deriving DecidableEq, Repr

/-- Health of one engine kind (01 R7, R10; Table SF-4). -/
structure Stage where
  /-- usable units (01 Table AR-3) -/
  usable : Nat := 0
  /-- working engines of a healthy stage (01 Table AR-3) -/
  full : Nat := 0
  /-- the spare is healthy (01 R7) -/
  spare : Bool := true
  /-- a self-test step is in progress (09 R310) -/
  testing : Bool := false
  /-- elapsed time at which the test in progress began, or the last one ended; none before the first (09 R310) -/
  testAt : Option Nat := none
  /-- SUBST (18 Table SF-4) -/
  subst : Nat := 0
  /-- PASSED (18 Table SF-4) -/
  passedN : Nat := 0
  /-- FAILED (18 Table SF-4) -/
  failedN : Nat := 0
  /-- LOST (18 Table SF-4) -/
  lost : Nat := 0
deriving DecidableEq, Repr

/-- Engine stages, memory regions, the HEALTH window (01, 18). -/
structure HealthS where
  /-- S3 watchers (01 Table AR-3) -/
  watch : Stage := { usable := 192, full := 192 }
  /-- S3 acquisition engines (01 Table AR-3) -/
  acq : Stage := { usable := 64, full := 64 }
  /-- S4 (01 Table AR-3) -/
  s4 : Stage := { usable := 64, full := 64 }
  /-- S5 (01 Table AR-3) -/
  s5 : Stage := { usable := 64, full := 64 }
  /-- S6 (01 Table AR-3) -/
  s6 : Stage := { usable := 4, full := 4 }
  /-- S7 (01 Table AR-3) -/
  s7 : Stage := { usable := 8, full := 8 }
  /-- S8 (01 Table AR-3) -/
  s8 : Stage := { usable := 4, full := 4 }
  /-- S9 (01 Table AR-3) -/
  s9 : Stage := { usable := 2, full := 2 }
  /-- S10 (01 Table AR-3) -/
  s10 : Stage := { usable := 12, full := 12 }
  /-- S11 (01 Table AR-3) -/
  s11 : Stage := { usable := 12, full := 12 }
  /-- S12 (01 Table AR-3) -/
  s12 : Stage := { usable := 12, full := 12 }
  /-- jobs lost in S1 (18 Table SF-4) -/
  sliceLost1 : Nat := 0
  /-- jobs lost in S2 (18 Table SF-4) -/
  sliceLost2 : Nat := 0
  /-- corrected ECC errors of the regions of Table AR-7 (01 R24) -/
  corrected : Vector Nat 13 := Vector.replicate 13 0
  /-- uncorrectable errors of the regions (01 R24) -/
  uncorr : Vector Nat 13 := Vector.replicate 13 0
  /-- memory words that hold an error not yet read (log entry 53) (01 R24) -/
  errs : List MemErr := []
  /-- chip fault held: CAUSE of Table SF-3, 0 none (01 R16) -/
  chipFault : Nat := 0
  /-- LATCHID (18 Table SF-3) -/
  latchId : BitVec 16 := 0
  /-- the window's latch, 128 words from 0x0600; [] before the first latch (18 R579) -/
  latch : List Word := []
deriving DecidableEq, Repr

/-- A word that waits on a FECTL port (10 R346-R348). -/
structure FeWord where
  /-- slice (10 R348) -/
  sl : Fin 12 := 0
  /-- TYPE: 0 tuning, 1 static controls, 2 register write, 3 calibrate (10 R347) -/
  typ : Nat := 0
  /-- PAYLOAD (10 R347) -/
  payload : Nat := 0
  /-- queued by TUNE (10 R348) -/
  fromTune : Bool := false
deriving DecidableEq, Repr

/-- The twelve slices, the lanes and the FECTL ports. -/
structure RadioS where
  /-- slices A-L (01) -/
  slices : Vector SliceS 12 := Vector.replicate 12 {}
  /-- lanes 0-63 (09 R296) -/
  lanes : Vector (Option Lane) 64 := Vector.replicate 64 none
  /-- words waiting on FECTL0 (10 R348) -/
  fe0 : List FeWord := []
  /-- words waiting on FECTL1 (10 R348) -/
  fe1 : List FeWord := []
  /-- SEQ of FECTL0's next word; DESIGN CHOICE 0 (log entry 9) (10 R347) -/
  feSeq0 : BitVec 4 := 0
  /-- SEQ of FECTL1's next word; DESIGN CHOICE 0 (log entry 9) (10 R347) -/
  feSeq1 : BitVec 4 := 0
  /-- the NFLOOR window's latch, 48 words; [] before the first read (08 R279) -/
  nfLatch : List Word := []
deriving DecidableEq, Repr

/-- The slot grid, the time parent and the per-slot counts (chapter 06). -/
structure GridS where
  /-- 0 stopped, 1 running, 2 acquiring (06 R196) -/
  mode : Nat := 0
  /-- ASN of the slot in progress, or the last held; 40 bits (06 R195) -/
  asn : Nat := 0
  /-- boundary of the slot in progress, timebase ns (06 R195) -/
  bound : Nat := 0
  /-- next boundary, timebase ns (06 R195) -/
  nextAt : Nat := 0
  /-- ASN of the next boundary (06 R195) -/
  nextAsn : Nat := 0
  /-- slot length L in ns (06 R195) -/
  len : Nat := 10000000
  /-- the first boundary has fallen (06 R196) -/
  fallen : Bool := false
  /-- coreNs at the last stopped-grid tick, or at the stop (11 R369) -/
  lastTick : Nat := 0
  /-- incSum at that instant (11 R369) -/
  tickInc : Nat := 0
  /-- joins admitted this slot, district 0 (07 R245) -/
  joins0 : Nat := 0
  /-- joins admitted this slot, district 1 (07 R245) -/
  joins1 : Nat := 0
  /-- learning records pushed this slot (12 R404) -/
  learn0 : Nat := 0
  /-- measured start of the last accepted parent beacon, ns (06 R230) -/
  parL : Option Nat := none
  /-- ASN of that beacon (06 R228) -/
  parAsn : Nat := 0
  /-- the next accepted beacon is a first beacon (06 R230) -/
  parFirst : Bool := true
  /-- a miss since the last accepted beacon (06 R230) -/
  parAfterMiss : Bool := false
  /-- consecutive accepted beacons while in holdover (06 R231) -/
  parRecover : Nat := 0
  /-- MAC.PARENT_STEP (06 R231) -/
  parStep : Nat := 0
  /-- MAC.PARENT_MISSES (06 R231) -/
  parMisses : Nat := 0
  /-- parent beacons rejected (06 R228) -/
  parRejected : Nat := 0
  /-- ASN of the slot of the last accepted beacon (06 R228) -/
  parSeen : Option Nat := none
  /-- elapsed time at which holdover began (06 R214) -/
  holdSince : Nat := 0
  /-- Enh-Acks with the NACK bit, counted separately (06 R224) -/
  nacks : Nat := 0
  /-- association requests dropped for want of a join queue or of a deferral response, counted (06 Table MA-11, 07 R246; log entry 122) -/
  joinDrops : Nat := 0
  /-- corrections evidently not applied (06 R215) -/
  ackUnheard : Nat := 0
deriving DecidableEq, Repr

/-- A vault slot (13 R418-R420). -/
structure Slot where
  /-- key material (13 R419) -/
  key : Nat := 0
  /-- attribute word (13 R420) -/
  attr : BitVec 32 := 0
  /-- generation, 1-65,535 (13 R419) -/
  gen : Nat := 1
  /-- occupied (13 R419) -/
  occ : Bool := false
  /-- revoked (13 R419) -/
  rev : Bool := false
deriving DecidableEq, Repr

/-- An entry of the derived-key cache (13 Table KS-6); its recency rank is its place in the recency list. -/
structure CacheE where
  /-- KEY (13 R428) -/
  key : Nat := 0
  /-- INDEX (13 R428) -/
  index : Nat := 0
  /-- SLOT (13 R428) -/
  slot : Nat := 0
  /-- PGEN (13 R428) -/
  pgen : Nat := 0
  /-- KEYGEN (13 R428) -/
  keygen : Nat := 0
  /-- STATE: 0 free, 1 valid, 2 revoked-pending (13 R428) -/
  state : Nat := 0
  /-- INUSE; 0 between commands, each security operation being one command (13 R428) -/
  inuse : Nat := 0
deriving DecidableEq, Repr

/-- A pending CNTEXP (13 R439). -/
structure Export where
  /-- world of its issuer (04 R141) -/
  world : World := .operator
  /-- ticket (04 R141) -/
  ticket : Nat := 0
  /-- first roster index (04 R141) -/
  first : Nat := 0
  /-- count (04 R141) -/
  count : Nat := 0
  /-- queue (04 R141) -/
  q : Nat := 0
deriving DecidableEq, Repr

/-- Vault, keys and life cycle (chapter 13). -/
structure SecS where
  /-- fused state of Table KS-2; DESIGN CHOICE 0 Blank (log entry 14) (13 R413) -/
  fused : Nat := 0
  /-- Locked (13 R413) -/
  locked : Bool := false
  /-- LOCK_ID; 0 not Locked (13 R417) -/
  lockId : Nat := 0
  /-- root bank A (13 R414) -/
  rootA : Nat := 0
  /-- root bank B (13 R414) -/
  rootB : Nat := 0
  /-- bank A: 0 blank, 1 valid, 2 dead (13 R414) -/
  bankA : Nat := 0
  /-- bank B: 0 blank, 1 valid, 2 dead (13 R414) -/
  bankB : Nat := 0
  /-- slot 0, none when zeroised or not yet derived (13 R415) -/
  storageKey : Option Nat := none
  /-- slot 1 (13 R415) -/
  wrapKey : Option Nat := none
  /-- slot 2 (13 R415) -/
  updKey : Option Nat := none
  /-- slots 8-8,191; unlisted: generation 1, empty (13 R419) -/
  slots : Tbl Slot := []
  /-- the derived-key cache, 4,096 entries (13 R428) -/
  cache : Tbl CacheE := []
  /-- valid entries, most recently used first (13 R428) -/
  recency : List Nat := []
  /-- SEC.TAMP_CTRL (13 R441) -/
  tampCtrl : BitVec 32 := 0x4F
  /-- REC0 (13 R443) -/
  tampRec0 : BitVec 32 := 0
  /-- REC1 (13 R443) -/
  tampRec1 : BitVec 32 := 0
  /-- REC2 (13 R443) -/
  tampRec2 : BitVec 32 := 0
  /-- REC3 (13 R443) -/
  tampRec3 : Nat := 0
  /-- inputs that have raised an event and not returned to inactive (13 R441) -/
  tampActive : Vector Bool 2 := Vector.replicate 2 false
  /-- notices 0x0701 that wait for the core to run (13 R442) -/
  tampNotes : List Nat := []
  /-- SEC.GRP_CNT_D0, _D1 (13 R436) -/
  grp : Vector Nat 2 := Vector.replicate 2 0
  /-- pending CNTEXPs, oldest first (04 R141) -/
  exports : List Export := []
deriving DecidableEq, Repr

/-- An entry of the exact-match table or the overflow store (12 Table FT-1); CHECK is a function of the rest. -/
structure TEntry where
  /-- KEY (12 R393) -/
  key : BitVec 64 := 0
  /-- RESULT (12 R393) -/
  result : Word := 0
  /-- VALID (12 R393) -/
  valid : Bool := false
  /-- DIST (12 R393) -/
  dist : Bool := false
  /-- STATIC (12 R393) -/
  static : Bool := false
  /-- HIT (12 R393) -/
  hit : Bool := false
  /-- AGE (12 R393) -/
  age : Nat := 0
deriving DecidableEq, Repr

/-- A pending TLOAD or TSCRUB (03 R111, R112). -/
structure TblJob where
  /-- a TSCRUB (03 R112) -/
  scrub : Bool := false
  /-- world of its issuer (03 R79) -/
  world : World := .operator
  /-- ticket (03 R79) -/
  ticket : Nat := 0
  /-- region (03 R111) -/
  region : Nat := 0
  /-- items taken, oldest first (03 R111) -/
  items : List Item := []
deriving DecidableEq, Repr

/-- Forwarding tables (chapter 12). -/
structure TblS where
  /-- by place: bucket * 4 + way, then 262,144 + i for overflow entry i (12 R391) -/
  entries : Tbl TEntry := []
  /-- FT.OVF_PEAK (12 R412) -/
  ovfPeak : Nat := 0
  /-- the pending TLOAD or TSCRUB (03 R111) -/
  job : Option TblJob := none
  /-- place at which an aging pass waits for queue room (12 R406) -/
  agingAt : Option Nat := none
  /-- the next period's pass starts when the waiting one ends (12 R406) -/
  agingDue : Bool := false
deriving DecidableEq, Repr

/-- A roster entry (07 Table NP-1). -/
structure Roster where
  /-- EUI (07 R235) -/
  eui : BitVec 64 := 0
  /-- USE: 0 free, 1 in use, 2 quarantined (07 R235) -/
  use_ : Nat := 0
  /-- REJOIN (07 R235) -/
  rejoin : Bool := false
  /-- SILENTNOTE (07 R235) -/
  silent : Bool := false
  /-- BL (07 R235) -/
  bl : Bool := false
  /-- PROFILE, 8 bits (07 R235) -/
  profile : Nat := 0
  /-- KEYGEN, 8 bits (07 R235) -/
  keygen : Nat := 0
  /-- LASTSLICE (07 R235) -/
  lastSlice : Nat := 0
  /-- VIA (07 R235) -/
  via : Nat := 0x1FFFF
  /-- OUTCNT, 32 bits (07 R235) -/
  outcnt : Nat := 0
  /-- INL, 32 bits (07 R235) -/
  inl : Nat := 0
  /-- DIGEST, 16 bits (07 R235) -/
  digest : Nat := 0
  /-- DVALID (07 R235) -/
  dvalid : Bool := false
  /-- OUTHWM (07 R235) -/
  outhwm : Nat := 0
  /-- ASN_REF (07 R235) -/
  asnRef : Nat := 0
  /-- NOBS (07 R235) -/
  nobs : Nat := 0
  /-- MISS (07 R235) -/
  miss : Nat := 0
  /-- THETA (07 R235) -/
  theta : Int := 0
  /-- PHI (07 R235) -/
  phi : Int := 0
  /-- U_THETA (07 R235) -/
  uTheta : Nat := 0
  /-- U_PHI (07 R235) -/
  uPhi : Nat := 0
  /-- CORR (07 R235) -/
  corr : Int := 0
  /-- HEARD (07 R235) -/
  heard : Nat := 0
  /-- ACKUNHEARD (07 R235) -/
  ackUnheard : Nat := 0
  /-- measured start of its last received frame, ns (for R222; the model's own) (06 R222) -/
  lastStart : Nat := 0
  /-- slice of that frame (06 R222) -/
  lastSliceRx : Nat := 0xFF
deriving DecidableEq, Repr

/-- A bit-loading profile slot (08 R259). -/
structure Profile where
  /-- current map, ten words; [] invalid (08 R259) -/
  cur : List Word := []
  /-- previous map, ten words; [] invalid (08 R259) -/
  prev : List Word := []
  /-- GEN, 8 bits (08 R259) -/
  gen : Nat := 0
deriving DecidableEq, Repr

/-- Profiles (chapter 08). -/
structure ModemS where
  /-- slots 0-255 of district 0, 256-511 of district 1 (08 R259) -/
  profiles : Tbl Profile := []
  /-- slot that the last commit named (08 R262) -/
  last : Nat := 0
  /-- elapsed time of the last commits (08 R263) -/
  wasAt : Nat := 0
  /-- what the slots they changed held before them (08 R263) -/
  was : List (Nat × Profile) := []
deriving DecidableEq, Repr

/-- A wake in progress (14 R460). -/
structure WakeRun where
  /-- 2 waiting for the regulator, 4 waiting for the reference (14 Table PW-3) -/
  step : Nat := 2
  /-- elapsed time at which the step began (14 R461) -/
  since : Nat := 0
  /-- the step has been restarted once (14 R461) -/
  retried : Bool := false
  /-- WAKEON bit of the source (14 R144) -/
  src : Nat := 0
  /-- a slot wake (14 R458) -/
  slot : Bool := false
deriving DecidableEq, Repr

/-- Power modes, supplies and the always-on and backup domains' own registers (chapter 14). -/
structure PowerS where
  /-- AON_STATUS.MODE (14 R447) -/
  mode : Nat := 5
  /-- AON_STATUS.ASLEEP: the core domain is stopped (14 R464) -/
  asleep : Bool := false
  /-- AON_STATUS.ARMED (14 R464) -/
  armedMode : Nat := 7
  /-- degraded service (14 R462) -/
  degraded : Bool := false
  /-- AON_STATUS.LASTWAKE (14 R464) -/
  lastWake : Nat := 0
  /-- AON_STATUS.FAILS (14 R463) -/
  fails : Nat := 0
  /-- AON_STATUS.LPHOT (14 R465) -/
  lpHot : Bool := false
  /-- AON_STATUS.LASTRESET (14 R464) -/
  lastReset : Nat := 0
  /-- non-volatile-write inhibit in force (14 R468) -/
  nvInhibit : Bool := false
  /-- PSUM.WAKEREG (14 R461) -/
  wakeReg : Bool := false
  /-- PSUM.WAKEOSC (14 R461) -/
  wakeOsc : Bool := false
  /-- WAKEON mask; bit 7 always 1, the others DESIGN CHOICE 0 (log entry 21) (04 R146) -/
  wakeMask : BitVec 16 := 0x80
  /-- the core runs on the PLL (14 R447) -/
  pll : Bool := false
  /-- PW.VIN, mV; DESIGN CHOICE 3,300 (log entry 15) (14 R467) -/
  vin : Nat := 3300
  /-- PW.DIE_TEMP, 0.125 degC; DESIGN CHOICE 25 degC (log entry 9) (14 R465) -/
  dieTemp : Int := 200
  /-- the sequencers are frozen: a sleep is being entered or a wake is not complete (14 R460) -/
  frozen : Bool := false
  /-- REST has stopped the blocks and the core clock is about to stop (14 R452) -/
  entering : Bool := false
  /-- the core regulator is in low-power mode (14 R465) -/
  lowPower : Bool := false
  /-- the run mode that REST left (14 R458) -/
  restMode : Nat := 5
  /-- the core was on the PLL at REST (14 Table PW-3) -/
  restPll : Bool := false
  /-- slices that were not Off at REST (14 Table PW-3) -/
  onSlices : Vector Bool 12 := Vector.replicate 12 false
  /-- a REST waits for its wake (14 R458) -/
  restWaits : Bool := false
  /-- elapsed time at REST (04 R144) -/
  asleepAt : Nat := 0
  /-- the wake in progress (14 R460) -/
  wake : Option WakeRun := none
  /-- the chip is awake for a slot wake of Doze (14 R458) -/
  slotAwake : Bool := false
  /-- the always-on wake timer, ns of the timebase (14 R457) -/
  timerAt : Option Nat := none
  /-- ASN and boundary the timer was set for; none at the horizon (14 R457) -/
  timerSlot : Option (Nat × Nat) := none
  /-- notices that wait for the core to run: kind, subject, status (14 R461, R465) -/
  due : List (Nat × Nat × Nat) := []
  /-- pending change between run modes: mode, world and ticket (14 R450) -/
  pmodeTo : Option (Nat × World × Nat) := none
  /-- lanes that are not power-gated (14 R448) -/
  listenCap : Nat := 64
  /-- bank supplies VIO1-VIO4, mV; DESIGN CHOICE 3,300 (log entry 15) (19 R584) -/
  vio : Vector Nat 4 := Vector.replicate 4 3300
  /-- levels of FLOW0-FLOW3 that PIN records have reported (16 R542) -/
  flowSeen : BitVec 4 := 0
  /-- BKP_STATUS.ONVIN (14 Table PW-7) -/
  onVin : Bool := false
  /-- BKP_STATUS.INTEG (14 Table PW-7) -/
  integ : Bool := false
  /-- BKP_STATUS.PART (14 Table PW-7) -/
  part : Nat := 0
  /-- BKP_STATUS.PWRON (14 Table PW-7) -/
  pwron : Bool := true
  /-- BKP_STATUS.BKPWAKE (14 Table PW-7) -/
  bkpWake : Bool := false
  /-- BKP_STATUS.WHY (14 Table PW-7) -/
  why : Nat := 0
  /-- BKP_STATUS.VBATLOW (14 Table PW-7) -/
  vbatLow : Bool := false
  /-- what asserted PWRON since the chip entered Backup: 0 nothing, else WHY's code (14 R472) -/
  asserted : Nat := 0
  /-- PW.BKP_REG0-3 (14 R477) -/
  bkpRegs : Vector Word 4 := Vector.replicate 4 0
  /-- the canary word (14 R474) -/
  canary : Word := 0xA55A3CC3
  /-- subject of notice 0x0905 that waits for the core's next start, 0 none (14 R475) -/
  integNote : Nat := 0
deriving DecidableEq, Repr

/-- A boot record (17 Table BU-2). -/
structure BootRec where
  /-- SEQ (17 R551) -/
  sq : BitVec 32 := 0
  /-- ACTIVE (17 R551) -/
  active : Nat := 0
  /-- FALLBACK (17 R551) -/
  fallback : Nat := 0
  /-- STAGING (17 R551) -/
  staging : Nat := 0
  /-- COPY (17 R551) -/
  copy : Nat := 0
  /-- RUN (17 R551) -/
  runFb : Bool := false
  /-- TRIALS (17 R551) -/
  trials : Nat := 0
  /-- REASON (17 R551) -/
  reason : Nat := 0
  /-- FLAGS[0] (17 R551) -/
  arbPending : Bool := false
  /-- VER_ACTIVE (17 R551) -/
  verA : BitVec 32 := 0
  /-- VER_FALLBACK (17 R551) -/
  verF : BitVec 32 := 0
  /-- VER_STAGING (17 R551) -/
  verS : BitVec 32 := 0
  /-- ARB_ACTIVE (17 R551) -/
  arbA : Nat := 0
  /-- ARB_FALLBACK (17 R551) -/
  arbF : Nat := 0
  /-- ARB_STAGING (17 R551) -/
  arbS : Nat := 0
  /-- REVOKE (17 R551) -/
  revoke : BitVec 4 := 0
  /-- ACCESS (17 R551) -/
  access : Word := 0x00020003
deriving DecidableEq, Repr

/-- An image in a slot, at rest (17 R554, R556). -/
structure Image where
  /-- header (17 R554) -/
  hdr : ImgHdr := {}
  /-- body as encrypted under the storage key (17 R556) -/
  body : List Byte := []
deriving DecidableEq, Repr

/-- Flash, boot records, Trailhead and the running image (chapter 17). -/
structure BootS where
  /-- boot record A, none when not valid (17 R551) -/
  recA : Option BootRec := none
  /-- boot record B (17 R551) -/
  recB : Option BootRec := none
  /-- active slot (17 R550) -/
  active : Option Image := none
  /-- fallback slot (17 R550) -/
  fallback : Option Image := none
  /-- staging slot (17 R550) -/
  staging : Option Image := none
  /-- burned bits of the anti-rollback level (17 R558) -/
  arbFuse : Nat := 0
  /-- vendor key revocation fuses (17 R558) -/
  vkRev : BitVec 4 := 0
  /-- BOOT.FLASH_ACCESS as written since the start, for the next record written (17 R553) -/
  accessNew : Option Word := none
  /-- fallback request in the always-on domain, 0 none (17 R566) -/
  fbReq : Nat := 0
  /-- 0 in reset, 1 waiting for the inhibit, 2 listening first, 3 hold, 4 locked service, 5 recovery, 6 the image runs, 7 the start has been stopped (17 R560) -/
  phase : Nat := 0
  /-- flash was found (17 R560) -/
  flash : Bool := false
  /-- what the verification of the active slot gives at this start (17 R557) -/
  okA : Bool := false
  /-- the same of the fallback slot (17 R557) -/
  okF : Bool := false
  /-- the same of the staging slot (17 R557) -/
  okS : Bool := false
  /-- RUNFB (17 R574) -/
  runningFb : Bool := false
  /-- a trial runs (17 R565) -/
  trial : Bool := false
  /-- the image that runs was confirmed in this run (03 R119) -/
  confirmed : Bool := false
  /-- elapsed time the trial window is counted from (17 R565) -/
  trialFrom : Nat := 0
  /-- pending CONFIRM, oldest first: world, ticket, and whether it is mode 1 (17 R565, R566) -/
  confirming : List (World × Nat × Bool) := []
  /-- BOOT.RESTART has been written; the reset comes at the end of the record (17 R574) -/
  restartDue : Bool := false
  /-- VERS.SVC (15 R485) -/
  svcVer : Nat := 0
  /-- a session is open (HELLO made) (17 R570) -/
  svcOpen : Bool := false
  /-- BEGIN has been accepted: DATA may follow (17 R571) -/
  svcStage : Bool := false
  /-- transit header of BEGIN (17 R571) -/
  svcHdr : ImgHdr := {}
  /-- body octets received (17 R571) -/
  svcBody : List Byte := []
  /-- offset and length of the last accepted DATA (17 R571) -/
  svcLast : Option (Nat × Nat) := none
  /-- baud code in effect (17 R570) -/
  svcBaud : Nat := 0
  /-- baud code a switch is due to (17 R570) -/
  svcSwitch : Option Nat := none
  /-- no valid frame has come since the switch (17 R570) -/
  svcSwitched : Bool := false
  /-- elapsed time of the session's last valid frame (17 R571) -/
  svcAt : Nat := 0
  /-- the restart that END asked for waits for its response to be sent (17 R572) -/
  svcRestart : Bool := false
  /-- the next request is answered with ST_TAMPER_ABORT (17 R573) -/
  svcAbort : Bool := false
  /-- SVC_CTS is high: the device does not send (17 R568) -/
  svcCts : Bool := false
  /-- responses that wait to be sent: TYPE, SEQ, STATUS, DETAIL, the rest (17 R569) -/
  svcOut : List (Nat × Nat × Nat × Nat × List Byte) := []
  /-- the last response sent (17 R569) -/
  svcSent : Option (Nat × Nat × Nat × Nat × List Byte) := none
deriving DecidableEq, Repr

/-- An item or message that a sender retains (16 R524, R532). -/
structure CasFrame where
  /-- its number (16 R525) -/
  num : Nat := 0
  /-- the item, on a data virtual channel (16 R524) -/
  item : Option Item := none
  /-- its source queue (16 R527) -/
  q : Nat := 0
  /-- destination position (16 R524) -/
  dest : Nat := 0
  /-- destination queue (16 R526) -/
  destQ : Nat := 0
  /-- message kind, on the control virtual channel (16 R532) -/
  kind : Nat := 0
  /-- message source (16 R532) -/
  src : Nat := 0
  /-- first message word (16 R532) -/
  m1 : Word := 0
  /-- second message word (16 R532) -/
  m2 : Word := 0
  /-- further words of a relay or its result (log entry 23) (16 R534) -/
  more : List Word := []
  /-- link frames of it that wait for a credit (16 R520) -/
  left : Nat := 0
deriving DecidableEq, Repr

/-- A virtual channel of a link, both directions at this end (16 R519-R526). -/
structure Vc where
  /-- G (16 R518) -/
  grant : Nat := 0
  /-- A, credits in hand (16 R520) -/
  a : Nat := 0
  /-- S, sent and not credited (16 R520) -/
  sent : Nat := 0
  /-- B, buffers holding frames (16 R520) -/
  b : Nat := 0
  /-- R, buffers freed beyond the last CREDIT (16 R520) -/
  r : Nat := 0
  /-- credits returned since the epoch began, modulo 65,536 (16 R516) -/
  freed : Nat := 0
  /-- count of the last CREDIT received (16 R520) -/
  credSeen : Nat := 0
  /-- next item or message number (16 R524) -/
  nextNum : Nat := 1
  /-- DELIVERED, as the receiver (16 R524) -/
  delivered : Nat := 0
  /-- numbers disposed of beyond DELIVERED (16 R524) -/
  ahead : List Nat := []
  /-- items and messages kept until DELIVERED covers them (16 R524) -/
  retained : List CasFrame := []
  /-- position whose source queue was served last (16 R524) -/
  turn : Nat := 0
  /-- a resynchronisation waits for its reply (16 R523) -/
  resync : Bool := false
  /-- requests without a reply (16 R523) -/
  tries : Nat := 0
  /-- elapsed time of the last request (16 R523) -/
  asked : Nat := 0
  /-- elapsed time of the last CREDIT that showed progress (16 R521) -/
  progress : Nat := 0
deriving DecidableEq, Repr

/-- A cascade link CAS0-CAS3 (0-3) or a mate lane MATE0-MATE1 (4-5) (chapter 16). -/
structure Link where
  /-- state code (16 Table CT-3) -/
  st : Nat := 0
  /-- elapsed time the state was entered (16 R517) -/
  since : Nat := 0
  /-- acceptable TRAIN blocks in a row (16 R517) -/
  good : Nat := 0
  /-- a TRAIN with ACK has come (16 R517) -/
  ackSeen : Bool := false
  /-- link epoch (16 R517) -/
  epoch : Nat := 0
  /-- version in use, 0 down (16 R518) -/
  ver : Nat := 0
  /-- the neighbour's position (16 R516) -/
  pos : Nat := 0
  /-- the neighbour's MASTER (16 R516) -/
  master : Bool := false
  /-- the neighbour's TWINEN (16 R516) -/
  twin : Bool := false
  /-- the neighbour's role (16 R516) -/
  role : Nat := 0
  /-- the neighbour's hop count, 15 none (16 R516) -/
  hop : Nat := 15
  /-- the neighbour's grid runs (16 R516) -/
  gridRun : Bool := false
  /-- the neighbour's timebase is qualified (16 R516) -/
  tbQual : Bool := false
  /-- its subtree mask (16 R515) -/
  subtree : BitVec 8 := 0
  /-- its present mask (16 R515) -/
  present : BitVec 8 := 0
  /-- elapsed time of the last block (16 R516) -/
  lastBlock : Nat := 0
  /-- measured delay d, ns (16 R528) -/
  delay : Option Int := none
  /-- t1 of a DREQ without its answer (16 R528) -/
  dreqAt : Option Nat := none
  /-- the last STATUS sent (16 R516) -/
  statusOut : Option StatusBlk := none
  /-- the last TIME frame sent (16 R528) -/
  timeOut : Option TimeFr := none
  /-- t2 and t3 of the last DRESP sent (16 R528) -/
  drespOut : Option (Nat × Nat) := none
  /-- virtual channels (16 R519) -/
  vcs : Vector Vc 4 := Vector.replicate 4 {}
deriving DecidableEq, Repr

/-- A relay that is outstanding (16 R534). -/
structure Relay where
  /-- position (16 R534) -/
  pos : Nat := 0
  /-- world of the SETP (16 R534) -/
  world : World := .operator
  /-- elapsed time (16 R534) -/
  at_ : Nat := 0
deriving DecidableEq, Repr

/-- Arrivals at a barrier that the master holds (16 R533). -/
structure Barrier where
  /-- barrier number (16 R533) -/
  bar : Nat := 0
  /-- positions arrived (16 R533) -/
  mask : BitVec 8 := 0
  /-- elapsed time of the last arrival (16 R533) -/
  at_ : Nat := 0
deriving DecidableEq, Repr

/-- The cascade (chapter 16). -/
structure CasS where
  /-- CAS0-CAS3, MATE0, MATE1 (16 R516) -/
  links : Vector Link 6 := Vector.replicate 6 {}
  /-- own hop count, 15 none (16 R514) -/
  hop : Nat := 15
  /-- upstream link (16 R514) -/
  up : Option (Fin 4) := none
  /-- present mask: the own position (CASPOS 0 at reset) (16 R515) -/
  present : BitVec 8 := 1
  /-- positions that count as present (R515's timeout applied) (16 R515) -/
  known : BitVec 8 := 1
  /-- elapsed time a known position left the mask (16 R515) -/
  lostAt : Vector (Option Nat) 8 := Vector.replicate 8 none
  /-- the member has been aligned (16 R530) -/
  aligned : Bool := false
  /-- the failed alignment has been reported (16 R530) -/
  alignTold : Bool := false
  /-- capture of the last accepted TIME frame (16 R529) -/
  tLast : Option Nat := none
  /-- the next accepted frame is a first one (16 R529) -/
  tFirst : Bool := true
  /-- frames missed in a row (16 R529) -/
  tMissed : Nat := 0
  /-- the next accepted frame follows a miss (16 R529) -/
  tAfterMiss : Bool := false
  /-- frames accepted in holdover (16 R529) -/
  tRecover : Nat := 0
  /-- arrivals held by the master (16 R533) -/
  barriers : List Barrier := []
  /-- the outstanding relay (16 R534) -/
  relay : Option Relay := none
  /-- CT.RELAY_RES0-3 (16 R534) -/
  relayRes : Vector Word 4 := Vector.replicate 4 0
deriving DecidableEq, Repr

/-- What mirror staging commits: the regions and registers that recomputation writes (16 R541). -/
structure Regions where
  /-- conductor (16 R541) -/
  cond : CondS := {}
  /-- slice sequencers (16 R541) -/
  seqs : Vector SeqS 12 := Vector.replicate 12 {}
  /-- parameters (16 R541) -/
  par : ParS := {}
  /-- program memory (16 R541) -/
  progMem : Tbl (BitVec 64) := []
  /-- schedule memory (16 R541) -/
  schedMem : Tbl Word := []
  /-- queues and jobs (16 R541) -/
  qp : QpS := {}
  /-- roster (16 R541) -/
  roster : Tbl Roster := []
  /-- profiles (16 R541) -/
  modem : ModemS := {}
  /-- tables (16 R541) -/
  tables : TblS := {}
deriving DecidableEq, Repr

/-- The twin (chapter 16). -/
structure TwinS where
  /-- 0 single, 1 active, 2 standby, 3 withdrawn (16 R535) -/
  role : Nat := 0
  /-- MIRROR state (04 R150) -/
  mirror : Nat := 0
  /-- PSUM.DIVERGED: the last comparison diverged (16 R543) -/
  diverged : Bool := false
  /-- ASN of the last compared cycle (04 R150) -/
  comparedAsn : Nat := 0
  /-- consecutive matching cycles (04 R150) -/
  matched : Nat := 0
  /-- last compared digest (16 R542) -/
  digest : BitVec 64 := 0
  /-- digest of the last cycle that ended here (16 R542) -/
  own : BitVec 64 := 0
  /-- its ledger check held (16 R543) -/
  ownLedger : Bool := true
  /-- output records of the cycle in progress (16 R542) -/
  recs : List (List Byte) := []
  /-- the state at the end of the last committed cycle (16 R541) -/
  start : Option Regions := none
  /-- the state at the end of the cycle whose comparison is due (16 R543) -/
  cycle : Option Regions := none
  /-- order number of the next mirrored input (16 R541) -/
  order : Nat := 0
  /-- octets of table writes that mirror staging holds (16 R541) -/
  staged : Nat := 0
  /-- the next host command is a mirrored input (16 R541) -/
  mirNext : Bool := false
  /-- ROLE_IN, filtered (16 R535) -/
  roleIn : Bool := false
  /-- elapsed time of its last change (16 R535) -/
  roleInAt : Nat := 0
  /-- ROLE_OUT is asserted (16 R535) -/
  roleOut : Bool := false
  /-- the last heartbeat sent (16 R538) -/
  hbOut : Option Hb := none
  /-- role of the partner's last heartbeat (16 R538) -/
  peerRole : Nat := 0
  /-- MIRROR state of it (16 R538) -/
  peerMirror : Nat := 0
  /-- ASN at which the partner became active (16 R538) -/
  peerAsn : Nat := 0
  /-- fault flag of it (16 R538) -/
  peerFault : Bool := false
  /-- claim of it (16 R537) -/
  peerClaim : Option Nat := none
  /-- elapsed time of the last heartbeat on each lane (16 R538) -/
  hbAt : Vector Nat 2 := Vector.replicate 2 0
  /-- heartbeats are silent on both lanes (16 R544) -/
  hbSilent : Bool := false
  /-- ASN at which this chip became active (16 R538) -/
  activeAsn : Nat := 0
  /-- own claim (16 R537) -/
  claim : Option Nat := none
  /-- elapsed time of it (16 R537) -/
  claimAt : Nat := 0
  /-- the chip has been active since power-up (16 R545) -/
  wasActive : Bool := false
  /-- notice 0x0B07 has been reported for this loss (16 R544) -/
  lostTold : Bool := false
  /-- elapsed time a full sync began (16 R539) -/
  syncAt : Option Nat := none
  /-- a full sync starts at the next boundary (16 R539) -/
  syncDue : Bool := false
  /-- pending MIRROR mode 1: world and ticket (04 R150) -/
  syncTicket : List (World × Nat) := []
  /-- boundary at which a yield takes effect has passed: its ASN (16 R546) -/
  yieldAt : Option Nat := none
  /-- boundaries in a row whose end-of-cycle work was not completed (16 R536) -/
  missedWork : Nat := 0
  /-- result of the last cycle committed or compared (16 R538) -/
  lastOk : Bool := true
deriving DecidableEq, Repr

/-- The state of the Cylith 8832, and the queue of commands that wait. -/
structure State where
  /-- the conductor (02 R37) -/
  cond : CondS := {}
  /-- slice sequencers SA-SL (02 R37) -/
  seqs : Vector SeqS 12 := Vector.replicate 12 {}
  /-- parameters (02 R60) -/
  par : ParS := {}
  /-- program memory; unlisted: 0x1500_0000_0000_0000 (02 R42) -/
  progMem : Tbl (BitVec 64) := []
  /-- schedule memory, 262,144 words; unlisted: 0 (DESIGN CHOICE, log entry 4) (02 R47) -/
  schedMem : Tbl Word := []
  /-- timebase (05 R153) -/
  time : TimeS := {}
  /-- RTC (05 R176) -/
  rtc : RtcS := {}
  /-- slot grid (06 R195) -/
  grid : GridS := {}
  /-- queues and pool (11 R363) -/
  qp : QpS := {}
  /-- stage, memory and chip health (01 R7) -/
  health : HealthS := {}
  /-- 131,072 entries; unlisted: free (07 R234) -/
  roster : Tbl Roster := []
  /-- profiles (08 R259) -/
  modem : ModemS := {}
  /-- slices, lanes, FECTL (01) -/
  radio : RadioS := {}
  /-- power (14) -/
  pw : PowerS := {}
  /-- straps latched at main power-up (16 R513) -/
  straps : Straps := {}
  /-- security (13) -/
  sec : SecS := {}
  /-- exact-match table and overflow store (12 R391) -/
  tables : TblS := {}
  /-- twin (16) -/
  twin : TwinS := {}
  /-- cascade (16) -/
  cas : CasS := {}
  /-- flash, boot, service port (17) -/
  boot : BootS := {}
  /-- host interface (15 R489) -/
  host : HostS := {}
  /-- notice coalescing table (07 R249) -/
  notices : NoticeS := {}
  /-- the model's own counter that free values are drawn with (log entry 7); DESIGN CHOICE 0 (model) -/
  freeCount : Nat := 0
  /-- the queue of commands, first in first out (model) -/
  pending : List Instr := []
deriving DecidableEq, Repr

/-- Reasons a step stops the machine. -/
inductive Fault where
  /-- raised by VIO_RANGE_CHANGE when VIOn stands between its two ranges (19 R584: outside the operating conditions, for
  which the spec gives no behaviour); safe: the hardware may go on, the model does not -/
  | outsideOperatingConditions
deriving DecidableEq, Repr

/-- Reasons a command has no meaning. -/
inductive Refusal where
  /-- raised by an arm of exec whose command has no meaning yet; safe -/
  | notModelled (mnemonic : String)
deriving DecidableEq, Repr

/-- The machine right after main power-up: every field at the default its declaration gives, the queue of commands empty. -/
def State.reset : State := {}

end Sys2Proof.Machine
end

