-- ==== Sys2Proof/Machine/Flags.lean ====
section
/-! DEFINITION. Status codes (Table SF-1), permission details (Table FM-2) and the tests of conditions and relations. -/

namespace Sys2Proof.Machine

/-! Status codes (18 Table SF-1). -/
def stOK : Nat := 0x00
def stPENDING : Nat := 0x01
def stRANGE : Nat := 0x02
def stTIMEOUT : Nat := 0x03
def stREFUSED : Nat := 0x04
def stSLEEP_REFUSED : Nat := 0x05
def stWAKE_FAIL_REG : Nat := 0x06
def stWAKE_FAIL_OSC : Nat := 0x07
def stLATE_LOCK : Nat := 0x08
def stCAL_BUSY : Nat := 0x09
def stSTEPPED_PAST : Nat := 0x0A
def stSTEP_SEALED : Nat := 0x0B
def stALARM_SKIPPED : Nat := 0x0C
def stQ_FULL : Nat := 0x10
def stQ_EMPTY : Nat := 0x11
def stFLUSHED_MIDITEM : Nat := 0x12
def stLEN_RANGE : Nat := 0x13
def stPOOL_EXHAUSTED : Nat := 0x14
def stLEDGER_FAULT : Nat := 0x15
def stUNDERRUN : Nat := 0x16
def stTABLE_PARITY : Nat := 0x18
def stTABLE_FULL : Nat := 0x19
def stSTATIC_CONFLICT : Nat := 0x1A
def stNOT_HERE : Nat := 0x1B
def stKEY_REVOKED : Nat := 0x20
def stKEY_ATTR : Nat := 0x21
def stREPLAY : Nat := 0x22
def stDUPLICATE : Nat := 0x23
def stMIC_FAIL : Nat := 0x24
def stTAMPER_ABORT : Nat := 0x25
def stLIFECYCLE : Nat := 0x26
def stOVERSIZE : Nat := 0x28
def stPHR_FAIL : Nat := 0x29
def stFCS_FAIL : Nat := 0x2A
def stAERIAL_MISMATCH : Nat := 0x30
def stNO_ACK : Nat := 0x31
def stHOLDOVER : Nat := 0x32
def stLANE_STARVED : Nat := 0x33
def stVERSION : Nat := 0x38
def stSETTINGS_UNREADABLE : Nat := 0x39
def stBOOT_FALLBACK : Nat := 0x3A
def stNV_INHIBIT : Nat := 0x3B
def stMIRROR_DIVERGED : Nat := 0x40
def stCREDIT_TIMEOUT : Nat := 0x41
def stOVERRUN : Nat := 0x42
def stHOST_SILENT : Nat := 0x43
def stLP_OVERLOAD : Nat := 0x44
def stILLEGAL_OP : Nat := 0x45

/-- Stages of a job (11 Table QP-15). -/
def sgACCEPTED : Nat := 1
def sgSECURED : Nat := 2
def sgQUEUED : Nat := 3
def sgLAUNCHED : Nat := 4
def sgAIRING : Nat := 5
def sgAIRED : Nat := 6
def sgACKED : Nat := 7
def sgNOACK : Nat := 8
def sgRETIRED : Nat := 15

/-- The relations of CMP (03 R82, Table FC-6). -/
def relHolds (r : Rel) (a b : Word) : Bool :=
  match r with
  | .eq => a == b
  | .ne => a != b
  | .ltu => a.toNat < b.toNat
  | .leu => a.toNat ≤ b.toNat
  | .gtu => b.toNat < a.toNat
  | .geu => b.toNat ≤ a.toNat
  | .lts => a.toInt < b.toInt
  | .les => a.toInt ≤ b.toInt
  | .gts => b.toInt < a.toInt
  | .ges => b.toInt ≤ a.toInt

/-- Does the condition field let the instruction execute (02 R40, 03 R73)? -/
def condHolds (c : Cond) (p : Vector Bool 4) : Bool :=
  match c with
  | .always => true
  | .ifT n => p[n]
  | .ifF n => !p[n]

end Sys2Proof.Machine
end

