-- ==== Sys2Proof/Machine/Ops.lean ====
section
/-! DEFINITION. The named operations that every family shares: sparse maps, registers, the passage of time, free values, ring
descriptors and the coalescing table. -/

namespace Sys2Proof.Machine

/-! ## Sparse maps and vectors -/

/-- The value at key k; an unlisted key reads as d. -/
def Tbl.get {α : Type} (d : α) : Tbl α → Nat → α
  | [], _ => d
  | (k', v) :: t, k => if k = k' then v else Tbl.get d t k

/-- Puts v at key k of a listed part whose keys are below k or follow it, keeping the canonical form. -/
def Tbl.set {α : Type} [DecidableEq α] (d : α) : Tbl α → Nat → α → Tbl α
  | [], k, v => if v = d then [] else [(k, v)]
  | (k', v') :: t, k, v =>
    if k < k' then (if v = d then (k', v') :: t else (k, v) :: (k', v') :: t)
    else if k = k' then (if v = d then t else (k, v) :: t)
    else (k', v') :: Tbl.set d t k v

/-- Changes the value at key k by f. -/
def Tbl.upd {α : Type} [DecidableEq α] (d : α) (t : Tbl α) (k : Nat) (f : α → α) : Tbl α :=
  Tbl.set d t k (f (Tbl.get d t k))

/-- The canonical form: keys strictly rising, no entry equal to what an unlisted key reads as. -/
def Tbl.wf {α : Type} [DecidableEq α] (d : α) : Tbl α → Bool
  | [] => true
  | [(_, v)] => v ≠ d
  | (k, v) :: (k', v') :: t => v ≠ d && k < k' && Tbl.wf d ((k', v') :: t)

/-- Changes entry i of a vector by f. -/
def upd {α : Type} {n : Nat} (v : Vector α n) (i : Fin n) (f : α → α) : Vector α n :=
  v.set i.val (f v[i]) i.isLt

/-- a - b in 16-bit index arithmetic (15 R492). -/
def diff16 (a b : Nat) : Nat := (a + 65536 - b % 65536) % 65536

/-- Saturating 32-bit count (02 R41, 11 R389). -/
def sat32 (n : Nat) : Nat := min n 0xFFFFFFFF

/-- A Nat as a 32-bit word. -/
def w32 (n : Nat) : Word := BitVec.ofNat 32 n

/-- An Int as a 32-bit word, two's complement. -/
def i32 (n : Int) : Word := BitVec.ofInt 32 n

/-- A Bool as a bit at place k. -/
def bitAt (b : Bool) (k : Nat) : Nat := if b then 2 ^ k else 0

/-- Rounds half up: the nearest integer to a / b (b positive). -/
def roundDiv (a : Int) (b : Nat) : Int := (2 * a + b) / (2 * b)

/-- Truncates a / b toward zero (b positive). -/
def truncDiv (a : Int) (b : Nat) : Int := a.tdiv b

/-- Clamps to lo..hi. -/
def clampI (lo hi x : Int) : Int := max lo (min hi x)

/-! ## Octets -/

/-- The n octets of a number, least significant first. -/
def leOctets (n v : Nat) : List Byte := (List.range n).map (fun k => BitVec.ofNat 8 (v / 2 ^ (8 * k)))

/-- The octets of a word, least significant first (00 R4). -/
def wordOctets (w : Word) : List Byte := leOctets 4 w.toNat

/-- A number from octets, least significant first. -/
def leNat (b : List Byte) : Nat := b.foldr (fun x acc => acc * 256 + x.toNat) 0

/-- One bit of the reflected CRC-32C. -/
def crcBit (c : Nat) : Nat := if c % 2 = 1 then (c / 2) ^^^ 0x82F63B78 else c / 2

/-- One octet of the reflected CRC-32C. -/
def crcByte (c : Nat) (b : Byte) : Nat := (List.range 8).foldl (fun c _ => crcBit c) (c ^^^ b.toNat)

/-- CRC-32C of octets with the register initialised to `seed`, final XOR included. -/
def crc32c (seed : Nat) (bs : List Byte) : Nat := bs.foldl crcByte seed ^^^ 0xFFFFFFFF

/-! ## Free values -/

/-- Draws a free value below n (log entry 7) and gives it to k. -/
def withDraw (n : Nat) (s : State) (k : Nat → State → State) : State :=
  k (Config.draw s.freeCount % max n 1) { s with freeCount := s.freeCount + 1 }

/-! ## Time -/

/-- 2^32, the fractions of a nanosecond that the timebase counts (05 R153). -/
def tbFrac : Nat := 4294967296

/-- The last value of the timebase, in ns: 2^64 - 1 s and 999,999,999 ns (05 R153). -/
def tbMaxNs : Nat := 18446744073709551616 * 1000000000 - 1

/-- The timebase in whole nanoseconds, fraction truncated. -/
def tbNs (s : State) : Nat := s.time.tb / tbFrac

/-- A number of nanoseconds as a time value. -/
def TVal.ofNs (n : Nat) : TVal := ⟨BitVec.ofNat 64 (n / 1000000000), BitVec.ofNat 32 (n % 1000000000)⟩

/-- A time value in nanoseconds. -/
def TVal.toNs (t : TVal) : Nat := t.sec.toNat * 1000000000 + t.ns.toNat

/-- Its nanoseconds field is in range (00 Notation, 03 R81). -/
def TVal.valid (t : TVal) : Bool := t.ns.toNat ≤ 999999999

/-- The timebase as a time value. -/
def nowT (s : State) : TVal := TVal.ofNs (tbNs s)

/-- Increment of the timebase per 8 ns period, in 2^-32 ns: the increment register; while the timebase counts unqualified the free
ratio of the RC, or through a sleep the increment that is carried (05 R153, R156, 14 R454). -/
def tbIncr (s : State) : Nat := if s.time.qual then s.time.incr.toNat else s.time.rcIncr

/-- n timebase clock periods of 8 ns pass (05 R153): at its end the timebase holds. -/
def passTicks (n : Nat) (s : State) : State :=
  let tb := if s.time.counting then max s.time.tb (min (s.time.tb + n * tbIncr s) (tbMaxNs * tbFrac)) else s.time.tb
  { s with time := { s.time with
      tb := tb
      incSum := s.time.incSum + (tb - s.time.tb)
      elapsed := s.time.elapsed + 8 * n
      coreNs := if s.time.coreOn then s.time.coreNs + 8 * n else s.time.coreNs } }

/-- Time passes until the elapsed time is at least e. -/
def reachElapsed (e : Nat) (s : State) : State := passTicks ((e - s.time.elapsed + 7) / 8) s

/-- Time passes until the core has run for at least e. -/
def reachCore (e : Nat) (s : State) : State := passTicks ((e - s.time.coreNs + 7) / 8) s

/-- Can the timebase reach t ns by counting? -/
def tbCanReach (t : Nat) (s : State) : Bool :=
  t ≤ tbNs s || (s.time.counting && 0 < tbIncr s && t ≤ tbMaxNs)

/-- Time passes until the timebase is at or after t ns. -/
def reachTb (t : Nat) (s : State) : State :=
  passTicks ((t * tbFrac - s.time.tb + tbIncr s - 1) / tbIncr s) s

/-! ## Register sets -/

/-- A world's half of the host interface. -/
def whost (w : World) (s : State) : WHost :=
  match w with
  | .operator => s.host.op
  | .custodian => s.host.cust

/-- Changes a world's half of the host interface. -/
def modWhost (w : World) (f : WHost → WHost) (s : State) : State :=
  match w with
  | .operator => { s with host := { s.host with op := f s.host.op } }
  | .custodian => { s with host := { s.host with cust := f s.host.cust } }

/-- The world of the open record. -/
def recWorld (s : State) : World :=
  match s.cond.record with
  | some r => r.world
  | none => .operator

/-- The world an issuer acts in: slice sequencers run the operator's programs (15 R499). -/
def worldOf (who : Who) (s : State) : World :=
  match who with
  | .slice _ => .operator
  | .ring w => w
  | .routine => recWorld s

/-- A conductor world's context. -/
def worldCtx (w : World) (s : State) : Ctx :=
  match w with
  | .operator => s.cond.op
  | .custodian => s.cond.cust

/-- Changes a conductor world's context. -/
def modWorldCtx (w : World) (f : Ctx → Ctx) (s : State) : State :=
  match w with
  | .operator => { s with cond := { s.cond with op := f s.cond.op } }
  | .custodian => { s with cond := { s.cond with cust := f s.cond.cust } }

/-- The issuer's context (02 R37). -/
def ctx (who : Who) (s : State) : Ctx :=
  match who with
  | .slice n => (s.seqs[n]).ctx
  | _ => worldCtx (worldOf who s) s

/-- Changes the issuer's context. -/
def modCtx (who : Who) (f : Ctx → Ctx) (s : State) : State :=
  match who with
  | .slice n => { s with seqs := upd s.seqs n (fun q => { q with ctx := f q.ctx }) }
  | _ => modWorldCtx (worldOf who s) f s

/-- Working register r. -/
def getW (who : Who) (r : Fin 16) (s : State) : Word := (ctx who s).regs.w[r]

/-- Writes working register r. -/
def setW (who : Who) (r : Fin 16) (v : Word) (s : State) : State :=
  modCtx who (fun c => { c with regs := { c.regs with w := c.regs.w.set r v } }) s

/-- Time register r. -/
def getT (who : Who) (r : Fin 4) (s : State) : TVal := (ctx who s).regs.t[r]

/-- Writes time register r. -/
def setT (who : Who) (r : Fin 4) (v : TVal) (s : State) : State :=
  modCtx who (fun c => { c with regs := { c.regs with t := c.regs.t.set r v } }) s

/-- Writes predicate p. -/
def setP (who : Who) (p : Fin 4) (v : Bool) (s : State) : State :=
  modCtx who (fun c => { c with regs := { c.regs with p := c.regs.p.set p v } }) s

/-- Changes slice sequencer n. -/
def modSeq (n : Fin 12) (f : SeqS → SeqS) (s : State) : State := { s with seqs := upd s.seqs n f }

/-- Changes the open record, if there is one. -/
def modRecord (f : Record → Record) (s : State) : State :=
  { s with cond := { s.cond with record := s.cond.record.map f } }

/-- Reports a status (02 R38): w0, w1 and w2 are all written, and a record's current word has its status. -/
def ret (who : Who) (st : Nat) (w1 w2 : Word) (s : State) : State :=
  let s := modCtx who (fun c => { c with regs := { c.regs with
    w := ((c.regs.w.set 0 (w32 st)).set 1 w1).set 2 w2 } }) s
  match who with
  | .slice _ => s
  | _ => modRecord (fun r => { r with status := some (w32 st) }) s

/-- ST_OK with details. -/
def retOk (who : Who) (w1 w2 : Word) (s : State) : State := ret who stOK w1 w2 s

/-- ST_RANGE with the position and the operand (03 R78). -/
def retRange (who : Who) (pos : Nat) (operand : Nat) (s : State) : State := ret who stRANGE (w32 pos) (w32 operand) s

/-- ST_REFUSED with a detail. -/
def retRefused (who : Who) (detail : Nat) (s : State) : State := ret who stREFUSED (w32 detail) 0 s

/-! ## The twin's record stream (16 R542) -/

/-- A record of the cycle in progress: TYPE and fields; a chip without a twin keeps none. -/
def emit (r : List Byte) (s : State) : State :=
  if s.straps.twinen then { s with twin := { s.twin with recs := s.twin.recs ++ [r] } } else s

/-- A PIN record: output, instant, level. -/
def emitPin (out : Nat) (level : Bool) (s : State) : State :=
  emit (leOctets 1 0x40 ++ leOctets 1 out ++ leOctets 4 (tbNs s % 1000000000) ++ leOctets 1 (bitAt level 0)) s

/-! ## Banks of the IO ring (19 R587) -/

/-- Bank n's supply is not below its range: its inputs are heard. -/
def bankOn (n : Fin 4) (s : State) : Bool := 1710 ≤ s.pw.vio[n]

/-! ## Rings (chapter 15) -/

/-- Block numbers of Table HI-6. -/
def blkCommand : Fin 20 := 0
def blkCompletion : Fin 20 := 1
def blkNotice : Fin 20 := 2

/-- Ring block b of world w. -/
def ring (w : World) (b : Fin 20) (s : State) : Ring := (whost w s).rings[b]

/-- Changes ring block b of world w. -/
def modRing (w : World) (b : Fin 20) (f : Ring → Ring) (s : State) : State :=
  modWhost w (fun h => { h with rings := upd h.rings b f }) s

/-- The ring runs (15 R491). -/
def Ring.runs (r : Ring) : Bool := r.size ≠ 0

/-- A device-produced ring runs and is not full (15 R492). -/
def Ring.room (r : Ring) : Bool := r.runs && diff16 r.dev r.cons < r.size

/-- PHASE of entry i (15 R492). -/
def Ring.phase (r : Ring) : Bool := r.runs && (r.dev / r.size) % 2 == 0

/-- Ring memory word at word address a (15 R480). -/
def ringMemGet (a : Nat) (s : State) : Word := Tbl.get 0 s.host.ringMem a

/-- Writes words from word address a of ring memory. -/
def ringMemWrite (a : Nat) (ws : List Word) (s : State) : State :=
  match ws with
  | [] => s
  | v :: vs => ringMemWrite (a + 1) vs { s with host := { s.host with ringMem := Tbl.set 0 s.host.ringMem a v } }

/-- A standby computes every output and writes nothing to a host (16 R541), but for its notices and the completions of its own
host's records. -/
def hostOutputHeld (b : Fin 20) (s : State) : Bool :=
  s.twin.role = 2 && b ≠ 2 && !(b = 1 && s.cond.record.any (fun r => !r.mirrored))

/-- Posts a descriptor of eight words on a device-produced ring that has room, with its PHASE in bit 7 of octet 0 (15 R492);
`data` is what it has put into the entry's buffer. -/
def postDescData (w : World) (b : Fin 20) (d : List Word) (data : List Byte) (s : State) : State :=
  let r := ring w b s
  let s := if b = 2 then s else
    emit (leOctets 1 0x20 ++ leOctets 1 (if w = .operator then 0 else 1) ++ leOctets 1 b.val ++ leOctets 2 r.dev ++
      leOctets 4 (crc32c 0xFFFFFFFF (d.flatMap wordOctets)) ++ leOctets 4 (if data = [] then 0 else crc32c 0xFFFFFFFF data)) s
  let d := match d with
    | [] => []
    | h :: t => (h ||| w32 (bitAt r.phase 7)) :: t
  let s := modRing w b (fun r => { r with dev := (r.dev + 1) % 65536 }) s
  if hostOutputHeld b s then s
  else
    let s := modRing w b (fun r => { r with unread := r.unread ++ [d] }) s
    if s.host.link = some .qspi then ringMemWrite (r.base.toNat / 4 + 8 * (r.dev % max r.size 1)) d s else s

/-- Posts a descriptor that has no buffer. -/
def postDesc (w : World) (b : Fin 20) (d : List Word) (s : State) : State := postDescData w b d [] s

/-- Posts a completion notice or halt record, or holds it, in order (15 R499). -/
def postOrHold (w : World) (isHalt : Bool) (d : List Word) (s : State) : State :=
  if s.host.held.any (fun h => h.1 = w) || !(ring w blkNotice s).room then
    { s with host := { s.host with held := s.host.held ++ [(w, isHalt, d)] } }
  else postDesc w blkNotice d s

/-- Removes the first element that satisfies p. -/
def dropFirst {α : Type} (p : α → Bool) : List α → List α
  | [] => []
  | x :: xs => if p x then xs else x :: dropFirst p xs

/-- Changes the first element that satisfies p. -/
def modFirst {α : Type} (p : α → Bool) (f : α → α) : List α → List α
  | [] => []
  | x :: xs => if p x then f x :: xs else x :: modFirst p f xs

/-- The halt record's seven words (02 Table FM-7). -/
def HaltRec.words (h : HaltRec) : List Word :=
  [w32 (h.reason + h.status * 256 + h.seqNo * 65536 + h.state * 1048576 + h.trap * 16777216),
   w32 (h.pc + h.opword.toNat * 65536), h.w0, h.w1, h.w2, w32 h.at_.sec.toNat, w32 h.at_.ns.toNat]

/-- The halt-record form of a notice descriptor (15 Table HI-11). -/
def HaltRec.desc (h : HaltRec) : List Word := w32 0x13 :: h.words

/-- The completion form of a notice descriptor (15 Table HI-11). -/
def completionDesc (op ticket : Nat) (st : Nat) (d1 d2 : Word) (seqNo : Nat) (w : World) (s : State) : List Word :=
  [w32 (0x12 + op * 256 + ticket * 65536), w32 st, d1, d2,
   w32 (seqNo + bitAt (w = .custodian) 4), w32 (nowT s).ns.toNat, w32 (nowT s).sec.toNat, 0]

/-! ## Parameters' stored values (their table is Params.lean) -/

/-- Key of a parameter in the maps: id and scope. -/
def pkey (id scope : Nat) : Nat := id * 16 + scope

/-- Scope of the whole chip. -/
def chip : Nat := 15

/-- Adds one to a read-only count (saturating). -/
def bumpN (id scope n : Nat) (s : State) : State :=
  { s with par := { s.par with counts := Tbl.upd 0 s.par.counts (pkey id scope) (fun c => sat32 (c + n)) } }

/-- Adds one to a read-only count of the chip. -/
def bump (id : Nat) (s : State) : State := bumpN id chip 1 s

/-- Adds one to a read-only count of a slice. -/
def bumpSl (id : Nat) (sl : Fin 12) (s : State) : State := bumpN id sl.val 1 s

/-- A read-only count. -/
def count (id scope : Nat) (s : State) : Nat := Tbl.get 0 s.par.counts (pkey id scope)

end Sys2Proof.Machine
end

