-- ==== Sys2Proof/Machine/Params.lean ====
section
/-! DEFINITION. The parameters: the definitions that the chapters' tables give (02 R60-R66), and the value in effect. -/

namespace Sys2Proof.Machine

/-- The scope of a parameter (02 R61; ext: slices E-L, R313, R354). -/
inductive PScope where
  | chip | slice | ext
deriving DecidableEq, Repr

/-- The class of a parameter (02 Table FM-5). -/
inductive PClass where
  | imm | latched | ro | next | sealed_
deriving DecidableEq, Repr

/-- The range of a parameter. -/
inductive PRange where
  | any
  | nat (lo hi : Nat)
  | int (lo hi : Int)
  | mask (m : Nat)
  | queueOrNone
  | special
deriving DecidableEq, Repr

/-- A row of a parameter table, for the ids first to last. -/
structure ParamDef where
  first : Nat
  last : Nat
  scope : PScope
  cls : PClass
  rng : PRange
  dflt : Word
  sliceWritable : Bool
  custodian : Bool
deriving DecidableEq, Repr

/-- Parameters: general (02, 17). -/
def paramsGeneral : List ParamDef := [
  ⟨0x0001, 0x0001, .chip, .imm, .nat 100 1000000, i32 10000, false, false⟩, -- COND.CMD_LIMIT
  ⟨0x0002, 0x0002, .chip, .imm, .nat 1 64, i32 8, false, false⟩, -- COND.CUST_BURST
  ⟨0x0010, 0x0010, .slice, .imm, .nat 1 3, i32 0, false, false⟩, -- SEQ.CTRL
  ⟨0x0011, 0x0011, .slice, .next, .special, i32 0, false, false⟩, -- SEQ.ENTRY
  ⟨0x0012, 0x0012, .slice, .next, .special, i32 0, false, false⟩, -- SEQ.WINDOW
  ⟨0x0013, 0x0013, .slice, .imm, .nat 0 65535, i32 0, false, false⟩, -- SEQ.NEXT_ENTRY
  ⟨0x0014, 0x0014, .slice, .imm, .special, i32 0, false, false⟩, -- SEQ.NEXT_WINDOW
  ⟨0x0015, 0x0015, .slice, .imm, .nat 0 1, i32 0, false, false⟩, -- SEQ.HANDOVER
  ⟨0x0016, 0x0016, .slice, .imm, .special, i32 0, true, false⟩, -- SEQ.WATCHDOG
  ⟨0x0030, 0x0030, .chip, .imm, .nat 10 3600, i32 120, false, false⟩, -- BOOT.TRIAL_WINDOW
  ⟨0x0031, 0x0031, .chip, .imm, .nat 0 1, i32 1, false, true⟩, -- BOOT.AUTO_CONFIRM
  ⟨0x0032, 0x0032, .chip, .ro, .any, i32 0, false, false⟩, -- BOOT.STATE
  ⟨0x0033, 0x0033, .chip, .ro, .any, i32 0, false, false⟩, -- BOOT.VER_ACTIVE
  ⟨0x0034, 0x0034, .chip, .ro, .any, i32 0, false, false⟩, -- BOOT.VER_FALLBACK
  ⟨0x0035, 0x0035, .chip, .ro, .any, i32 0, false, false⟩, -- BOOT.VER_STAGING
  ⟨0x0036, 0x0036, .chip, .imm, .nat 1 1, i32 0, false, true⟩, -- BOOT.RESTART
  ⟨0x0037, 0x0037, .chip, .imm, .special, i32 0x00020003, false, true⟩, -- BOOT.FLASH_ACCESS
  ⟨0x0038, 0x0038, .chip, .ro, .any, i32 0, false, false⟩ -- BOOT.CNT_SVC_BAD
  ]

/-- Parameters: radio (10). -/
def paramsRadio : List ParamDef := [
  ⟨0x0100, 0x0100, .slice, .imm, .special, i32 0, true, false⟩, -- RF.TX_POWER
  ⟨0x0101, 0x0101, .slice, .latched, .nat 2 16, i32 8, false, false⟩, -- RF.RAMP
  ⟨0x0102, 0x0102, .slice, .latched, .int (-20) (0), i32 (-6), false, false⟩, -- RF.AGC_HIGH
  ⟨0x0103, 0x0103, .slice, .latched, .int (-50) (-12), i32 (-30), false, false⟩, -- RF.AGC_LOW
  ⟨0x0104, 0x0104, .slice, .imm, .nat 8 80, i32 24, false, false⟩, -- RF.MISMATCH_LIMIT
  ⟨0x0105, 0x0105, .slice, .imm, .nat 0 2, i32 1, false, false⟩, -- RF.MISMATCH_ACTION
  ⟨0x0106, 0x0106, .slice, .imm, .nat 2 40, i32 8, false, false⟩, -- RF.TCAL_DELTA
  ⟨0x0107, 0x0107, .slice, .imm, .nat 1 3600, i32 60, false, false⟩, -- RF.TCAL_MAX_DEFER
  ⟨0x0108, 0x0108, .slice, .ro, .any, i32 0, false, false⟩, -- RF.TEMP
  ⟨0x0110, 0x0110, .ext, .latched, .nat 0 2000, i32 200, false, false⟩, -- RF.EXT_SETTLE
  ⟨0x0111, 0x0111, .ext, .latched, .nat 1 20, i32 5, false, false⟩, -- RF.EXT_PA_LEAD
  ⟨0x0112, 0x0112, .ext, .imm, .nat 0 50000, i32 1000, false, false⟩, -- RF.EXT_CAL_TIME
  ⟨0x0113, 0x0113, .chip, .imm, .special, i32 100, false, false⟩, -- FECTL.ACK_DELAY0
  ⟨0x0114, 0x0114, .chip, .imm, .special, i32 100, false, false⟩, -- FECTL.ACK_DELAY1
  ⟨0x0115, 0x0115, .ext, .imm, .int (-320) (80), i32 (-40), false, false⟩, -- RF.XREF_FS
  ⟨0x0116, 0x0116, .ext, .imm, .any, i32 0x1E140A00, false, false⟩, -- RF.XGAIN_W0
  ⟨0x0117, 0x0117, .ext, .imm, .any, i32 0x463C3228, false, false⟩, -- RF.XGAIN_W1
  ⟨0x0118, 0x0118, .ext, .imm, .any, i32 0x6E645A50, false, false⟩, -- RF.XGAIN_W2
  ⟨0x0119, 0x0119, .ext, .imm, .any, i32 0x968C8278, false, false⟩, -- RF.XGAIN_W3
  ⟨0x0120, 0x0120, .slice, .ro, .any, i32 0, false, false⟩, -- RF.CNT_CLIP
  ⟨0x0121, 0x0121, .slice, .ro, .any, i32 0, false, false⟩, -- RF.CNT_GAIN_FORCED
  ⟨0x0122, 0x0122, .slice, .ro, .any, i32 0, false, false⟩, -- RF.CNT_LOCK_LOSS
  ⟨0x0123, 0x0123, .slice, .ro, .any, i32 0, false, false⟩, -- RF.CNT_ACK_LATE
  ⟨0x0124, 0x0124, .slice, .ro, .any, i32 0, false, false⟩, -- RF.CNT_TX_CONFLICT
  ⟨0x0125, 0x0125, .slice, .ro, .any, i32 0, false, false⟩, -- RF.CNT_POWER_CLAMP
  ⟨0x0126, 0x0126, .slice, .ro, .any, i32 0, false, false⟩, -- RF.CNT_MISMATCH
  ⟨0x0127, 0x0127, .slice, .ro, .any, i32 0, false, false⟩, -- RF.CNT_DIV_SWITCH
  ⟨0x0128, 0x0128, .ext, .ro, .any, i32 0, false, false⟩, -- RF.CNT_FECTL_FAIL
  ⟨0x0129, 0x0129, .slice, .ro, .any, i32 0, false, false⟩ -- RF.CNT_TCAL
  ]

/-- Parameters: medium access (06, 07). -/
def paramsMediumAccess : List ParamDef := [
  ⟨0x0200, 0x0200, .chip, .imm, .nat 0 2, i32 0, false, false⟩, -- MAC.GRID_CTRL
  ⟨0x0201, 0x0201, .chip, .imm, .nat 2000 65535, i32 10000, false, false⟩, -- MAC.SLOT_LEN
  ⟨0x0202, 0x0202, .chip, .latched, .special, i32 1100, false, false⟩, -- MAC.GUARD_MAX
  ⟨0x0203, 0x0203, .chip, .latched, .nat 0 1000000, i32 5000, false, false⟩, -- MAC.GUARD_BASE
  ⟨0x0204, 0x0204, .chip, .latched, .nat 4 64, i32 12, false, false⟩, -- MAC.GUARD_K
  ⟨0x0205, 0x0205, .chip, .latched, .nat 100 100000, i32 1500, false, false⟩, -- MAC.SYNC_UNC
  ⟨0x0206, 0x0206, .chip, .imm, .nat 1000 500000, i32 40000, false, false⟩, -- MAC.SKEW_INIT
  ⟨0x0207, 0x0207, .chip, .imm, .nat 1 64, i32 8, false, false⟩, -- MAC.SKEW_AVG
  ⟨0x0208, 0x0208, .chip, .imm, .nat 0 100000, i32 200, false, false⟩, -- MAC.SKEW_FLOOR
  ⟨0x0209, 0x0209, .chip, .imm, .nat 1000 500000, i32 100000, false, false⟩, -- MAC.SKEW_MAX
  ⟨0x020A, 0x020A, .chip, .imm, .nat 0 100000, i32 2000, false, false⟩, -- MAC.HOLD_UNC
  ⟨0x0210, 0x0210, .chip, .imm, .any, i32 0, false, false⟩, -- MAC.GRID_START_SLO
  ⟨0x0211, 0x0211, .chip, .imm, .any, i32 0, false, false⟩, -- MAC.GRID_START_SHI
  ⟨0x0212, 0x0212, .chip, .imm, .nat 0 999999999, i32 0, false, false⟩, -- MAC.GRID_START_NS
  ⟨0x0213, 0x0213, .chip, .imm, .any, i32 0, false, false⟩, -- MAC.ASN_START_LO
  ⟨0x0214, 0x0214, .chip, .imm, .nat 0 255, i32 0, false, false⟩, -- MAC.ASN_START_HI
  ⟨0x0218, 0x0218, .chip, .imm, .nat 500 30000, i32 2120, false, false⟩, -- MAC.TS_TX_OFFSET
  ⟨0x0219, 0x0219, .chip, .imm, .nat 200 5000, i32 1000, false, false⟩, -- MAC.TS_TX_ACK_DELAY
  ⟨0x021A, 0x021A, .chip, .imm, .nat 100 5000, i32 800, false, false⟩, -- MAC.TS_RX_ACK_DELAY
  ⟨0x021B, 0x021B, .chip, .imm, .nat 100 5000, i32 400, false, false⟩, -- MAC.TS_ACK_WAIT
  ⟨0x0220, 0x0220, .slice, .latched, .nat 0 1, i32 1, false, false⟩, -- MAC.LISTEN_MODE
  ⟨0x0221, 0x0221, .slice, .imm, .nat 0 1, i32 0, true, false⟩, -- MAC.TX_SHARED
  ⟨0x0222, 0x0222, .chip, .imm, .nat 0 8, i32 1, false, false⟩, -- MAC.MIN_BE
  ⟨0x0223, 0x0223, .chip, .imm, .nat 1 8, i32 7, false, false⟩, -- MAC.MAX_BE
  ⟨0x0224, 0x0224, .chip, .imm, .nat 0 15, i32 3, false, false⟩, -- MAC.MAX_RETRIES
  ⟨0x0225, 0x0225, .chip, .latched, .nat 0 1, i32 0, false, false⟩, -- MAC.ACK_SEC
  ⟨0x0228, 0x0228, .chip, .imm, .nat 0 65534, i32 0xFFFE, false, false⟩, -- MAC.PAN_ID_D0
  ⟨0x0229, 0x0229, .chip, .imm, .nat 0 65534, i32 0xFFFE, false, false⟩, -- MAC.PAN_ID_D1
  ⟨0x022A, 0x022A, .chip, .imm, .any, i32 0, false, false⟩, -- MAC.OWN_EUI_D0_LO
  ⟨0x022B, 0x022B, .chip, .imm, .any, i32 0, false, false⟩, -- MAC.OWN_EUI_D0_HI
  ⟨0x022C, 0x022C, .chip, .imm, .any, i32 0, false, false⟩, -- MAC.OWN_EUI_D1_LO
  ⟨0x022D, 0x022D, .chip, .imm, .any, i32 0, false, false⟩, -- MAC.OWN_EUI_D1_HI
  ⟨0x0230, 0x0230, .chip, .imm, .queueOrNone, i32 0xFFFF, false, false⟩, -- MAC.EB_QUEUE_D0
  ⟨0x0231, 0x0231, .chip, .imm, .queueOrNone, i32 0xFFFF, false, false⟩, -- MAC.EB_QUEUE_D1
  ⟨0x0232, 0x0232, .chip, .imm, .nat 0 255, i32 0, false, false⟩, -- MAC.JOIN_METRIC_D0
  ⟨0x0233, 0x0233, .chip, .imm, .nat 0 255, i32 0, false, false⟩, -- MAC.JOIN_METRIC_D1
  ⟨0x0234, 0x0234, .chip, .imm, .queueOrNone, i32 0xFFFF, false, false⟩, -- MAC.JOIN_QUEUE_D0
  ⟨0x0235, 0x0235, .chip, .imm, .queueOrNone, i32 0xFFFF, false, false⟩, -- MAC.JOIN_QUEUE_D1
  ⟨0x0236, 0x0236, .chip, .imm, .special, i32 0, false, false⟩, -- MAC.NODE_SILENT
  ⟨0x0240, 0x0240, .chip, .imm, .any, i32 0, false, false⟩, -- MAC.PARENT_EUI_LO
  ⟨0x0241, 0x0241, .chip, .imm, .any, i32 0, false, false⟩, -- MAC.PARENT_EUI_HI
  ⟨0x0242, 0x0242, .chip, .imm, .special, i32 400, false, false⟩, -- MAC.PARENT_PERIOD
  ⟨0x0243, 0x0243, .chip, .imm, .special, i32 0, false, false⟩, -- MAC.PARENT_PHASE
  ⟨0x0244, 0x0244, .chip, .imm, .nat 10 1100, i32 100, false, false⟩, -- MAC.PARENT_TOL
  ⟨0x0245, 0x0245, .chip, .imm, .nat 0 100000, i32 10000, false, false⟩, -- MAC.PARENT_DRIFT
  ⟨0x0246, 0x0246, .chip, .imm, .nat 1 64, i32 8, false, false⟩, -- MAC.PARENT_TAU
  ⟨0x0247, 0x0247, .chip, .ro, .any, i32 0, false, false⟩, -- MAC.PARENT_STEP
  ⟨0x0248, 0x0248, .chip, .ro, .any, i32 0, false, false⟩, -- MAC.PARENT_MISSES
  ⟨0x0249, 0x0249, .chip, .imm, .nat 0 11, i32 0, false, false⟩, -- MAC.RESCAN_SLICE
  ⟨0x024A, 0x024A, .chip, .imm, .special, i32 0, false, false⟩, -- MAC.RESCAN_ENTRY
  ⟨0x024B, 0x024B, .chip, .imm, .special, i32 0, false, false⟩, -- MAC.RESCAN_WINDOW
  ⟨0x0250, 0x0250, .chip, .latched, .nat 0 16, i32 2, false, false⟩, -- MAC.JOIN_RATE_D0
  ⟨0x0251, 0x0251, .chip, .latched, .nat 0 16, i32 2, false, false⟩, -- MAC.JOIN_RATE_D1
  ⟨0x0252, 0x0252, .chip, .imm, .nat 1 65535, i32 4, false, false⟩, -- MAC.DEFER_MIN
  ⟨0x0253, 0x0253, .chip, .imm, .nat 1 65535, i32 64, false, false⟩, -- MAC.DEFER_MAX
  ⟨0x0254, 0x0254, .chip, .imm, .nat 1 65535, i32 101, false, false⟩, -- MAC.DEFER_SF
  ⟨0x0255, 0x0255, .chip, .imm, .queueOrNone, i32 0xFFFF, false, false⟩, -- MAC.DEFER_QUEUE_D0
  ⟨0x0256, 0x0256, .chip, .imm, .queueOrNone, i32 0xFFFF, false, false⟩ -- MAC.DEFER_QUEUE_D1
  ]

/-- Parameters: modem (08). -/
def paramsModem : List ParamDef := [
  ⟨0x0300, 0x0300, .slice, .latched, .nat 16 2047, i32 2047, false, false⟩, -- OM.MAX_PSDU
  ⟨0x0301, 0x0301, .slice, .latched, .special, i32 4, false, false⟩, -- OM.FCS_LEN
  ⟨0x0302, 0x0302, .slice, .imm, .special, i32 0x22, true, false⟩, -- OM.TX_MODE
  ⟨0x0303, 0x0303, .slice, .latched, .nat 4 1000, i32 8, false, false⟩, -- OM.FSK_PREAMBLE
  ⟨0x0304, 0x0304, .slice, .latched, .nat 0 1, i32 1, false, false⟩, -- OM.FSK_WHITEN
  ⟨0x0305, 0x0305, .slice, .latched, .nat 0 3, i32 0, false, false⟩, -- OM.SCRAMBLE_SEED
  ⟨0x0306, 0x0306, .chip, .imm, .nat 0 1, i32 0, false, false⟩, -- OM.MID_ALPHA
  ⟨0x0310, 0x0310, .chip, .imm, .mask 7, i32 5, false, false⟩, -- OM.PROPOSE_CTRL
  ⟨0x0311, 0x0311, .chip, .imm, .nat 0 80, i32 12, false, false⟩, -- OM.PROPOSE_MARGIN
  ⟨0x0312, 0x0312, .chip, .imm, .nat 0 100, i32 20, false, false⟩, -- OM.PROPOSE_HYST
  ⟨0x0313, 0x0313, .chip, .imm, .queueOrNone, i32 0xFFFF, false, false⟩, -- OM.MEAS_QUEUE_D0
  ⟨0x0314, 0x0314, .chip, .imm, .queueOrNone, i32 0xFFFF, false, false⟩, -- OM.MEAS_QUEUE_D1
  ⟨0x0318, 0x0318, .chip, .imm, .nat 10 10000, i32 100, false, false⟩, -- OM.NF_WINDOW
  ⟨0x0320, 0x0320, .slice, .ro, .any, i32 0, false, false⟩, -- OM.CNT_PHR_FAIL
  ⟨0x0321, 0x0321, .slice, .ro, .any, i32 0, false, false⟩, -- OM.CNT_OVERSIZE
  ⟨0x0322, 0x0322, .slice, .ro, .any, i32 0, false, false⟩, -- OM.CNT_FCS_FAIL
  ⟨0x0323, 0x0323, .slice, .ro, .any, i32 0, false, false⟩, -- OM.CNT_RELOCK
  ⟨0x0324, 0x0324, .slice, .ro, .any, i32 0, false, false⟩, -- OM.CNT_CAPTURE
  ⟨0x0325, 0x0325, .slice, .ro, .any, i32 0, false, false⟩, -- OM.CNT_RELOCK_LOST
  ⟨0x0326, 0x0326, .slice, .ro, .any, i32 0, false, false⟩, -- OM.CNT_BL_FALLBACK
  ⟨0x0340, 0x0349, .chip, .imm, .any, i32 0, false, false⟩, -- OM.PROF_W
  ⟨0x034F, 0x034F, .chip, .imm, .special, i32 0, false, false⟩ -- OM.PROF_COMMIT
  ]

/-- Parameters: channelizer (09). -/
def paramsChannelizer : List ParamDef := [
  ⟨0x0400, 0x0400, .slice, .latched, .nat 1 64, i32 64, false, false⟩, -- CH.LANE_CAP
  ⟨0x0401, 0x0401, .slice, .latched, .nat 32 240, i32 96, false, false⟩, -- CH.DETECT_THR
  ⟨0x0402, 0x0402, .slice, .latched, .nat 0 11, i32 0, false, false⟩, -- CH.BLANK_GROUP
  ⟨0x0403, 0x0403, .ext, .imm, .mask 15, i32 0, false, false⟩, -- CH.XIQ_CTRL
  ⟨0x0404, 0x0404, .ext, .ro, .any, i32 0, false, false⟩, -- CH.XIQ_STATE
  ⟨0x0405, 0x0405, .slice, .ro, .any, i32 0, false, false⟩, -- CH.LANES_HELD
  ⟨0x0406, 0x0406, .chip, .ro, .any, i32 0, false, false⟩, -- CH.LANES_FREE
  ⟨0x0410, 0x0410, .slice, .ro, .any, i32 0, false, false⟩, -- CH.CNT_DETECT
  ⟨0x0411, 0x0411, .slice, .ro, .any, i32 0, false, false⟩, -- CH.CNT_STARVED
  ⟨0x0412, 0x0412, .slice, .ro, .any, i32 0, false, false⟩, -- CH.CNT_PREEMPTED
  ⟨0x0413, 0x0413, .slice, .ro, .any, i32 0, false, false⟩, -- CH.CNT_RES_STARVED
  ⟨0x0414, 0x0414, .slice, .ro, .any, i32 0, false, false⟩, -- CH.CNT_RES_DENIED
  ⟨0x0415, 0x0415, .slice, .ro, .any, i32 0, false, false⟩, -- CH.CNT_CUT
  ⟨0x0416, 0x0416, .ext, .ro, .any, i32 0, false, false⟩, -- CH.CNT_XIQ_BAD
  ⟨0x0417, 0x0417, .ext, .ro, .any, i32 0, false, false⟩, -- CH.CNT_XIQ_SLIP
  ⟨0x0440, 0x0451, .slice, .imm, .any, i32 0, false, false⟩, -- CH.SEG_W
  ⟨0x045F, 0x045F, .slice, .imm, .special, i32 0, false, false⟩ -- CH.SEG_COMMIT
  ]

/-- Parameters: queues (11). -/
def paramsQueues : List ParamDef := [
  ⟨0x0500, 0x0500, .chip, .imm, .nat 0 1023, i32 1023, false, false⟩, -- QP.EXC_QUEUE
  ⟨0x0501, 0x0501, .chip, .imm, .nat 0 8192, i32 2048, false, false⟩, -- QP.RX_RESERVE
  ⟨0x0502, 0x0502, .chip, .imm, .nat 10 100000, i32 1000, false, false⟩, -- QP.START_WAIT
  ⟨0x0503, 0x0503, .chip, .imm, .nat 1 10000, i32 100, false, false⟩, -- QP.ITEM_TIMEOUT
  ⟨0x0504, 0x0504, .chip, .imm, .nat 1 18, i32 2, false, false⟩, -- QP.CT_LEAD
  ⟨0x0505, 0x0505, .chip, .imm, .mask 255, i32 0, false, false⟩, -- QP.FLOW_CTRL
  ⟨0x0506, 0x0506, .chip, .imm, .nat 0 1, i32 0, false, false⟩, -- QP.LEDGER_ACTION
  ⟨0x0510, 0x0510, .chip, .ro, .any, i32 0, false, false⟩, -- QP.CNT_OVERFLOW
  ⟨0x0511, 0x0511, .chip, .ro, .any, i32 0, false, false⟩, -- QP.CNT_POOL_EXH
  ⟨0x0512, 0x0512, .chip, .ro, .any, i32 0, false, false⟩, -- QP.CNT_RX_NOPOOL
  ⟨0x0513, 0x0513, .chip, .ro, .any, i32 0, false, false⟩, -- QP.CNT_LEN_RANGE
  ⟨0x0514, 0x0514, .chip, .ro, .any, i32 0, false, false⟩, -- QP.CNT_FLUSH_MIDITEM
  ⟨0x0515, 0x0515, .chip, .ro, .any, i32 0, false, false⟩, -- QP.CNT_UNDERRUN
  ⟨0x0516, 0x0516, .chip, .ro, .any, i32 0, false, false⟩, -- QP.CNT_EXCEPTION
  ⟨0x0517, 0x0517, .chip, .ro, .any, i32 0, false, false⟩ -- QP.CNT_LEDGER_FAIL
  ]

/-- Parameters: tables (12). -/
def paramsTables : List ParamDef := [
  ⟨0x0600, 0x0600, .chip, .sealed_, .any, i32 0xFFFFFFFF, false, false⟩, -- FT.HASH_SEED
  ⟨0x0601, 0x0601, .chip, .imm, .queueOrNone, i32 0xFFFF, false, false⟩, -- FT.LEARN_QUEUE_D0
  ⟨0x0602, 0x0602, .chip, .imm, .queueOrNone, i32 0xFFFF, false, false⟩, -- FT.LEARN_QUEUE_D1
  ⟨0x0603, 0x0603, .chip, .latched, .nat 0 64, i32 4, false, false⟩, -- FT.LEARN_RATE
  ⟨0x0604, 0x0604, .chip, .imm, .nat 1 86400, i32 3600, false, false⟩, -- FT.DECLINE_HOLD
  ⟨0x0605, 0x0605, .chip, .imm, .nat 0 65535, i32 0, false, false⟩, -- FT.AGE_PERIOD
  ⟨0x0606, 0x0606, .chip, .imm, .nat 1 15, i32 3, false, false⟩, -- FT.AGE_LIMIT
  ⟨0x0607, 0x0607, .chip, .imm, .nat 1 4096, i32 3072, false, false⟩, -- FT.OVF_WARN
  ⟨0x0610, 0x0610, .chip, .ro, .any, i32 0, false, false⟩, -- FT.OVF_USED
  ⟨0x0611, 0x0611, .chip, .ro, .any, i32 0, false, false⟩, -- FT.OVF_PEAK
  ⟨0x0612, 0x0612, .chip, .ro, .any, i32 0, false, false⟩, -- FT.CNT_SRC_MISS
  ⟨0x0613, 0x0613, .chip, .ro, .any, i32 0, false, false⟩, -- FT.CNT_MOVED
  ⟨0x0614, 0x0614, .chip, .ro, .any, i32 0, false, false⟩, -- FT.CNT_STALE
  ⟨0x0615, 0x0615, .chip, .ro, .any, i32 0, false, false⟩, -- FT.CNT_LEARN_LOST
  ⟨0x0616, 0x0616, .chip, .ro, .any, i32 0, false, false⟩, -- FT.CNT_AGED
  ⟨0x0617, 0x0617, .chip, .ro, .any, i32 0, false, false⟩ -- FT.CNT_CHECK_FAIL
  ]

/-- Parameters: security (13). -/
def paramsSecurity : List ParamDef := [
  ⟨0x0700, 0x0700, .chip, .ro, .any, i32 0, false, false⟩, -- SEC.LCSTATE
  ⟨0x0701, 0x0701, .chip, .imm, .special, i32 0, false, true⟩, -- SEC.LC_ADVANCE
  ⟨0x0702, 0x0702, .chip, .ro, .any, i32 0, false, false⟩, -- SEC.LOCK_ID
  ⟨0x0703, 0x0703, .chip, .imm, .nat 1 65535, i32 0, false, true⟩, -- SEC.LOCK_ACK
  ⟨0x0704, 0x0704, .chip, .imm, .special, i32 0x4F, false, true⟩, -- SEC.TAMP_CTRL
  ⟨0x0705, 0x0708, .chip, .ro, .any, i32 0, false, false⟩, -- SEC.TAMP_REC
  ⟨0x0709, 0x0709, .chip, .imm, .nat 1 1, i32 0, false, true⟩, -- SEC.TAMP_CLEAR
  ⟨0x070A, 0x070A, .chip, .imm, .nat 0 1, i32 0, false, false⟩, -- SEC.DEVPUB_SEL
  ⟨0x0710, 0x071F, .chip, .ro, .any, i32 0, false, false⟩, -- SEC.DEVPUB_W
  ⟨0x0720, 0x0727, .chip, .imm, .special, i32 0, false, true⟩, -- SEC.BIND
  ⟨0x0728, 0x072F, .chip, .imm, .any, i32 0, false, true⟩, -- SEC.KSRC
  ⟨0x0730, 0x0730, .chip, .imm, .nat 16 16777216, i32 65536, false, false⟩, -- SEC.EXPORT_MARGIN
  ⟨0x0731, 0x0731, .chip, .imm, .nat 0 1, i32 0, false, true⟩, -- SEC.JOIN_UNSEC_D0
  ⟨0x0732, 0x0732, .chip, .imm, .nat 0 1, i32 0, false, true⟩, -- SEC.JOIN_UNSEC_D1
  ⟨0x0733, 0x0733, .chip, .ro, .any, i32 0, false, false⟩, -- SEC.GRP_CNT_D0
  ⟨0x0734, 0x0734, .chip, .ro, .any, i32 0, false, false⟩, -- SEC.GRP_CNT_D1
  ⟨0x0735, 0x0735, .chip, .imm, .any, i32 0, false, true⟩, -- SEC.GRP_FLOOR_D0
  ⟨0x0736, 0x0736, .chip, .imm, .any, i32 0, false, true⟩, -- SEC.GRP_FLOOR_D1
  ⟨0x0740, 0x0740, .chip, .ro, .any, i32 0, false, false⟩, -- SEC.CNT_POLICY
  ⟨0x0741, 0x0741, .chip, .ro, .any, i32 0, false, false⟩, -- SEC.CNT_UNKNOWN_KEY
  ⟨0x0742, 0x0742, .chip, .ro, .any, i32 0, false, false⟩, -- SEC.CNT_MIC_FAIL
  ⟨0x0743, 0x0743, .chip, .ro, .any, i32 0, false, false⟩, -- SEC.CNT_REPLAY
  ⟨0x0744, 0x0744, .chip, .ro, .any, i32 0, false, false⟩, -- SEC.CNT_DUPLICATE
  ⟨0x0745, 0x0745, .chip, .ro, .any, i32 0, false, false⟩, -- SEC.CNT_REVOKED
  ⟨0x0746, 0x0746, .chip, .ro, .any, i32 0, false, false⟩, -- SEC.CNT_TAMPER
  ⟨0x0747, 0x0747, .chip, .ro, .any, i32 0, false, false⟩ -- SEC.CNT_CTR_EXHAUSTED
  ]

/-- Parameters: time (05). -/
def paramsTime : List ParamDef := [
  ⟨0x0800, 0x0800, .chip, .imm, .nat 0 3, i32 0, false, false⟩, -- TIME.DISCIPLINE
  ⟨0x0801, 0x0801, .chip, .imm, .nat 1 64, i32 8, false, false⟩, -- TIME.PPS_TAU
  ⟨0x0802, 0x0802, .chip, .imm, .nat 1 1000, i32 100, false, false⟩, -- TIME.PPS_TOL
  ⟨0x0803, 0x0803, .chip, .imm, .nat 8 100000, i32 100, false, false⟩, -- TIME.PPS_LOCKED
  ⟨0x0804, 0x0804, .chip, .imm, .mask 3, i32 0, false, false⟩, -- TIME.PPS_IN_CTRL
  ⟨0x0805, 0x0805, .chip, .imm, .int (-100000) (100000), i32 0, false, false⟩, -- TIME.PPS_DELAY
  ⟨0x0808, 0x0808, .chip, .imm, .mask 7, i32 0, false, false⟩, -- TIME.PPS_OUT_CTRL
  ⟨0x0809, 0x0809, .chip, .imm, .nat 1 999999, i32 100000, false, false⟩, -- TIME.PPS_OUT_WIDTH
  ⟨0x0810, 0x0810, .chip, .imm, .any, i32 0, false, false⟩, -- TRIG0.START_SLO
  ⟨0x0811, 0x0811, .chip, .imm, .any, i32 0, false, false⟩, -- TRIG0.START_SHI
  ⟨0x0812, 0x0812, .chip, .imm, .nat 0 999999999, i32 0, false, false⟩, -- TRIG0.START_NS
  ⟨0x0813, 0x0813, .chip, .imm, .special, i32 0, false, false⟩, -- TRIG0.PERIOD
  ⟨0x0814, 0x0814, .chip, .imm, .nat 8 4294967295, i32 1000, false, false⟩, -- TRIG0.WIDTH
  ⟨0x0815, 0x0815, .chip, .imm, .mask 3, i32 0, false, false⟩, -- TRIG0.CTRL
  ⟨0x0818, 0x0818, .chip, .imm, .any, i32 0, false, false⟩, -- TRIG1.START_SLO
  ⟨0x0819, 0x0819, .chip, .imm, .any, i32 0, false, false⟩, -- TRIG1.START_SHI
  ⟨0x081A, 0x081A, .chip, .imm, .nat 0 999999999, i32 0, false, false⟩, -- TRIG1.START_NS
  ⟨0x081B, 0x081B, .chip, .imm, .special, i32 0, false, false⟩, -- TRIG1.PERIOD
  ⟨0x081C, 0x081C, .chip, .imm, .nat 8 4294967295, i32 1000, false, false⟩, -- TRIG1.WIDTH
  ⟨0x081D, 0x081D, .chip, .imm, .mask 3, i32 0, false, false⟩, -- TRIG1.CTRL
  ⟨0x0820, 0x0820, .chip, .imm, .any, i32 0, false, false⟩, -- TIME.RTC_SET_TIME
  ⟨0x0821, 0x0821, .chip, .imm, .any, i32 0, false, false⟩, -- TIME.RTC_SET_DATE
  ⟨0x0822, 0x0822, .chip, .imm, .nat 1 3, i32 0, false, false⟩, -- TIME.RTC_COMMIT
  ⟨0x0823, 0x0823, .chip, .ro, .any, i32 0, false, false⟩, -- TIME.RTC_TIME
  ⟨0x0824, 0x0824, .chip, .ro, .any, i32 0, false, false⟩, -- TIME.RTC_DATE
  ⟨0x0825, 0x0825, .chip, .imm, .int (-511) (511), i32 0, false, false⟩, -- TIME.RTC_TRIM
  ⟨0x0826, 0x0826, .chip, .imm, .any, i32 0, false, false⟩, -- TIME.RTC_ALARM_TIME
  ⟨0x0827, 0x0827, .chip, .imm, .any, i32 0, false, false⟩, -- TIME.RTC_ALARM_DATE
  ⟨0x0828, 0x0828, .chip, .imm, .nat 0 1, i32 0, false, false⟩, -- TIME.RTC_ALARM_CTRL
  ⟨0x0829, 0x0829, .chip, .ro, .any, i32 0, false, false⟩, -- TIME.RTC_STATUS
  ⟨0x0830, 0x0830, .chip, .sealed_, .nat 0 1, i32 0, false, false⟩, -- TIME.REF_KIND
  ⟨0x0831, 0x0831, .slice, .latched, .int (-10000) (10000), i32 0, false, false⟩, -- TIME.PATH_DELAY_RX
  ⟨0x0832, 0x0832, .slice, .latched, .int (-10000) (10000), i32 0, false, false⟩ -- TIME.PATH_DELAY_TX
  ]

/-- Parameters: power (14). -/
def paramsPower : List ParamDef := [
  ⟨0x0900, 0x0900, .chip, .ro, .any, i32 0, false, false⟩, -- PW.AON_STATUS
  ⟨0x0901, 0x0901, .chip, .imm, .nat 4 64, i32 16, false, false⟩, -- PW.LISTEN_LANES
  ⟨0x0902, 0x0902, .chip, .imm, .nat 2000 20000, i32 4000, false, false⟩, -- PW.DOZE_LEAD
  ⟨0x0903, 0x0903, .chip, .imm, .nat 1000 1000000, i32 20000, false, false⟩, -- PW.DOZE_MIN_GAP
  ⟨0x0904, 0x0904, .chip, .imm, .special, i32 10000, false, false⟩, -- PW.REF_RETRY
  ⟨0x0905, 0x0905, .chip, .imm, .nat 40 110, i32 70, false, false⟩, -- PW.LP_TEMP
  ⟨0x0906, 0x0906, .chip, .imm, .nat 0 1000, i32 10, false, false⟩, -- PW.PWRON_DELAY
  ⟨0x0907, 0x0907, .chip, .ro, .any, i32 0, false, false⟩, -- PW.VIN
  ⟨0x0908, 0x0908, .chip, .ro, .any, i32 0, false, false⟩, -- PW.DIE_TEMP
  ⟨0x0909, 0x0909, .chip, .imm, .nat 1 1, i32 0, false, false⟩, -- PW.BKP_STATUS
  ⟨0x0910, 0x0913, .chip, .imm, .any, i32 0, false, false⟩, -- PW.BKP_REG
  ⟨0x0920, 0x0920, .chip, .ro, .any, i32 0, false, false⟩, -- PW.CNT_WAKE
  ⟨0x0921, 0x0921, .chip, .ro, .any, i32 0, false, false⟩, -- PW.CNT_WAKE_FAIL
  ⟨0x0922, 0x0922, .chip, .ro, .any, i32 0, false, false⟩, -- PW.CNT_LATE_WAKE
  ⟨0x0923, 0x0923, .chip, .ro, .any, i32 0, false, false⟩, -- PW.CNT_SLEEP_REFUSED
  ⟨0x0924, 0x0924, .chip, .ro, .any, i32 0, false, false⟩, -- PW.CNT_LP_HOT
  ⟨0x0925, 0x0925, .chip, .ro, .any, i32 0, false, false⟩ -- PW.CNT_NV_INHIBIT
  ]

/-- Parameters: host (15, 07). -/
def paramsHost : List ParamDef := [
  ⟨0x0A00, 0x0A07, .chip, .imm, .special, i32 0, false, false⟩, -- HOST.RX_BIND_O
  ⟨0x0A08, 0x0A0F, .chip, .imm, .special, i32 0, false, true⟩, -- HOST.RX_BIND_C
  ⟨0x0A10, 0x0A10, .chip, .imm, .nat 10 100000, i32 100, false, false⟩, -- HOST.MIRROR_GAP
  ⟨0x0A11, 0x0A11, .chip, .imm, .special, i32 786432, false, true⟩, -- HOST.RING_SPLIT
  ⟨0x0A12, 0x0A12, .chip, .imm, .nat 0 1, i32 1, false, true⟩, -- HOST.CUST_NOTICES
  ⟨0x0A20, 0x0A20, .chip, .ro, .any, i32 0, false, false⟩, -- HOST.CNT_BAD_WRITE
  ⟨0x0A21, 0x0A21, .chip, .ro, .any, i32 0, false, false⟩, -- HOST.CNT_BAD_DOORBELL
  ⟨0x0A22, 0x0A22, .chip, .ro, .any, i32 0, false, false⟩, -- HOST.CNT_BAD_DESC
  ⟨0x0A23, 0x0A23, .chip, .ro, .any, i32 0, false, false⟩, -- HOST.CNT_QSPI_BAD
  ⟨0x0A24, 0x0A24, .chip, .ro, .any, i32 0, false, false⟩, -- HOST.CNT_DMA_ERR
  ⟨0x0A40, 0x0A40, .chip, .imm, .nat 100 600000, i32 5000, false, false⟩ -- HOST.SILENT_TIMEOUT
  ]

/-- Parameters: cascade and twin (16). -/
def paramsCascadeAndTwin : List ParamDef := [
  ⟨0x0B00, 0x0B00, .chip, .imm, .mask 15, i32 15, false, false⟩, -- CT.LINK_EN
  ⟨0x0B01, 0x0B01, .chip, .imm, .nat 1 2, i32 2, false, false⟩, -- CT.VERSION_MAX
  ⟨0x0B02, 0x0B02, .chip, .imm, .nat 4 64, i32 32, false, false⟩, -- CT.GRANT
  ⟨0x0B03, 0x0B03, .chip, .ro, .any, i32 0, false, false⟩, -- CT.LINK_STATE
  ⟨0x0B04, 0x0B07, .chip, .imm, .int (-1000) (1000), i32 0, false, false⟩, -- CT.CAS_ASYM
  ⟨0x0B08, 0x0B08, .chip, .imm, .nat 1 64, i32 16, false, false⟩, -- CT.TIME_TAU
  ⟨0x0B09, 0x0B09, .chip, .imm, .nat 10 10000, i32 200, false, false⟩, -- CT.TIME_TOL
  ⟨0x0B0A, 0x0B0A, .chip, .imm, .nat 10 10000, i32 500, false, false⟩, -- CT.CREDIT_TIMEOUT
  ⟨0x0B0B, 0x0B0B, .chip, .imm, .nat 1 1000, i32 10, false, false⟩, -- CT.LINK_TIMEOUT
  ⟨0x0B0C, 0x0B0C, .chip, .ro, .any, i32 0, false, false⟩, -- CT.PRESENT
  ⟨0x0B0D, 0x0B0D, .chip, .ro, .any, i32 0, false, false⟩, -- CT.ROUTE
  ⟨0x0B0E, 0x0B0E, .chip, .imm, .queueOrNone, i32 0xFFFF, false, false⟩, -- CT.MSG_QUEUE
  ⟨0x0B10, 0x0B17, .chip, .imm, .special, i32 0, false, false⟩, -- CT.FWD
  ⟨0x0B18, 0x0B18, .chip, .imm, .nat 0 1, i32 0, false, true⟩, -- CT.RELAY_ACCEPT
  ⟨0x0B19, 0x0B1E, .chip, .imm, .any, i32 0, false, false⟩, -- CT.RELAY_W
  ⟨0x0B1F, 0x0B1F, .chip, .imm, .special, i32 0, false, false⟩, -- CT.RELAY_GO
  ⟨0x0B20, 0x0B23, .chip, .ro, .any, i32 0, false, false⟩, -- CT.RELAY_RES
  ⟨0x0B30, 0x0B30, .chip, .imm, .nat 300 10000, i32 1000, false, false⟩, -- CT.HB_TIMEOUT
  ⟨0x0B31, 0x0B31, .chip, .imm, .nat 10 1000, i32 20, false, false⟩, -- CT.ROLE_SETTLE
  ⟨0x0B32, 0x0B32, .chip, .imm, .nat 0 1, i32 1, false, false⟩, -- CT.AUTO_SYNC
  ⟨0x0B33, 0x0B33, .chip, .imm, .nat 1 60, i32 5, false, false⟩, -- CT.SYNC_TIMEOUT
  ⟨0x0B34, 0x0B34, .chip, .imm, .nat 16 1048576, i32 4096, false, false⟩, -- CT.CTR_SKIP
  ⟨0x0B35, 0x0B35, .chip, .imm, .nat 1 1, i32 0, false, true⟩, -- CT.ACTIVATE
  ⟨0x0B36, 0x0B36, .chip, .imm, .int (-1000) (1000), i32 0, false, false⟩, -- CT.MATE_ASYM
  ⟨0x0B40, 0x0B40, .chip, .ro, .any, i32 0, false, false⟩, -- CT.CNT_CRC
  ⟨0x0B41, 0x0B41, .chip, .ro, .any, i32 0, false, false⟩, -- CT.CNT_RESYNC
  ⟨0x0B42, 0x0B42, .chip, .ro, .any, i32 0, false, false⟩, -- CT.CNT_RESENT
  ⟨0x0B43, 0x0B43, .chip, .ro, .any, i32 0, false, false⟩, -- CT.CNT_DUPLICATE
  ⟨0x0B44, 0x0B44, .chip, .ro, .any, i32 0, false, false⟩, -- CT.CNT_NO_ROUTE
  ⟨0x0B45, 0x0B45, .chip, .ro, .any, i32 0, false, false⟩, -- CT.CNT_TIME_REJ
  ⟨0x0B46, 0x0B46, .chip, .ro, .any, i32 0, false, false⟩, -- CT.CNT_DIVERGED
  ⟨0x0B47, 0x0B47, .chip, .ro, .any, i32 0, false, false⟩, -- CT.CNT_FAILOVER
  ⟨0x0B48, 0x0B48, .chip, .ro, .any, i32 0, false, false⟩ -- CT.CNT_MSG_LOST
  ]

/-- Parameters: notices (07). -/
def paramsNotices : List ParamDef := [
  ⟨0x0C00, 0x0C00, .chip, .imm, .nat 10 60000, i32 1000, false, false⟩, -- NOTICE.QUIET
  ⟨0x0C01, 0x0C01, .chip, .imm, .nat 100 600000, i32 10000, false, false⟩ -- NOTICE.MAX_AGE
  ]

/-- Every parameter the spec defines (02 R60). -/
def paramDefs : List ParamDef :=
  paramsGeneral ++ paramsRadio ++ paramsMediumAccess ++ paramsModem ++ paramsChannelizer ++ paramsQueues ++ paramsTables ++ paramsSecurity ++ paramsTime ++ paramsPower ++ paramsHost ++ paramsCascadeAndTwin ++ paramsNotices

/-- The definition of an id. -/
def paramDef (id : Nat) : Option ParamDef := paramDefs.find? (fun d => d.first ≤ id && id ≤ d.last)

/-- The default of a parameter in a scope: RF.TX_POWER and CH.BLANK_GROUP depend on the slice (10 R354, 09 R313). -/
def paramDefault (id scope : Nat) : Word :=
  if id = 0x0100 then (if scope < 4 then 28 else 0)
  else if id = 0x0402 then w32 scope
  else match paramDef id with
    | some d => d.dflt
    | none => 0

/-- The value of a parameter in effect (02 R63). -/
def par (id scope : Nat) (s : State) : Word := Tbl.get (paramDefault id scope) s.par.vals (pkey id scope)

/-- The value in effect of a chip parameter, as a number. -/
def cpar (id : Nat) (s : State) : Nat := (par id chip s).toNat

/-- The value in effect of a slice parameter, as a number. -/
def spar (id : Nat) (sl : Fin 12) (s : State) : Nat := (par id sl.val s).toNat

/-- Writes the value in effect. -/
def setPar (id scope : Nat) (v : Word) (s : State) : State :=
  { s with par := { s.par with vals := Tbl.set (paramDefault id scope) s.par.vals (pkey id scope) v } }

/-- The pending value of a slot-latched parameter. -/
def pendPar (id scope : Nat) (s : State) : Option Word := Tbl.get none s.par.latched (pkey id scope)

/-- Sets or clears the pending value. -/
def setPend (id scope : Nat) (v : Option Word) (s : State) : State :=
  { s with par := { s.par with latched := Tbl.set none s.par.latched (pkey id scope) v } }

/-- The value that will stand: the pending one, or the one in effect (02 R62). -/
def standing (id scope : Nat) (s : State) : Word := (pendPar id scope s).getD (par id scope s)

/-- Slot-latched values take effect: at a slot boundary or a stopped-grid tick (02 R63). -/
def applyLatched (s : State) : State :=
  let apply1 (s : State) (kv : Nat × Option Word) : State :=
    match kv.2 with
    | some v => setPar (kv.1 / 16) (kv.1 % 16) v s
    | none => s
  let s' := s.par.latched.foldl apply1 s
  { s' with par := { s'.par with latched := [] } }

/-! ## The coalescing table (chapter 07) -/

/-- The ring a coalesced notice goes to (15 R499). -/
def noticeWorld (kind : Nat) (s : State) : World :=
  if 0x0700 ≤ kind && kind ≤ 0x07FF && cpar 0x0A12 s = 1 && (ring .custodian blkNotice s).runs then .custodian else .operator

/-- A coalesced descriptor (15 Table HI-11): FORM 0x10 first, 0x11 closing. -/
def Notice.desc (n : Notice) (closing : Bool) : List Word :=
  [w32 ((if closing then 0x11 else 0x10) + n.kind * 65536), n.subject,
   w32 (n.status.toNat % 256 + (if closing then n.count else 1) * 65536), n.reporter,
   w32 n.first.sec.toNat, w32 n.first.ns.toNat, w32 n.last.sec.toNat, w32 n.last.ns.toNat]

/-- Is the entry the one of this kind and subject? -/
def Notice.is (n : Notice) (kind : Nat) (subject : Word) : Bool := n.kind = kind && n.subject = subject

/-- An entry that a further report reaches (07 Table NP-5). -/
def Notice.again (n : Notice) (st : Nat) (reporter : Word) (s : State) : Notice :=
  { n with count := min (n.count + 1) 65535, last := nowT s, lastAt := s.time.coreNs, reporter := reporter, status := w32 st }

/-- A new entry. -/
def Notice.open_ (kind : Nat) (subject : Word) (st : Nat) (reporter : Word) (s : State) : Notice :=
  { kind := kind, subject := subject, status := w32 st, count := 1, first := nowT s, last := nowT s, reporter := reporter,
    openedAt := s.time.coreNs, lastAt := s.time.coreNs }

/-- The descriptor an entry waits to post, if any: its first, or its closing one once closed with more than one report
(07 R250); a declined entry that is open posts none (12 R405); version 2 posts no closing descriptor (15 R506). -/
def Notice.due (n : Notice) (s : State) : Option (List Word) :=
  if n.declined.isSome && !n.closed then none
  else if !n.firstPosted then some (n.desc false)
  else if n.closed && 1 < n.count && s.host.hifNeg ≠ 2 then some (n.desc true)
  else none

/-- What becomes of an entry when its due descriptor is posted or it closes: none when it is free (07 R250). -/
def Notice.settle (n : Notice) (s : State) : Option Notice := if n.closed && (n.due s).isNone then none else some n

/-- Posts what an entry waits to post while its ring has room; the entry after it, none when free. -/
def Notice.post (n : Notice) (s : State) : Option Notice × State :=
  let w := noticeWorld n.kind s
  match n.due s with
  | none => (n.settle s, s)
  | some d =>
    if !(ring w blkNotice s).room then (some n, s)
    else
      let s := postDesc w blkNotice d s
      if !n.firstPosted then
        let n := { n with firstPosted := true }
        match n.due s with
        | none => (n.settle s, s)
        | some d2 => if (ring w blkNotice s).room then (none, postDesc w blkNotice d2 s) else (some n, s)
      else (none, s)

/-- Sets the ordinary entries. -/
def setEntries (es : List Notice) (s : State) : State := { s with notices := { s.notices with entries := es } }

/-- A report to the coalescing table (07 R249, Table NP-5). -/
def report (kind : Nat) (subject : Word) (st : Nat) (reporter : Word) (s : State) : State :=
  if s.notices.entries.any (fun n => !n.closed && n.is kind subject) then
    setEntries (modFirst (fun n => !n.closed && n.is kind subject) (fun n => n.again st reporter s) s.notices.entries) s
  else if s.notices.entries.length < 1023 then
    match (Notice.open_ kind subject st reporter s).post s with
    | (some n, s) => setEntries (s.notices.entries ++ [n]) s
    | (none, s) => s
  else
    match s.notices.overflow with
    | some n =>
      { s with notices := { s.notices with overflow := some { n.again stOVERRUN reporter s with subject := w32 kind } } }
    | none =>
      let (n, s) := (Notice.open_ 0x0C00 (w32 kind) stOVERRUN reporter s).post s
      { s with notices := { s.notices with overflow := n } }

/-- The count of the open entry a report went to, as NOTE answers it (03 R115). -/
def noticeCount (kind : Nat) (subject : Word) (s : State) : Nat :=
  match s.notices.entries.find? (fun n => !n.closed && n.is kind subject) with
  | some n => n.count
  | none => match s.notices.overflow with
    | some n => n.count
    | none => 0

/-- Block ids of Table NP-8. -/
def blkSlice (sl : Fin 12) : Nat := sl.val
def blkPipe : Nat := 0x10
def blkCas (l : Nat) : Nat := 0x20 + l
def blkMate (l : Nat) : Nat := 0x28 + l
def blkHost : Nat := 0x30
def blkTime : Nat := 0x40
def blkPower : Nat := 0x48
def blkBackup : Nat := 0x49
def blkHousekeeper : Nat := 0x50

/-- A report by a block (07 R249). -/
def notify (kind : Nat) (subject : Nat) (st : Nat) (block : Nat) (s : State) : State :=
  report kind (w32 subject) st (w32 (0x40000000 + block)) s

/-- The sticky overrun flag b of a crossing is set: a value was offered while the crossing was busy
(05 R187); set after a latch, it outlives the read of that latch (05 R192). -/
def setXovr (b : Nat) (s : State) : State :=
  let bit := BitVec.ofNat 32 (2 ^ b)
  let first := s.time.xovrSeen &&& bit = 0
  let s := { s with time := { s.time with xovr := s.time.xovr ||| bit, xovrSeen := s.time.xovrSeen ||| bit
                                          xovrDue := s.time.xovrDue &&& ~~~ bit } }
  if first then notify 0x0805 b stOVERRUN blkTime s else s

end Sys2Proof.Machine
end

