-- ==== Sys2Proof/Machine/QOps.lean ====
section
/-! DEFINITION. Cells, items, job records and queues: the operations of chapter 11 that every family shares. -/

namespace Sys2Proof.Machine

/-! ## Job records (11 R380-R384) -/

/-- Lowest key, from i on, that the listed records leave free. -/
def lowestFree : Tbl JobRec → Nat → Nat
  | [], i => i
  | (k, j) :: t, i => if i < k then i else if j.stage = 0 then k else lowestFree t (k + 1)

/-- Index part of a job reference (03 R94). -/
def jobIdx (ref : Nat) : Nat := ref % 32768

/-- The job record that a reference's index names. -/
def jobAt (ref : Nat) (s : State) : JobRec := Tbl.get {} s.qp.jobs (jobIdx ref)

/-- Changes the job record that a reference's index names. -/
def modJob (ref : Nat) (f : JobRec → JobRec) (s : State) : State :=
  { s with qp := { s.qp with jobs := Tbl.upd {} s.qp.jobs (jobIdx ref) f } }

/-- Stage of a job. -/
def stageOf (ref : Nat) (s : State) : Nat := (jobAt ref s).stage

/-- The transitions of Table QP-9; every stage may be retired (11 R382). -/
def stageAllowed (a b : Nat) : Bool :=
  b = 15 || [(0, 1), (1, 2), (1, 3), (2, 3), (3, 4), (4, 5), (5, 6), (6, 7), (6, 8), (4, 3), (5, 3), (8, 3), (6, 3)].contains (a, b)

/-- Journals a transition, newest first, 4,096 kept (11 R384). -/
def journal (e : JEntry) (s : State) : State :=
  { s with qp := { s.qp with journal := (e :: s.qp.journal).take 4096 } }

/-- Moves a job to a stage and journals it; a transition that Table QP-9 does not list does not occur (11 R382).
The truncation flag is cleared when the job reaches AIRING (11 R380). -/
def setStage (ref st status : Nat) (s : State) : State :=
  let j := jobAt ref s
  if stageAllowed j.stage st then
    let tr := j.trunc && st ≠ 5
    let s := journal { job := ref, before := j.stage, after := st, attempts := j.attempts, trunc := tr, exc := j.exc,
                       status := status, at_ := nowT s } s
    modJob ref (fun j => { j with stage := st, trunc := tr, tns := (nowT s).ns.toNat }) s
  else s

/-- ATTEMPTS rises by one, saturating (11 R380, R383). -/
def addAttempt (ref : Nat) (s : State) : State := modJob ref (fun j => { j with attempts := min (j.attempts + 1) 255 }) s

/-- Sets the truncation flag. -/
def setTrunc (ref : Nat) (b : Bool) (s : State) : State := modJob ref (fun j => { j with trunc := b }) s

/-- Records the outcome of a received frame's Enh-Ack in the frame's job record, if it still holds that job (01 R21). -/
def noteAck (ref o : Nat) (s : State) : State :=
  if stageOf ref s ≠ 0 && (jobAt ref s).gen = ref / 32768 then modJob ref (fun j => { j with ack := o }) s else s

/-- Takes the lowest free record, advances its generation and enters ACCEPTED; gives the reference (11 R380, R94). -/
def takeJob (s : State) : Nat × State :=
  let i := lowestFree s.qp.jobs 0
  let j := Tbl.get {} s.qp.jobs i
  let ref := i + (j.gen % 65535 + 1) * 32768
  let s := { s with qp := { s.qp with jf := s.qp.jf - 1, jobs := Tbl.set {} s.qp.jobs i { gen := j.gen % 65535 + 1 } } }
  (ref, setStage ref 1 stOK s)

/-- Retires a job: journalled, the record free (11 R381, R382). -/
def freeJob (ref why status : Nat) (s : State) : State :=
  let s := setStage ref 15 status s
  let s := modJob ref (fun j => { gen := j.gen, why := why, tns := j.tns }) s
  { s with qp := { s.qp with jf := s.qp.jf + 1 } }

/-! ## Cells -/

/-- Cells of an item of n data octets (11 R358). -/
def cellsFor (n : Nat) : Nat := (n + 16 + 119) / 120

/-- A streaming start is granted (11 R357). -/
def poolGrantsStream (need : Nat) (s : State) : Bool :=
  need + s.qp.reserved + cpar 0x0501 s ≤ s.qp.cf && 0 < s.qp.jf

/-- An item created by S6 or the device is granted (11 R357). -/
def poolGrantsStage (need : Nat) (s : State) : Bool := need + s.qp.reserved ≤ s.qp.cf && 0 < s.qp.jf

/-- Cells that an item has taken. -/
def Item.cells (it : Item) : Nat := it.chain.length

/-- n cells leave the head of the free list (11 R356). -/
def takeCells (n : Nat) (s : State) : List Nat × State :=
  let old := s.qp.freed.take n
  let new := n - old.length
  (old ++ (List.range new).map (s.qp.fresh + ·),
   { s with qp := { s.qp with cf := s.qp.cf - n, taken := s.qp.taken + n, freed := s.qp.freed.drop n, fresh := s.qp.fresh + new } })

/-- An item's header of 16 octets (11 Table QP-2). -/
def Item.header (it : Item) : List Byte :=
  leOctets 2 (it.len + bitAt it.written 15) ++ leOctets 2 (it.decl + bitAt it.ct 11 + bitAt it.secured 12) ++ leOctets 4 it.job ++
  leOctets 1 it.phymode ++ leOctets 1 it.port ++ leOctets 3 it.index ++ leOctets 1 it.exc ++ leOctets 1 it.slice ++ [0]

/-- Octets without the zeros at their end. -/
def trimZeros (b : List Byte) : List Byte := (b.reverse.dropWhile (· = 0)).reverse

/-- The k-th cell of an item, over what the cell held before (11 R355, Table QP-1). -/
def Item.cell (it : Item) (k : Nat) (old : Cell) : Cell :=
  let b := ((it.header ++ it.data).drop (120 * k)).take 120
  { payload := trimZeros (b ++ old.payload.drop b.length), next := it.chain.getD (k + 1) 0xFFFF, fill := b.length
    first := k = 0, last := k + 1 = it.cells, job := it.job }

/-- An item's cells return to the head of the free list in one splice; they keep what they hold (11 R355, R356). -/
def giveCells (it : Item) (s : State) : State :=
  { s with qp := { s.qp with cf := s.qp.cf + it.cells, returned := s.qp.returned + it.cells, freed := it.chain ++ s.qp.freed
                             left := it.chain.zipIdx.foldl (fun m ck => Tbl.upd {} m ck.1 (it.cell ck.2)) s.qp.left } }

/-- Cells are zeroised (13 R444). -/
def zeroCells (cs : List Nat) (s : State) : State :=
  { s with qp := { s.qp with left := cs.foldl (fun m c => Tbl.set {} m c {}) s.qp.left } }

/-- A held item's cells and record pass to a queue. -/
def countToQueue (it : Item) (s : State) : State :=
  { s with qp := { s.qp with ch := s.qp.ch - it.cells, cq := s.qp.cq + it.cells, jh := s.qp.jh - 1, jq := s.qp.jq + 1 } }

/-- A queued item's cells and record pass to a stage or a sequencer; it is on no exception queue then. -/
def countToHeld (it : Item) (s : State) : State :=
  let s := modJob it.job (fun j => { j with exc := false }) s
  { s with qp := { s.qp with cq := s.qp.cq - it.cells, ch := s.qp.ch + it.cells, jq := s.qp.jq - 1, jh := s.qp.jh + 1 } }

/-- Retires an item that stages or sequencers hold: its cells return, its record is free. -/
def retireHeld (it : Item) (why status : Nat) (s : State) : State :=
  let s := { s with qp := { s.qp with ch := s.qp.ch - it.cells, jh := s.qp.jh - 1, reserved := s.qp.reserved - it.resv } }
  freeJob it.job why status (giveCells it s)

/-- Retires an item that has been unlinked from a queue. -/
def retireQueued (it : Item) (why status : Nat) (s : State) : State :=
  let s := { s with qp := { s.qp with cq := s.qp.cq - it.cells, jq := s.qp.jq - 1, reserved := s.qp.reserved - it.resv } }
  freeJob it.job why status (giveCells it s)

/-! ## Queues (11 R363-R373) -/

/-- Queue q. -/
def queue (q : Nat) (s : State) : Queue := Tbl.get {} s.qp.queues q

/-- C: complete items; a cut-through item counts from its start (11 R363, R374). -/
def Queue.cnt (q : Queue) : Nat := q.items.length + (match q.inc with | some i => if i.ct then 1 else 0 | none => 0)

/-- Complete items as QLEN counts them: those whose length slot is written (03 R96, R102). -/
def Queue.complete (q : Queue) : Nat := (q.items.filter (·.written)).length

/-- O: occupancy (11 R363). -/
def Queue.occ (q : Queue) : Nat := q.items.length + (if q.inc.isSome then 1 else 0)

/-- S: items selected by TXF and not yet LAUNCHED (11 R367). -/
def Queue.selected (q : Queue) : Nat :=
  (q.items.filter (fun i => i.selBy.isSome)).length + (match q.inc with | some i => if i.selBy.isSome then 1 else 0 | none => 0)

/-- Cells held by the queue, incomplete item included. -/
def Queue.cells (q : Queue) : Nat := (q.items.map (·.cells)).sum + (match q.inc with | some i => i.cells | none => 0)

/-- Re-evaluates the high state; entering it with NOTIFY reports notice 0x0501 (11 R377). -/
def reHigh (q : Nat) (s : State) : State :=
  let x := queue q s
  if !x.isHigh && x.high ≤ x.occ then
    let s := { s with qp := { s.qp with queues := Tbl.set {} s.qp.queues q { x with isHigh := true } } }
    if x.notify then notify 0x0501 q stQ_FULL blkPipe s else s
  else if x.isHigh && x.occ ≤ x.low then
    { s with qp := { s.qp with queues := Tbl.set {} s.qp.queues q { x with isHigh := false } } }
  else s

/-- Changes queue q and re-evaluates its high state. -/
def modQ (q : Nat) (f : Queue → Queue) (s : State) : State :=
  reHigh q { s with qp := { s.qp with queues := Tbl.upd {} s.qp.queues q f } }

/-- An item that QPOP, QPEEK and QDROP.HEAD see: complete with its length written, not selected (03 R96, 11 R370, R374). -/
def Item.visible (i : Item) : Bool := i.written && i.selBy.isNone

/-- The head item of q that a pop would take (11 R367). -/
def popHead (q : Nat) (s : State) : Option Item :=
  let x := queue q s
  if x.poppable = 0 then none else x.items.find? (·.visible)

/-- The pop of R367: the item leaves its queue and is held. -/
def popItem (q : Nat) (it : Item) (s : State) : State :=
  countToHeld it (modQ q (fun x => { x with items := dropFirst (·.visible) x.items, poppable := x.poppable - 1 }) s)

/-- Appends a complete item that is held, at the tail in front of an incomplete one, without a test of room (11 R360). -/
def linkTail (q : Nat) (it : Item) (s : State) : State :=
  countToQueue it (modQ q (fun x => { x with items := x.items ++ [it] }) s)

/-- The push of R367 for a held complete item; none when refused for room. The exception queue's pushes ignore room. -/
def pushItem (q : Nat) (it : Item) (s : State) : Option State :=
  if (queue q s).room = 0 && q ≠ cpar 0x0500 s then none
  else
    let s := modQ q (fun x => { x with room := x.room - 1 }) s
    some (setStage it.job 3 stOK (linkTail q it s))

/-- The return of R367: the item goes back to the head of its queue. -/
def returnHead (q : Nat) (it : Item) (s : State) : State :=
  let s := if it.exc ≠ 0 && q = cpar 0x0500 s then modJob it.job (fun j => { j with exc := true }) s else s
  countToQueue it (modQ q (fun x => { x with items := { it with selBy := none } :: x.items, poppable := x.poppable + 1 }) s)

/-- Moves a held item to the exception queue with its reason (11 R365). -/
def toException (it : Item) (why : Nat) (s : State) : State :=
  let s := modJob it.job (fun j => { j with exc := true }) s
  bump 0x0516 (linkTail (cpar 0x0500 s) { it with exc := why, selBy := none } s)

/-- Moves the first item of q that satisfies p to the exception queue (11 R365); nothing when there is none. -/
def excFromQueue (q : Nat) (p : Item → Bool) (why : Nat) (s : State) : State :=
  match (queue q s).items.find? p with
  | some it => toException it why (countToHeld it (modQ q (fun x => { x with items := dropFirst p x.items }) s))
  | none => s

/-- Pushes a received or forwarded item; without room it moves to the exception queue with ST_Q_FULL (11 R379). -/
def pushOrExc (q : Nat) (it : Item) (s : State) : State :=
  match pushItem q it s with
  | some s => s
  | none => toException it stQ_FULL (setStage it.job 3 stQ_FULL (bump 0x0510 s))

/-- Creates a whole item held by a stage (11 R357, R360): none when the pool does not grant it, counted in QP.CNT_POOL_EXH. -/
def createItem (it : Item) (s : State) : Option Item × State :=
  let n := cellsFor it.data.length
  if poolGrantsStage n s then
    let (ref, s) := takeJob s
    let (cs, s) := takeCells n s
    let s := { s with qp := { s.qp with ch := s.qp.ch + n, jh := s.qp.jh + 1 } }
    (some { it with job := ref, written := true, len := it.data.length, decl := it.data.length, chain := cs }, s)
  else (none, bump 0x0511 s)

/-- A host world's port. -/
def port (w : World) (s : State) : Port :=
  match w with
  | .operator => s.qp.portOp
  | .custodian => s.qp.portCust

/-- Changes a host world's port. -/
def modPort (w : World) (f : Port → Port) (s : State) : State :=
  match w with
  | .operator => { s with qp := { s.qp with portOp := f s.qp.portOp } }
  | .custodian => { s with qp := { s.qp with portCust := f s.qp.portCust } }

/-- An incomplete item has been removed from q: its port discards up to the next start of item, notice 0x0502 with the status
of the removing rule (11 R372). -/
def removedMidItem (q : Nat) (it : Item) (status : Nat) (s : State) : State :=
  let discard (p : Port) : Port := { p with qOpen := none, discard := true }
  let s := if it.port = 1 then modPort .operator discard s else if it.port = 2 then modPort .custodian discard s else s
  notify 0x0502 q status blkPipe (bump 0x0514 s)

/-- Drops the incomplete item at the tail of q as QDROP.REST does (11 R373): the complete items, and poppable as far as it counts
them, are untouched. -/
def dropRest (q status : Nat) (s : State) : State :=
  match (queue q s).inc with
  | some it =>
    let s := modQ q (fun x => { x with inc := none, poppable := if it.counted && it.selBy.isNone then x.poppable - 1 else x.poppable }) s
    removedMidItem q it status (retireQueued it 1 status s)
  | none => s

/-- The open routed item that S6 holds for a port is dropped as QDROP.REST does; it is on no queue, so the notice's subject is 0
(11 R372, 12 R401). -/
def dropHeldOpen (w : World) (status : Nat) (s : State) : State :=
  match (port w s).held with
  | some it =>
    let s := retireHeld it 1 status (modPort w (fun p => { p with held := none, discard := true }) s)
    notify 0x0502 0 status blkPipe (bump 0x0514 s)
  | none => s

/-- Empties q (11 R371). A TXF that had selected an item of it is completed by the radio family. -/
def flushQueue (q : Nat) (s : State) : State :=
  let x := queue q s
  let s := modQ q (fun x => { x with items := [], inc := none, poppable := 0, room := x.limit, be := cpar 0x0222 s, bc := 0,
                                     flushes := x.flushes + 1 }) s
  let s := x.items.foldl (fun s it => retireQueued it 2 stOK s) s
  match x.inc with
  | some it => removedMidItem q it stFLUSHED_MIDITEM (retireQueued it 2 stFLUSHED_MIDITEM s)
  | none => s

/-- Sets the two counters of R367 for every queue, at a slot boundary or a stopped-grid tick; an open cut-through item counts in
poppable from then on (R374). -/
def setCounters (s : State) : State :=
  { s with qp := { s.qp with queues := s.qp.queues.filterMap (fun kv =>
      let x := { kv.2 with poppable := kv.2.cnt - kv.2.selected, room := kv.2.limit - kv.2.occ,
                              inc := kv.2.inc.map (fun i => { i with counted := i.ct }) }
      if x = {} then none else some (kv.1, x)) } }

/-- Replaces the item with this job reference in q. -/
def modItem (q ref : Nat) (f : Item → Item) (s : State) : State :=
  modQ q (fun x => { x with items := modFirst (·.job = ref) f x.items, inc := x.inc.map (fun i => if i.job = ref then f i else i) }) s

/-- The item with this job reference in q, incomplete or not. -/
def findItem (q ref : Nat) (s : State) : Option Item :=
  match (queue q s).inc with
  | some i => if i.job = ref then some i else (queue q s).items.find? (·.job = ref)
  | none => (queue q s).items.find? (·.job = ref)

/-- Output FLOWn is asserted (11 R378): before it is first enabled, or while a queue mapped to it is in its high state. -/
def flowAsserted (n : Fin 4) (s : State) : Bool :=
  if !s.qp.flowOnce[n] then true
  else (cpar 0x0505 s).testBit n && s.qp.queues.any (fun kv => kv.2.flow = n && kv.2.isHigh)

/-- The level that output FLOWn is driven at (11 R378). -/
def flowLevel (n : Fin 4) (s : State) : Bool := flowAsserted n s != (cpar 0x0505 s).testBit (4 + n)

end Sys2Proof.Machine
end

