-- ==== Sys2Proof/Machine/LinkOps.lean ====
section
/-! DEFINITION. Cascade links and mate lanes: routes, credits, numbering, retention, and what a link going down does
(16 R513-R527, R532, R538). -/

namespace Sys2Proof.Machine

/-! ## Links -/

/-- Link l: CAS0-CAS3 are 0-3, MATE0 and MATE1 are 4 and 5. -/
def link (l : Fin 6) (s : State) : Link := s.cas.links[l]

/-- Changes link l. -/
def modLink (l : Fin 6) (f : Link → Link) (s : State) : State := { s with cas := { s.cas with links := upd s.cas.links l f } }

/-- A virtual channel of link l. -/
def vc (l : Fin 6) (v : Fin 4) (s : State) : Vc := (link l s).vcs[v]

/-- Changes a virtual channel of link l. -/
def modVc (l : Fin 6) (v : Fin 4) (f : Vc → Vc) (s : State) : State :=
  modLink l (fun x => { x with vcs := upd x.vcs v f }) s

/-- Every link. -/
def linkIdx : List (Fin 6) := List.finRange 6

/-- The cascade links. -/
def casIdx : List (Fin 6) := [0, 1, 2, 3]

/-- A mate lane. -/
def isMate (l : Fin 6) : Bool := 4 ≤ l.val

/-- Subject of a link's notices: 0-3, and 8 and 9 for the mate lanes (16 R517, R538). -/
def linkSubj (l : Fin 6) : Nat := if isMate l then 4 + l.val else l.val

/-- Block that reports for a link (07 Table NP-8). -/
def linkBlk (l : Fin 6) : Nat := if isMate l then blkMate (l.val - 4) else blkCas l.val

/-- The own position (16 R513). -/
def ownPos (s : State) : Nat := s.straps.caspos.val

/-- The straps make this chip part of a cascade: the master, or a member (16 Table CT-1). -/
def inCascade (s : State) : Bool := s.straps.master == (s.straps.caspos == 0)

/-- The chip is the cascade master. -/
def isMaster (s : State) : Bool := s.straps.master && s.straps.caspos == 0

/-- A link is enabled: CT.LINK_EN in a cascade, the mate lanes of a twin (16 R513). -/
def linkEnabled (l : Fin 6) (s : State) : Bool :=
  if isMate l then s.straps.twinen else inCascade s && (cpar 0x0B00 s).testBit l.val

/-- Training is complete: Up, Parked or Standby (16 Table CT-3). -/
def Link.trained (x : Link) : Bool := x.st = 2 || x.st = 3 || x.st = 4

/-- Either end of the link is a twin standby (16 Table CT-3). -/
def standbyEnd (x : Link) (s : State) : Bool := s.twin.role = 2 || (x.twin && x.role = 2)

/-- The link can carry traffic of the tree. -/
def inTree (l : Fin 6) (s : State) : Bool := !isMate l && (link l s).trained && !standbyEnd (link l s) s

/-! ## Routes (16 R514, R515) -/

/-- Least hop count advertised over the tree's links; 15 none. -/
def leastHop (s : State) : Nat := (casIdx.map (fun l => if inTree l s then (link l s).hop else 15)).foldl min 15

/-- The own hop count by R514. -/
def hopOf (s : State) : Nat := if isMaster s then 0 else if leastHop s < 7 then leastHop s + 1 else 15

/-- The upstream link by R514. -/
def upOf (s : State) : Option (Fin 4) :=
  if isMaster s || hopOf s = 15 then none
  else (List.finRange 4).find? (fun k => inTree (k.castLE (by decide)) s && (link (k.castLE (by decide)) s).hop = leastHop s)

/-- The neighbour has this chip as its upstream: its hop count is one more (16 R514). -/
def downstream (l : Fin 6) (s : State) : Bool :=
  inTree l s && s.cas.hop ≠ 15 && (link l s).hop = s.cas.hop + 1

/-- The upstream link, as a link. -/
def upLink (s : State) : Option (Fin 6) := s.cas.up.map (fun k => k.castLE (by decide))

/-- The own subtree mask (16 R515). -/
def subtreeMask (s : State) : BitVec 8 :=
  casIdx.foldl (fun m l => if downstream l s then m ||| (link l s).subtree else m) (BitVec.ofNat 8 (2 ^ ownPos s))

/-- The present mask: the master's union, a member's as its upstream passes it on (16 R515). -/
def presentMask (s : State) : BitVec 8 :=
  match upLink s with
  | some l => (link l s).present ||| BitVec.ofNat 8 (2 ^ ownPos s)
  | none => subtreeMask s

/-- The link that an item or message for position p leaves on (16 R515). -/
def route (p : Nat) (s : State) : Option (Fin 6) :=
  if p = ownPos s then none
  else match casIdx.find? (fun l => downstream l s && (link l s).subtree.getLsbD p) with
    | some l => some l
    | none => upLink s

/-- The data virtual channel of a link: data-up on the upstream link, data-down elsewhere (16 Table CT-5). -/
def dataVc (l : Fin 6) (s : State) : Fin 4 := if upLink s = some l then 2 else 3

/-! ## Numbers, credits, retention (16 R520-R526) -/

/-- Number n is at or below DELIVERED d (16 R525). -/
def covered (n d : Nat) : Bool := (d + 65536 - n % 65536) % 65536 < 32768

/-- Link frames of an item of n octets (16 R526). -/
def frameCount (n : Nat) : Nat := 1 + (n - 112 + 127) / 128

/-- Frames of a retained item or message. -/
def CasFrame.frames (f : CasFrame) : Nat :=
  match f.item with
  | some it => frameCount it.data.length
  | none => 1

/-- Sends waiting frames in order while credits are in hand: the credits left, the frames sent, the list after. -/
def sendFrames : Nat → List CasFrame → Nat × List CasFrame
  | a, [] => (a, [])
  | a, f :: t =>
    let k := min a f.left
    if f.left ≤ a then
      let (a', t') := sendFrames (a - k) t
      (a', { f with left := 0 } :: t')
    else (a - k, { f with left := f.left - k } :: t)

/-- A sender sends what waits, one credit a frame (16 R520); a standby sends nothing on a control or data channel (16 R541). -/
def pump (l : Fin 6) (v : Fin 4) (s : State) : State :=
  let x := vc l v s
  if x.resync || (link l s).st ≠ 2 || s.twin.role = 2 then s
  else
    let (a, r) := sendFrames x.a x.retained
    modVc l v (fun x => { x with
      a := a, sent := x.sent + (x.a - a), retained := r
      progress := if x.sent = 0 then s.time.elapsed else x.progress }) s

/-- Retires what DELIVERED covers: items with WHY 4 (16 R524). -/
def retireCovered (l : Fin 6) (v : Fin 4) (d : Nat) (s : State) : State :=
  let gone := (vc l v s).retained.filter (fun f => f.left = 0 && covered f.num d)
  let s := modVc l v (fun x => { x with retained := x.retained.filter (fun f => !(f.left = 0 && covered f.num d)) }) s
  gone.foldl (fun s f => match f.item with
    | some it => retireHeld it 4 stOK s
    | none => s) s

/-- Numbers from d on that have been disposed of without a gap: the new DELIVERED (16 R524). -/
def advanceDelivered : Nat → Nat → List Nat → Nat × List Nat
  | 0, d, ahead => (d, ahead)
  | fuel + 1, d, ahead =>
    let n := (d + 1) % 65536
    if ahead.contains n then advanceDelivered fuel n (ahead.filter (· ≠ n)) else (d, ahead)

/-- The receiver has disposed of number n and freed its `frames` buffers (16 R520, R524). -/
def disposed (l : Fin 6) (v : Fin 4) (n frames : Nat) (s : State) : State :=
  modVc l v (fun x =>
    let ahead := if covered n x.delivered then x.ahead else n :: x.ahead
    let (d, ahead) := advanceDelivered ahead.length x.delivered ahead
    { x with delivered := d, ahead := ahead, r := x.r + frames }) s

/-- A CASOUT record of the twin's digest (16 Table CT-8). -/
def emitCas (l : Fin 6) (v : Fin 4) (n : Nat) (octets : List Byte) (s : State) : State :=
  emit (leOctets 1 0x30 ++ leOctets 1 l.val ++ leOctets 1 v.val ++ leOctets 2 n ++ leOctets 4 (crc32c 0xFFFFFFFF octets)) s

/-- The octets of a message (16 R532). -/
def msgOctets (f : CasFrame) : List Byte :=
  leOctets 1 f.kind ++ leOctets 1 f.dest ++ leOctets 1 f.src ++ leOctets 1 0 ++ leOctets 4 f.num ++
    wordOctets f.m1 ++ wordOctets f.m2 ++ f.more.flatMap wordOctets

/-- Numbers and keeps an item or message on a virtual channel, and sends it as credits allow; gives its number. -/
def sendOn (l : Fin 6) (v : Fin 4) (f : CasFrame) (s : State) : Nat × State :=
  let n := (vc l v s).nextNum
  let f := { f with num := n, left := f.frames }
  let s := emitCas l v n (match f.item with | some it => it.data | none => msgOctets f) s
  let s := modVc l v (fun x => { x with nextNum := (n + 1) % 65536, retained := x.retained ++ [f] }) s
  (n, pump l v s)

/-- The links a message leaves on: its route, or for a broadcast every downstream link whose mask holds a present position
(16 R532). -/
def msgLinks (dest : Nat) (s : State) : List (Fin 6) :=
  if dest = 15 then casIdx.filter (fun l => downstream l s && ((link l s).subtree &&& s.cas.present) ≠ 0)
  else (route dest s).toList

/-- Sends a message on its links. -/
def sendMsg (f : CasFrame) (s : State) : State := (msgLinks f.dest s).foldl (fun s l => (sendOn l 0 f s).2) s

/-! ## Links that go down, routes that move (16 R527, R538) -/

/-- Retained items return to the heads of their source queues in item-number order. -/
def returnRetained (fs : List CasFrame) (s : State) : State :=
  fs.foldr (fun f s => match f.item with
    | some it => returnHead f.q it s
    | none => s) s

/-- The items retained on a link whose route is no longer this link return. -/
def returnMoved (s : State) (l : Fin 6) : State :=
  ([2, 3] : List (Fin 4)).foldl (fun s v =>
    let fs := (vc l v s).retained
    let stays (f : CasFrame) : Bool := route f.dest s == some l && dataVc l s == v
    returnRetained (fs.filter (fun f => !stays f)) (modVc l v (fun x => { x with retained := fs.filter stays }) s)) s

/-- State of a trained link (16 Table CT-3). -/
def trainedState (l : Fin 6) (s : State) : Nat :=
  if standbyEnd (link l s) s && !isMate l then 4
  else if isMate l || upLink s = some l || downstream l s then 2 else 3

/-- Position p has left or come back to the present mask (16 R515). -/
def notePresence (s : State) (p : Fin 8) : State :=
  if s.cas.present.getLsbD p.val then
    let s := { s with cas := { s.cas with lostAt := s.cas.lostAt.set p none } }
    if s.cas.known.getLsbD p.val then s
    else notify 0x0B02 p.val stOK (blkCas 0) { s with cas := { s.cas with known := s.cas.known ||| BitVec.ofNat 8 (2 ^ p.val) } }
  else if s.cas.known.getLsbD p.val && s.cas.lostAt[p].isNone then
    { s with cas := { s.cas with lostAt := s.cas.lostAt.set p (some s.time.elapsed) } }
  else s

/-- Hop count, upstream link, masks, link states and routes are recomputed (16 R514, R515). -/
def recompute (s : State) : State :=
  let s := { s with cas := { s.cas with up := upOf s, hop := hopOf s } }
  let s := { s with cas := { s.cas with present := presentMask s } }
  let s := linkIdx.foldl (fun s l => if (link l s).trained then modLink l (fun x => { x with st := trainedState l s }) s else s) s
  let s := casIdx.foldl returnMoved s
  (List.finRange 8).foldl notePresence s

/-- The other link to the same twin position (16 R538). -/
def twinLink (l : Fin 6) (s : State) : Option (Fin 6) :=
  casIdx.find? (fun k => k ≠ l && (link k s).trained && (link k s).twin && (link l s).twin && (link k s).pos = (link l s).pos)

/-- The number series of one link passes to the other link of a twin position, with what it retains (16 R538). -/
def handSeries (a b : Fin 6) (s : State) : State :=
  let xs := (link a s).vcs
  let s := modLink a (fun x => { x with vcs := x.vcs.map (fun v => { v with retained := [] }) }) s
  modLink b (fun x => { x with vcs := x.vcs.zipWith (fun (new old : Vc) => { new with
    nextNum := old.nextNum, delivered := old.delivered, ahead := old.ahead
    retained := old.retained.map (fun f => { f with left := f.frames }) }) xs }) s

/-- What a link keeps for its next training (16 R517). -/
def Link.restarted (x : Link) (st now : Nat) : Link := { st := st, since := now, epoch := x.epoch, lastBlock := x.lastBlock }

/-- A trained link goes down (16 R516, R517, R522, R527): its series passes to the other link of a twin position, or its items
return; messages go with it. -/
def linkDown (l : Fin 6) (status : Nat) (s : State) : State :=
  if (link l s).trained then
    let s := match twinLink l s with
      | some k => handSeries l k s
      | none => returnRetained ((vc l 2 s).retained ++ (vc l 3 s).retained) s
    let s := modLink l (fun x => x.restarted (if linkEnabled l s then 1 else 0) s.time.elapsed) s
    recompute (notify 0x0B01 (linkSubj l) status (linkBlk l) s)
  else modLink l (fun x => x.restarted (if linkEnabled l s then 1 else 0) s.time.elapsed) s

/-- Every link goes down with the core (14 Table PW-3): nothing trains until it is started again. -/
def linksDown (status : Nat) (s : State) : State :=
  linkIdx.foldl (fun s l => modLink l (fun x => x.restarted 0 s.time.elapsed) (linkDown l status s)) s

/-- The enabled links start training (16 R517). -/
def startLinks (s : State) : State :=
  linkIdx.foldl (fun s l =>
    if linkEnabled l s && (link l s).st = 0 then modLink l (fun x => x.restarted 1 s.time.elapsed) s else s) s

/-! ## Resynchronisation (16 R521, R523) -/

/-- A resynchronisation of a virtual channel begins: sending stops, received buffers are freed (16 R523; log entry 24: it takes
in both directions). -/
def resyncBegin (l : Fin 6) (v : Fin 4) (s : State) : State :=
  if (vc l v s).resync then s
  else
    bump 0x0B41 (modVc l v (fun x => { x with resync := true, tries := 1, asked := s.time.elapsed, b := 0, r := 0 }) s)

/-- Frees the receive buffers of a channel and starts its resynchronisation, reporting notice 0x0B03 (16 R521). -/
def resyncReport (l : Fin 6) (v : Fin 4) (status : Nat) (s : State) : State :=
  resyncBegin l v (notify 0x0B03 (4 * linkSubj l + v.val) status (linkBlk l) s)

end Sys2Proof.Machine
end

