-- ==== Sys2Proof/Machine/SeqOps.lean ====
section
/-! DEFINITION. Sequencers: who may issue, how an instruction completes, the end of a record, halts, and what a halt does to
the slice's radio (02 R34-R72). -/

namespace Sys2Proof.Machine

/-! ## Slices and lanes -/

/-- Slice n. -/
def slice (n : Fin 12) (s : State) : SliceS := s.radio.slices[n]

/-- Changes slice n. -/
def modSlice (n : Fin 12) (f : SliceS → SliceS) (s : State) : State :=
  { s with radio := { s.radio with slices := upd s.radio.slices n f } }

/-- Lane k. -/
def lane (k : Fin 64) (s : State) : Option Lane := s.radio.lanes[k]

/-- Sets lane k. -/
def setLane (k : Fin 64) (l : Option Lane) (s : State) : State :=
  { s with radio := { s.radio with lanes := s.radio.lanes.set k l } }

/-- Changes lane k, if it is held. -/
def modLane (k : Fin 64) (f : Lane → Lane) (s : State) : State :=
  { s with radio := { s.radio with lanes := upd s.radio.lanes k (·.map f) } }

/-- Every lane, in order. -/
def laneIdx : List (Fin 64) := List.finRange 64

/-- Every slice, in order. -/
def sliceIdx : List (Fin 12) := List.finRange 12

/-- Sequencer of slice n. -/
def seq (n : Fin 12) (s : State) : SeqS := s.seqs[n]

/-! ## Who may issue -/

/-- The chip executes: no chip fault, the core runs with its sequencers not frozen, and the firmware image, or Trailhead in
locked service, serves (01 R16, 14 R460, 15 R485, 17 R561). -/
def alive (s : State) : Bool := s.health.chipFault = 0 && s.time.coreOn && !s.pw.frozen && s.host.hifMax ≠ 0

/-- The issuer can execute an instruction now. -/
def canRun (who : Who) (s : State) : Bool :=
  alive s && match who with
  | .slice n => (seq n s).state = .running
  | .ring w => match s.cond.record with
    | none => s.cond.await.isNone
    | some r => r.live && r.world = w && !r.routine && s.cond.await.isNone
  | .routine => match s.cond.record with
    | none => false
    | some r => r.routine && s.cond.await.isNone

/-- The issuer is in ring context (02 R51). -/
def inRing (who : Who) : Bool :=
  match who with
  | .ring _ => true
  | _ => false

/-- The issuer's program counter; zero in ring context (02 R52). -/
def pcOf (who : Who) (s : State) : Nat :=
  match who with
  | .slice n => (seq n s).pc
  | .ring _ => 0
  | .routine => match s.cond.record with
    | some r => r.pc
    | none => 0

/-- Sets the issuer's program counter. -/
def setPc (who : Who) (pc : Nat) (s : State) : State :=
  match who with
  | .slice n => modSeq n (fun q => { q with pc := pc % 65536 }) s
  | .ring _ => s
  | .routine => modRecord (fun r => { r with pc := pc % 65536 }) s

/-- The issuer goes on to its next instruction. -/
def advance (who : Who) (s : State) : State := setPc who (pcOf who s + 1) s

/-- Program memory word; unloaded words hold HALT (02 R42). -/
def progWord (a : Nat) (s : State) : BitVec 64 := Tbl.get 0x1500000000000000 s.progMem a

/-- A fetch address lies in a window of pages (02 R44). -/
def inWindow (first count pc : Nat) : Bool := first ≤ pc / 256 && pc / 256 < first + count

/-- The slice's fetch address lies outside its window (02 R44). -/
def fetchOutside (who : Who) (s : State) : Bool :=
  match who with
  | .slice n => !inWindow (seq n s).winFirst (seq n s).winCount (seq n s).pc
  | _ => false

/-- What Table FM-1 permits. -/
inductive Perm where
  | all
  | condOnly
  | custodian
  | sliceOnly
deriving DecidableEq, Repr

/-- The permission detail of a refusal (02 R35, Table FM-2), none when permitted. -/
def permFail (p : Perm) (who : Who) (s : State) : Option Nat :=
  match p, who with
  | .all, _ => none
  | .sliceOnly, .slice _ => none
  | .sliceOnly, _ => some 0xFF01
  | .condOnly, .slice _ => some 0xFF01
  | .condOnly, _ => none
  | .custodian, .slice _ => some 0xFF01
  | .custodian, _ => if worldOf who s = .custodian then none else some 0xFF02

/-! ## Ends of records (02 R50-R52) -/

/-- The completion descriptor of a record (15 Table HI-10). -/
def cmplDesc (kind executed : Nat) (tag w0 w1 w2 : Word) (s : State) : List Word :=
  [w32 (0x01 + kind * 256 + executed * 65536), tag, w0, w1, w2, w32 (nowT s).ns.toNat,
   w32 (nowT s).sec.toNat, w32 ((nowT s).sec.toNat / 4294967296)]

/-- Posts a record's completion on its world's completion ring (15 R497); nothing is written into a stopped ring (15 R491). -/
def postCompletion (w : World) (kind executed : Nat) (tag w0 w1 w2 : Word) (s : State) : State :=
  if (ring w blkCompletion s).runs then postDesc w blkCompletion (cmplDesc kind executed tag w0 w1 w2 s) s else s

/-- A command ring stops; the open record's entry no longer counts in its DEVIDX (15 R491). -/
def stopCommand (w : World) (s : State) : State :=
  let s := modRing w blkCommand (fun r => { r with size := 0 }) s
  if recWorld s = w then modRecord (fun r => { r with fromRing := false }) s else s

/-- At a record boundary a command ring whose completion ring has stopped stops (15 R491). -/
def stopOrphan (w : World) (s : State) : State :=
  if (ring w blkCommand s).runs && !(ring w blkCompletion s).runs then stopCommand w s else s

/-- DEVIDX of a command ring passes a record that the device has finished with (15 R490). -/
def passCommand (w : World) (s : State) : State := modRing w blkCommand (fun r => { r with dev := (r.dev + 1) % 65536 }) s

/-- The open record ends with w0, w1 and w2 as they stand; `more` words count as executed beyond those counted. -/
def endRecord (more : Nat) (s : State) : State :=
  match s.cond.record with
  | none => s
  | some r =>
    let g := (worldCtx r.world s).regs.w
    let s := if r.posts then postCompletion r.world r.kind (r.executed + more) r.tag g[0] g[1] g[2] s else s
    let s := if r.relayed then
        sendMsg { kind := 4, dest := 0, src := ownPos s, m1 := w32 (r.executed + more), m2 := g[0], more := [g[1], g[2]] } s
      else s
    let s := if r.fromRing then passCommand r.world s else s
    stopOrphan .custodian (stopOrphan .operator { s with cond := { s.cond with record := none, await := none } })

/-! ## Completion of an awaiting instruction -/

/-- A slice sequencer's awaiting instruction completes with a status; nothing when it is not Blocked. -/
def unblockSlice (n : Fin 12) (st : Nat) (w1 w2 : Word) (s : State) : State :=
  if (seq n s).state = .blocked then
    let s := modSeq n (fun q => { q with state := .running, await := none }) s
    advance (.slice n) (ret (.slice n) st w1 w2 s)
  else s

/-- The issuer that the conductor's open record stands for. -/
def condWho (s : State) : Who :=
  match s.cond.record with
  | some r => if r.routine then .routine else .ring r.world
  | none => .ring .operator

/-- The conductor's awaiting instruction completes with a status; the record's next word is run by the command's meaning. -/
def unblockCond (st : Nat) (w1 w2 : Word) (s : State) : State :=
  if s.cond.await.isSome then
    let who := condWho s
    let s := { s with cond := { s.cond with await := none } }
    advance who (ret who st w1 w2 s)
  else s

/-- A sequencer's awaiting instruction completes. -/
def unblock (q : Seqr) (st : Nat) (w1 w2 : Word) (s : State) : State :=
  match q with
  | .sl n => unblockSlice n st w1 w2 s
  | .cond => unblockCond st w1 w2 s

/-- What a sequencer awaits, if it is blocked. -/
def awaitOf (q : Seqr) (s : State) : Option Await :=
  match q with
  | .sl n => (seq n s).await
  | .cond => s.cond.await

/-- The issuer blocks. -/
def block (who : Who) (a : Await) (s : State) : State :=
  match who with
  | .slice n => modSeq n (fun q => { q with state := .blocked, await := some a }) s
  | _ => { s with cond := { s.cond with await := some a } }

/-- The issuer that a sequencer stands for. -/
def seqrWho (q : Seqr) (s : State) : Who :=
  match q with
  | .sl n => .slice n
  | .cond => condWho s

/-- Completion of AT, AFTER or SLOT restarts the watchdog (02 R68). -/
def kickWdog (q : Seqr) (s : State) : State :=
  match q with
  | .sl n => modSeq n (fun x => { x with wdogMark := s.time.elapsed }) s
  | .cond => s

/-! ## Frames that go back, acknowledgements that fail (03 R95, 06 R225, R226) -/

/-- Backoff exponent of a queue (06 R226). -/
def backoffExp (q : Nat) (s : State) : Nat := (queue q s).be

/-- BE := MIN_BE, BC := 0 (06 R226). -/
def resetBackoff (q : Nat) (s : State) : State := modQ q (fun x => { x with be := cpar 0x0222 s, bc := 0 }) s

/-- A frame or held item goes back to the head of the queue it came from; if that queue has been flushed since a held item was
popped, it goes to the exception queue with ST_REFUSED (03 R95). -/
def goBack (it : Item) (q : Option Nat) (from_ flush : Nat) (s : State) : State :=
  match q with
  | some q => returnHead q it s
  | none => if (queue from_ s).flushes = flush then returnHead from_ it s else toException it stREFUSED s

/-- The frame stays: a held frame returns to its holder's list when the holder still runs; otherwise it goes back. -/
def keepFrame (n : Fin 12) (it : Item) (q : Option Nat) (from_ flush : Nat) (s : State) : State :=
  match q with
  | some q => returnHead q it s
  | none => modCtx (.slice n) (fun c => { c with held := { item := it, fromQ := from_, flushGen := flush } :: c.held }) s

/-- NOACK (06 R225, R226): the attempt count rises; the frame goes back or moves to the exception queue. -/
def noAck (n : Fin 12) (it : Item) (q : Option Nat) (from_ flush status : Nat) (s : State) : State :=
  let s := addAttempt it.job (setStage it.job 8 status s)
  if (jobAt it.job s).attempts ≤ cpar 0x0224 s + 1 then
    let s := setStage it.job 3 status s
    let s := goBack it q from_ flush s
    match q with
    | none => s
    | some q =>
      if spar 0x0221 n s = 1 then
        let be := min (backoffExp q s + 1) (cpar 0x0223 s)
        withDraw (2 ^ be) s fun v s => modQ q (fun x => { x with be := be, bc := v }) s
      else s
  else
    let s := toException it stNO_ACK s
    match q with
    | none => s
    | some q => resetBackoff q s

/-- Items that the halting sequencer or conductor world holds return, latest popped first (03 R95). -/
def returnHeld (who : Who) (s : State) : State :=
  let hs := (ctx who s).held
  let s := modCtx who (fun c => { c with held := [] }) s
  hs.foldl (fun s h => goBack h.item none h.fromQ h.flushGen s) s

/-- A halt record of the conductor, in the world of the open record: it is kept, placed in the notice ring, and ends the
record; the status goes to w0 unless a TRAP caused it (02 R51, R72), and what the world holds returns (03 R95). Its STATE field,
for which the spec gives the conductor no code, is a free value (log entry 7). -/
def haltCond (who : Who) (reason status trap : Nat) (word : BitVec 64) (s : State) : State :=
  let w := worldOf who s
  withDraw 16 s fun st s =>
  let s := if reason = 2 then s else setW who 0 (w32 status) s
  let g := (ctx who s).regs.w
  let h : HaltRec := { reason := reason, status := status, seqNo := 15, state := st, trap := trap, pc := pcOf who s,
                       opword := (word >>> 48).setWidth 16, w0 := g[0], w1 := g[1], w2 := g[2], at_ := nowT s }
  let s := modCtx who (fun c => { c with halt := h }) s
  endRecord 1 (postOrHold w true h.desc (returnHeld who s))

/-- Clears the mark of the frame an armed TXF has selected; poppable rises by one (11 R370). -/
def unselect (a : TxfArm) (s : State) : State :=
  match a.q, a.sel with
  | some q, some ref =>
    if (findItem q ref s).any (fun i => i.selBy.isSome) then
      modQ q (fun x => { x with poppable := x.poppable + 1 }) (modItem q ref (fun i => { i with selBy := none }) s)
    else s
  | _, _ => s

/-- A retransmission-expecting transmission whose sequencer no longer waits goes to NOACK when it is AIRED; a wait that is
already armed ends so at once (02 R69). -/
def endAckWait (n : Fin 12) (status : Nat) (s : State) : State :=
  match (slice n s).ackWait with
  | none => s
  | some w =>
    let s := modSlice n (fun x => { x with ackWait := none }) s
    noAck n w.item w.q w.heldFrom w.heldFlush status s

/-- What a halt of its sequencer does to a slice (02 R69). -/
def cancelAir (n : Fin 12) (s : State) : State :=
  let s := match (slice n s).txf with
    | some a => unselect a s
    | none => s
  let s := modSlice n (fun x => { x with win := none, txf := none, rxOff := true,
                                         tx := x.tx.map (fun t => { t with byTxf := false }) }) s
  endAckWait n stOK s

/-- A slice sequencer halts (02 R68-R72): its record is kept and placed in the notice ring unless the host asked for it. An armed
handover stays armed: only a disarm or a completed SLOT ends it (02 R46). -/
def haltSlice (n : Fin 12) (reason status trap : Nat) (offline : Bool) (s : State) : State :=
  let q := seq n s
  let g := q.ctx.regs.w
  let h : HaltRec := { reason := reason, status := status, seqNo := n.val, state := if offline then 4 else 3, trap := trap,
                       pc := q.pc, opword := (progWord q.pc s >>> 48).setWidth 16, w0 := g[0], w1 := g[1], w2 := g[2],
                       at_ := nowT s }
  let s := modSeq n (fun q => { q with state := if offline then .offline else .halted, await := none, haltDue := 0,
                                       ctx := { q.ctx with halt := h } }) s
  let s := cancelAir n (returnHeld (.slice n) s)
  if reason = 8 then s else postOrHold .operator true h.desc s

/-- The issuer halts for a reason of Table FM-9. -/
def haltWho (who : Who) (reason status trap : Nat) (word : BitVec 64) (s : State) : State :=
  match who with
  | .slice n => haltSlice n reason status trap false s
  | _ => haltCond who reason status trap word s

/-- A sequencer starts: its register set is reset, the window and entry are those given (02 R46, R71). -/
def startSeq (n : Fin 12) (window entry : Word) (s : State) : State :=
  let s := modSeq n (fun q => { q with
    ctx := { q.ctx with regs := {}, halt := {} }
    state := .running, await := none, haltDue := 0, pc := entry.toNat % 65536
    winFirst := window.toNat % 256, winCount := window.toNat / 256 % 512
    wdogMark := s.time.elapsed }) s
  modSlice n (fun x => { x with rxOff := false, lastQ := none }) s

/-- The pages and the entry of a start: the window holds pages and the entry lies inside it (02 R66). -/
def startable_ (window entry : Nat) : Bool :=
  window / 256 % 512 ≠ 0 && inWindow (window % 256) (window / 256 % 512) entry

/-- SEQ.CTRL = 1 finds a window with the entry inside it (02 R66, R71). -/
def ownStartable (n : Fin 12) (s : State) : Bool := startable_ (par 0x0012 n.val s).toNat (par 0x0011 n.val s).toNat

/-- The sequencer starts in its own window, if it can (02 R71). -/
def startOwn (n : Fin 12) (s : State) : State :=
  if ownStartable n s then startSeq n (par 0x0012 n.val s) (par 0x0011 n.val s) s else s

/-- At the instruction boundary after a FEOUT, a host halt that waited for it takes effect, and the start of SEQ.CTRL = 3 follows
it (02 R70, R71). -/
def takeHalt (n : Fin 12) (s : State) : State :=
  match (seq n s).haltDue with
  | 0 => s
  | v =>
    let s := haltSlice n 8 stOK 0 false s
    if v = 3 then startOwn n s else s

/-- A sequencer's FEOUT ends: a bounded instruction, so its status is written before a host halt takes effect (04 R134, 02 R70). -/
def endFeout (n : Fin 12) (st : Nat) (w1 w2 : Word) (s : State) : State := takeHalt n (unblockSlice n st w1 w2 s)

/-! ## Issue -/

/-- The word that stands for the issuer's instruction in a conductor halt record. -/
def curWord (who : Who) (s : State) : BitVec 64 :=
  match who with
  | .ring _ => match s.cond.record with
    | some r => r.cur
    | none => 0
  | _ => progWord (pcOf who s) s

/-- A word presented directly in ring context opens a record of its own that posts no completion (log entry 2); a word of an
open record runs in that record. -/
def inContext (who : Who) (f : State → State) (s : State) : State :=
  match who with
  | .ring w =>
    match s.cond.record with
    | some _ => f s
    | none =>
      let r : Record := { world := w, posts := false, live := true, startedAt := s.time.elapsed, mirrored := s.twin.mirNext }
      let s := f { s with
        cond := { s.cond with record := some r }
        twin := { s.twin with mirNext := false } }
      match s.cond.record with
      | none => s
      | some r =>
        if s.cond.await.isSome || r.routine then modRecord (fun r => { r with live := false }) s
        else { s with cond := { s.cond with record := none } }
  | _ => f s

/-- In locked service only GETP and SETP execute (17 R561; SETP's own meaning names the parameters). -/
def lockedOut (op : Nat) (s : State) : Bool := s.boot.phase = 4 && op ≠ 0x80 && op ≠ 0x81

/-- A standby executes from its own command rings only what R541 lists: SETP's own meaning names CT.ACTIVATE. -/
def standbyOut (who : Who) (op : Nat) (s : State) : Bool :=
  s.twin.role = 2 && (match who with | .slice _ => false | _ => s.cond.record.any (fun r => !r.mirrored)) &&
    !List.contains [0x80, 0x81, 0x85, 0x84, 0x92, 0x93, 0x47, 0x63, 0x60] op

/-- An instruction issues: it does not occur when the issuer cannot execute; a fetch outside the window halts; a false condition
costs a clock period and nothing else; an instruction not permitted here is refused (02 R34-R40, R44). The body itself goes on
to the next instruction, blocks, transfers or halts. -/
def issueF (who : Who) (c : Cond) (op : Nat) (p : Perm) (body : State → State) (s : State) : State :=
  if !canRun who s then s
  else inContext who (fun s =>
    if fetchOutside who s then haltWho who 4 stRANGE 0 0 s
    else if !condHolds c (ctx who s).regs.p then advance who s
    else if lockedOut op s then advance who (ret who stLIFECYCLE 3 0 s)
    else if standbyOut who op s then advance who (ret who stREFUSED (w32 0xC5) 0 s)
    else match permFail p who s with
      | some d => advance who (ret who stREFUSED (w32 d) (w32 op) s)
      | none => body s) s

/-- An instruction that completes at once. -/
def issue (who : Who) (c : Cond) (op : Nat) (p : Perm) (body : State → State) (s : State) : State :=
  issueF who c op p (fun s => advance who (body s)) s

/-- The issuer waits, or no longer runs. -/
def waits (who : Who) (s : State) : Bool :=
  match who with
  | .slice n => (seq n s).state ≠ .running
  | _ => s.cond.await.isSome

/-- An instruction that completes at once or blocks: the issuer goes on when it does not wait after the body. -/
def issueB (who : Who) (c : Cond) (op : Nat) (p : Perm) (body : State → State) (s : State) : State :=
  issueF who c op p (fun s =>
    let s := body s
    if waits who s then s else advance who s) s

/-! ## Pending work (03 R79) -/

/-- Ticket of the issuer's next pending instruction. -/
def nextTicket (who : Who) (s : State) : Nat := (ctx who s).nextTicket

/-- Four instructions of the issuer are already pending. -/
def pendFull (who : Who) (s : State) : Bool := 4 ≤ (ctx who s).pend.length

/-- Nothing that the issuer's sequencer has started is pending; the conductor is one sequencer, with both worlds' work (02 R59). -/
def noPending (who : Who) (s : State) : Bool :=
  match who with
  | .slice n => (seq n s).ctx.pend.isEmpty
  | _ => s.cond.op.pend.isEmpty && s.cond.cust.pend.isEmpty

/-- Starts pending work: ST_PENDING with the ticket in w1. -/
def startPending (who : Who) (op : Nat) (s : State) : State :=
  let t := nextTicket who s
  let s := modCtx who (fun c => { c with nextTicket := t % 65535 + 1, pend := c.pend ++ [{ ticket := t, op := op }] }) s
  ret who stPENDING (w32 t) 0 s

/-- Sequencer number of an issuer, 15 for the conductor (15 Table HI-11). -/
def seqNoOf (who : Who) : Nat :=
  match who with
  | .slice n => n.val
  | _ => 15

/-- Pending work of a sequencer or world ends: its completion notice is placed (03 R79), and a FENCE with nothing left to wait
for completes (02 R59). -/
def endPending (who : Who) (ticket op st : Nat) (d1 d2 : Word) (s : State) : State :=
  let w := worldOf who s
  let s := modCtx who (fun c => { c with pend := dropFirst (fun p => p.ticket = ticket) c.pend }) s
  let s := postOrHold w false (completionDesc op ticket st d1 d2 (seqNoOf who) w s) s
  if noPending who s then
    match who with
    | .slice n => if (seq n s).await = some .fence then
        let s := modSeq n (fun q => { q with state := .running, await := none }) s
        advance who s
      else s
    | _ => if s.cond.await = some .fence then
        advance (condWho s) { s with cond := { s.cond with await := none } }
      else s
  else s

end Sys2Proof.Machine
end

