-- ==== Sys2Proof/Machine/Psum.lean ====
section
/-! DEFINITION. The poll summary (15 R486-R488, Table HI-5), and the outcome every command ends in. -/

namespace Sys2Proof.Machine

/-- Unread descriptors of a device-produced ring. -/
def ringUnread (w : World) (b : Fin 20) (s : State) : Bool := !(ring w b s).unread.isEmpty

/-- A halt record is among the unread descriptors of the notice ring: FORM 0x13. -/
def haltUnread (w : World) (s : State) : Bool :=
  (ring w blkNotice s).unread.any (fun d => match d with | h :: _ => h.toNat % 128 = 0x13 | [] => false)

/-- Coalescing entries wait for room in the world's notice ring (07 R250). -/
def entriesWait (w : World) (s : State) : Bool :=
  (s.notices.entries ++ s.notices.overflow.toList).any (fun n => noticeWorld n.kind s = w && (n.due s).isSome)

/-- The poll summary's bits 47:0 for a world (15 Table HI-5). -/
def psumBits (w : World) (s : State) : BitVec 48 :=
  let h := whost w s
  let n := ring w blkNotice s
  BitVec.ofNat 48 (
    bitAt (ringUnread w blkNotice s) 0 + bitAt (n.runs && 3 * n.size ≤ 4 * n.unread.length) 1 +
    bitAt (entriesWait w s) 2 + bitAt (haltUnread w s) 3 + bitAt (ringUnread w blkCompletion s) 4 +
    ((List.finRange 8).map (fun (k : Fin 8) => bitAt (ringUnread w ⟨3 + k.val, by omega⟩ s) (8 + k.val))).sum +
    h.txdone.toNat * 2 ^ 16 +
    bitAt s.time.holdover 32 + bitAt h.hostSilent 33 + bitAt s.qp.ledger.psum 34 + bitAt s.pw.wakeReg 35 +
    bitAt s.pw.wakeOsc 36 + bitAt h.lpovl 37 + bitAt s.host.settingsBad 38 + bitAt h.fallback 39 +
    bitAt s.twin.diverged 40 + bitAt (s.time.xovr ≠ 0) 41 + bitAt s.pw.degraded 42 + bitAt s.pw.nvInhibit 43 +
    bitAt s.sec.locked 44 + bitAt (!s.time.qual) 45 +
    bitAt (sliceIdx.any (fun k => (seq k s).state = .halted && (seq k s).ctx.halt.reason ≠ 8)) 46 +
    bitAt (sliceIdx.any (fun k => (seq k s).state = .offline)) 47)

/-- SEQ advances when the device has changed a world's bits 47:0 (15 R487), and a mirror write falls due (15 R488). A command
counts as one change (log entry 10). -/
def psumSync1 (w : World) (s : State) : State :=
  let b := psumBits w s
  if b = (whost w s).psumShown then s
  else modWhost w (fun h => { h with psumShown := b, psumSeq := h.psumSeq + 1,
                                     mirrorDue := h.mirrorDue || h.rings[19].runs }) s

/-- Both worlds. -/
def psumSync (s : State) : State := psumSync1 .custodian (psumSync1 .operator s)

/-- The poll summary as a 64-bit register: SEQ reads 0 under version 2 (15 R506). -/
def psum (w : World) (s : State) : BitVec 64 :=
  BitVec.ofNat 64 ((psumBits w s).toNat + (if s.host.hifNeg = 2 then 0 else (whost w s).psumSeq.toNat) * 2 ^ 48)

/-- PIN records of FLOW0-FLOW3 (16 R542, 11 R378), on a twin. -/
def flowSync (s : State) : State :=
  if s.straps.twinen then
    (List.finRange 4).foldl (fun s n =>
      if s.pw.flowSeen[n.val] = flowLevel n s then s
      else emitPin n.val (flowLevel n s)
        { s with pw := { s.pw with flowSeen := s.pw.flowSeen ^^^ BitVec.ofNat 4 (2 ^ n.val) } }) s
  else s

/-- The outcome of a command that takes effect: the next state, the poll summary's SEQ kept in step. -/
def ok (s : State) : Host.Outcome State Fault Refusal := .next (flowSync (psumSync s))

end Sys2Proof.Machine
end

