-- ==== Sys2Proof/Machine/Operands.lean ====
section
/-! DEFINITION. Operand forms of the instruction set (03 R75-R78, R105; 04 R121). -/

namespace Sys2Proof.Machine

/-- Operand 2 (03 R76). -/
def op2Val (who : Who) (o : Op2) (s : State) : Word :=
  match o with
  | .imm v => v
  | .reg r => getW who r s

/-- A register-or-none operand: 0 selects no register and the operand is zero (03 R75). -/
def regOrNone (who : Who) (r : Fin 16) (s : State) : Word := if r = 0 then 0 else getW who r s

/-- Runs the body on the queue an operand names; a register with a bit above 9 set completes with ST_RANGE, the operand being
at the position given (03 R77, R78). -/
def withQueue (who : Who) (q : QRef) (pos : Nat) (body : Nat → State → State) (s : State) : State :=
  match q with
  | .imm n => body n.val s
  | .reg r =>
    let v := getW who r s
    if v.toNat < 1024 then body v.toNat s else retRange who pos v.toNat s

/-- Runs the body on an even pair; an odd register completes with ST_RANGE (02 R39, 03 R105). -/
def withPair (who : Who) (r : Fin 16) (pos : Nat) (body : Fin 16 → State → State) (s : State) : State :=
  if h : r.val % 2 = 0 then body ⟨r.val + 1, by omega⟩ s else retRange who pos r.val s

/-- A 64-bit value held in a pair: even register low. -/
def pairVal (who : Who) (r hi : Fin 16) (s : State) : BitVec 64 :=
  BitVec.ofNat 64 ((getW who hi s).toNat * 4294967296 + (getW who r s).toNat)

/-- Runs the body on the slice a field names (04 R121): 15 is the issuer's own slice, 12-14 are out of range; a slice sequencer
that names another slice is refused with 0x0000_FF01. -/
def withSlice (who : Who) (f : Fin 16) (pos : Nat) (op : Nat) (body : Fin 12 → State → State) (s : State) : State :=
  match who with
  | .slice n =>
    if f = 15 then body n s
    else if h : f.val < 12 then
      if (⟨f.val, h⟩ : Fin 12) = n then body n s else ret who stREFUSED (w32 0xFF01) (w32 op) s
    else retRange who pos f.val s
  | _ => if h : f.val < 12 then body ⟨f.val, h⟩ s else retRange who pos f.val s

/-- A time register of a time-group instruction; a nanoseconds field of 1,000,000,000 or more completes with ST_RANGE (03 R81). -/
def withTime (who : Who) (t : Fin 4) (pos : Nat) (body : TVal → State → State) (s : State) : State :=
  let v := getT who t s
  if v.valid then body v s else retRange who pos v.ns.toNat s

end Sys2Proof.Machine
end

