-- ==== Sys2Proof/Machine/Modem.lean ====
section
/-! DEFINITION. PHY modes, durations, bit-loading profiles, proposals and the transmitted frame (chapter 08). -/

namespace Sys2Proof.Machine

/-- Option 1-4 of an OFDM mode family or code (08 Table OM-3). -/
def modeOption (mode : Nat) : Nat := mode / 16

/-- NDBPS of Table OM-2 for a standard OFDM code of Table OM-3; none for other codes. -/
def ndbpsOf (mode : Nat) : Option Nat :=
  ([(0x10, 12), (0x11, 24), (0x12, 48), (0x13, 96),
    (0x20, 6), (0x21, 12), (0x22, 24), (0x23, 48), (0x24, 72), (0x25, 96), (0x26, 144),
    (0x31, 6), (0x32, 12), (0x33, 24), (0x34, 36), (0x35, 48), (0x36, 72),
    (0x42, 6), (0x43, 12), (0x44, 18), (0x45, 24), (0x46, 36)].find? (fun p => p.1 = mode)).map (·.2)

/-- FSK bit rate in kb/s of codes 0x51-0x53 (08 Table OM-3). -/
def fskRate (mode : Nat) : Option Nat := ([(0x51, 50), (0x52, 100), (0x53, 150)].find? (fun p => p.1 = mode)).map (·.2)

/-- A standard mode code of Table OM-3, not 0x00 or 0x60. -/
def standardMode (mode : Nat) : Bool := (ndbpsOf mode).isSome || (fskRate mode).isSome

/-- A mode code of Table OM-3. -/
def modeCode (mode : Nat) : Bool := mode = 0 || mode = 0x60 || standardMode mode

/-- Data subcarriers N_D of an option (08 Table OM-1). -/
def dataSubcarriers (option : Nat) : Nat := 96 / 2 ^ (option - 1)

/-- The mode family of a tap is an OFDM option (09 Table CH-2). -/
def familyOption (family : Nat) : Option Nat := if 1 ≤ family && family ≤ 4 then some family else none

/-- Mode code that a PHR Rate field names on a tap of this family (08 R273 check 2); none when Table OM-2 lacks it. -/
def rateMode (family rate : Nat) : Option Nat :=
  if family ≤ 4 then (if standardMode (family * 16 + rate) && rate ≤ 6 then some (family * 16 + rate) else none)
  else some (0x50 + (family - 4))

/-- On-air duration in ns of an OFDM frame of L octets (08 R256); bl: bit-loaded, n: midamble interval or 0. -/
def ofdmDuration (option ndbps l : Nat) (bl : Bool) (n : Nat) : Nat :=
  let nsym := (8 * l + 6 + ndbps - 1) / ndbps
  let nmid := if n = 0 then 0 else (nsym - 1) / n
  let p := if option = 1 then 360000 else 720000
  720000 + p + (if bl then p else 0) + 120000 * (nsym + nmid)

/-- Duration in ns of n octets at a bit rate in kb/s, rounded to the nearest ns, a half up (08 R256). -/
def fskSpan (rate n : Nat) : Nat := (2 * 8 * n * 1000000 + rate) / (2 * rate)

/-- On-air duration in ns of an FSK frame, rounded to the nearest ns, a half up (08 R256). -/
def fskDuration (rate npre l : Nat) : Nat := fskSpan rate (npre + 4 + l)

/-- Midamble interval of a MID code (08 Table OM-4). -/
def midInterval (mid : Nat) : Nat := if mid = 0 || 4 < mid then 0 else 2 ^ (mid + 1)

/-- Duration of a frame in a mode; a bit-loaded one by its map. -/
def duration (mode : Nat) (map : List Word) (mid npre l : Nat) : Nat :=
  match ndbpsOf mode, fskRate mode with
  | some nd, _ => ofdmDuration (modeOption mode) nd l false 0
  | none, some r => fskDuration r npre l
  | none, none =>
    let w0 := (map.headD 0).toNat
    ofdmDuration (w0 % 4 + 1) (max 1 (w0 / 65536)) l true (midInterval mid)

/-! ## Profiles (08 R259-R264) -/

/-- Entry k of a profile's map: word 1 is least significant, three bits each (08 R260). -/
def mapEntry (p : List Word) (k : Nat) : Nat :=
  ((p.drop 1).foldr (fun w acc => acc * 4294967296 + w.toNat) 0) / 2 ^ (3 * k) % 8

/-- Bits of a constellation: off, BPSK, QPSK, 16-QAM, 64-QAM (08 Table OM-7). -/
def constBits (c : Nat) : Nat := [0, 1, 2, 4, 6].getD c 0

/-- Coded bits per symbol of a list of constellations (08 R261). -/
def ncbps (map : List Nat) : Nat := (map.map constBits).sum

/-- Period of a code rate in coded bits (08 Table OM-6). -/
def codePeriod (c : Nat) : Nat := [2, 3, 4, 6].getD c 2

/-- NDBPS of a code rate and NCBPS (08 Table OM-6). -/
def ndbpsFor (c n : Nat) : Nat := [n / 2, 2 * n / 3, 3 * n / 4, 5 * n / 6].getD c 0

/-- A profile is well formed (08 R261). -/
def profileOk (p : List Word) : Bool :=
  let w0 := (p.headD 0).toNat
  let nd := dataSubcarriers (w0 % 4 + 1)
  let map := (List.range 96).map (mapEntry p)
  let n := ncbps map
  let c := w0 / 4 % 4
  p.length = 10 && w0 / 128 % 512 = 0 && w0 / 16 % 8 ≤ 4 && map.all (· ≤ 4) && (map.drop nd).all (· = 0) &&
  n % codePeriod c = 0 && 12 ≤ ndbpsFor c n && ndbpsFor c n ≤ 288 && ndbpsFor c n = w0 / 65536

/-! ## What S11 builds (08 R255-R268) -/

/-- The n bits of a number, least significant first. -/
def bitsOfNat (n v : Nat) : List Bool := (List.range n).map v.testBit

/-- The XHR of a profile (index, district times 256), a midamble code and a generation modulo 4 (08 Table OM-4). -/
def xhrBits (prof mid pgen : Nat) : List Bool :=
  let v := prof + mid * 512 + pgen * 4096
  bitsOfNat 36 (v + (Config.hcs v).toNat * 4194304)

/-- Cuts a list into pieces of n. -/
def pieces {α : Type} (n : Nat) : Nat → List α → List (List α)
  | 0, _ => []
  | k + 1, b => b.take n :: pieces n k (b.drop n)

/-- The payload's bits: the PSDU scrambled, six zero tail bits, scrambled pad bits up to n (08 R267 steps 1-3). -/
def payloadBits (seed n : Nat) (psdu : List Byte) : List Bool :=
  let b := (psdu.flatMap (fun o => bitsOfNat 8 o.toNat)).zipIdx.map (fun p => p.1 != Config.pn9 seed p.2) ++ List.replicate 6 false
  b ++ (List.range (n - b.length)).map (fun i => Config.padBit seed (b.length + i))

/-- Output of a generator of constraint length 7 over the newest bit and the six before it (08 R267 step 4). -/
def convOut (gen : Nat) (w : List Bool) : Bool :=
  (List.range 7).foldl (fun acc i => acc != (gen.testBit (6 - i) && w.getD i false)) false

/-- The rate-1/2 code: outputs A and B of generators 133 and 171, from the state h, newest bit first. -/
def convolve : List Bool → List Bool → List (Bool × Bool)
  | [], _ => []
  | b :: t, h =>
    let w := b :: h
    (convOut 0x5B w, convOut 0x79 w) :: convolve t (w.take 6)

/-- Puncturing patterns of A and B of a code rate (08 Table OM-6). -/
def puncture (code : Nat) : List Bool × List Bool :=
  match code with
  | 0 => ([true], [true])
  | 1 => ([true, true], [true, false])
  | 2 => ([true, true, false], [true, false, true])
  | _ => ([true, true, false, true, false], [true, false, true, false, true])

/-- The coded bits of one symbol, the pattern starting anew (08 R267 step 5). -/
def punctured (code : Nat) (ps : List (Bool × Bool)) : List Bool :=
  let (a, b) := puncture code
  ps.zipIdx.flatMap (fun p =>
    (if a.getD (p.2 % a.length) false then [p.1.1] else []) ++ (if b.getD (p.2 % b.length) false then [p.1.2] else []))

/-- The order in which placement visits the active data subcarriers (08 R266). -/
def placeOrder (map : List Word) : List Nat :=
  let nd := dataSubcarriers ((map.headD 0).toNat % 4 + 1)
  ((List.range nd).map (fun m => 17 * m % nd)).filter (fun k => mapEntry map k ≠ 0)

/-- The subcarrier and label bit of each coded bit of a symbol (08 R266). -/
def placements (map : List Word) : List (Nat × Nat) :=
  (List.range 6).flatMap (fun r => ((placeOrder map).filter (fun k => r < constBits (mapEntry map k))).map (fun k => (k, r)))

/-- Level of a label's half (08 Table OM-7). -/
def level : List Bool → Int
  | [false] => -1
  | [true] => 1
  | [false, false] => -3
  | [false, true] => -1
  | [true, true] => 1
  | [true, false] => 3
  | [false, false, false] => -7
  | [false, false, true] => -5
  | [false, true, true] => -3
  | [false, true, false] => -1
  | [true, true, false] => 1
  | [true, true, true] => 3
  | [true, false, true] => 5
  | [true, false, false] => 7
  | _ => 0

/-- The point of a subcarrier's label (08 Table OM-7). -/
def carrier (k : Nat) (label : List Bool) : Carrier :=
  let n := label.length
  if n = 1 then { k := k, bits := 1, i := level label }
  else { k := k, bits := n, i := level (label.take (n / 2)), q := level (label.drop (n / 2)) }

/-- What a symbol carries: the option, the bits of each data subcarrier's constellation, the data bits, the code rate, and for
each coded bit the subcarriers and label bits that carry it. -/
structure SymForm where
  option : Nat := 1
  bits : List Nat := []
  ndbps : Nat := 1
  code : Nat := 0
  places : List (List (Nat × Nat)) := []

/-- Bits of an MCS's constellation (08 Table OM-2). -/
def mcsBits (mcs : Nat) : Nat := [1, 1, 2, 2, 2, 4, 4].getD mcs 0

/-- Frequency repetition of an MCS (08 Table OM-2). -/
def mcsRepeat (mcs : Nat) : Nat := [4, 2, 2, 1, 1, 1, 1].getD mcs 1

/-- Code rate of an MCS, as Table OM-6 numbers it (08 Table OM-2). -/
def mcsCode (mcs : Nat) : Nat := if mcs = 4 || mcs = 6 then 2 else 0

/-- Coded bits of NDBPS data bits at a code rate (08 Table OM-6). -/
def codedBits (code ndbps : Nat) : Nat := [2 * ndbps, 3 * ndbps / 2, 4 * ndbps / 3, 6 * ndbps / 5].getD code 0

/-- A symbol of a standard MCS (08 R253, Tables OM-1 and OM-2). -/
def stdForm (option mcs : Nat) : SymForm :=
  let nd := (ndbpsOf (option * 16 + mcs)).getD 1
  { option := option, bits := List.replicate (dataSubcarriers option) (mcsBits mcs), ndbps := nd, code := mcsCode mcs
    places := (List.range (codedBits (mcsCode mcs) nd)).map (fun i =>
      (List.range (mcsRepeat mcs)).map (Config.stdPlace option mcs i)) }

/-- A payload symbol of a bit-loaded frame: its profile's map, placed by R266. -/
def mapForm (map : List Word) : SymForm :=
  let w0 := (map.headD 0).toNat
  { option := w0 % 4 + 1, bits := (List.range (dataSubcarriers (w0 % 4 + 1))).map (fun k => constBits (mapEntry map k))
    ndbps := max 1 (w0 / 65536), code := w0 / 4 % 4, places := (placements map).map (fun p => [p]) }

/-- The form of an OFDM frame's payload symbols. -/
def payForm (mode : Nat) (map : List Word) : SymForm :=
  if mode = 0x60 then mapForm map else stdForm (modeOption mode) (mode % 16)

/-- MCS of an option's PHR and XHR (08 Table OM-1). -/
def headerMcs (option : Nat) : Nat := [0, 0, 0, 1, 2].getD option 0

/-- Pilots of an option (08 Table OM-1). -/
def pilotCount (option : Nat) : Nat := [0, 8, 4, 2, 2].getD option 0

/-- The pilots of the idx-th data symbol of a frame (08 R265). -/
def pilots (option idx : Nat) : List Carrier :=
  (List.range (pilotCount option)).map (fun j =>
    let p := Config.pilot option j idx
    { k := p.1, i := p.2 })

/-- The active data subcarriers of a symbol, from its coded bits (08 R265, R266). -/
def paySymbol (f : SymForm) (coded : List Bool) : List Carrier :=
  let placed := (f.places.zip coded).flatMap (fun p => p.1.map (fun kr => (kr, p.2)))
  (f.bits.zipIdx.filter (fun b => b.1 ≠ 0)).map (fun b =>
    carrier b.2 ((List.range b.1).map (fun r => (placed.find? (fun p => p.1 = (b.2, r))).elim false (·.2))))

/-- The symbols of a sequence of data bits that begins in the zero state; `idx` data symbols stand before them. -/
def codedSymbols (f : SymForm) (idx : Nat) (bits : List Bool) : List AirSym :=
  (pieces f.ndbps ((bits.length + f.ndbps - 1) / f.ndbps) (convolve bits (List.replicate 6 false))).zipIdx.map (fun p =>
    .data (paySymbol f (punctured f.code p.1)) (pilots f.option (idx + p.2)))

/-- The LTF's sequence on every data and pilot subcarrier (08 R268). -/
def ltfSequence (option : Nat) : List Int :=
  (List.range (dataSubcarriers option + pilotCount option)).map (Config.ltfSeq option)

/-- A midamble follows every n-th payload symbol but the last (08 R268). -/
def withMidambles (option n : Nat) (syms : List AirSym) : List AirSym :=
  syms.zipIdx.flatMap (fun p =>
    if n ≠ 0 && (p.2 + 1) % n = 0 && p.2 + 1 < syms.length then [p.1, .midamble (ltfSequence option)] else [p.1])

/-- Data symbols of a payload of L octets (08 R256). -/
def symbolCount (ndbps l : Nat) : Nat := (8 * l + 6 + ndbps - 1) / ndbps

/-- The payload symbols of an OFDM frame, of which `idx` data symbols stand before (08 R265-R268). -/
def payloadSymbols (f : SymForm) (mid seed idx : Nat) (psdu : List Byte) : List AirSym :=
  withMidambles f.option (midInterval mid)
    (codedSymbols f idx (payloadBits seed (symbolCount f.ndbps psdu.length * f.ndbps) psdu))

/-- An OFDM frame: STF, LTF, PHR, the XHR of a bit-loaded one, coded and modulated as the PHR, and the payload (08 R253, R257). -/
def ofdmSymbols (mode : Nat) (map : List Word) (rate len mid seed : Nat) (xhr : List Bool) (psdu : List Byte) : List AirSym :=
  let f := payForm mode map
  let h := stdForm f.option (headerMcs f.option)
  let phr := codedSymbols h 0 ((List.range 36).map (Config.phrBit rate len seed))
  let x := codedSymbols h phr.length xhr
  .stf :: .ltf (ltfSequence f.option) :: (phr ++ x ++ payloadSymbols f mid seed (phr.length + x.length) psdu)

/-- An FSK frame's bits: preamble, uncoded SFD, PHR, PSDU, whitened where the PHR says so (08 R255). -/
def fskBits (npre len : Nat) (whiten shortFcs : Bool) (psdu : List Byte) : List Bool :=
  (List.range (8 * npre)).map Config.fskPreamble ++ (List.range 16).map Config.fskSfd ++
  (List.range 16).map (Config.fskPhrBit len whiten shortFcs) ++
  (psdu.flatMap (fun o => bitsOfNat 8 o.toNat)).zipIdx.map (fun p => p.1 != (whiten && Config.fskPn p.2))

/-! ## What S4 and S5 recover (08 R270, R271) -/

/-- Sum and product of complex amplitudes. -/
def cplxAdd (a b : Cpx) : Cpx := { re := a.re + b.re, im := a.im + b.im }

/-- Half of a complex amplitude. -/
def cplxHalf (a : Cpx) : Cpx := { re := truncDiv a.re 2, im := truncDiv a.im 2 }

/-- |a|². -/
def cplxPower (a : Cpx) : Nat := (a.re * a.re + a.im * a.im).toNat

/-- The channel estimate after a midamble (08 R270): it replaces the old one, or the two are averaged. -/
def updateChannel (alpha : Nat) (h h' : List Cpx) : List Cpx :=
  if alpha = 0 then h' else (h.zip h').map (fun p => cplxHalf (cplxAdd p.1 p.2))

/-- |H_k|² |y_k / H_k - p|² = |y_k - H_k p|² for the point p of a label, times the constellation's power (08 R270, R271). -/
def labelDistance (y h : Cpx) (label : List Bool) : Int :=
  let c := carrier 0 label
  let u := Config.levelScale label.length
  let v := Config.levelScale 1
  cplxPower { re := u * y.re - v * (h.re * c.i - h.im * c.q), im := u * y.im - v * (h.re * c.q + h.im * c.i) }

/-- Least distance over the labels of n bits whose bit r is b. -/
def leastDistance (y h : Cpx) (n r : Nat) (b : Bool) : Int :=
  let ds := (((List.range (2 ^ n)).map (bitsOfNat n)).filter (fun l => l.getD r false = b)).map (labelDistance y h)
  ds.foldl min (ds.headD 0)

/-- Max-log likelihood ratio of bit r of a subcarrier, weighted by |H_k|², positive for 1 (08 R271). -/
def softBit (y h : Cpx) (n r : Nat) : Int := leastDistance y h n r false - leastDistance y h n r true

/-- The soft values of a symbol's coded bits: those of one bit on repeated subcarriers are added, then quantised to 6 bits over
the noise variance (08 R271). -/
def softSymbol (f : SymForm) (h y : List Cpx) (noise : Nat) : List Int :=
  f.places.map (fun ps =>
    let n := f.bits.getD (ps.headD (0, 0)).1 0
    let x := (ps.map (fun p => softBit (y.getD p.1 {}) (h.getD p.1 {}) n p.2)).sum
    clampI (-31) 31 (Config.softQuant x (((Config.levelScale n) ^ 2).toNat * noise)))

/-- A 0 at each punctured position of a symbol of n data bits, the pattern starting anew (08 R271). -/
def depuncture (code : Nat) : Nat → Nat → List Int → List (Int × Int)
  | 0, _, _ => []
  | n + 1, i, xs =>
    let (pa, pb) := puncture code
    let a := pa.getD (i % pa.length) false
    let b := pb.getD (i % pb.length) false
    let ys := if a then xs.drop 1 else xs
    (if a then xs.headD 0 else 0, if b then ys.headD 0 else 0) :: depuncture code n (i + 1) (if b then ys.drop 1 else ys)

/-- Received payload symbols to soft values: the channel estimate follows the midambles (08 R270, R271). -/
def softPayload (f : SymForm) (alpha noise : Nat) : List RxSym → List Cpx → List (List Cpx) → List (Int × Int)
  | [], _, _ => []
  | .midamble h' :: t, h, ps => softPayload f alpha noise t (updateChannel alpha h h') ps
  | .data y p :: t, h, ps =>
    depuncture f.code f.ndbps 0 (softSymbol f h (y.map (Config.derotate (p :: ps))) noise) ++
      softPayload f alpha noise t h (p :: ps)

/-- A path of the decoder: its metric and its undecided bits, newest first. -/
structure VPath where
  metric : Int := 0
  bits : List Bool := []

/-- The better of two paths; which of two equal ones, the spec does not say. -/
def betterPath (tie : Bool) : Option VPath → Option VPath → Option VPath
  | none, b => b
  | a, none => a
  | some a, some b => if a.metric < b.metric || (a.metric = b.metric && tie) then some b else some a

/-- A path of state `st` (bit 5 the newest of six data bits) extended by bit u under soft values a and b. -/
def extendPath (x : Int × Int) (u : Bool) (st : Nat) (p : VPath) : VPath :=
  let w := u :: (List.range 6).map (fun i => st.testBit (5 - i))
  { metric := p.metric + (if convOut 0x5B w then x.1 else -x.1) + (if convOut 0x79 w then x.2 else -x.2), bits := u :: p.bits }

/-- One step of the 64 states. -/
def viterbiStep (t : Nat) (x : Int × Int) (ps : List (Option VPath)) : List (Option VPath) :=
  (List.range 64).map (fun ns =>
    let prev (k : Nat) := (ps.getD (ns % 32 * 2 + k) none).map (extendPath x (ns.testBit 5) (ns % 32 * 2 + k))
    betterPath (Config.viterbiTie t ns) (prev 0) (prev 1))

/-- Soft-decision Viterbi decoding with a traceback depth of 96, ending in the zero state (08 R271). -/
def viterbi : Nat → List (Int × Int) → List (Option VPath) → List Bool
  | _, [], ps => ((ps.headD none).elim [] (·.bits)).reverse
  | t, x :: xs, ps =>
    let ps := viterbiStep t x ps
    let best := ps.zipIdx.foldl (fun b p => betterPath (Config.viterbiTie t (64 + p.2)) b p.1) none
    match best with
    | some b =>
      if 96 < b.bits.length then
        b.bits.getLastD false :: viterbi (t + 1) xs (ps.map (Option.map (fun p => { p with bits := p.bits.take 96 })))
      else viterbi (t + 1) xs ps
    | none => viterbi (t + 1) xs ps

/-- A number from bits, least significant first. -/
def natOfBits (b : List Bool) : Nat := b.foldr (fun x acc => acc * 2 + if x then 1 else 0) 0

/-- Octets from bits, the first bit of an octet least significant. -/
def octetsOfBits (n : Nat) (b : List Bool) : List Byte := (pieces 8 n b).map (fun x => BitVec.ofNat 8 (natOfBits x))

/-- The PSDU of l octets that an OFDM lane decodes and descrambles (08 R267, R270, R271). -/
def ofdmPsdu (mode : Nat) (map : List Word) (seed alpha l : Nat) (p : RxPay) : List Byte :=
  let f := payForm mode map
  let soft := (softPayload f alpha p.noise p.syms p.h []).take (symbolCount f.ndbps l * f.ndbps)
  octetsOfBits l ((viterbi 0 soft (some {} :: List.replicate 63 none)).zipIdx.map (fun b => b.1 != Config.pn9 seed b.2))

/-- The PSDU of l octets of an FSK lane, its whitening taken off (08 R255). -/
def fskPsdu (whiten : Bool) (l : Nat) (p : RxPay) : List Byte :=
  if whiten then
    octetsOfBits l ((p.octets.flatMap (fun o => bitsOfNat 8 o.toNat)).zipIdx.map (fun b => b.1 != Config.fskPn b.2))
  else p.octets.take l

/-- The channel estimates of a frame: that of its LTF and those of its midambles. -/
def estimates (p : RxPay) : List (List Cpx) :=
  p.h :: p.syms.filterMap (fun x => match x with
    | .midamble h => some h
    | .data _ _ => none)

/-- SNR_k of data subcarrier k in 0.25 dB: |H_k|² / σ², averaged over the LTF and every midamble (08 Table OM-11). -/
def snrOfCarrier (p : RxPay) (k : Nat) : Int :=
  Config.quarterDb ((estimates p).map (fun h => cplxPower (h.getD k {}))).sum ((estimates p).length * p.noise)

/-- SNR of an OFDM frame in 0.25 dB: Σ|H_k|² / (N_D × σ²), averaged as SNR_k (08 Table OM-11). -/
def snrOfFrame (p : RxPay) (nd : Nat) : Int :=
  Config.quarterDb ((estimates p).map (fun h => ((h.take nd).map cplxPower).sum)).sum (nd * (estimates p).length * p.noise)

/-- -10 to +50 dB, saturating (08 Table OM-11). -/
def snrRange (x : Int) : Int := clampI (-40) 200 x

/-- The PSDU of a frame's octets on a slice: they and their check sequence (log entry 16). -/
def psduOf (n : Fin 12) (data : List Byte) (s : State) : List Byte :=
  data ++ leOctets (spar 0x0301 n s) (Config.fcs (spar 0x0301 n s) data)

/-- The frame that S11 gives to S12: headers, PSDU and its symbols or bits; len is the PSDU's declared length (08 R253, R255,
R257, R267). -/
def airFrame (n : Fin 12) (mode : Nat) (map : List Word) (prof pgen mid len : Nat) (data : List Byte) (s : State) : AirFrame :=
  let psdu := psduOf n data s
  let f : AirFrame := { mode := mode, len := len, psdu := psdu }
  if (fskRate mode).isSome then
    { f with preamble := spar 0x0303 n s, whiten := spar 0x0304 n s = 1, shortFcs := spar 0x0301 n s = 2
             bits := fskBits (spar 0x0303 n s) len (spar 0x0304 n s = 1) (spar 0x0301 n s = 2) psdu }
  else
    let seed := spar 0x0305 n s
    if mode = 0x60 then
      { f with rate := 24, seed := seed, xhr := xhrBits prof mid pgen
               syms := ofdmSymbols mode map 24 len mid seed (xhrBits prof mid pgen) psdu }
    else { f with rate := mode % 16, seed := seed, syms := ofdmSymbols mode map (mode % 16) len 0 seed [] psdu }

/-- Profile slot of an index and district. -/
def profile (idx dist : Nat) (s : State) : Profile := Tbl.get {} s.modem.profiles (dist * 256 + idx)

/-- A profile as a user copies it: in the clock period of a commit it stands as before the commit (08 R263). -/
def profileSeen (idx dist : Nat) (s : State) : Profile :=
  match (if s.modem.wasAt = s.time.elapsed then s.modem.was.find? (fun p => p.1 = dist * 256 + idx) else none) with
  | some p => p.2
  | none => profile idx dist s

/-- The map a lane uses for an XHR, if one is found (08 R264). -/
def selectMap (p : Profile) (pgen option : Nat) : Option (List Word) :=
  let pick := if p.cur ≠ [] && pgen = p.gen % 4 then some p.cur
    else if p.prev ≠ [] && pgen = (p.gen + 255) % 256 % 4 then some p.prev else none
  match pick with
  | some m => if (m.headD 0).toNat % 4 + 1 = option then some m else none
  | none => none

/-- The staged words of OM.PROF_W0-W9. -/
def stagedProfile (s : State) : List Word := (List.range 10).map (fun k => par (0x340 + k) chip s)

/-- Changes a profile slot. -/
def modProfile (k : Nat) (f : Profile → Profile) (s : State) : State :=
  let m := s.modem
  let was := if m.wasAt = s.time.elapsed then m.was else []
  { s with modem := { m with
      profiles := Tbl.upd {} m.profiles k f, last := k, wasAt := s.time.elapsed
      was := if was.any (fun p => p.1 = k) then was else (k, Tbl.get {} m.profiles k) :: was } }

/-- OM.PROF_COMMIT (08 R262): a status and the state after. -/
def profCommit (v : Nat) (s : State) : Nat × State :=
  let k := v % 512
  let op := v / 4096 % 4
  if v / 16384 ≠ 0 || v / 512 % 8 ≠ 0 then (stRANGE, s)
  else if op = 0 then
    let p := stagedProfile s
    if profileOk p then
      (stOK, modProfile k (fun x => { cur := p, prev := if x.cur = [] then x.prev else x.cur, gen := (x.gen + 1) % 256 }) s)
    else (stRANGE, s)
  else if op = 1 then (stOK, modProfile k (fun x => { cur := [], prev := [], gen := (x.gen + 1) % 256 }) s)
  else if op = 2 then
    let ws := (Tbl.get {} s.modem.profiles k).cur
    let s := (List.range 10).foldl (fun s j => setPar (0x340 + j) chip (ws.getD j 0) s) s
    (stOK, { s with modem := { s.modem with last := k } })
  else (stRANGE, s)

/-- GETP of OM.PROF_COMMIT (08 R262). -/
def profState (s : State) : Nat :=
  let p := Tbl.get {} s.modem.profiles s.modem.last
  p.gen + bitAt (p.cur ≠ []) 8 + bitAt (p.prev ≠ []) 9

/-! ## Proposals (08 R280-R282) -/

/-- Threshold of a constellation (1-4) at a code rate, in quarter dB (08 Table OM-14). -/
def snrThr (c code : Nat) : Int :=
  ([[12, 24, 48, 72], [18, 30, 56, 80], [22, 34, 60, 84], [26, 38, 66, 90]].getD code []).getD (c - 1) 0

/-- Highest constellation whose threshold plus the margin the SNR meets, else off. -/
def bestConst (code : Nat) (m snr : Int) : Nat :=
  if snrThr 4 code + m ≤ snr then 4 else if snrThr 3 code + m ≤ snr then 3
  else if snrThr 2 code + m ≤ snr then 2 else if snrThr 1 code + m ≤ snr then 1 else 0

/-- Index of the active subcarrier with the least SNR_k - thr, the lowest on a tie. -/
def weakest (code : Nat) : List (Nat × Int) → Nat → Option (Nat × Int) → Option Nat
  | [], _, best => best.map (·.1)
  | (c, snr) :: t, k, best =>
    if c = 0 then weakest code t (k + 1) best
    else
      let d := snr - snrThr c code
      match best with
      | some (_, b) => if d < b then weakest code t (k + 1) (some (k, d)) else weakest code t (k + 1) best
      | none => weakest code t (k + 1) (some (k, d))

/-- The reduction loop of R281; each turn lowers one constellation, so 4 * 96 turns are enough. -/
def reduceMap (code : Nat) : Nat → List (Nat × Int) → List (Nat × Int)
  | 0, m => m
  | f + 1, m =>
    let n := ncbps (m.map (·.1))
    if n % codePeriod code ≠ 0 || 288 < ndbpsFor code n then
      match weakest code m 0 none with
      | some k => reduceMap code f (m.modify k (fun x => (x.1 - 1, x.2)))
      | none => m
    else m

/-- The proposed map at a code rate and margin (08 R281). -/
def proposedMap (code : Nat) (m : Int) (snrs : List Int) : List Nat :=
  (reduceMap code 384 (snrs.map (fun x => (bestConst code m x, x)))).map (·.1)

/-- A map's constellations as the ten words of a profile, MID 0 (08 R260). -/
def profileWords (option code : Nat) (map : List Nat) : List Word :=
  let field := (map.foldr (fun c acc => acc * 8 + c) 0)
  w32 (option - 1 + code * 4 + ndbpsFor code (ncbps map) * 65536) ::
    (List.range 9).map (fun k => w32 (field / 2 ^ (32 * k)))

/-- SNR_k of a measurement record's octet (08 Table OM-15), from quarter dB. -/
def snrOctet (snr : Int) : Byte := BitVec.ofNat 8 (clampI 0 255 (roundDiv (snr + 40) 2)).toNat

/-- Link quality from the SNR in quarter dB (08 R277). -/
def linkQuality (snr : Int) : Nat := (clampI 0 255 (2 * snr + 16)).toNat

/-- An NFLOOR entry from a floor in quarter dBm (08 R279); 0 not measured. -/
def nfEntry (floor : Option Int) : Nat := floor.elim 0 (fun f => (clampI 1 255 (roundDiv (2 * (f + 640)) 4)).toNat)

end Sys2Proof.Machine
end

