-- ==== Sys2Proof/Machine/RadioOps.lean ====
section
/-! DEFINITION. Operations on a slice's radio that its instructions and events share: roster access and the drift model
(06 R213-R217), radio state, watchers, lanes, windows, transmissions, calibrations (04, 09, 10). -/

namespace Sys2Proof.Machine

/-! ## Roster and drift model -/

/-- The four entries that always read as free (07 R234). -/
def rosterVoid (idx : Nat) : Bool := idx % 65536 = 0xFFFE || idx % 65536 = 0xFFFF

/-- Roster entry. -/
def roster (idx : Nat) (s : State) : Roster := if rosterVoid idx then {} else Tbl.get {} s.roster idx

/-- Changes a roster entry; CHECK is rewritten with it (07 R236). -/
def modRoster (idx : Nat) (f : Roster → Roster) (s : State) : State :=
  if rosterVoid idx then s else { s with roster := Tbl.upd {} s.roster idx f }

/-- ns per slot. -/
def slotNs (s : State) : Nat := s.grid.len

/-- ASN of the slot that holds instant t, and its boundary. -/
def slotAt (t : Nat) (s : State) : Nat × Nat :=
  if s.grid.bound ≤ t then
    let k := (t - s.grid.bound) / max 1 (slotNs s)
    (s.grid.asn + k, s.grid.bound + k * slotNs s)
  else
    let k := (s.grid.bound - t + max 1 (slotNs s) - 1) / max 1 (slotNs s)
    (s.grid.asn - k, s.grid.bound - k * slotNs s)

/-- Prediction for a node in the slot with ASN a: offset p, uncertainty half-width h, and delta (06 R214). -/
def predict (r : Roster) (a : Nat) (s : State) : Int × Int × Int :=
  let delta : Int := ((a : Int) - (r.asnRef : Int)) * (slotNs s : Int)
  let ad : Int := |delta|
  let p := r.theta + truncDiv (r.phi * delta) 1000000000
  let u := (r.uTheta : Int) + truncDiv ((r.uPhi : Int) * ad) 1000000000
  let u := if s.time.holdover then
      u + truncDiv ((cpar 0x020A s : Int) * min ad ((s.time.elapsed : Int) - (s.grid.holdSince : Int))) 1000000000 else u
  let h := truncDiv ((cpar 0x0204 s : Int) * u) 4 + (cpar 0x0203 s : Int)
  (p, min (h * 2 ^ r.miss) ((cpar 0x0202 s : Int) * 1000), delta)

/-- Rounds an offset after the boundary down to a whole microsecond. -/
def floorUs (x : Int) : Int := x / 1000 * 1000

/-- Rounds it up. -/
def ceilUs (x : Int) : Int := -((-x) / 1000) * 1000

/-- Open and close times and predicted arrival of a dedicated window about nominal arrival ts; an explicit half-width takes the
model's place (06 R214). -/
def nodeWindow (r : Roster) (ts : Nat) (half : Nat) (s : State) : Nat × Nat × Int :=
  let (a, b) := slotAt ts s
  let (p, h, _) := predict r a s
  let h := if half = 0 then h else (half : Int)
  let nom : Int := (ts : Int) - (b : Int)
  let g := (cpar 0x0202 s : Int) * 1000
  let o := max (floorUs (nom + p - h)) (nom - g)
  let c := min (ceilUs (nom + p + h)) (nom + g)
  (((b : Int) + o).toNat, ((b : Int) + c).toNat, (ts : Int) + p)

/-- An observation of a node: measured offset m in the slot with ASN a, correction c us sent (06 R215). -/
def observe (idx : Nat) (m : Int) (a : Nat) (c : Int) (sl : Nat) (s : State) : State :=
  let r := roster idx s
  let (p, h, delta) := predict r a s
  let e := m - p
  let unheard := r.corr ≠ 0 && |e + r.corr * 1000| < |e|
  let e := if unheard then e + r.corr * 1000 else e
  let ad := |delta|
  let g := min (r.nobs + 1) (cpar 0x0207 s)
  let mx : Int := cpar 0x0209 s
  let phi := if delta = 0 then r.phi else clampI (-mx) mx (r.phi + truncDiv (Int.tdiv (e * 1000000000) delta) g)
  let uphi0 : Int := if delta = 0 then r.uPhi else
    max (cpar 0x0208 s : Int) (truncDiv (7 * (r.uPhi : Int) + 2 * Int.tdiv (|e| * 1000000000) ad) 8)
  let uphi := if delta ≠ 0 && h < |e| then max uphi0 (Int.tdiv (|e| * 1000000000) ad) else uphi0
  let s := if unheard then { s with grid := { s.grid with ackUnheard := s.grid.ackUnheard + 1 } } else s
  modRoster idx (fun r => { r with
    phi := phi, uPhi := uphi.toNat, theta := m + c * 1000, uTheta := cpar 0x0205 s, corr := c, asnRef := a,
    nobs := min (r.nobs + 1) 15, miss := 0, heard := (nowT s).sec.toNat % 4294967296, silent := false,
    lastSlice := sl, ackUnheard := if unheard then min (r.ackUnheard + 1) 255 else r.ackUnheard }) s

/-- A dedicated window closed empty (06 R217, R608). -/
def missedNode (idx : Nat) (closeAt : Nat) (s : State) : State :=
  let r := roster idx s
  if r.use_ ≠ 1 then s
  else
    let sec := closeAt / 1000000000 % 4294967296
    let lim := cpar 0x0236 s
    let tell := lim ≠ 0 && !r.silent && r.heard ≠ 0 && r.heard + lim ≤ sec
    let s := modRoster idx (fun r => { r with miss := min (r.miss + 1) 15, heard := if r.heard = 0 then sec else r.heard,
                                              silent := r.silent || tell }) s
    if tell then notify 0x0201 idx stTIMEOUT blkPipe s else s

/-! ## State of a slice (10 R317) -/

/-- An external slice E-L. -/
def isExt (n : Fin 12) : Bool := 4 ≤ n.val

/-- A lane is held by slice n: it holds a reception from it until S6 has taken its output (09 R296). -/
def receives (n : Fin 12) (l : Option Lane) : Bool := l.any (fun l => l.sl = n)

/-- Lanes held by slice n (09 R296). -/
def lanesHeld (n : Fin 12) (s : State) : Nat := (s.radio.lanes.toList.filter (receives n)).length

/-- Lanes that the engines of S3-S5 leave (01 R11). -/
def enginesLanes (s : State) : Nat := min s.health.acq.usable (min s.health.s4.usable s.health.s5.usable)

/-- Usable lanes: in Listen, lanes at or above the cap are power-gated (14 R448). -/
def usableLanes (s : State) : Nat := min (enginesLanes s) s.pw.listenCap

/-- Usable lanes that are free. -/
def freeLanes (s : State) : List (Fin 64) := laneIdx.filter (fun k => k.val < usableLanes s && (lane k s).isNone)

/-- A calibration of either kind runs on the slice. -/
def calRunning (x : SliceS) : Bool := x.cal.any (fun c => !c.waiting)

/-- A commanded calibration counts as running (04 R122). -/
def calBusy (x : SliceS) : Bool := x.cal.any (fun c => !c.temp)

/-- Remaining time of a calibration in us. -/
def calRemain (x : SliceS) (s : State) : Nat :=
  match x.cal with
  | some c => (c.endAt - s.time.elapsed + 999) / 1000
  | none => 0

/-- The segment the front-end hears: the tuned one, or while a change to it waits the one it still stands at (10 R324). -/
def hearSeg (x : SliceS) : Option (Fin 4) := if x.retune then x.oldSeg else x.tuned

/-- The tap is active in that segment. -/
def tapActive (x : SliceS) (t : Fin 16) : Bool :=
  match hearSeg x with
  | some g => (x.plan[g]).taps[t].family ≠ 0
  | none => false

/-- Mode family of a tap of that segment. -/
def tapFamily (x : SliceS) (t : Nat) : Nat :=
  match hearSeg x with
  | some g => if h : t < 16 then (x.plan[g]).taps[t].family else 0
  | none => 0

/-- An acknowledgement wait is open on the tap at instant at_ (06 R224). -/
def waitOn (x : SliceS) (t at_ : Nat) : Bool :=
  x.ackWait.any (fun w => w.opened && w.openAt ≤ at_ && at_ < w.closeAt && w.tap = t)

/-- A window or acknowledgement wait is open on the tap at instant at_. -/
def openOn (x : SliceS) (t at_ : Nat) : Bool := x.win.any (fun w => w.opened && !w.closed && w.tap = t) || waitOn x t at_

/-- The watcher of a tap is armed at timebase instant at_ (09 R293): until the declared end of a frame whose PHR has passed it is
not (08 R274), and while a change of segment waits only for an acknowledgement wait, on the old segment (10 R324). -/
def armed (n : Fin 12) (t : Fin 16) (at_ : Nat) (s : State) : Bool :=
  let x := slice n s
  tapActive x t && !calRunning x && !x.blank && x.holdOff[t].isNone && !x.deaf[t] &&
  (if x.retune then waitOn x t at_ else x.locked && ((spar 0x0220 n s = 1 && !x.rxOff) || openOn x t at_)) &&
  !(s.radio.lanes.toList.any (fun l => l.any (fun l => l.sl = n && l.tap = t.val && l.out.isNone && l.passed && at_ < l.endAt)))

/-- Code of Table FD-10 (10 Table RF-2). -/
def radioState (n : Fin 12) (s : State) : Nat :=
  let x := slice n s
  if x.offline then 7
  else if x.off || s.pw.mode = 5 || (isExt n && x.xiq ≠ 2) then 0
  else if calRunning x then (if x.cal.any (fun c => s.time.elapsed < c.startAt) then 2 else 6)
  else if x.txOn then 5
  else if x.moving then 2
  else if s.radio.lanes.toList.any (receives n) then 4
  else if (List.finRange 16).any (fun t => armed n t (tbNs s) s) then 3
  else 1

/-- Band of a frequency in kHz on the integrated slices (10 Table RF-1); 0 none. -/
def bandOf (khz : Nat) : Nat :=
  if 413200 ≤ khz && khz ≤ 506800 then 1 else if 753200 ≤ khz && khz ≤ 956800 then 2
  else if 2403200 ≤ khz && khz ≤ 2480300 then 3 else 0

/-- Transmit lead time in ns (10 R338). -/
def leadNs (n : Fin 12) : Nat := if isExt n then 130000 else 120000

/-- Acknowledgement lead in ns (10 R338). -/
def ackLeadNs (n : Fin 12) : Nat := if isExt n then 90000 else 80000

/-- PA ramp in ns (10 R337, R350). -/
def rampNs (n : Fin 12) (s : State) : Nat := if isExt n then 2000 else spar 0x0101 n s * 1000

/-! ## Windows (04 R127, R128; 09 R298) -/

/-- A window's reservation is open. -/
def Win.resOpen (w : Win) : Bool := w.res && w.opened && (!w.closed || w.lane.isSome)

/-- Open reservations of a slice: its window's, its acknowledgement wait's, and that of a reserved reception that has outlived
either (09 R298). -/
def resOf (n : Fin 12) (s : State) : Nat :=
  let x := slice n s
  (if x.win.any (·.resOpen) then 1 else 0) + (if x.ackWait.any (fun w => w.res) then 1 else 0) +
  (laneIdx.filter (fun k => (lane k s).any (fun l => l.sl = n && l.reserved && l.out.isNone) &&
    !(x.win.any (fun w => w.resOpen && w.lane = some k.val)) && !(x.ackWait.any (fun w => w.res && w.lane = some k.val)))).length

/-- Open reservations of the chip. -/
def resAll (s : State) : Nat := (sliceIdx.map (fun n => resOf n s)).sum

/-- A reservation is admitted (09 R298). -/
def resAdmitted (n : Fin 12) (s : State) : Bool := resAll s < usableLanes s && resOf n s < spar 0x0400 n s

/-- An acknowledgement wait whose time has come opens: it asks for its reservation (06 R227, 09 R298). -/
def openWait (s : State) (n : Fin 12) : State :=
  match (slice n s).ackWait with
  | none => s
  | some w =>
    if w.asked || tbNs s < w.openAt then s
    else
      let adm := resAdmitted n s
      let s := if adm then s else bumpSl 0x0414 n s
      modSlice n (fun x => { x with ackWait := some { w with asked := true, res := adm } }) s

/-- The acknowledgement waits whose time has come, before whatever else asks for or ends a reservation. -/
def openWaits (s : State) : State := sliceIdx.foldl openWait s

/-- The window opens: it asks for its reservation (09 R298). -/
def openWin (n : Fin 12) (s : State) : State :=
  let s := openWaits s
  match (slice n s).win with
  | none => s
  | some w =>
    let adm := w.wantRes && resAdmitted n s
    let tap := ((slice n s).tap.map (·.val)).getD 0
    let s := if w.wantRes && !adm then bumpSl 0x0414 n s else s
    modSlice n (fun x => { x with win := some { w with opened := true, res := adm, tap := tap } }) s

/-- RXWIN completes. -/
def winDone (n : Fin 12) (st : Nat) (w1 w2 : Word) (s : State) : State :=
  let s := modSlice n (fun x => { x with win := none }) s
  if (seq n s).await = some (.rxwin n) then unblockSlice n st w1 w2 s else s

/-- Arrival error of the window's frame, saturating (04 Table FD-4). -/
def Win.arrival (w : Win) : Word := i32 (clampI (-2147483648) 2147483647 ((w.rxStart : Int) - w.pred))

/-- The window ends with no passed PHR (04 Table FD-4, 09 R301). -/
def winEmpty (n : Fin 12) (w : Win) (s : State) : State :=
  if 0 < w.refused then winDone n stLANE_STARVED (w32 w.refused) 0 s
  else if 0 < w.phrFails then winDone n stPHR_FAIL (w32 w.phrFails) 0 s
  else
    let s := match w.node with
      | some i => missedNode i w.closeAt s
      | none => s
    winDone n stTIMEOUT 0 0 s

/-- A lane has left its window without a passed PHR: the window listens on, or ends if its close time has passed. -/
def winLaneLost (n : Fin 12) (k : Nat) (fails : Nat) (s : State) : State :=
  match (slice n s).win with
  | none => s
  | some w =>
    if w.lane = some k then
      let w := { w with lane := none, phrFails := w.phrFails + fails }
      let s := modSlice n (fun x => { x with win := some w }) s
      if w.closed then winEmpty n w s else s
    else s

/-- A reception whose PHR had passed ended before S7 decided it (04 R128). -/
def winFailed (n : Fin 12) (k : Nat) (st : Nat) (s : State) : State :=
  match (slice n s).win with
  | none => s
  | some w => if w.lane = some k && w.passed then winDone n st 0 w.arrival s else s

/-! ## Transmissions -/

/-- TXF completes. -/
def txfDone (n : Fin 12) (st : Nat) (w1 w2 : Word) (s : State) : State :=
  let s := modSlice n (fun x => { x with txf := none }) s
  if (seq n s).await = some (.txf n) then unblockSlice n st w1 w2 s else s

/-- Launch lateness (04 Table FD-6). -/
def lateness (launch ts : Nat) : Word := w32 (min (launch - ts) 0xFFFFFFFF)

/-- TXF completes for a transmission that reached the air; a mismatch seen during it replaces the status (10 R344). -/
def txfResult (n : Fin 12) (st job launch ts : Nat) (loss : Option Nat) (s : State) : State :=
  match loss with
  | some l => txfDone n stAERIAL_MISMATCH (w32 job) (w32 l) s
  | none => txfDone n st (w32 job) (lateness launch ts) s

/-- A frame of a transmission goes back: to its queue's head, or it stays held while its TXF waits. -/
def txBack (n : Fin 12) (t : TxRun) (s : State) : State :=
  if t.byTxf then keepFrame n t.item t.q t.heldFrom t.heldFlush s else goBack t.item t.q t.heldFrom t.heldFlush s

/-- The CUT record of a transmission that is AIRING (16 R542); the octets that had left are a free value (log entry 7). -/
def emitCut (n : Fin 12) (job status : Nat) (s : State) : State :=
  if s.straps.twinen then
    withDraw 2048 s fun v s =>
      emit (leOctets 1 0x11 ++ leOctets 1 n.val ++ leOctets 4 job ++ leOctets 2 v ++ leOctets 1 status) s
  else s

/-- A transmission that was launched at `launch` ends now: it and the 100 us after it count against the noise floors (08 R278). -/
def noteSent (n : Fin 12) (launch : Nat) (s : State) : State :=
  modSlice n (fun x => { x with nfTx :=
    (s.time.elapsed - (tbNs s - launch), s.time.elapsed + 100000) :: x.nfTx.filter (fun e => s.time.elapsed ≤ e.2 + 10000000000) }) s

/-- The slices blanked with n: its blank group (09 R302). -/
def blankGroup (n : Fin 12) (s : State) : List (Fin 12) := sliceIdx.filter (fun k => spar 0x0402 k s = spar 0x0402 n s)

/-- The amplifier keyed for a transmission that ends at `endAt` ramps down within 2 us of now, or was not yet keyed; the blanking
its blank group had for it ends 100 us later (09 R302, 10 R317, R323, R344). -/
def offAir (n : Fin 12) (endAt : Nat) (airing : Bool) (s : State) : State :=
  let x := slice n s
  if x.txOn && x.rampEnd = endAt + rampNs n s then
    let e := tbNs s + if airing then 2000 else 0
    let s := (blankGroup n s).foldl (fun s k => modSlice k (fun x =>
      if x.blankEnd = endAt + 100000 then { x with blankEnd := e + 100000 } else x) s) s
    modSlice n (fun x => { x with txOn := airing || x.cal.any (·.waiting), rampEnd := e }) s
  else s

/-- A transmission that is AIRING is cut: QUEUED, truncated, one attempt more, back at the head (01 Table AR-2, 11 R383). -/
def cutTx (n : Fin 12) (status : Nat) (s : State) : State :=
  match (slice n s).tx with
  | none => s
  | some t =>
    let s := emitCut n t.item.job status s
    let s := setTrunc t.item.job true (addAttempt t.item.job s)
    let s := setStage t.item.job 3 status s
    txBack n t (offAir n t.endAt true (noteSent n t.launch (modSlice n (fun x => { x with tx := none }) s)))

/-- A transmission that is LAUNCHED and not AIRING is not sent: QUEUED, attempts unchanged, back at the head. -/
def unlaunch (n : Fin 12) (status : Nat) (s : State) : State :=
  match (slice n s).tx with
  | none => s
  | some t =>
    let s := setStage t.item.job 3 status s
    txBack n t (offAir n t.endAt false (modSlice n (fun x => { x with tx := none }) s))

/-- The wait for an acknowledgement ends without one: NOACK and ST_NO_ACK (06 R224, R225). -/
def ackFailed (n : Fin 12) (s : State) : State :=
  match (slice n s).ackWait with
  | none => s
  | some w =>
    let s := endAckWait n stNO_ACK s
    if w.byTxf then txfResult n stNO_ACK w.item.job w.launch w.ts w.minLoss s else s

/-- Enh-Acks that are due and not AIRED are abandoned and counted in RF.CNT_ACK_LATE, their outcome in their frame's job record;
an RXWIN that waits on one completes (01 R21; 10 R326, R339). -/
def dropAcks (n : Fin 12) (p : EnhAck → Bool) (s : State) : State :=
  let gone := (slice n s).enhAcks.filter p
  let s := bumpN 0x0123 n.val gone.length (modSlice n (fun x => { x with enhAcks := x.enhAcks.filter (fun e => !p e) }) s)
  let s := gone.foldl (fun s e => offAir n e.endAt e.airing
    (noteAck e.job (if e.airing then 3 else 2) (if e.airing then noteSent n e.launch s else s))) s
  match (slice n s).win with
  | some w => if w.ackDue && gone.any (·.forWin) then winDone n w.res0 (w32 w.res1) w.arrival s else s
  | none => s

/-- Every Enh-Ack of the slice is abandoned. -/
def dropEnhAck (n : Fin 12) (s : State) : State := dropAcks n (fun _ => true) s

/-- A reception from a tap has ended, or a detection on it was refused: the span counts against the noise floor; spans older than
the longest window go (08 R278). -/
def noteBusy (n : Fin 12) (t since : Nat) (s : State) : State :=
  modSlice n (fun x => { x with
    nfRx := (t, since, s.time.elapsed) :: x.nfRx.filter (fun e => s.time.elapsed ≤ e.2.2 + 10000000000) }) s

/-- Releases lane k. -/
def releaseLane (k : Fin 64) (s : State) : State := setLane k none s

/-- An acknowledgement wait has lost its lane: it listens on, or ends if its time has passed (06 R224). -/
def ackLaneLost (n : Fin 12) (k : Nat) (s : State) : State :=
  match (slice n s).ackWait with
  | none => s
  | some w =>
    if w.lane = some k then
      if w.opened then modSlice n (fun x => { x with ackWait := some { w with lane := none } }) s else ackFailed n s
    else s

/-- The Enh-Ack due for lane k's frame falls away. -/
def removeAck (n : Fin 12) (k : Nat) (s : State) : State :=
  modSlice n (fun x => { x with enhAcks := x.enhAcks.filter (fun e => e.built || e.lane ≠ k) }) s

/-- The reception on lane k ends with its frame lost: the lane is released, its window and wait told (04 R128). -/
def loseLane (k : Fin 64) (st fails : Nat) (s : State) : State :=
  match lane k s with
  | none => s
  | some l =>
    let s := ackLaneLost l.sl k.val (removeAck l.sl k.val (releaseLane k (noteBusy l.sl l.tap l.since s)))
    if l.passed then winFailed l.sl k.val st s else winLaneLost l.sl k.val fails s

/-- Abandons a reception in progress on lane k of slice n (09 R302): counted in CH.CNT_CUT, its window and wait told. -/
def abandonLane (n : Fin 12) (s : State) (k : Fin 64) : State :=
  if (lane k s).any (fun l => l.sl = n && l.out.isNone) then bumpSl 0x0415 n (loseLane k stFCS_FAIL 0 s) else s

/-- Abandons every reception in progress of a slice (09 R302, R303). -/
def abandonAll (n : Fin 12) (s : State) : State := laneIdx.foldl (abandonLane n) s

/-- Transmissions that are LAUNCHED or later on the chip, Enh-Acks included: transmit engines in use (01 R12). -/
def txEngines (s : State) : Nat :=
  (sliceIdx.map (fun k => (if (slice k s).tx.isSome then 1 else 0) + ((slice k s).enhAcks.filter (·.built)).length)).sum

/-- The transmit stage that has no free engine, if any (01 R12). -/
def noTxEngine (s : State) : Option Nat :=
  let n := txEngines s
  if s.health.s10.usable ≤ n then some 10 else if s.health.s11.usable ≤ n then some 11
  else if s.health.s12.usable ≤ n then some 12 else none

/-- The lead of a cut-through item is met (11 R375). -/
def ctLeadMet (it : Item) (s : State) : Bool := !it.ct || it.written || min (cpar 0x0504 s) (cellsFor it.decl) ≤ it.cells

/-- The node that a frame for a roster index is sent to: the node that its entry's VIA names, else itself; chains are not followed
(07 R237; log entry 122). -/
def viaOf (idx : Nat) (s : State) : Nat :=
  let v := (roster idx s).via
  if idx = 0x1FFFF || (roster idx s).use_ ≠ 1 || v = 0x1FFFF then idx else v

/-- The profile that the node names to which a unicast item is sent: index, district times 256. -/
def nodeProfile (it : Item) (s : State) : Nat := (roster (viaOf it.index s) s).profile + viaOf it.index s / 65536 * 256

/-- The mode a transmission takes when it becomes LAUNCHED, with its map, and whether it has fallen back (08 R284): a broadcast
frame or an enhanced beacon is never bit-loaded. -/
def chooseMode (n : Fin 12) (it : Item) (s : State) : Nat × List Word × Bool :=
  let dflt := spar 0x0302 n s
  let i := viaOf it.index s
  let r := roster i s
  let unicast := it.index ≠ 0x1FFFF && r.use_ = 1 && !it.info.beacon && it.info.dst ≠ .short 0xFFFF
  let p := profileSeen r.profile (i / 65536) s
  let opt := tapFamily (slice n s) (((slice n s).tap.map (·.val)).getD 16)
  let fits := unicast && r.bl && p.cur ≠ [] && (p.cur.headD 0).toNat % 4 + 1 = opt
  if it.phymode ≠ 0 && it.phymode ≠ 0x60 then (it.phymode, [], false)
  else if unicast && r.bl then (if fits then (0x60, p.cur, false) else (dflt, [], true))
  else (dflt, [], false)

/-- A frame has fallen back from bit-loading (08 R284). -/
def noteFallback (n : Fin 12) (it : Item) (s : State) : State := notify 0x0303 it.index stOK (blkSlice n) (bumpSl 0x0326 n s)

/-- Output power of a transmission in 0.5 dB steps, clamped to the band's maximum (10 R336). -/
def txPower (n : Fin 12) (s : State) : Int × State :=
  let v := (par 0x0100 n.val s).toInt
  let mx : Int := if bandOf (slice n s).freq = 3 then 20 else 40
  if !isExt n && mx < v then (mx, bumpSl 0x0125 n s) else (v, s)

/-- Spans from blanking start to the end of the ramp-down overlap (10 R340). -/
def spansMeet (l1 e1 l2 e2 : Nat) (ramp : Nat) : Bool := l1 ≤ e2 + ramp + 20000 && l2 ≤ e1 + ramp + 20000

/-- Another transmission or Enh-Ack of the blank group with a fixed launch instant conflicts with the span (10 R340). -/
def conflicts (n : Fin 12) (launch endAt : Nat) (s : State) : Bool :=
  (blankGroup n s).any (fun k =>
    let x := slice k s
    (x.tx.any (fun t => !t.aired && spansMeet launch endAt t.launch t.endAt (rampNs k s))) ||
    (x.enhAcks.any (fun e => !e.lost && spansMeet launch endAt e.launch e.endAt (rampNs k s))))

/-- The frame an armed TXF has selected. -/
def selected (n : Fin 12) (a : TxfArm) (s : State) : Option Item :=
  match a.q, a.sel with
  | some q, some ref => findItem q ref s
  | none, some ref => ((ctx (.slice n) s).held.find? (fun h => h.item.job = ref)).map (·.item)
  | _, none => none

/-- Takes the selected frame out of its queue or its holder (04 R129: LAUNCHED; 11 R370). -/
def takeSelected (n : Fin 12) (a : TxfArm) (it : Item) (s : State) : State :=
  match a.q with
  | some q => countToHeld it (modQ q (fun x =>
      { x with items := dropFirst (fun i => i.job = it.job) x.items
               inc := x.inc.filter (fun i => i.job ≠ it.job) }) s)
  | none => modCtx (.slice n) (fun c => { c with held := dropFirst (fun h => h.item.job = it.job) c.held }) s

/-- The selected frame becomes LAUNCHED if the slice is locked, not calibrating, an engine is free, a cut-through lead is met and
the deadline less the lead has not passed (04 R129); what falls between two ticks of the timebase, 8 ns apart, counts as at the
first; a conflict refuses it (10 R340). Its PSDU is the item and its FCS (log
entry 16). -/
def tryLaunch (n : Fin 12) (s : State) : State :=
  let x := slice n s
  match x.txf with
  | none => s
  | some a =>
    match selected n a s with
    | none => s
    | some it =>
      let now := tbNs s
      if !x.locked || calRunning x || (noTxEngine s).isSome || !ctLeadMet it s || a.ts + a.latest + 8 < now + leadNs n then s
      else
        let launch := if now + leadNs n ≤ a.ts + 8 then a.ts else now + leadNs n
        let (mode, map, back) := chooseMode n it s
        let l := (if it.written then it.len else it.decl) + spar 0x0301 n s
        let endAt := launch + duration mode map ((map.headD 0).toNat / 16 % 8) (spar 0x0303 n s) l
        if conflicts n launch endAt s then
          txfDone n stREFUSED (w32 0x84) 0 (unselect a (bumpSl 0x0124 n s))
        else
          let (pw, s) := txPower n (if back then noteFallback n it s else s)
          let s := setStage it.job 4 stOK (takeSelected n a it s)
          modSlice n (fun x => { x with
            txf := none, lastTx := it.job
            tx := some { item := { it with selBy := none, beacon := it.beacon && a.q.isSome }, q := a.q, heldFrom := a.heldFrom, heldFlush := a.heldFlush,
                         ts := a.ts, launch := launch, fixedAt := now, endAt := endAt,
                         tap := (x.tap.map (·.val)).getD 0, mode := mode, map := map, power := pw,
                         prof := nodeProfile it s, pgen := (profileSeen (nodeProfile it s % 256) (nodeProfile it s / 256) s).gen % 4,
                         ackReq := it.info.ackReq && it.info.dst ≠ .short 0xFFFF, backoff := x.mismatch } }) s

/-- The slice is locked: a waiting window opens if its time has come, a waiting frame launches (04 R128, R129). -/
def onLock (n : Fin 12) (s : State) : State :=
  let s := match (slice n s).win with
    | some w => if !w.opened && w.openAt ≤ tbNs s && tbNs s < w.closeAt then openWin n s else s
    | none => s
  tryLaunch n s

/-! ## Tuning and calibration -/

/-- What holds a synthesiser change back (10 R324). -/
def retuneHeld (x : SliceS) : Bool := x.txOn || x.tx.any (fun t => !t.aired) || x.enhAcks.any (!·.lost) || x.ackWait.isSome

/-- The instant by which it no longer does: a frame that asks for an acknowledgement will arm a wait (06 R224, 10 R320). -/
def retuneFreeBy (n : Fin 12) (s : State) : Nat :=
  let x := slice n s
  let a := match x.tx with
    | some t => max (t.endAt + rampNs n s)
        (if t.ackReq && t.byTxf && !t.aired then t.endAt + (cpar 0x021A s + cpar 0x021B s) * 1000 else 0)
    | none => 0
  let b := x.enhAcks.foldl (fun m e => max m (e.endAt + rampNs n s)) 0
  let c := match x.ackWait with | some w => w.closeAt | none => 0
  max (if x.txOn then x.rampEnd else 0) (max a (max b c))

/-- Settle bound of a change, in ns (10 Table RF-4, R351). -/
def settleNs (n : Fin 12) (target : Nat) (s : State) : Nat :=
  let x := slice n s
  if isExt n then 11600 + spar 0x0110 n s * 1000
  else
    let base := if !x.fromNone && x.freq ≠ 0 && bandOf x.freq = bandOf target then 150000 else 400000
    if x.off then base + 100000 else base

/-- Local oscillator of an integrated slice at a segment, kHz (10 R315). -/
def loOf (seg : Seg) : Int := (seg.centre : Int) - 4000

/-- Offset of a tap from the local oscillator, kHz (10 R315). -/
def offsetOf (seg : Seg) (t : Nat) : Int := if h : t < 16 then 4000 + seg.taps[t].offset else 0

/-- FECTL port of an external slice. -/
def fePort (n : Fin 12) : Nat := if n.val < 8 then 0 else 1

/-- Queues a control word on a slice's FECTL port (10 R348). -/
def feQueue (w : FeWord) (s : State) : State :=
  if fePort w.sl = 0 then { s with radio := { s.radio with fe0 := s.radio.fe0 ++ [w] } }
  else { s with radio := { s.radio with fe1 := s.radio.fe1 ++ [w] } }

/-- The synthesiser change to the tuned segment begins; on E-L its tuning word is queued (10 R320, R324, R351). -/
def beginRetune (n : Fin 12) (s : State) : State :=
  let x := slice n s
  match x.tuned with
  | none => s
  | some g =>
    let seg := x.plan[g]
    let by_ := s.time.elapsed + settleNs n seg.centre s
    let s := modSlice n (fun x => { x with retune := false, moving := true, locked := false, oldSeg := none, freq := seg.centre, fromNone := false,
                                           settleFrom := none, lockBy := by_ }) s
    if isExt n then feQueue { sl := n, typ := 0, payload := seg.fetune, fromTune := true } s else s

/-- A calibration begins: receiver and PA off, receptions abandoned, an acknowledgement wait and a due Enh-Ack end
(09 R303, 10 R318, R326). -/
def beginCal (n : Fin 12) (s : State) : State :=
  let s := abandonAll n s
  let s := modSlice n (fun x => { x with
    cal := x.cal.map (fun c => { c with
      waiting := false, wasLocked := x.locked, irTemp := x.temp
      irEnd := if c.mask.testBit 0 then max s.time.elapsed c.startAt + 2000000 else 0 })
    locked := false, oldSeg := none }) s
  let s := dropEnhAck n (ackFailed n s)
  if isExt n && (slice n s).cal.any (fun c => c.mask / 4 % 2 = 1) then feQueue { sl := n, typ := 3, payload := 1 } s else s

/-- Duration of a mask's calibrations in ns (10 Table RF-5, R352). -/
def calNs (n : Fin 12) (mask : Nat) (s : State) : Nat :=
  let d := if isExt n then [0, 0, spar 0x0112 n s, 300] else [2000, 700, 1500, 300]
  1000 * ((List.range 4).map (fun k => if mask.testBit k then d.getD k 0 else 0)).sum

/-- After the last calibration the synthesiser relocks on its segment, or a change that waited begins; tuned to none, the slice
ends Idle and unlocked with no current channel tap (04 R123, R126; 10 R318). An external front-end, which has no lock detector,
counts as it did before. -/
def afterCal (n : Fin 12) (s : State) : State :=
  let x := slice n s
  let s := modSlice n (fun x => { x with cal := none }) s
  match x.cal, x.tuned with
  | some c, some _ =>
    if x.retune then (if retuneHeld (slice n s) then s else beginRetune n s)
    else if isExt n then
      if c.wasLocked then onLock n (modSlice n (fun x => { x with locked := true, lockAt := tbNs s }) s) else s
    else modSlice n (fun x => { x with moving := true, lockBy := s.time.elapsed + 150000 }) s
  | _, _ => modSlice n (fun x => { x with locked := false, moving := false, tap := none }) s

/-! ## Slice faults (01 R14, R15; 18 R581) -/

/-- Status of a slice fault's cause (18 R581). -/
def faultStatus (cause : Nat) : Nat := if cause = 3 || cause = 4 then stTIMEOUT else stRANGE

/-- A slice faults: the order of Table AR-4 (01 R15). A sequencer that does not run has no halt to record: the record of its last
one stays (02 R72). DESIGN CHOICE (log entry 119): Enh-Acks that are due are abandoned and counted in RF.CNT_ACK_LATE as any other;
the spec says nothing of them here. -/
def sliceFault (n : Fin 12) (cause : Nat) (s : State) : State :=
  if (slice n s).offline then s
  else
    let st := faultStatus cause
    let s := match (slice n s).tx with
      | some t => if t.aired then modSlice n (fun x => { x with tx := none }) s
                  else if t.airing then cutTx n st s else unlaunch n st s
      | none => s
    let s := abandonAll n (dropEnhAck n s)
    let s := match (seq n s).state with
      | .running | .blocked => haltSlice n 9 st 0 true s
      | _ => cancelAir n (modSeq n (fun q => { q with state := .offline }) s)
    let s := modSlice n (fun x => { x with offline := true, calOk := false, locked := false, moving := false, retune := false, oldSeg := none,
                                           faults := sat32 (x.faults + 1), lastStat := st, lastCause := cause }) s
    notify 0x0012 n.val st (blkSlice n) s

end Sys2Proof.Machine
end

