-- ==== Sys2Proof/Machine/Radio.lean ====
section
/-! DEFINITION. The radio group of instructions (04 R121-R134) and the events of the front-ends, windows and transmissions
(chapters 04, 09, 10). -/

namespace Sys2Proof.Machine

/-! ## Shared checks -/

/-- Slice n is external and its XIQ lane is not up (09 R308). -/
def xiqDown (n : Fin 12) (s : State) : Bool := isExt n && (slice n s).xiq ≠ 2

/-- The conductor is refused a radio instruction on a slice whose sequencer runs (02 R35, Table FM-2). -/
def condHeld (who : Who) (n : Fin 12) (s : State) : Bool :=
  match who with
  | .slice _ => false
  | _ => (seq n s).state = .running || (seq n s).state = .blocked

/-- ST_CAL_BUSY with the remaining time (04 R122). -/
def retCalBusy (who : Who) (n : Fin 12) (s : State) : State :=
  ret who stCAL_BUSY (w32 (calRemain (slice n s) s)) 0 s

/-- The checks of R121, R122 and R308 before a body that names slice n. -/
def radioReady (who : Who) (n : Fin 12) (body : State → State) (s : State) : State :=
  if (slice n s).offline then retRefused who 0xFF06 s
  else if xiqDown n s then retRefused who 0x91 s
  else if calBusy (slice n s) then retCalBusy who n s
  else body s

/-- Segment and tap of a channel number in a slice's plan (09 R291). -/
def findChannel (x : SliceS) (ch : Nat) : Option (Fin 4 × Fin 16) :=
  ((List.finRange 4).flatMap (fun g => (List.finRange 16).map (fun t => (g, t)))).find? (fun p =>
    (x.plan[p.1]).taps[p.2].family ≠ 0 && (x.plan[p.1]).taps[p.2].chan = ch)

/-- A quiet instant of the slice (10 R342). -/
def quietNow (n : Fin 12) (s : State) : Bool :=
  let x := slice n s
  !(s.radio.lanes.toList.any (receives n)) &&
  !(x.win.any (fun w => (w.opened && !w.closed) || (!w.opened && w.openAt ≤ tbNs s + 100000))) &&
  !x.txOn && !(x.tx.any (fun t => !t.aired)) && !(x.enhAcks.any (!·.lost))

/-! ## TUNE, CAL -/

/-- TUNE to a channel of the plan (04 R125; 09 R291; 10 R321, R324, R351); a withdrawn chip's slices stay Off (04 R151; log entry
121). -/
def tuneTo (who : Who) (n : Fin 12) (g : Fin 4) (t : Fin 16) (s : State) : State :=
  let x := slice n s
  let words := if fePort n = 0 then s.radio.fe0 else s.radio.fe1
  let lost := isExt n && x.moving && !x.retune && x.settleFrom.isNone && !(words.any (fun w => w.sl = n && w.typ = 0))
  if (x.tuned = some g && !lost && !x.off) || s.twin.role = 3 then
    ret who stOK 0 0 (modSlice n (fun x => { x with tuned := some g, tap := some t }) s)
  else
    let settle := settleNs n (x.plan[g]).centre s
    let cal := if calRunning x then (slice n s).cal.elim 0 (fun c => c.endAt - s.time.elapsed) else 0
    let wait := if retuneHeld x then retuneFreeBy n s - tbNs s else 0
    let s := abandonAll n s
    let s := modSlice n (fun x => { x with
      tuned := some g, tap := some t, locked := false, moving := true, retune := true
      oldSeg := if x.locked then x.tuned else x.oldSeg }) s
    let s := if retuneHeld (slice n s) || calRunning (slice n s) then s else beginRetune n s
    ret who stOK (w32 (cal + wait + settle)) 0 (modSlice n (fun x => { x with off := false }) s)

/-- TUNE (04 R125). -/
def execTune (who : Who) (c : Cond) (ws sl : Fin 16) (s : State) : Host.Outcome State Fault Refusal :=
  ok (issue who c 0x30 .all (withSlice who sl 2 0x30 (fun n s =>
    let ch := (getW who ws s).toNat
    if condHeld who n s then ret who stREFUSED (w32 0xFF03) (w32 0x30) s
    else match findChannel (slice n s) ch with
      | none => retRange who 1 ch s
      | some (g, t) => radioReady who n (fun s =>
          if n.val = 3 && bandOf ((slice n s).plan[g]).centre = 3 && (slice n s).sel ≠ 1 then retRefused who 0x82 s
          else tuneTo who n g t s) s)) s)

/-- CAL begins, or waits for the end of a transmission (04 R126, 10 R326); a slice that was Off has its regulators ready 100 us
later (10 R318). -/
def startCal (n : Fin 12) (mask : Nat) (ticket : Option (World × Nat)) (s : State) : State :=
  let x := slice n s
  let wait := if x.txOn then max x.rampEnd (retuneFreeBy n s) - tbNs s else 0
  let ready := if x.off && !isExt n then 100000 else 0
  let s := modSlice n (fun x => { x with off := s.twin.role = 3, cal := some {
    mask := mask, waiting := x.txOn, startAt := s.time.elapsed + ready, endAt := s.time.elapsed + ready + wait + calNs n mask s
    ticket := ticket } }) s
  if x.txOn then s else beginCal n s

/-- CAL (04 R126). -/
def execCal (who : Who) (c : Cond) (mask : BitVec 4) (sl : Fin 16) (s : State) : Host.Outcome State Fault Refusal :=
  ok (issueB who c 0x31 .all (withSlice who sl 2 0x31 (fun n s =>
    if condHeld who n s then ret who stREFUSED (w32 0xFF03) (w32 0x31) s
    else if mask = 0 || (isExt n && mask.toNat % 4 ≠ 0) then retRange who 1 mask.toNat s
    else if xiqDown n s then retRefused who 0x91 s
    else if (slice n s).cal.isSome then retCalBusy who n s
    else match who with
      | .slice _ => block who (.cal n) (startCal n mask.toNat none s)
      | _ =>
        if pendFull who s then retRefused who 0x40 s
        else startPending who 0x31 (startCal n mask.toNat (some (worldOf who s, nextTicket who s)) s))) s)

/-- CAL's calibrations end, all of them or up to the one that did not converge; the instruction completes and the slice relocks
or ends unlocked (04 R126; 10 R325, R330, R352). It does not occur before an external slice's calibrate word is settled. -/
def calDone (n : Fin 12) (failed : Option (Fin 4)) (s : State) : State :=
  let x := slice n s
  match x.cal with
  | none => s
  | some c =>
    let failed := if c.wordFail then some 2 else failed
    if c.temp || c.waiting || (isExt n && c.mask.testBit 2 && !c.wordFail && !c.extDone) || failed.any (fun k => !c.mask.testBit k) then s
    else
      let rest := match failed with
        | some k => calNs n (c.mask / 2 ^ (k.val + 1) * 2 ^ (k.val + 1)) s
        | none => 0
      let s := reachElapsed (c.endAt - rest) s
      let did (k : Nat) := c.mask.testBit k && failed.all (fun f => k < f.val)
      let clear := failed.isNone && did 0 && did 1
      let late := !x.tcalPend && c.trigger && !clear
      let s := modSlice n (fun x => { x with
        tempRef := if did 0 then c.irTemp else x.tempRef
        tcalPend := (x.tcalPend && !clear) || late
        tcalSince := if late then s.time.elapsed else x.tcalSince
        tcalTold := x.tcalTold && !late
        calOk := x.calOk || failed.isNone, calDoneOk := failed.isNone
        offline := x.offline && failed.isSome }) s
      let s := afterCal n s
      let st := if failed.isSome then stTIMEOUT else stOK
      let w1 := w32 (failed.elim 0 (fun k => k.val))
      match c.ticket with
      | some (w, t) => endPending (.ring w) t 0x31 st w1 0 s
      | none => if (seq n s).await = some (.cal n) then unblockSlice n st w1 0 s else s

/-- TEMP_CAL_START (10 R328): only in a gap. -/
def tempCalStart (n : Fin 12) (s : State) : State :=
  let x := slice n s
  let soon := tbNs s + 2000000
  let gap := !(x.win.any (fun w => if w.opened then !w.closed else w.openAt ≤ soon)) && !(x.txf.any (fun a => a.ts ≤ soon)) &&
    !(x.tx.any (fun t => !t.aired)) && !x.txOn && !(x.enhAcks.any (!·.lost)) && x.ackWait.isNone &&
    !(s.radio.lanes.toList.any (fun l => l.any (fun l => l.sl = n && l.passed)))
  if x.tcalPend && x.cal.isNone && gap && !isExt n && !x.off && !x.offline then
    let s := modSlice n (fun x => { x with
      tcalPend := false
      cal := some { temp := true, mask := 3, endAt := s.time.elapsed + 2700000 } }) s
    bumpSl 0x0129 n (beginCal n s)
  else s

/-- TEMP_CAL_START (10 R328). -/
def execTempCalStart (sl : Fin 12) (s : State) : Host.Outcome State Fault Refusal := ok (tempCalStart sl s)

/-- TEMP_CAL_END (10 R327): the reference temperature is that at the end of its image rejection; the slice relocks. -/
def execTempCalEnd (sl : Fin 12) (s : State) : Host.Outcome State Fault Refusal :=
  ok (match (slice sl s).cal with
      | some c =>
        if c.temp then afterCal sl (modSlice sl (fun x => { x with tempRef := c.irTemp }) (reachElapsed c.endAt s)) else s
      | none => s)

/-- TCAL_DEFER_TIMEOUT (10 R329): notice 0x0101 once for each pending calibration. -/
def execTcalDeferTimeout (sl : Fin 12) (s : State) : Host.Outcome State Fault Refusal :=
  ok (let x := slice sl s
      if x.tcalPend && !x.tcalTold then
        let s := reachElapsed (x.tcalSince + spar 0x0107 sl s * 1000000000) s
        notify 0x0101 sl.val stOK (blkSlice sl) (modSlice sl (fun x => { x with tcalTold := true }) s)
      else s)

/-- SLICE_TEMP_MEASURE (10 R327; 19 R585): beyond 135 degC the slice faults. A trigger during a commanded CAL waits for its end
(10 R330). -/
def execSliceTempMeasure (sl : Fin 12) (t : Int) (s : State) : Host.Outcome State Fault Refusal :=
  ok (if isExt sl then s
      else
        let s := modSlice sl (fun x => { x with
          temp := t
          cal := x.cal.map (fun c => if s.time.elapsed ≤ c.irEnd && !c.waiting then { c with irTemp := t } else c) }) s
        let x := slice sl s
        let s := if (spar 0x0106 sl s : Int) * 8 ≤ |t - x.tempRef| && !x.tcalPend && !(x.cal.any (·.temp)) then
            if calRunning x then modSlice sl (fun x => { x with cal := x.cal.map (fun c => { c with trigger := true }) }) s
            else modSlice sl (fun x => { x with tcalPend := true, tcalSince := s.time.elapsed, tcalTold := false }) s
          else s
        if 1080 < t then sliceFault sl 5 s else s)

/-! ## RXWIN -/

/-- The body of RXWIN once its operands are in range (04 R127, R128). -/
def rxwinArm (who : Who) (n : Fin 12) (node : Option Nat) (ts : TVal) (res : Bool) (half : Nat) (s : State) : State :=
  radioReady who n (fun s =>
    let (o, c, p) := match node with
      | some i => nodeWindow (roster i s) ts.toNs half s
      | none => (ts.toNs - half, ts.toNs + half, (ts.toNs : Int))
    if (slice n s).tap.isNone then retRefused who 0x95 s
    else if c < tbNs s then retRefused who 0x81 s
    else block who (.rxwin n) (modSlice n (fun x => { x with
      win := some { node := node, openAt := o, closeAt := c, pred := p, wantRes := node.isSome || res } }) s)) s

/-- RXWIN (04 R127). -/
def execRxwin (who : Who) (c : Cond) (ws : Fin 16) (ts : Fin 4) (res : Bool) (half : BitVec 24) (s : State) :
    Host.Outcome State Fault Refusal :=
  ok (issueB who c 0x32 .sliceOnly (fun s =>
    match who with
    | .slice n =>
      let v := (getW who ws s).toNat
      let t := getT who ts s
      if ws ≠ 0 && (0x20000 ≤ v || rosterVoid v || (roster v s).use_ = 0) then retRange who 1 v s
      else if !t.valid then retRange who 2 t.ns.toNat s
      else if ws = 0 && half = 0 then retRange who 3 0 s
      else rxwinArm who n (if ws = 0 then none else some v) t res half.toNat s
    | _ => s) s)

/-- RXWIN_OPEN (04 R128): the window opens at its open time, or at lock. -/
def execRxwinOpen (sl : Fin 12) (s : State) : Host.Outcome State Fault Refusal :=
  ok (match (slice sl s).win with
      | some w =>
        if w.opened || !tbCanReach w.openAt s then s
        else
          let s := reachTb w.openAt s
          if (slice sl s).locked && !calRunning (slice sl s) && tbNs s < w.closeAt then openWin sl s else s
      | none => s)

/-- RXWIN_CLOSE (04 R128): never opened for want of lock, ST_LATE_LOCK; a reception in progress goes on; a window that never
opened on a locked slice, its open time at or after its close time or the lock at its close, closes empty. -/
def execRxwinClose (sl : Fin 12) (s : State) : Host.Outcome State Fault Refusal :=
  ok (match (slice sl s).win with
      | some w =>
        if w.closed || !tbCanReach w.closeAt s then s
        else
          let s := openWaits (reachTb w.closeAt s)
          if !w.opened then (if (slice sl s).locked then winEmpty sl w s else winDone sl stLATE_LOCK 0 0 s)
          else
            let w := { w with closed := true }
            let s := modSlice sl (fun x => { x with win := some w }) s
            if w.passed || w.lane.isSome then s else winEmpty sl w s
      | none => s)

/-! ## TXF -/

/-- The checks of TXF and its arming (04 R129, R134; 10 R345). -/
def txfArm (who : Who) (n : Fin 12) (a : TxfArm) (s : State) : State :=
  radioReady who n (fun s =>
    let x := slice n s
    if x.tap.isNone then retRefused who 0x95 s
    else if x.inhibit then retRefused who 0x83 s
    else if x.mismatch && spar 0x0105 n s = 2 then ret who stAERIAL_MISMATCH 0 (w32 x.lastLoss) s
    else if a.ts + a.latest < tbNs s + leadNs n then retRefused who 0x80 s
    else block who (.txf n) (modSlice n (fun x => { x with txf := some a }) s)) s

/-- TXF (04 R129). -/
def execTxf (who : Who) (c : Cond) (ts : Fin 4) (q : QRef) (latest : BitVec 16) (s : State) : Host.Outcome State Fault Refusal :=
  ok (issueB who c 0x33 .sliceOnly (fun s =>
    match who with
    | .slice n => withTime who ts 1 (fun t s => withQueue who q 2 (fun q s =>
        txfArm who n { ts := t.toNs, latest := latest.toNat * 1000, q := some q, since := tbNs s } s) s) s
    | _ => s) s)

/-- TXF.HELD (04 R129): ws names a held item, else its value is out of range. -/
def execTxfHeld (who : Who) (c : Cond) (ts : Fin 4) (ws : Fin 16) (latest : BitVec 16) (s : State) :
    Host.Outcome State Fault Refusal :=
  ok (issueB who c 0x33 .sliceOnly (fun s =>
    match who with
    | .slice n => withTime who ts 1 (fun t s =>
        let ref := (getW who ws s).toNat
        if (ctx who s).held.any (fun h => h.item.job = ref) then
          txfArm who n { ts := t.toNs, latest := latest.toNat * 1000, heldRef := ref, since := tbNs s } s
        else retRange who 2 ref s) s
    | _ => s) s)

/-- The frame that TXF mode 0 selects: the first item not selected that is complete, or a cut-through item (04 R129, 11 R374). -/
def selectHead (q : Nat) (s : State) : Option Item :=
  let x := queue q s
  if x.poppable = 0 then none
  else match x.items.find? (fun i => i.selBy.isNone && (i.written || i.ct)) with
    | some i => some i
    | none => x.inc.filter (fun i => i.ct && i.selBy.isNone)

/-- Selection of mode 0 (04 R129; 06 R207, R226; 11 R370). -/
def txfSelectQ (n : Fin 12) (a : TxfArm) (q : Nat) (s : State) : State :=
  if spar 0x0221 n s = 1 && 0 < (queue q s).bc then
    txfDone n stQ_EMPTY 0 0 (modQ q (fun x => { x with bc := x.bc - 1 }) s)
  else match selectHead q s with
    | none => txfDone n stQ_EMPTY 0 0 s
    | some it =>
      let eb := q = cpar 0x0230 s || q = cpar 0x0231 s
      if eb && it.info.beacon && it.info.syncAsn.isNone then
        let s := modQ q (fun x => { x with poppable := x.poppable - 1 }) s
        txfDone n stRANGE 1 0 (resetBackoff q (excFromQueue q (fun i => i.job = it.job) stRANGE s))
      else
        let s := modQ q (fun x => { x with poppable := x.poppable - 1 })
          (modItem q it.job (fun i => { i with selBy := some n, beacon := eb && it.info.beacon }) s)
        tryLaunch n (modSlice n (fun x => { x with txf := some { a with sel := some it.job } }) s)

/-- TXF_SELECTION (04 R129): at ts - lead, at once if that is past. -/
def execTxfSelection (sl : Fin 12) (s : State) : Host.Outcome State Fault Refusal :=
  ok (match (slice sl s).txf with
      | some a =>
        if a.sel.isSome || !tbCanReach (a.ts - leadNs sl) s then s
        else
          let s := reachTb (a.ts - leadNs sl) s
          match a.q with
          | some q => txfSelectQ sl a q s
          | none =>
            match (ctx (.slice sl) s).held.find? (fun h => h.item.job = a.heldRef) with
            | none => txfDone sl stQ_EMPTY 0 0 s
            | some h => tryLaunch sl (modSlice sl (fun x => { x with
                txf := some { a with sel := some h.item.job, heldFrom := h.fromQ, heldFlush := h.flushGen } }) s)
      | none => s)

/-- w2 of ST_LATE_LOCK: ns from the deadline less the lead to the lock, or all ones when the slice is not locked (04 Table FD-6). -/
def lateLock (x : SliceS) (d : Nat) : Word := if x.locked then w32 (min (x.lockAt - d) 0xFFFFFFFE) else 0xFFFFFFFF

/-- TXF_DEADLINE (04 R129, R130; 01 R12; 11 R375): the frame is kept with its attempt count unchanged. -/
def execTxfDeadline (sl : Fin 12) (s : State) : Host.Outcome State Fault Refusal :=
  ok (match (slice sl s).txf with
      | some a =>
        match selected sl a s with
        | none => s
        | some it =>
          let d := a.ts + a.latest - leadNs sl
          if !tbCanReach d s then s
          else
            let s := tryLaunch sl (reachTb d s)
            if (slice sl s).txf.isNone then s
            else
              let s := unselect a s
              let x := slice sl s
              if !x.locked || calRunning x then txfDone sl stLATE_LOCK (w32 it.job) (lateLock x d) s
              else if !ctLeadMet it s then txfDone sl stUNDERRUN (w32 it.job) 0 s
              else match noTxEngine s with
                | some k => txfDone sl stREFUSED (w32 k) 0 s
                | none => txfDone sl stLATE_LOCK (w32 it.job) (lateLock x d) s
      | none => s)

/-- Waiting frames of all slices try to launch, after something they wait for has changed (04 R129). -/
def retryLaunches (s : State) : State := sliceIdx.foldl (fun s n => tryLaunch n s) s

/-! ## Transmissions on the air -/

/-- Blanking of a transmission's group begins (09 R302); the power amplifier of an external front-end is keyed RF.EXT_PA_LEAD
before the launch, unless it is inhibited (10 R349, R350). -/
def startBlanking (n : Fin 12) (launch endAt : Nat) (s : State) : State :=
  let s := (blankGroup n s).foldl (fun s k =>
    abandonAll k (modSlice k (fun x => { x with blank := true, blankEnd := max x.blankEnd (endAt + 100000) }) s)) s
  modSlice n (fun x => { x with txOn := true, rampEnd := endAt + rampNs n s,
                                paRise := if isExt n && !x.inhibit then launch - spar 0x0111 n s * 1000 else x.paRise }) s

/-- The launch and end of what the slice sends next: its Enh-Ack or its frame, whichever is earlier. -/
def nextAir (n : Fin 12) (s : State) : Option (Nat × Nat) :=
  let x := slice n s
  let t := (x.tx.filter (fun t => !t.airing)).map (fun t => (t.launch, t.endAt))
  let e := (x.enhAcks.find? (fun e => e.built && !e.airing)).map (fun e => (e.launch, e.endAt))
  match t, e with
  | some t, some e => some (if e.1 < t.1 then e else t)
  | some t, none => some t
  | none, e => e

/-- BLANKING_START (09 R302): 20 us before the launch. -/
def execBlankingStart (sl : Fin 12) (s : State) : Host.Outcome State Fault Refusal :=
  ok (match nextAir sl s with
      | some (l, e) => if tbCanReach (l - 20000) s then startBlanking sl l e (reachTb (l - 20000) s) else s
      | none => s)

/-- A launch timestamp is captured; S12's output has started early by the transmit path delay: the factory value of slices A-D
and TIME.PATH_DELAY_TX (03 Table FC-17, 05 R170). -/
def captureTx (n : Fin 12) (at_ : Nat) (s : State) : State :=
  modSlice n (fun x => { x with txCap := { at_ := TVal.ofNs at_, count := sat32 (x.txCap.count + 1) },
                                outAt := at_ - (if isExt n then 0 else Config.txDelay n.val) - (par 0x0832 n.val s).toInt }) s

/-- S11 gives a frame on a tap to S12, which forms an integrated slice's channel at the tap's offset from the local oscillator
(01 R19, 08 R255-R268, 10 R315); a standby and a withdrawn chip key no PA (16 R541, 04 R151). -/
def putOnAir (n : Fin 12) (tap : Nat) (f : AirFrame) (s : State) : State :=
  if 2 ≤ s.twin.role then s
  else modSlice n (fun x =>
    let f := match (if isExt n then none else hearSeg x) with
      | some g => { f with lo := loOf x.plan[g], offset := offsetOf x.plan[g] tap }
      | none => f
    { x with air := some f }) s

/-- The frame of a transmission; a bit-loaded one takes MID from its profile (08 R268). -/
def txFrame (n : Fin 12) (t : TxRun) (s : State) : AirFrame :=
  airFrame n t.mode t.map t.prof t.pgen ((t.map.headD 0).toNat / 16 % 8)
    ((if t.item.written then t.item.len else t.item.decl) + spar 0x0301 n s) t.item.data s

/-- The frame of an Enh-Ack: no midambles (08 R285). -/
def ackAirFrame (n : Fin 12) (e : EnhAck) (s : State) : AirFrame :=
  airFrame n e.mode e.map e.prof e.pgen 0 (e.octets.length + spar 0x0301 n s) e.octets s

/-- The LAUNCH record (16 R542). -/
def emitLaunch (n : Fin 12) (launch kind job mode len : Nat) (data : List Byte) (s : State) : State :=
  emit (leOctets 1 0x10 ++ leOctets 1 n.val ++ leOctets 4 (launch % 1000000000) ++ leOctets 1 kind ++ leOctets 4 job ++
    leOctets 1 mode ++ leOctets 2 len ++ leOctets 4 (crc32c 0xFFFFFFFF (psduOf n data s))) s

/-- What S11 writes into a beacon's Synchronization IE at launch: the ASN of the slot that contains the launch instant and the
district's join metric (06 R207). -/
def patchBeacon (t : TxRun) (s : State) : List Byte :=
  match t.item.beacon, t.item.info.syncAt with
  | true, some o =>
    let asn := if s.grid.mode = 1 && s.grid.fallen then s.grid.asn + (t.launch - s.grid.bound) / s.grid.len else s.grid.asn
    let metric := cpar (if t.q = some (cpar 0x0230 s) then 0x0232 else 0x0233) s
    t.item.data.take o ++ leOctets 5 (asn % 2 ^ 40) ++ leOctets 1 metric ++ t.item.data.drop (o + 6)
  | _, _ => t.item.data

/-- LAUNCH (04 R129): the frame goes AIRING. A slice whose calibrations have begun in between does not send it (04 R122). -/
def execLaunch (sl : Fin 12) (s : State) : Host.Outcome State Fault Refusal :=
  ok (match (slice sl s).tx with
      | some t =>
        if t.airing || !tbCanReach t.launch s then s
        else
          let s := reachTb t.launch s
          if calRunning (slice sl s) then
            let s := unlaunch sl stLATE_LOCK s
            if t.byTxf then txfDone sl stLATE_LOCK (w32 t.item.job) 0xFFFFFFFF s else s
          else
            let s := if (slice sl s).txOn then s else startBlanking sl t.launch t.endAt s
            let t := { t with item := { t.item with data := patchBeacon t s } }
            let s := modSlice sl (fun x => { x with tx := some { t with airing := true } }) s
            let s := emitLaunch sl t.launch (if t.item.info.beacon then 2 else 0) t.item.job t.mode
              ((if t.item.written then t.item.len else t.item.decl) + spar 0x0301 sl s) t.item.data (putOnAir sl t.tap (txFrame sl t s) s)
            captureTx sl t.launch (setStage t.item.job 5 stOK s)
      | none => s)

/-- An aired enhanced beacon returns to the tail of its queue (06 R207); without room it moves to the exception queue. -/
def recirculate (q : Nat) (it : Item) (s : State) : State :=
  match pushItem q it s with
  | some s => s
  | none => toException it stQ_FULL (setStage it.job 3 stQ_FULL (bump 0x0510 s))

/-- A frame is AIRED: it awaits its Enh-Ack, returns to its beacon queue, or is retired (06 R207, R224, R225; 04 R129). -/
def frameAired (n : Fin 12) (t : TxRun) (s : State) : State :=
  let s := if t.item.ct then putOnAir n t.tap (txFrame n t s) s else s
  let s := setStage t.item.job 6 stOK s
  let s := noteSent n t.launch (modSlice n (fun x => { x with tx := some { t with aired := true } }) s)
  if t.ackReq && t.byTxf then
    let o := t.endAt + cpar 0x021A s * 1000
    modSlice n (fun x => { x with ackWait := some {
      item := t.item, q := t.q, heldFrom := t.heldFrom, heldFlush := t.heldFlush, ts := t.ts, launch := t.launch, tap := t.tap,
      openAt := o, closeAt := o + cpar 0x021B s * 1000, opened := true, minLoss := t.minLoss } }) s
  else if t.ackReq then noAck n t.item t.q t.heldFrom t.heldFlush stOK s
  else
    let s := match t.item.beacon, t.q with
      | true, some q => recirculate q t.item s
      | _, _ => retireHeld t.item 0 stOK s
    if t.byTxf then txfResult n stOK t.item.job t.launch t.ts t.minLoss s else s

/-- The Enh-Ack on the air is AIRED: its frame's job record says so, and an RXWIN that waited for it completes (01 R21, 04 R128). -/
def enhAckAired (n : Fin 12) (e : EnhAck) (s : State) : State :=
  let s := noteSent n e.launch <| noteAck e.job 1 (modSlice n (fun x => { x with enhAcks := dropFirst (·.airing) x.enhAcks }) s)
  match (slice n s).win with
  | some w => if w.ackDue && e.forWin then winDone n w.res0 (w32 w.res1) w.arrival s else s
  | none => s

/-- FRAME_AIRED (06 R224): a transmission of the slice, its frame or its Enh-Ack, ends. -/
def execFrameAired (sl : Fin 12) (s : State) : Host.Outcome State Fault Refusal :=
  ok (let x := slice sl s
      match x.tx.filter (fun t => t.airing && !t.aired), x.enhAcks.find? (·.airing) with
      | some t, _ => if tbCanReach t.endAt s then retryLaunches (frameAired sl t (reachTb t.endAt s)) else s
      | none, some e => if tbCanReach e.endAt s then retryLaunches (enhAckAired sl e (reachTb e.endAt s)) else s
      | none, none => s)

/-- TX_RAMP_DOWN_END (10 R318): the slice returns to Listening or Idle; a CAL that waited begins (10 R326). -/
def execTxRampDownEnd (sl : Fin 12) (s : State) : Host.Outcome State Fault Refusal :=
  ok (let x := slice sl s
      if !x.txOn || x.tx.any (fun t => t.airing && !t.aired) || x.enhAcks.any (·.airing) || !tbCanReach x.rampEnd s then s
      else
        let s := reachTb x.rampEnd s
        let s := modSlice sl (fun x => { x with txOn := false, tx := x.tx.filter (fun t => !t.aired) }) s
        match (slice sl s).cal with
        | some c =>
          if c.waiting then
            beginCal sl (modSlice sl (fun x => { x with cal := some { c with endAt := s.time.elapsed + calNs sl c.mask s } }) s)
          else s
        | none => s)

/-- BLANKING_END (09 R302). -/
def execBlankingEnd (sl : Fin 12) (s : State) : Host.Outcome State Fault Refusal :=
  ok (let x := slice sl s
      if x.blank && tbCanReach x.blankEnd s then
        modSlice sl (fun x => { x with blank := false, blankEnd := 0 }) (reachTb x.blankEnd s)
      else s)

/-- ACK_WAIT_EXPIRY (06 R224, R225): a detection made in time is awaited. -/
def execAckWaitExpiry (sl : Fin 12) (s : State) : Host.Outcome State Fault Refusal :=
  ok (match (slice sl s).ackWait with
      | some w =>
        if !tbCanReach w.closeAt s then s
        else
          let s := openWaits (reachTb w.closeAt s)
          if w.lane.isSome then modSlice sl (fun x => { x with ackWait := some { w with opened := false } }) s
          else ackFailed sl s
      | none => s)

/-- A transmission that is AIRING is cut for a status of its TXF (10 R323, R344; 11 R375). -/
def cutFor (n : Fin 12) (st : Nat) (w2 : Word) (s : State) : State :=
  match (slice n s).tx with
  | some t =>
    let s := cutTx n st s
    if t.byTxf then txfDone n st (w32 t.item.job) w2 s else s
  | none => s

/-- TX_MISMATCH_MEASURE (10 R344, R345): a loss below the limit is a mismatch. -/
def execTxMismatchMeasure (sl : Fin 12) (loss : BitVec 8) (s : State) : Host.Outcome State Fault Refusal :=
  ok (match (slice sl s).tx with
      | some t =>
        if isExt sl || !t.airing || t.aired || spar 0x0104 sl s ≤ loss.toNat then s
        else
          let s := notify 0x0102 sl.val stOK (blkSlice sl) (bumpSl 0x0126 sl s)
          let act := spar 0x0105 sl s
          let t := { t with minLoss := some (min loss.toNat (t.minLoss.getD loss.toNat)), backoff := t.backoff || act = 1 }
          let s := modSlice sl (fun x => { x with lastLoss := loss.toNat, mismatch := x.mismatch || act ≠ 0, tx := some t }) s
          if act = 2 then cutFor sl stAERIAL_MISMATCH (w32 loss.toNat) s else s
      | none => s)

/-- Nanoseconds from the start of a PPDU to the symbol that carries octet f of its PSDU (08 R256). -/
def octetNs (mode : Nat) (map : List Word) (npre f : Nat) : Nat :=
  match ndbpsOf mode, fskRate mode with
  | some nd, _ => (if modeOption mode = 1 then 1080000 else 1440000) + 120000 * (8 * f / nd)
  | none, some r => fskDuration r npre f
  | none, none =>
    let w0 := (map.headD 0).toNat
    let m := 8 * f / max 1 (w0 / 65536)
    let k := midInterval (w0 / 16 % 8)
    (if w0 % 4 = 0 then 1440000 else 2160000) + 120000 * (m + (if k = 0 then 0 else m / k))

/-- The transmission is underrun (11 R375): w2 counts the octets of the cells written whole. -/
def underrun (n : Fin 12) (t : TxRun) (s : State) : State :=
  let k := (t.item.data.length + 16) / 120
  cutFor n stUNDERRUN (w32 (120 * k - 16)) (bump 0x0515 s)

/-- CT_CELL_DEADLINE (11 R375): the first cell not written whole is missing 20 us before its symbol. -/
def execCtCellDeadline (sl : Fin 12) (s : State) : Host.Outcome State Fault Refusal :=
  ok (match (slice sl s).tx with
      | some t =>
        let k := (t.item.data.length + 16) / 120
        let d := t.launch + octetNs t.mode t.map (spar 0x0303 sl s) (120 * k - 16) - 20000
        if t.airing && !t.aired && t.item.ct && !t.item.written && tbCanReach d s then underrun sl t (reachTb d s) else s
      | none => s)

/-- ENH_ACK_LAUNCH (10 R336, R339, R340): the Enh-Ack goes on the air, or is abandoned for want of being built in time. -/
def execEnhAckLaunch (sl : Fin 12) (s : State) : Host.Outcome State Fault Refusal :=
  ok (match (slice sl s).enhAcks.find? (fun e => !e.airing) with
      | some e =>
        if !tbCanReach e.launch s then s
        else
          let s := reachTb e.launch s
          if !e.built then dropAcks sl (fun k => k = e) s
          else
            let s := if (slice sl s).txOn then s else startBlanking sl e.launch e.endAt s
            let s := emitLaunch sl e.launch 1 0 e.mode (e.octets.length + spar 0x0301 sl s) e.octets
              (putOnAir sl e.tap (ackAirFrame sl e s) s)
            captureTx sl e.launch (modSlice sl (fun x => { x with enhAcks := modFirst (fun k => k = e) (fun e => { e with airing := true }) x.enhAcks }) s)
      | none => s)

/-! ## Lock (10 R320-R324) -/

/-- SYNTH_LOCK (10 R320): the slice is locked. -/
def execSynthLock (sl : Fin 12) (s : State) : Host.Outcome State Fault Refusal :=
  ok (let x := slice sl s
      if !isExt sl && x.moving && !x.retune && !calRunning x && !x.offline && x.tuned.isSome then
        onLock sl (modSlice sl (fun x => { x with
          locked := true, lockAt := tbNs s, moving := false, lostAt := none, calDoneOk := false }) s)
      else s)

/-- LOCK_LOSS (10 R323). -/
def execLockLoss (sl : Fin 12) (s : State) : Host.Outcome State Fault Refusal :=
  ok (let x := slice sl s
      if isExt sl || !(x.locked || x.oldSeg.isSome) then s
      else
        let s := bumpSl 0x0122 sl (modSlice sl (fun x => { x with
          locked := false, oldSeg := none, moving := true, lostAt := some s.time.elapsed, lossTold := false }) s)
        let s := abandonAll sl s
        let s := match (slice sl s).tx with
          | some t =>
            if t.aired then s
            else if t.airing then cutFor sl stLATE_LOCK 0xFFFFFFFF s
            else
              let s := unlaunch sl stLATE_LOCK s
              if t.byTxf then txfDone sl stLATE_LOCK (w32 t.item.job) 0xFFFFFFFF s else s
          | none => s
        dropEnhAck sl s)

/-- RELOCK_TIMEOUT (10 R323): notice 0x0103; the slice keeps trying. -/
def execRelockTimeout (sl : Fin 12) (s : State) : Host.Outcome State Fault Refusal :=
  ok (let x := slice sl s
      match x.lostAt with
      | some e =>
        if x.lossTold || x.locked then s
        else
          let s := reachElapsed (e + 1000000) s
          notify 0x0103 sl.val stOK (blkSlice sl) (modSlice sl (fun x => { x with lossTold := true }) s)
      | none => s)

/-- DEFERRED_RETUNE_START (10 R324). -/
def execDeferredRetuneStart (sl : Fin 12) (s : State) : Host.Outcome State Fault Refusal :=
  ok (let x := slice sl s
      if x.retune && !retuneHeld x && !calRunning x && !x.offline then beginRetune sl s else s)

/-! ## RSTATE, AERIAL, RQUAL -/

/-- RSTATE (04 R131). -/
def execRstate (who : Who) (c : Cond) (wd sl : Fin 16) (s : State) : Host.Outcome State Fault Refusal :=
  ok (issue who c 0x34 .all (withSlice who sl 2 0x34 (fun n s =>
    let x := slice n s
    let ch := match x.tuned, x.tap with
      | some g, some t => (x.plan[g]).taps[t].chan
      | _, _ => 0xFFFF
    let v := radioState n s + bitAt x.locked 4 + bitAt x.tcalPend 5 + bitAt (calRunning x) 6 + x.listen % 2 * 128 + ch * 65536
    ret who stOK (w32 (if calRunning x then calRemain x s else 0)) 0 (setW who wd (w32 v) s))) s)

/-- AERIAL's selection and measurement (04 R132; 10 R342, R343); the loss that the coupler measures is a free value. The slice is
blanked for the measurement, 2,000-2,600 clock periods of 10 ns: a free value (log entry 7). -/
def aerialSet (who : Who) (n : Fin 12) (port : Nat) (tuner : Nat) (measure : Bool) (s : State) : State :=
  let x := slice n s
  let old := w32 (x.sel + x.tuner * 16)
  let s := modSlice n (fun x => { x with sel := port, tuner := tuner, listen := if port = 2 then x.listen else port }) s
  if !measure then ret who stOK 0 old s
  else withDraw 256 s fun loss s => withDraw 601 s fun d s =>
    let s := abandonAll n (modSlice n (fun x => { x with blank := true, blankEnd := max x.blankEnd (tbNs s + 20000 + 10 * d) }) s)
    let s := modSlice n (fun x => { x with lastLoss := loss, mismatch := x.mismatch && loss < spar 0x0104 n s }) s
    if loss < spar 0x0104 n s then ret who stAERIAL_MISMATCH 0 0 s else ret who stOK (w32 loss) old s

/-- AERIAL (04 R132). -/
def execAerial (who : Who) (c : Cond) (port : Fin 4) (tuner : BitVec 6) (measure : Bool) (sl : Fin 16) (s : State) :
    Host.Outcome State Fault Refusal :=
  ok (issue who c 0x35 .all (withSlice who sl 2 0x35 (fun n s =>
    if condHeld who n s then ret who stREFUSED (w32 0xFF03) (w32 0x35) s
    else if port = 3 then retRange who 1 (port.val + tuner.toNat * 16) s
    else if isExt n then retRange who 2 n.val s
    else radioReady who n (fun s =>
      let x := slice n s
      if n.val = 3 && port.val ≠ 1 && x.tuned.any (fun g => bandOf (x.plan[g]).centre = 3) then retRefused who 0x82 s
      else if !quietNow n s then retRefused who 0x87 s
      else aerialSet who n port.val tuner.toNat measure s) s)) s)

/-- RQUAL.LAST (04 R133). -/
def execRqualLast (who : Who) (c : Cond) (wd sl : Fin 16) (s : State) : Host.Outcome State Fault Refusal :=
  ok (issue who c 0x36 .all (withSlice who sl 2 0x36 (fun n s =>
    match (slice n s).lastQ with
    | none => ret who stOK 0 0xFFFFFFFF (setW who wd 0 s)
    | some q =>
      ret who stOK (i32 q.cfo) (w32 (q.idx + q.lq * 16777216)) (setW who wd ((i32 q.rssi &&& 0xFFFF) ||| (i32 q.snr <<< 16)) s))) s)

/-- RQUAL.FLOOR (04 R133). -/
def execRqualFloor (who : Who) (c : Cond) (wd : Fin 16) (tap : Fin 16) (sl : Fin 16) (s : State) :
    Host.Outcome State Fault Refusal :=
  ok (issue who c 0x36 .all (withSlice who sl 3 0x36 (fun n s =>
    ret who stOK 0 0 (setW who wd (i32 ((slice n s).floors[tap].getD 0) &&& 0xFFFF) s))) s)

/-! ## FEOUT and the FECTL ports (04 R134; 10 R346-R352) -/

/-- FEOUT of a word whose payload has this many bits. -/
def feoutOp (who : Who) (typ bits : Nat) (ws sl : Fin 16) (s : State) : State :=
  withSlice who sl 3 0x37 (fun n s =>
    let v := (getW who ws s).toNat
    if condHeld who n s then ret who stREFUSED (w32 0xFF03) (w32 0x37) s
    else if 2 ^ bits ≤ v then retRange who 1 v s
    else if !isExt n then retRange who 3 n.val s
    else radioReady who n (fun s =>
      let s := feQueue { sl := n, typ := typ, payload := v } s
      let s := if typ = 0 then modSlice n (fun x => { x with locked := false, moving := true, settleFrom := none }) s else s
      block who (.feout n) s) s) s

/-- FEOUT mode 0 (04 R134, 10 R351). -/
def execFeoutTuningWord (who : Who) (c : Cond) (ws sl : Fin 16) (s : State) : Host.Outcome State Fault Refusal :=
  ok (issueB who c 0x37 .all (feoutOp who 0 24 ws sl) s)

/-- FEOUT mode 1 (04 R134, 10 R349). -/
def execFeoutStaticControls (who : Who) (c : Cond) (ws sl : Fin 16) (s : State) : Host.Outcome State Fault Refusal :=
  ok (issueB who c 0x37 .all (feoutOp who 1 4 ws sl) s)

/-- FEOUT mode 2 (04 R134). -/
def execFeoutRegisterWrite (who : Who) (c : Cond) (ws sl : Fin 16) (s : State) : Host.Outcome State Fault Refusal :=
  ok (issueB who c 0x37 .all (feoutOp who 2 24 ws sl) s)

/-- What a control word's acknowledgement, or the want of one, does to its slice (10 R348-R352). -/
def feOutcome (w : FeWord) (acked : Bool) (s : State) : State :=
  let n := w.sl
  let s := if acked then s else notify 0x0104 n.val stOK (blkSlice n) (bumpSl 0x0128 n s)
  match w.typ, acked with
  | 0, true => modSlice n (fun x => { x with settleFrom := some s.time.elapsed }) s
  | 1, true => modSlice n (fun x => { x with statics := w.payload, inhibit := w.payload.testBit 3 }) s
  | 1, false => modSlice n (fun x => { x with inhibit := true }) s
  | 3, true =>
    let t := s.time.elapsed
    let e := spar 0x0112 n s * 1000
    modSlice n (fun x => { x with cal := x.cal.map (fun c => { c with endAt := t + e + (if c.mask.testBit 3 then 300000 else 0) }) }) s
  | 3, false => modSlice n (fun x => { x with cal := x.cal.map (fun c => { c with wordFail := true, endAt := s.time.elapsed }) }) s
  | _, _ => s

/-- One transfer of a port: the first word that waits is sent and its acknowledgement read (10 R347, R348). -/
def feTransfer (port : Fin 2) (ack : BitVec 8) (s : State) : State :=
  match (if port = 0 then s.radio.fe0 else s.radio.fe1) with
  | [] => s
  | w :: rest =>
    let sq := if port = 0 then s.radio.feSeq0 else s.radio.feSeq1
    let s := if port = 0 then { s with radio := { s.radio with fe0 := rest, feSeq0 := sq + 1 } }
      else { s with radio := { s.radio with fe1 := rest, feSeq1 := sq + 1 } }
    let acked := ack = 0xA0 ||| sq.setWidth 8
    let s := feOutcome w acked s
    if w.fromTune || w.typ = 3 then s
    else
      let st := if acked then stOK else stTIMEOUT
      if (seq w.sl s).await = some (.feout w.sl) then endFeout w.sl st 0 0 s
      else if s.cond.await = some (.feout w.sl) then unblockCond st 0 0 s
      else s

/-- EXT_SETTLE_ELAPSED (10 R351): the external slice counts as locked, at the end of a calibration that runs. -/
def execExtSettleElapsed (sl : Fin 12) (s : State) : Host.Outcome State Fault Refusal :=
  ok (let x := slice sl s
      match x.settleFrom with
      | some e =>
        if !isExt sl || !x.moving || x.offline then s
        else
          let s := reachElapsed (e + spar 0x0110 sl s * 1000) s
          let s := modSlice sl (fun x => { x with settleFrom := none, moving := false }) s
          if calRunning (slice sl s) then modSlice sl (fun x => { x with cal := x.cal.map (fun c => { c with wasLocked := true }) }) s
          else onLock sl (modSlice sl (fun x => { x with locked := true, lockAt := tbNs s }) s)
      | none => s)

/-- EXT_CAL_TIME_ELAPSED (10 R352): the front-end's calibration ends. -/
def execExtCalTimeElapsed (sl : Fin 12) (s : State) : Host.Outcome State Fault Refusal :=
  ok (let x := slice sl s
      let words := if fePort sl = 0 then s.radio.fe0 else s.radio.fe1
      match x.cal with
      | some c =>
        if !isExt sl || c.temp || c.waiting || !c.mask.testBit 2 || c.wordFail || c.extDone ||
            words.any (fun w => w.sl = sl && w.typ = 3) then s
        else
          let s := reachElapsed (c.endAt - (if c.mask.testBit 3 then 300000 else 0)) s
          modSlice sl (fun x => { x with cal := some { c with extDone := true } }) s
      | none => s)

/-! ## Gain and diversity (10 R332-R334, R342) -/

/-- A lane holds a reception from the slice. -/
def receiving (n : Fin 12) (s : State) : Bool := s.radio.lanes.toList.any (receives n)

/-- The gain state becomes g; those before it are kept for 10 ms, for measures that look back (10 R335). -/
def setGain (n : Fin 12) (g : Nat) (s : State) : State :=
  modSlice n (fun x => { x with
    gain := g
    gainLog := if g = x.gain then x.gainLog else (x.gain, tbNs s) :: x.gainLog.filter (fun e => tbNs s ≤ e.2 + 10000000) }) s

/-- AGC_STEP_DOWN (10 R333): P exceeds RF.AGC_HIGH, or a sample clips, 2 us or more after the last step. -/
def execAgcStepDown (m : AgcHigh) (s : State) : Host.Outcome State Fault Refusal :=
  ok (let x := slice m.sl s
      if isExt m.sl || receiving m.sl s || x.off || !(m.clip || (par 0x0102 m.sl.val s).toInt < m.power) then s
      else
        let s := reachElapsed (x.agcAt + 2000) s
        setGain m.sl (min 15 (x.gain + 1)) (modSlice m.sl (fun x => { x with agcAt := s.time.elapsed }) s))

/-- AGC_STEP_UP (10 R333): P has stayed below RF.AGC_LOW for 64 us, and none of them lies before the last step. -/
def execAgcStepUp (m : AgcPower) (s : State) : Host.Outcome State Fault Refusal :=
  ok (let x := slice m.sl s
      if isExt m.sl || receiving m.sl s || x.off || (par 0x0103 m.sl.val s).toInt ≤ m.power then s
      else
        let s := reachElapsed (x.agcAt + 64000) s
        setGain m.sl (x.gain - 1) (modSlice m.sl (fun x => { x with agcAt := s.time.elapsed }) s))

/-- FORCED_GAIN_STEP (10 R334): every reception in progress continues. -/
def execForcedGainStep (sl : Fin 12) (s : State) : Host.Outcome State Fault Refusal :=
  ok (let x := slice sl s
      if isExt sl || !receiving sl s || 15 ≤ x.gain then s
      else bumpSl 0x0120 sl (bumpSl 0x0121 sl
        (setGain sl (x.gain + 1) (modSlice sl (fun x => { x with agcAt := s.time.elapsed }) s))))

/-- The port with the higher mean SNR; a port with no accepted frames counts as the lower, and equal means keep the port. -/
def betterPort (x : SliceS) : Nat :=
  match x.snr0, x.snr1 with
  | [], [] => x.listen
  | _, [] => 0
  | [], _ => 1
  | a, b =>
    let l := a.sum * b.length
    let r := b.sum * a.length
    if r < l then 0 else if l < r then 1 else x.listen

/-- DIVERSITY_SWITCH (10 R342): whether the quiet interval lasts 1 ms, so that it counts toward the eighth, is a free value. -/
def execDiversitySwitch (sl : Fin 12) (s : State) : Host.Outcome State Fault Refusal :=
  ok (let x := slice sl s
      if isExt sl || x.sel ≠ 2 || !quietNow sl s then s
      else withDraw 2 s fun long s =>
        let q := (x.quiet + long) % 8
        let p := if long = 1 && q = 0 then 1 - x.listen else betterPort x
        let s := modSlice sl (fun x => { x with quiet := q, listen := p }) s
        if p = x.listen then s else bumpSl 0x0127 sl s)

/-! ## XIQ lanes (09 R304-R309, 10 R353) -/

/-- The block that the device sends at instant t: TXON from the block with launch - 20 us to that with the end of the frame, and
samples of zero before the launch; no idle symbol is a block (09 R304). -/
def xiqBlockOut (x : SliceS) (t : Nat) : XiqTx :=
  let spans := (x.tx.filter (fun a => !a.aired)).elim [] (fun a => [(a.launch, a.endAt)]) ++
    (x.enhAcks.filter (fun e => e.built && !e.lost)).map (fun e => (e.launch, e.endAt))
  { on_ := spans.any (fun p => p.1 - 20000 ≤ t && t ≤ p.2), frame := spans.any (fun p => p.1 ≤ t && t ≤ p.2) }

/-- XIQ_BLOCK (09 R304, R308, R309; 10 R353): while it arrives the device sends a block of its own. -/
def execXiqBlock (sl : Fin 12) (b : XiqBlk) (s : State) : Host.Outcome State Fault Refusal :=
  ok (let x := slice sl s
      if !isExt sl || (x.xiq ≠ 1 && x.xiq ≠ 2) then s
      else
        let s := if b.ok then s else bumpSl 0x0416 sl s
        let s := if b.ok && b.ovl then bumpSl 0x0120 sl s else s
        let s := if b.ok then setGain sl b.gain.val s else s
        let s := modSlice sl (fun x => { x with
          xiqOut := xiqBlockOut x (tbNs s)
          xiqGood := if b.ok then x.xiqGood + 1 else 0
          xiqLast := if b.ok then s.time.elapsed else x.xiqLast
          xiqBad := ((!b.ok) :: x.xiqBad).take 256 }) s
        if x.xiq = 1 && 256 ≤ (slice sl s).xiqGood then
          modSlice sl (fun x => { x with xiq := 2, xiqSince := s.time.elapsed, xiqBad := [] }) s
        else s)

/-- XIQ_SLIP (09 R307, R303): a block is discarded or inserted; receptions are abandoned. -/
def execXiqSlip (sl : Fin 12) (overflow : Bool) (s : State) : Host.Outcome State Fault Refusal :=
  ok (if isExt sl && (slice sl s).xiq = 2 then
        match overflow with
        | true => bumpSl 0x0417 sl (abandonAll sl s)
        | false => bumpSl 0x0417 sl (abandonAll sl s)
      else s)

/-- XIQ_TRAINING_TIMEOUT (09 R308). -/
def execXiqTrainingTimeout (sl : Fin 12) (s : State) : Host.Outcome State Fault Refusal :=
  ok (let x := slice sl s
      if !isExt sl || x.xiq ≠ 1 then s
      else
        let s := reachElapsed (x.xiqSince + 10000000) s
        notify 0x0402 sl.val stOK (blkSlice sl) (modSlice sl (fun x => { x with xiq := 3, xiqSince := s.time.elapsed }) s))

/-- XIQ_LANE_LOSS (09 R309): 32 malformed blocks of 256, or 4 us without a well-formed one; a slice fault. -/
def execXiqLaneLoss (sl : Fin 12) (s : State) : Host.Outcome State Fault Refusal :=
  ok (let x := slice sl s
      if !isExt sl || x.xiq ≠ 2 then s
      else
        let s := if 32 ≤ (x.xiqBad.filter id).length then s else reachElapsed (x.xiqLast + 4000) s
        let s := notify 0x0402 sl.val stOK (blkSlice sl) (modSlice sl (fun x => { x with xiq := 3, xiqSince := s.time.elapsed }) s)
        sliceFault sl 4 s)

/-- SLICE_FAULT (01 R14, R15; 18 R581). -/
def execSliceFault (sl : Fin 12) (cause : Fin 5) (s : State) : Host.Outcome State Fault Refusal :=
  ok (sliceFault sl (cause.val + 1) s)

end Sys2Proof.Machine
end

