-- ==== Sys2Proof/Machine/TableOps.lean ====
section
/-! DEFINITION. Keys, buckets, placement and promotion in the forwarding tables, and the revocation of derived keys, which table
loads share with the security group (chapters 12 and 13). -/

namespace Sys2Proof.Machine

/-- The chip is the standby of a twin (04 R151). -/
def TwinS.standby (t : TwinS) : Bool := t.role = 2

/-! ## CRC-32C and keys (12 R390, R391) -/

/-- The n octets of a number, most significant first. -/
def beOctets (n v : Nat) : List Byte := (leOctets n v).reverse

/-- h of a key (12 R390). -/
def keyHash (key : BitVec 64) (dist : Bool) (s : State) : Nat :=
  crc32c (cpar 0x0600 s) (beOctets 8 key.toNat ++ [if dist then 1 else 0])

/-- Primary bucket of a hash. -/
def bucket0 (h : Nat) : Nat := h % 65536

/-- Alternate bucket of a hash. -/
def bucket1 (h : Nat) : Nat := if h / 65536 = h % 65536 then (h % 65536) ^^^ 1 else h / 65536

/-- First place of the overflow store. -/
def ovfBase : Nat := 262144

/-- The chip's cascade position (12 R395). -/
def myPos (s : State) : Nat := s.straps.caspos.val

/-- Entry at a place. -/
def tEntry (p : Nat) (s : State) : TEntry := Tbl.get {} s.tables.entries p

/-- Writes the entry at a place. -/
def setEntry (p : Nat) (e : TEntry) (s : State) : State :=
  { s with tables := { s.tables with entries := Tbl.set {} s.tables.entries p e } }

/-- Entries of the overflow store in use, lowest first. -/
def ovfEntries (s : State) : List (Nat × TEntry) := s.tables.entries.filter (fun kv => ovfBase ≤ kv.1 && kv.2.valid)

/-- The places of a bucket's ways. -/
def ways (b : Nat) : List Nat := [4 * b, 4 * b + 1, 4 * b + 2, 4 * b + 3]

/-- Is the entry the one for the key? -/
def TEntry.holds (e : TEntry) (key : BitVec 64) (dist : Bool) : Bool := e.valid && e.key = key && e.dist = dist

/-- The place that holds a key: b0, then b1, then the overflow store (12 R402). -/
def findKey (key : BitVec 64) (dist : Bool) (s : State) : Option Nat :=
  let h := keyHash key dist s
  match (ways (bucket0 h) ++ ways (bucket1 h)).find? (fun p => (tEntry p s).holds key dist) with
  | some p => some p
  | none => ((ovfEntries s).find? (fun kv => kv.2.holds key dist)).map (·.1)

/-- Free ways of a bucket. -/
def freeWays (b : Nat) (s : State) : List Nat := (ways b).filter (fun p => !(tEntry p s).valid)

/-- Lowest free overflow place, from i on, among those listed. -/
def lowestFreePlace : List Nat → Nat → Nat
  | [], i => i
  | k :: t, i => if i < k then i else lowestFreePlace t (k + 1)

/-- A way that has become free is filled from the overflow store (12 R398). -/
def promote (p : Nat) (s : State) : State :=
  if ovfBase ≤ p then s
  else
    let b := p / 4
    match (ovfEntries s).find? (fun kv =>
        let h := keyHash kv.2.key kv.2.dist s
        bucket0 h = b || bucket1 h = b) with
    | some kv => setEntry kv.1 {} (setEntry p kv.2 s)
    | none => s

/-- Removes the entry at a place, and promotes (12 R398). -/
def removeEntry (p : Nat) (s : State) : State := promote p (setEntry p {} s)

/-- A result word that INSERT refuses (12 R394). -/
def resultBad (r : Word) (s : State) : Bool :=
  r.toNat / 1073741824 ≠ 0 || (r.toNat / 131072 % 8 = myPos s && rosterVoid (r.toNat % 131072))

/-- An overflow entry has been taken: peak and warning (12 R412). -/
def ovfTaken (s : State) : State :=
  let n := (ovfEntries s).length
  let s := { s with tables := { s.tables with ovfPeak := max s.tables.ovfPeak n } }
  if n = cpar 0x0607 s then notify 0x0604 n stTABLE_FULL blkPipe s else s

/-- INSERT's rule (12 R396, R397): status, w1, w2 and the state after. -/
def tblInsert (key : BitVec 64) (dist static : Bool) (r : Word) (s : State) : Nat × Nat × Nat × State :=
  let e : TEntry := { key := key, dist := dist, static := static, result := r, valid := true }
  match findKey key dist s with
  | some p =>
    if (tEntry p s).static && !static then (stSTATIC_CONFLICT, 0, 0, s)
    else (stOK, if p < ovfBase then 1 else 2, 1, setEntry p e s)
  | none =>
    let h := keyHash key dist s
    let f0 := freeWays (bucket0 h) s
    let f1 := freeWays (bucket1 h) s
    match (if f0.length < f1.length then f1 else f0) with
    | p :: _ => (stOK, 1, 0, setEntry p e s)
    | [] =>
      let p := lowestFreePlace ((ovfEntries s).map (·.1)) ovfBase
      if p < ovfBase + 4096 then (stOK, 2, 0, ovfTaken (setEntry p e s)) else (stTABLE_FULL, 0, 0, s)

/-- DELETE's rule (12 R397, R398). -/
def tblDelete (key : BitVec 64) (dist static : Bool) (s : State) : Nat × Nat × State :=
  match findKey key dist s with
  | some p => if (tEntry p s).static && !static then (stSTATIC_CONFLICT, 0, s) else (stOK, 1, removeEntry p s)
  | none => (stOK, 0, s)

/-- Roster index of a result word. -/
def resIndex (r : Word) : Nat := r.toNat % 131072

/-- Position of a result word. -/
def resPos (r : Word) : Nat := r.toNat / 131072 % 8

/-- Queue of a result word. -/
def resQueue (r : Word) : Nat := r.toNat / 1048576 % 1024

/-- An entry failed its check: cleared, promoted, counted, notice 0x0602 (12 R403). -/
def entryBad (p : Nat) (s : State) : State :=
  let subject := if p < ovfBase then p % 4 * 65536 + p / 4 else 0x80000 + (p - ovfBase)
  let was := (tEntry p s).valid
  let s := if was then removeEntry p s else s
  notify 0x0602 subject stTABLE_PARITY blkPipe (bump 0x0617 s)

/-- A roster entry failed its check: quarantined, notice 0x0206 (07 R236). -/
def quarantine (idx : Nat) (s : State) : State := notify 0x0206 idx stOK blkPipe (modRoster idx (fun r => { r with use_ := 2 }) s)

/-! ## Errors of the memories (01 R24) -/

/-- Corrected errors of a region of Table AR-7 are counted in HEALTH. -/
def countCorrected (r : Fin 13) (n : Nat) (s : State) : State :=
  { s with health := { s.health with corrected := upd s.health.corrected r (fun c => sat32 (c + n)) } }

/-- An uncorrectable error of a region is counted in HEALTH and reported, notice 0x0013 (18 Table SF-4, R580). -/
def uncorrectable (r : Fin 13) (s : State) : State :=
  notify 0x0013 r.val stTABLE_PARITY blkHousekeeper
    { s with health := { s.health with uncorr := upd s.health.uncorr r (fun c => sat32 (c + 1)) } }

/-- A word that holds the error e is read: a single bit is corrected, written back and counted; does the word fail? -/
def readError (e : MemErr) (s : State) : Bool × State :=
  let s := { s with health := { s.health with errs := s.health.errs.filter (fun x => !(x.region = e.region && x.place = e.place)) } }
  match e.kind with
  | .single => (false, countCorrected e.region 1 s)
  | .double => (true, uncorrectable e.region s)
  | .check => (true, s)

/-- A roster or table entry that holds an error is read: a failing one is quarantined or cleared (07 R236, 12 R403). -/
def readEntry (acc : Bool × State) (e : MemErr) : Bool × State :=
  match readError e acc.2 with
  | (true, s) => (true, if e.region = 0 then quarantine e.place s else entryBad e.place s)
  | (false, s) => (acc.1, s)

/-- A search for a key reads the entries of both buckets and of the overflow store (12 R402, R403): did one fail? -/
def readTables (key : BitVec 64) (dist : Bool) (s : State) : Bool × State :=
  let h := keyHash key dist s
  let inBucket (e : MemErr) : Bool := e.region = 1 && (e.place / 4 = bucket0 h || e.place / 4 = bucket1 h)
  (s.health.errs.filter (fun e => e.region = 2) ++ s.health.errs.filter inBucket).foldl readEntry (false, s)

/-- Every entry of the tables is read (12 R406). -/
def readAllTables (s : State) : State :=
  ((s.health.errs.filter (fun e => e.region = 2) ++ s.health.errs.filter (fun e => e.region = 1)).foldl readEntry (false, s)).2

/-- A roster entry is read by S6, S7 or S8 (07 R236). -/
def readRoster (idx : Nat) (s : State) : State :=
  ((s.health.errs.filter (fun e => e.region = 0 && e.place = idx)).foldl readEntry (false, s)).2

/-! ## Device-made items and learning (12 R404) -/

/-- Pushes an item of octets that the device creates on a queue; none when the queue has no room or the pool no cell. -/
def pushMade (q : Nat) (data : List Byte) (s : State) : Option State :=
  if (queue q s).room = 0 || !poolGrantsStage (cellsFor data.length) s then none
  else match createItem { data := data, port := 0x18 } s with
    | (some it, s) => pushItem q it s
    | (none, _) => none

/-- The learning queue of a district, if any. -/
def learnQueue (dist : Bool) (s : State) : Option Nat :=
  let q := cpar (if dist then 0x0602 else 0x0601) s
  if q < 1024 then some q else none

/-- A learning record (12 Table FT-5). -/
def learnRecord (key : BitVec 64) (dist : Bool) (reason sl : Nat) (result : Word) (h : Nat) (s : State) : List Byte :=
  leOctets 8 key.toNat ++ leOctets 1 reason ++ leOctets 1 (if dist then 1 else 0) ++ leOctets 1 sl ++ [0] ++
  wordOctets result ++ leOctets 4 (nowT s).sec.toNat ++ leOctets 4 (nowT s).ns.toNat ++ leOctets 4 h ++ leOctets 4 0

/-- A learning report (12 R404, R411): none on a twin standby. -/
def learn (key : BitVec 64) (dist : Bool) (reason : Nat) (sl : Fin 12) (result : Word) (s : State) : State :=
  let h := keyHash key dist s
  let rep := w32 (0x40000000 + sl.val)
  if s.twin.standby then s
  else if s.notices.entries.any (fun n => !n.closed && n.is 0x0601 (w32 h)) then report 0x0601 (w32 h) stOK rep s
  else if cpar 0x0603 s ≤ s.grid.learn0 then bump 0x0615 s
  else
    let data := learnRecord key dist reason sl.val result h s
    let s := report 0x0601 (w32 h) stOK rep { s with grid := { s.grid with learn0 := s.grid.learn0 + 1 } }
    match (learnQueue dist s).bind (fun q => pushMade q data s) with
    | some s => s
    | none => notify 0x0603 (if dist then 1 else 0) stOK blkPipe (bump 0x0615 s)

/-! ## Derived-key cache: revocation (13 R431-R433) -/

/-- Slot k of the vault. -/
def slot (k : Nat) (s : State) : Slot := Tbl.get {} s.sec.slots k

/-- Changes slot k. -/
def modSlot (k : Nat) (f : Slot → Slot) (s : State) : State :=
  { s with sec := { s.sec with slots := Tbl.upd {} s.sec.slots k f } }

/-- Cache children that satisfy p and are in use or revoked-pending. -/
def children (p : CacheE → Bool) (s : State) : Nat := (s.sec.cache.filter (fun kv => kv.2.state ≠ 0 && p kv.2)).length

/-- Valid cache entries that satisfy p become revoked-pending (13 R431). -/
def revokeEntries (p : CacheE → Bool) (s : State) : State :=
  let hit := s.sec.cache.filter (fun kv => kv.2.state = 1 && p kv.2)
  let s := { s with sec := { s.sec with recency := s.sec.recency.filter (fun i => !hit.any (fun kv => kv.1 = i)) } }
  hit.foldl (fun s kv => { s with sec := { s.sec with
    cache := Tbl.upd {} s.sec.cache kv.1 (fun e => { e with state := 2 }) } }) s

/-- A change of KEYGEN, or a free of the entry, revokes the node's cached key (13 R432). -/
def revokeNode (idx keygen : Nat) (s : State) : State := revokeEntries (fun e => e.index = idx && e.keygen = keygen) s

/-! ## Roster loads (07 R239-R243) -/

/-- A restored node's drift model (07 R242). -/
def Roster.restored (r : Roster) (s : State) : Roster :=
  { r with
    asnRef := if s.grid.mode = 0 then 0 else s.grid.asn
    theta := 0, phi := 0, uTheta := cpar 0x0202 s * 1000, uPhi := cpar 0x0206 s
    nobs := 0, miss := 0, corr := 0, heard := 0, silent := false }

/-- A roster load record of 32 octets: is it applied, and the state after (07 R240-R243). The entry it names is read, and so
verified, first (07 R236). -/
def rosterRecord (b : List Byte) (s : State) : Bool × State :=
  let w (k : Nat) := leNat ((b.drop (4 * k)).take 4)
  let idx := w 0 % 131072
  let op := w 0 / 1048576 % 16
  let eui := w 1 + w 2 * 4294967296
  let s := readRoster idx s
  let r := roster idx s
  if b.length ≠ 32 || crc32c 0xFFFFFFFF (b.take 28) ≠ w 7 || 1 < op || w 0 / 131072 % 8 ≠ 0 || w 0 / 16777216 ≠ 0 ||
     rosterVoid idx then (false, s)
  else if op = 1 then
    (true, modRoster idx (fun _ => {}) (revokeNode idx r.keygen s))
  else if w 3 / 131072 ≠ 0 || w 4 / 131072 ≠ 0 || eui = 0 || (r.use_ = 1 && r.eui.toNat ≠ eui) then (false, s)
  else
    let host (r : Roster) : Roster := { r with eui := BitVec.ofNat 64 eui, profile := w 3 % 256, keygen := w 3 / 256 % 256,
                                               bl := (w 3).testBit 16, via := w 4 % 131072, rejoin := false }
    if r.use_ = 1 then
      let s := if r.keygen = w 3 / 256 % 256 then s else revokeNode idx r.keygen s
      (true, modRoster idx (fun r => { host r with outcnt := max r.outcnt (w 5), inl := max r.inl (w 6),
                                                   dvalid := r.dvalid && w 6 ≤ r.inl }) s)
    else
      (true, modRoster idx (fun _ => { (host {}).restored s with use_ := 1, outcnt := w 5, outhwm := w 5, inl := w 6 }) s)

/-- A table load record of 16 octets: is it applied, and the state after (12 R407, R408). -/
def tableRecord (b : List Byte) (s : State) : Bool × State :=
  let w (k : Nat) := leNat ((b.drop (4 * k)).take 4)
  let key := BitVec.ofNat 64 (w 0 + w 1 * 4294967296)
  let dist := (w 3).testBit 0
  let static := (w 3).testBit 1
  let op := w 3 / 4 % 4
  if b.length ≠ 16 || crc32c 0xFFFFFFFF (b.take 14) % 65536 ≠ w 3 / 65536 || 1 < op || w 3 / 16 % 4096 ≠ 0 then (false, s)
  else if op = 1 then
    if w 2 ≠ 0 then (false, s)
    else
      let (st, _, s) := tblDelete key dist static (readTables key dist s).2
      (st = stOK, s)
  else if resultBad (w32 (w 2)) s then (false, s)
  else
    let (st, _, _, s) := tblInsert key dist static (w32 (w 2)) (readTables key dist s).2
    (st = stOK, s)

/-- Cuts octets into records of n. -/
def records (n : Nat) : Nat → List Byte → List (List Byte)
  | 0, _ => []
  | k + 1, b => b.take n :: records n k (b.drop n)

/-- Applies the records of a load item (03 R111): records written, records rejected, and the state after. -/
def applyLoad (region : Nat) (acc : Nat × Nat × State) (it : Item) : Nat × Nat × State :=
  let (w, r, s) := acc
  let n := if region = 0 then 16 else 32
  let l := it.data.length
  let (w, r, s) :=
    if l % n ≠ 0 || l = 0 then (w, r + (l + n - 1) / n, s)
    else (records n (l / n) it.data).foldl (fun (acc : Nat × Nat × State) b =>
      let (ok, s) := if region = 0 then tableRecord b acc.2.2 else rosterRecord b acc.2.2
      if ok then (acc.1 + 1, acc.2.1, s) else (acc.1, acc.2.1 + 1, s)) (w, r, s)
  (w, r, retireHeld it 0 stOK s)

end Sys2Proof.Machine
end

