-- ==== Sys2Proof/Machine/Notices.lean ====
section
/-! DEFINITION. The coalescing table's events, NOTE, and LEARNACK (07 R249-R252, 03 R115, 12 R405). -/

namespace Sys2Proof.Machine

/-- Changes the first entry that satisfies p by f, which may post descriptors; none frees the entry. -/
def updEntries (p : Notice → Bool) (f : Notice → State → Option Notice × State) : List Notice → State → List Notice × State
  | [], s => ([], s)
  | n :: t, s =>
    if p n then
      match f n s with
      | (some n', s) => (n' :: t, s)
      | (none, s) => (t, s)
    else
      let (t', s) := updEntries p f t s
      (n :: t', s)

/-- Changes the ordinary entry that satisfies p, or else the overflow entry if it does. -/
def updNotice (p : Notice → Bool) (f : Notice → State → Option Notice × State) (s : State) : State :=
  if s.notices.entries.any p then
    let (es, s) := updEntries p f s.notices.entries s
    setEntries es s
  else match s.notices.overflow with
    | some n =>
      if p n then
        let (n', s) := f n s
        { s with notices := { s.notices with overflow := n' } }
      else s
    | none => s

/-- An open entry closes and posts its closing descriptor if more than one report reached it (07 R250). -/
def closeEntry (n : Notice) (s : State) : Option Notice × State := ({ n with closed := true }).post s

/-- The open entry of a kind and subject; the overflow entry for kind 0x0C00. -/
def openEntry (kind : Nat) (subject : Word) (n : Notice) : Bool :=
  !n.closed && n.kind = kind && (kind = 0x0C00 || n.subject = subject)

/-- An entry closes once the core has run up to the instant `at_ n` gives. -/
def closeAtCore (p : Notice → Bool) (at_ : Notice → Nat) (s : State) : State :=
  match (s.notices.entries ++ s.notices.overflow.toList).find? p with
  | some n => if s.time.coreOn then updNotice p closeEntry (reachCore (at_ n) s) else s
  | none => s

/-- NOTICE_QUIET_EXPIRY (07 R250). -/
def execNoticeQuietExpiry (kind : BitVec 16) (subject : Word) (s : State) : Host.Outcome State Fault Refusal :=
  ok (closeAtCore (fun n => openEntry kind.toNat subject n && n.declined.isNone) (fun n => n.lastAt + cpar 0x0C00 s * 1000000) s)

/-- NOTICE_MAX_AGE_EXPIRY (07 R250). -/
def execNoticeMaxAgeExpiry (kind : BitVec 16) (subject : Word) (s : State) : Host.Outcome State Fault Refusal :=
  ok (closeAtCore (fun n => openEntry kind.toNat subject n && n.declined.isNone) (fun n => n.openedAt + cpar 0x0C01 s * 1000000) s)

/-- DECLINE_HOLD_EXPIRY (12 R405). -/
def execDeclineHoldExpiry (subject : Word) (s : State) : Host.Outcome State Fault Refusal :=
  ok (closeAtCore (fun n => openEntry 0x0601 subject n && n.declined.isSome)
    (fun n => n.declined.getD 0 + cpar 0x0604 s * 1000000000) s)

/-- NOTICE_DESCRIPTOR_POST (07 R250): the oldest entry that waits for room in the world's notice ring posts. -/
def execNoticeDescriptorPost (w : World) (s : State) : Host.Outcome State Fault Refusal :=
  ok (if (ring w blkNotice s).room then updNotice (fun n => noticeWorld n.kind s = w && (n.due s).isSome) (fun n s => n.post s) s
      else s)

/-- HELD_NOTICE_POST (15 R499): held completion notices and halt records go out in order while the ring has room. -/
def postHeld (w : World) : List (World × Bool × List Word) → State → State
  | [], s => s
  | (w', h, d) :: t, s =>
    if w' = w then
      if (ring w blkNotice s).room then
        postHeld w t (postDesc w blkNotice d { s with host := { s.host with held := dropFirst (fun x => x = (w', h, d)) s.host.held } })
      else s
    else postHeld w t s

/-- HELD_NOTICE_POST (15 R499). -/
def execHeldNoticePost (w : World) (s : State) : Host.Outcome State Fault Refusal := ok (postHeld w s.host.held s)

/-- Reporter of a sequencer (07 R249). -/
def noteReporter (who : Who) : Word := w32 (0x80000000 + seqNoOf who)

/-- NOTE (03 R115). -/
def execNote (who : Who) (c : Cond) (kind : BitVec 16) (ws : Fin 16) (s : State) : Host.Outcome State Fault Refusal :=
  ok (issue who c 0x82 .all (fun s =>
    if kind.toNat < 0x8000 then retRange who 1 kind.toNat s
    else
      let sub := getW who ws s
      let s := report kind.toNat sub stOK (noteReporter who) s
      retOk who (w32 (noticeCount kind.toNat sub s)) 0 s) s)

/-- LEARNACK (03 R109, 12 R405): inserted closes the entry; declined keeps it open, counting, without posting. -/
def execLearnack (who : Who) (c : Cond) (ws : Fin 16) (dist inserted : Bool) (s : State) : Host.Outcome State Fault Refusal :=
  ok (issue who c 0x53 .condOnly (withPair who ws 1 (fun hi s =>
    let h := w32 (keyHash (pairVal who ws hi s) dist s)
    let p (n : Notice) := openEntry 0x0601 h n
    if s.notices.entries.any p then
      let f (n : Notice) (s : State) : Option Notice × State :=
        if inserted then closeEntry n s else (some { n with declined := some s.time.coreNs }, s)
      retOk who 1 0 (updNotice p f s)
    else retOk who 0 0 s)) s)

end Sys2Proof.Machine
end

