-- ==== Sys2Proof/Machine/Tables.lean ====
section
/-! DEFINITION. The table group of instructions (03 R105-R112), aging, and the pending loads and scrubs (chapter 12). -/

namespace Sys2Proof.Machine

/-- LOOKUP (03 R106, 12 R402). -/
def execLookup (who : Who) (c : Cond) (wd ws : Fin 16) (dist : Bool) (s : State) : Host.Outcome State Fault Refusal :=
  ok (issue who c 0x50 .all (withPair who ws 2 (fun hi s =>
    let key := pairVal who ws hi s
    let b0 := bucket0 (keyHash key dist s)
    let (failed, s) := readTables key dist s
    match findKey key dist s with
    | none => ret who stOK (if failed then 3 else 0) (w32 b0) s
    | some p =>
      let e := tEntry p s
      let s := setW who wd e.result s
      let w1 := w32 (if p < ovfBase then 1 else 2)
      if resPos e.result = myPos s then ret who stOK w1 (w32 (if p < ovfBase then p / 4 else b0)) s
      else ret who stNOT_HERE w1 (w32 (resPos e.result)) s)) s)

/-- INSERT (03 R107). -/
def execInsert (who : Who) (c : Cond) (ws wr : Fin 16) (dist static : Bool) (s : State) : Host.Outcome State Fault Refusal :=
  ok (issue who c 0x51 .condOnly (withPair who ws 1 (fun hi s =>
    let r := getW who wr s
    if resultBad r s then retRange who 2 r.toNat s
    else
      let key := pairVal who ws hi s
      let (st, w1, w2, s) := tblInsert key dist static r (readTables key dist s).2
      ret who st (w32 w1) (w32 w2) s)) s)

/-- DELETE (03 R108). -/
def execDelete (who : Who) (c : Cond) (ws : Fin 16) (dist static : Bool) (s : State) : Host.Outcome State Fault Refusal :=
  ok (issue who c 0x52 .condOnly (withPair who ws 1 (fun hi s =>
    let key := pairVal who ws hi s
    let (st, w1, s) := tblDelete key dist static (readTables key dist s).2
    ret who st (w32 w1) 0 s)) s)

/-- PIN and UNPIN: only STATIC changes (03 R110, 12 R397). -/
def pinOp (who : Who) (ws : Fin 16) (dist v : Bool) (s : State) : State :=
  withPair who ws 1 (fun hi s =>
    let key := pairVal who ws hi s
    let s := (readTables key dist s).2
    match findKey key dist s with
    | some p =>
      let e := tEntry p s
      if e.static = v then retOk who 0 0 s else retOk who 1 0 (setEntry p { e with static := v } s)
    | none => retOk who 0 0 s) s

/-- PIN (03 R110). -/
def execPin (who : Who) (c : Cond) (ws : Fin 16) (dist : Bool) (s : State) : Host.Outcome State Fault Refusal :=
  ok (issue who c 0x54 .condOnly (pinOp who ws dist true) s)

/-- UNPIN (03 R110). -/
def execUnpin (who : Who) (c : Cond) (ws : Fin 16) (dist : Bool) (s : State) : Host.Outcome State Fault Refusal :=
  ok (issue who c 0x55 .condOnly (pinOp who ws dist false) s)

/-- Pops every poppable item of q, as pops of R367; at most n of them. -/
def popAll (q : Nat) : Nat → State → List Item × State
  | 0, s => ([], s)
  | n + 1, s =>
    match popHead q s with
    | none => ([], s)
    | some it =>
      let (its, s) := popAll q n (popItem q it s)
      (it :: its, s)

/-- TLOAD (03 R111). -/
def execTload (who : Who) (c : Cond) (q : QRef) (region : Fin 4) (s : State) : Host.Outcome State Fault Refusal :=
  ok (issue who c 0x56 .condOnly (withQueue who q 1 (fun q s =>
    if 1 < region.val then retRange who 2 region.val s
    else if s.tables.job.isSome then retRefused who 0x50 s
    else if pendFull who s then retRefused who 0x40 s
    else if (popHead q s).isNone then ret who stQ_EMPTY 0 0 s
    else
      let (its, s) := popAll q (queue q s).poppable s
      let t := nextTicket who s
      let s := startPending who 0x56 s
      { s with tables := { s.tables with job := some { world := worldOf who s, ticket := t, region := region.val, items := its } } }))
    s)

/-- A pending TLOAD finishes (03 R111). -/
def tloadDone (s : State) : State :=
  match s.tables.job with
  | some j =>
    if j.scrub then s
    else
      let s := { s with tables := { s.tables with job := none } }
      let (w, r, s) := j.items.foldl (applyLoad j.region) (0, 0, s)
      endPending (.ring j.world) j.ticket 0x56 stOK (w32 w) (w32 r) s
  | none => s

/-- TSCRUB (03 R112). -/
def execTscrub (who : Who) (c : Cond) (region : Fin 4) (s : State) : Host.Outcome State Fault Refusal :=
  ok (issue who c 0x57 .condOnly (fun s =>
    if s.tables.job.isSome then retRefused who 0x50 s
    else if pendFull who s then retRefused who 0x40 s
    else
      let t := nextTicket who s
      let s := startPending who 0x57 s
      { s with tables := { s.tables with job := some { scrub := true, world := worldOf who s, ticket := t, region := region.val } } })
    s)

/-- A scrub of this region (03 R112) reads the memory. -/
def scrubs (region : Nat) (r : Fin 13) : Bool :=
  (r = 1 && (region = 0 || region = 3)) || (r = 2 && (region = 1 || region = 3)) || (r = 0 && (region = 2 || region = 3))

/-- A scrub reads an entry that holds an error: corrections, entries that failed, and the state. -/
def scrubEntry (acc : Nat × Nat × State) (e : MemErr) : Nat × Nat × State :=
  match readEntry (false, acc.2.2) e with
  | (true, s) => (acc.1, acc.2.1 + 1, s)
  | (false, s) => (acc.1 + 1, acc.2.1, s)

/-- A pending scrub finishes: it has read every entry of its region (03 R112, 12 R409). -/
def tscrubDone (s : State) : State :=
  match s.tables.job with
  | some j =>
    if !j.scrub then s
    else
      let s := { s with tables := { s.tables with job := none } }
      let ovf := s.health.errs.filter (fun e => e.region = 2)
      let rest := s.health.errs.filter (fun e => e.region ≠ 2)
      let (fixed, bad, s) := ((ovf ++ rest).filter (fun e => scrubs j.region e.region)).foldl scrubEntry (0, 0, s)
      endPending (.ring j.world) j.ticket 0x57 stOK (w32 fixed) (w32 bad) s
  | none => s

/-! ## Aging (12 R406) -/

/-- Ages the entries from place p on; the pass stops at an entry whose record cannot be pushed. -/
def agePass : Nat → Nat → State → State
  | 0, _, s => { s with tables := { s.tables with agingAt := none } }
  | f + 1, p, s =>
    match s.tables.entries.find? (fun kv => p ≤ kv.1 && kv.2.valid) with
    | none => { s with tables := { s.tables with agingAt := none } }
    | some (k, e) =>
      match learnQueue e.dist s with
      | none => agePass f (k + 1) s
      | some q =>
        if e.static then agePass f (k + 1) s
        else
          let resumed := s.tables.agingAt = some k
          let age := if resumed then e.age else if e.hit then 0 else min (e.age + 1) 15
          let s := setEntry k { e with age := age, hit := if resumed then e.hit else false } s
          if age < cpar 0x0606 s then agePass f (k + 1) s
          else
            let data := learnRecord e.key e.dist 4 0xFF e.result (keyHash e.key e.dist s) s
            match pushMade q data s with
            | none => { s with tables := { s.tables with agingAt := some k } }
            | some s => agePass f k (bump 0x0616 (removeEntry k { s with tables := { s.tables with agingAt := none } }))

/-- A whole pass. -/
def startAging (s : State) : State :=
  let s := readAllTables s
  agePass (2 * s.tables.entries.length + 1) 0 { s with tables := { s.tables with agingAt := none } }

/-- AGING_PASS (12 R406): none on a twin standby (R411); a waiting pass carries on, and the next one starts when it ends. -/
def execAgingPass (s : State) : Host.Outcome State Fault Refusal :=
  ok (if cpar 0x0605 s = 0 || s.twin.standby then s
      else if s.tables.agingAt.isSome then { s with tables := { s.tables with agingDue := true } }
      else startAging s)

/-- AGING_RESUME (12 R406): the waiting pass continues if it has got room. -/
def execAgingResume (s : State) : Host.Outcome State Fault Refusal :=
  ok (match s.tables.agingAt with
      | none => s
      | some k =>
        let s := agePass (2 * s.tables.entries.length + 1) k s
        if s.tables.agingAt.isNone && s.tables.agingDue then startAging { s with tables := { s.tables with agingDue := false } }
        else s)

end Sys2Proof.Machine
end

