-- ==== Sys2Proof/Machine/Control.lean ====
section
/-! DEFINITION. The control group (03 R80-R83). -/

namespace Sys2Proof.Machine

/-- Schedule memory word (02 R47). -/
def schedWord (a : Nat) (s : State) : Word := Tbl.get 0 s.schedMem a

/-- Is the address that of a slotframe's STATE word, which the hardware alone writes (06 R202)? -/
def isStateWord (a : Nat) : Bool := a < 64 && a % 8 = 0

/-- Writes a schedule memory word on behalf of a program or a record. -/
def setSchedWord (a : Nat) (v : Word) (s : State) : State :=
  if isStateWord a then s else { s with schedMem := Tbl.set 0 s.schedMem a v }

/-- NOP (03 R80). -/
def execNop (who : Who) (c : Cond) (s : State) : Host.Outcome State Fault Refusal :=
  ok (issue who c 0x00 .all id s)

/-- MOVI (03 R80). -/
def execMovi (who : Who) (c : Cond) (wd : Fin 16) (imm : Word) (s : State) : Host.Outcome State Fault Refusal :=
  ok (issue who c 0x01 .all (setW who wd imm) s)

/-- The moves of Table FC-5 (03 R81). -/
def movOp (who : Who) (m : MovOp) (s : State) : State :=
  match m with
  | .ww d r => setW who d (getW who r s) s
  | .secLo d t => setW who d ((getT who t s).sec.setWidth 32) s
  | .secHi d t => setW who d (((getT who t s).sec >>> 32).setWidth 32) s
  | .nsOf d t => setW who d (getT who t s).ns s
  | .setSecLo t r => setT who t { getT who t s with sec := ((getT who t s).sec.extractLsb' 32 32) ++ getW who r s } s
  | .setSecHi t r => setT who t { getT who t s with sec := getW who r s ++ ((getT who t s).sec.extractLsb' 0 32) } s
  | .setNs t r => setT who t { getT who t s with ns := getW who r s } s
  | .tt d t => setT who d (getT who t s) s

/-- MOV (03 R81). -/
def execMov (who : Who) (c : Cond) (m : MovOp) (s : State) : Host.Outcome State Fault Refusal :=
  ok (issue who c 0x02 .all (movOp who m) s)

/-- An ALU instruction: wd := f ws1 op2 (03 R80). -/
def alu (who : Who) (f : Word → Word → Word) (wd ws1 : Fin 16) (o : Op2) (s : State) : State :=
  setW who wd (f (getW who ws1 s) (op2Val who o s)) s

/-- ADD (03 R80). -/
def execAdd (who : Who) (c : Cond) (wd ws1 : Fin 16) (op2 : Op2) (s : State) : Host.Outcome State Fault Refusal :=
  ok (issue who c 0x03 .all (alu who (· + ·) wd ws1 op2) s)

/-- SUB (03 R80). -/
def execSub (who : Who) (c : Cond) (wd ws1 : Fin 16) (op2 : Op2) (s : State) : Host.Outcome State Fault Refusal :=
  ok (issue who c 0x04 .all (alu who (· - ·) wd ws1 op2) s)

/-- AND (03 R80). -/
def execAnd (who : Who) (c : Cond) (wd ws1 : Fin 16) (op2 : Op2) (s : State) : Host.Outcome State Fault Refusal :=
  ok (issue who c 0x05 .all (alu who (· &&& ·) wd ws1 op2) s)

/-- OR (03 R80). -/
def execOr (who : Who) (c : Cond) (wd ws1 : Fin 16) (op2 : Op2) (s : State) : Host.Outcome State Fault Refusal :=
  ok (issue who c 0x06 .all (alu who (· ||| ·) wd ws1 op2) s)

/-- XOR (03 R80). -/
def execXor (who : Who) (c : Cond) (wd ws1 : Fin 16) (op2 : Op2) (s : State) : Host.Outcome State Fault Refusal :=
  ok (issue who c 0x07 .all (alu who (· ^^^ ·) wd ws1 op2) s)

/-- A left shift; 0 for 32 places or more (03 R80). -/
def shlW (a b : Word) : Word := if 32 ≤ b.toNat then 0 else a <<< b.toNat

/-- A logical right shift; 0 for 32 places or more (03 R80). -/
def shrW (a b : Word) : Word := if 32 ≤ b.toNat then 0 else a >>> b.toNat

/-- SHL (03 R80). -/
def execShl (who : Who) (c : Cond) (wd ws1 : Fin 16) (op2 : Op2) (s : State) : Host.Outcome State Fault Refusal :=
  ok (issue who c 0x08 .all (alu who shlW wd ws1 op2) s)

/-- SHR (03 R80). -/
def execShr (who : Who) (c : Cond) (wd ws1 : Fin 16) (op2 : Op2) (s : State) : Host.Outcome State Fault Refusal :=
  ok (issue who c 0x09 .all (alu who shrW wd ws1 op2) s)

/-- CMP (03 R82). -/
def execCmp (who : Who) (c : Cond) (pd : Fin 4) (rel : Rel) (ws1 : Fin 16) (op2 : Op2) (s : State) :
    Host.Outcome State Fault Refusal :=
  ok (issue who c 0x0A .all (fun s => setP who pd (relHolds rel (getW who ws1 s) (op2Val who op2 s)) s) s)

/-- TEST (03 R80). -/
def execTest (who : Who) (c : Cond) (pd : Fin 4) (ws1 : Fin 16) (op2 : Op2) (s : State) : Host.Outcome State Fault Refusal :=
  ok (issue who c 0x0B .all (fun s => setP who pd (getW who ws1 s &&& op2Val who op2 s ≠ 0) s) s)

/-- A control transfer that ring context refuses with 0x0000_FF04 (02 R51). -/
def notInRing (who : Who) (op : Nat) (body : State → State) (s : State) : State :=
  if inRing who then advance who (ret who stREFUSED (w32 0xFF04) (w32 op) s) else body s

/-- JMP (03 R80): a target outside the window halts at the fetch (R83). -/
def execJmp (who : Who) (c : Cond) (addr : BitVec 16) (s : State) : Host.Outcome State Fault Refusal :=
  ok (issueF who c 0x10 .all (notInRing who 0x10 (setPc who addr.toNat)) s)

/-- BR (03 R80): base + ws1, modulo 65,536. -/
def execBr (who : Who) (c : Cond) (ws1 : Fin 16) (base : BitVec 16) (s : State) : Host.Outcome State Fault Refusal :=
  ok (issueF who c 0x11 .all (notInRing who 0x11 (fun s => setPc who (base.toNat + (getW who ws1 s).toNat) s)) s)

/-- Sets the issuer's call stack. -/
def setStack (who : Who) (st : List Nat) (s : State) : State :=
  modCtx who (fun c => { c with regs := { c.regs with stack := st } }) s

/-- CALL (03 R80, R83; in ring context it runs a routine, 02 R51). -/
def callOp (who : Who) (addr : BitVec 16) (s : State) : State :=
  let st := (ctx who s).regs.stack
  if 8 ≤ st.length then haltWho who 5 stRANGE 0 (curWord who s) s
  else if inRing who then
    let s := setStack who (0 :: st) s
    modRecord (fun r => { r with routine := true, depth := st.length, pc := addr.toNat }) s
  else setPc who addr.toNat (setStack who ((pcOf who s + 1) % 65536 :: st) s)

/-- CALL as issued (03 R80). -/
def callWord (who : Who) (c : Cond) (addr : BitVec 16) (s : State) : State := issueF who c 0x12 .all (callOp who addr) s

/-- RET (03 R80, R83): the outermost RET of a routine gives the record back its next word (02 R51). -/
def retOp (who : Who) (s : State) : State :=
  match (ctx who s).regs.stack with
  | [] => haltWho who 5 stRANGE 0 (curWord who s) s
  | a :: st =>
    let s := setStack who st s
    match who, s.cond.record with
    | .routine, some r =>
      if st.length ≤ r.depth then modRecord (fun r => { r with routine := false, pc := 0, status := none }) s
      else setPc who a s
    | _, _ => setPc who a s

/-- RET as issued (03 R80). -/
def retWord (who : Who) (c : Cond) (s : State) : State := issueF who c 0x13 .all (notInRing who 0x13 (retOp who)) s

/-- LOOP (03 R80). -/
def execLoop (who : Who) (c : Cond) (wd : Fin 16) (addr : BitVec 16) (s : State) : Host.Outcome State Fault Refusal :=
  ok (issueF who c 0x14 .all (notInRing who 0x14 (fun s =>
    let v := getW who wd s
    if v = 0 then advance who s
    else
      let s := setW who wd (v - 1) s
      if v - 1 = 0 then advance who s else setPc who addr.toNat s)) s)

/-- HALT (02 R51, R68): on the conductor it ends the record as though the routine's outermost RET had executed. -/
def haltOp (who : Who) (s : State) : State :=
  match who, s.cond.record with
  | .slice n, _ => haltSlice n 1 stOK 0 false s
  | .routine, some r => endRecord 1 (setStack who ((ctx who s).regs.stack.drop ((ctx who s).regs.stack.length - r.depth)) s)
  | _, _ => s

/-- HALT as issued (03 R80). -/
def haltWord (who : Who) (c : Cond) (s : State) : State := issueF who c 0x15 .all (notInRing who 0x15 (haltOp who)) s

/-- TRAP as issued (02 R51, R68): a halt with reason 2. -/
def trapWord (who : Who) (c : Cond) (code : BitVec 8) (s : State) : State :=
  issueF who c 0x16 .all (fun s => haltWho who 2 stOK code.toNat (curWord who s) s) s

/-- FENCE (02 R59): no status. It waits for the pending work of its sequencer. -/
def execFence (who : Who) (c : Cond) (s : State) : Host.Outcome State Fault Refusal :=
  ok (issueF who c 0x17 .all (fun s => if noPending who s then advance who s else block who .fence s) s)

/-- What a read of schedule memory returns: the value held before the clock period in progress (02 R47). -/
def schedRead (a : Nat) (s : State) : Word := Tbl.get 0 (s.time.schedOld.getD s.schedMem) a

/-- LDW as issued (03 R80, R83). -/
def ldwWord (who : Who) (c : Cond) (wd ws1 : Fin 16) (off : BitVec 18) (s : State) : State :=
  issueF who c 0x18 .all (fun s =>
    let a := (getW who ws1 s).toNat + off.toNat
    if a < 0x40000 then advance who (setW who wd (schedRead a s) s) else haltWho who 6 stRANGE 0 (curWord who s) s) s

/-- STW as issued (03 R80, R83). -/
def stwWord (who : Who) (c : Cond) (ws1 ws2 : Fin 16) (off : BitVec 18) (s : State) : State :=
  issueF who c 0x19 .all (fun s =>
    let a := (getW who ws2 s).toNat + off.toNat
    if a < 0x40000 then advance who (setSchedWord a (getW who ws1 s) s) else haltWho who 6 stRANGE 0 (curWord who s) s) s

/-- A malformed or unassigned word as issued (02 R68 reason 3, 03 R74, R152): the condition is not looked at. -/
def illegalWord (who : Who) (word : BitVec 64) (s : State) : State :=
  if !canRun who s then s
  else inContext who (fun s =>
    if fetchOutside who s then haltWho who 4 stRANGE 0 0 s
    else if lockedOut 0xFF s then advance who (ret who stLIFECYCLE 3 0 s)
    else haltWho who 3 stILLEGAL_OP 0 word s) s

end Sys2Proof.Machine
end

