-- ==== Sys2Proof/Machine/TimeOps.lean ====
section
/-! DEFINITION. Operations on the timebase, its servo, the triggers and the slot grid that instructions, parameter writes and
events share (chapters 05 and 06). -/

namespace Sys2Proof.Machine

/-! ## Results of a parameter's own rule -/

/-- What a parameter write's own rule answers: status, w1, and the state after (02 R62). -/
abbrev PRes := Nat × Nat × State

/-- The write took effect. -/
def pOk (s : State) : PRes := (stOK, 0, s)

/-- ST_REFUSED with a detail; nothing changed. -/
def pRef (detail : Nat) (s : State) : PRes := (stREFUSED, detail, s)

/-- ST_RANGE with w1 = 2; nothing changed. -/
def pRange (s : State) : PRes := (stRANGE, 2, s)

/-! ## Rate -/

/-- The increment register of a rate offset in ppb (03 R91): rounded to the nearest unit, a half up. -/
def incrOf (r : Int) : BitVec 40 := BitVec.ofInt 40 (roundDiv (34359738368 * (1000000000 + r)) 1000000000)

/-- Sets the rate offset, within ±500,000 ppb (05 R159). -/
def setRate (r : Int) (s : State) : State :=
  let r := clampI (-500000) 500000 r
  { s with time := { s.time with rate := r, incr := incrOf r } }

/-- The flags of TNOW's w1 (03 R86). -/
def tnowFlags (s : State) : Nat :=
  bitAt (!s.time.qual) 0 + bitAt s.time.holdover 1 + bitAt s.time.sealed_ 2 + bitAt s.time.stepUsed 3

/-! ## Reference (05 R154-R156) -/

/-- The reference becomes qualified and the timebase PLL locks to it (log entry 121): the timebase starts counting, or goes on
qualified; without a set RTC whose crystal runs the count is not made (05 R154, R155). -/
def qualifyRef (s : State) : State :=
  { s with time := { s.time with
      refQual := true, tbPll := true, qual := true, counting := true
      refUnver := !(s.rtc.set_ && !s.rtc.crystalOff) } }

/-- Drives PPS_OUT (05 R173). -/
def setPpsOut (v : Bool) (s : State) : State :=
  let s := if s.time.ppsOut = v then s else emitPin 6 (v != (cpar 0x0808 s).testBit 2) s
  { s with time := { s.time with ppsOut := v } }

/-- PPS_OUT is held inactive while the timebase is unqualified, unless its parameter says otherwise (05 R173). -/
def ppsOutHold (s : State) : State :=
  if s.time.qual || (cpar 0x0808 s).testBit 1 then s else setPpsOut false s

/-- The reference and the timebase are disqualified at once; the timebase counts on at a free ratio (05 R156, log entry 7). -/
def disqualifyRef (s : State) : State :=
  withDraw 1099511627775 s fun v s =>
    ppsOutHold { s with time := { s.time with refQual := false, tbPll := false, qual := false, rcIncr := v + 1 } }

/-! ## Servo and holdover (05 R166-R168, 06 R230, R231) -/

/-- Holdover is entered: the rate stays at the frequency estimate; notice 0x0804 (05 R168, 06 R231). -/
def enterHoldover (subject : Nat) (s : State) : State :=
  let s := setRate s.time.rFreq s
  notify 0x0804 subject stOK blkTime
    { s with time := { s.time with holdover := true, ppsRecover := 0 }, grid := { s.grid with holdSince := s.time.elapsed, parRecover := 0 } }

/-- The servo's correction: frequency error f and phase term ph, in ppb (05 R166). -/
def servo (f ph : Int) (s : State) : State :=
  let s := setRate (s.time.rate - f - ph) s
  { s with time := { s.time with rFreq := s.time.rate + ph } }

/-- Servo state of every holder, and holdover, are cleared by a change of TIME.DISCIPLINE (05 R162). -/
def clearServo (s : State) : State :=
  { s with
    time := { s.time with
      rFreq := s.time.rate, holdover := false, ppsL := none, ppsFirst := true, ppsMissed := 0, ppsAfterMiss := false,
      ppsRecover := 0, ppsRun := 0, ppsLocked := false }
    grid := { s.grid with parFirst := true, parL := none, parAfterMiss := false, parRecover := 0, parMisses := 0, parStep := 0 }
    cas := { s.cas with tFirst := true, tAfterMiss := false, tMissed := 0, tRecover := 0, tLast := none } }

/-- PPS_IN is enabled (05 R164). -/
def ppsEnabled (s : State) : Bool := (cpar 0x0804 s).testBit 1 || s.time.disc = 1

/-- The next accepted edge is a first edge (05 R161, R165). -/
def ppsRestart (s : State) : State :=
  { s with time := { s.time with ppsFirst := true, ppsMissed := 0, ppsAfterMiss := false, ppsRun := 0, ppsLocked := false } }

/-- Phase error of a capture (05 R166). -/
def phaseErr (cap : Nat) : Int :=
  let c := cap % 1000000000
  if c < 500000000 then c else (c : Int) - 1000000000

/-- Whole seconds from the last accepted edge to a capture: the nearest number (05 R165, log entry 13). -/
def ppsSeconds (l cap : Nat) : Nat := (cap - l + 500000000) / 1000000000

/-- Is the capture accepted (05 R165)? -/
def ppsAccepts (cap : Nat) (s : State) : Bool :=
  match s.time.ppsL with
  | none => true
  | some l =>
    let n := ppsSeconds l cap
    let tol := cpar 0x0802 s * 1000
    s.time.ppsFirst || (0 < n && |(cap : Int) - l - n * 1000000000| ≤ (n * tol : Nat))

/-- An accepted edge (05 R165-R168). -/
def ppsAccept (cap : Nat) (s : State) : State :=
  let e := phaseErr cap
  let t := s.time
  let l := t.ppsL.getD cap
  let n := ppsSeconds l cap
  let recordOnly := t.ppsFirst || t.ppsAfterMiss || t.ppsL.isNone || n ≠ 1
  let ends := t.holdover && t.disc = 1 && 1 ≤ t.ppsRecover
  let within := |e| ≤ (cpar 0x0803 s : Int)
  let run := if within then t.ppsRun + 1 else 0
  let s := { s with time := { t with
    ppsL := some cap, ppsFirst := false, ppsMissed := 0, ppsAfterMiss := false, ppsErr := e
    ppsRecover := if t.holdover then t.ppsRecover + 1 else 0
    holdover := t.holdover && !ends
    ppsRun := min run 4, ppsLocked := within && (t.ppsLocked || 4 ≤ run)
    ppsCap := { at_ := TVal.ofNs cap, count := sat32 (t.ppsCap.count + 1) } } }
  if recordOnly || t.disc ≠ 1 then s else servo ((cap : Int) - l - 1000000000) (truncDiv e (cpar 0x0801 s)) s

/-- A missed pulse (05 R168). -/
def ppsMiss (s : State) : State :=
  let n := s.time.ppsMissed + 1
  let s := { s with time := { s.time with ppsMissed := n, ppsAfterMiss := true, ppsMissCount := s.time.ppsMissCount + 1,
                                          ppsRecover := 0 } }
  if s.time.disc ≠ 1 then s
  else if n < 3 then setRate s.time.rFreq s
  else if n = 3 then enterHoldover 0 s
  else s

/-! ## Triggers (05 R174, R175) -/

/-- Trigger n. -/
def trig (n : Fin 2) (s : State) : Trig := s.time.trig[n]

/-- Changes trigger n. -/
def modTrig (n : Fin 2) (f : Trig → Trig) (s : State) : State := { s with time := { s.time with trig := upd s.time.trig n f } }

/-- The grid point a trigger fires at next. -/
def Trig.target (t : Trig) : Nat := t.start + t.next * t.period

/-- A trigger makes an edge now and goes on past `k` grid points; `skip`: a forward step has passed them, and the edge is flagged
skipped (05 R174, R175). -/
def fireTrig (n : Fin 2) (k : Nat) (skip : Bool) (s : State) : State :=
  emitPin (4 + n.val) (!(trig n s).invert) <|
  modTrig n (fun t => { t with
    active := true, activeEnd := tbNs s + t.width, late := t.pastArm, pastArm := false, skipped := if skip then k else 0
    next := t.next + k, armed := t.armed && t.period ≠ 0
    cap := { at_ := nowT s, count := sat32 (t.cap.count + 1) } }) s

/-- Trigger parameter j (0x0810 + j, or 0x0818 + j for TRIG1). -/
def trigPar (n : Fin 2) (j : Nat) (s : State) : Nat := cpar (0x0810 + 8 * n.val + j) s

/-- TRIG.CTRL[0] = 1 (05 R174). -/
def armTrig (n : Fin 2) (invert : Bool) (s : State) : PRes :=
  let start := (trigPar n 0 s + trigPar n 1 s * 4294967296) * 1000000000 + trigPar n 2 s
  let period := trigPar n 3 s
  let width := trigPar n 4 s
  if period ≠ 0 && period ≤ width then pRange s
  else
    let now := tbNs s
    let past := decide (start < now)
    let k := if past && period ≠ 0 then (now - start + period - 1) / period else 0
    let s := modTrig n (fun t => { t with armed := true, invert := invert, start := start, period := period, width := width,
                                          next := k, pastArm := past }) s
    pOk (if past && period = 0 then fireTrig n 1 false s else s)

/-- TRIG.CTRL[0] = 0 (05 R174). -/
def disarmTrig (n : Fin 2) (invert : Bool) (s : State) : PRes :=
  let s := if (trig n s).active then emitPin (4 + n.val) invert s else s
  pOk (modTrig n (fun t => { t with armed := false, invert := invert, active := false, pastArm := false }) s)

/-- A notice of the time block: at once while the core runs, when it next runs after a sleep. -/
def laterNotice (kind subject st : Nat) (s : State) : State :=
  if s.time.coreOn then notify kind subject st blkTime s
  else { s with pw := { s.pw with due := s.pw.due ++ [(kind, subject, st)] } }

/-! ## Slotframes (06 R201) -/

/-- Active bank of a slotframe. -/
def sfBank (sf : Nat) (s : State) : Nat := (schedWord (8 * sf) s).toNat % 2

/-- Length of a bank of a slotframe; 0 when it holds no valid slotframe. -/
def sfBankLen (sf bank : Nat) (s : State) : Nat :=
  let w := (schedWord (8 * sf + 1 + bank) s).toNat
  if w / 131072 % 2 = 1 then w % 65536 else 0

/-- Length of a slotframe; 0 when it is not defined. -/
def sfLen (sf : Nat) (s : State) : Nat := sfBankLen sf (sfBank sf s) s

/-- The slotframe is defined, for SLOT: the grid runs and its active bank is valid (06 R197, R201). -/
def sfDefined (sf : Nat) (s : State) : Bool := s.grid.mode = 1 && sfLen sf s ≠ 0

/-- Step 2 of R203 for one slotframe at a new ASN. -/
def switchBank (asn : Nat) (s : State) (sf : Nat) : State :=
  let st := (schedWord (8 * sf) s).toNat
  let sw := (schedWord (8 * sf + 5) s).toNat
  let swAsn := (schedWord (8 * sf + 6) s).toNat + (schedWord (8 * sf + 7) s).toNat % 256 * 4294967296
  let q := sw / 256 % 256
  if q = st / 256 % 256 || asn < swAsn then s
  else
    let put (v : Nat) (s : State) : State := { s with schedMem := Tbl.set 0 s.schedMem (8 * sf) (w32 v) }
    if sfBankLen sf (sw % 2) s ≠ 0 then put (sw % 2 + q * 256 + (st / 65536 + 1) % 256 * 65536) s
    else laterNotice 0x0204 sf stRANGE (put (st % 2 + q * 256 + st / 65536 % 256 * 65536) s)

/-- Is slot offset n of the slotframe marked for waking (06 R205)? -/
def activityBit (sf asn : Nat) (s : State) : Bool :=
  let len := sfLen sf s
  if len = 0 then false
  else
    let n := asn % len
    let base := (schedWord (8 * sf + 3 + sfBank sf s) s).toNat % 262144
    (schedWord ((base + n / 32) % 262144) s).toNat.testBit (n % 32)

/-- Does any defined slotframe mark this ASN? -/
def slotMarked (asn : Nat) (s : State) : Bool := s.grid.mode = 1 && (List.range 8).any (fun sf => activityBit sf asn s)

/-! ## Completion of SLOT, handover (03 R88, 02 R46) -/

/-- A slice sequencer's SLOT completes with its handover (02 R46). The window and entry in force are replaced; SEQ.ENTRY and
SEQ.WINDOW, which hold the values most recently written, are not (log entry 116). -/
def handOver (n : Fin 12) (asn bnd : Nat) (s : State) : State :=
  let q := seq n s
  let (entry, win) := if q.rescan then (par 0x024A chip s, par 0x024B chip s) else (par 0x0013 n.val s, par 0x0014 n.val s)
  modSeq n (fun q => { q with
    ctx := { q.ctx with regs := { w := ((Vector.replicate 16 0).set 1 (w32 asn)).set 2 (w32 (asn / 4294967296)),
                                  t := (Vector.replicate 4 {}).set 0 (TVal.ofNs bnd),
                                  p := (Vector.replicate 4 false).set 3 true } }
    state := .running, await := none, pc := entry.toNat % 65536
    winFirst := win.toNat % 256, winCount := win.toNat / 256 % 512
    handover := false, rescan := false }) s

/-- A sequencer's SLOT completes at a boundary (03 R88): the slot offset by the bank that is active now; a slotframe that is no
longer defined gives ST_RANGE. -/
def slotDone (q : Seqr) (st asn bnd : Nat) (s : State) : State :=
  match awaitOf q s with
  | some (.slot wd td sf) =>
    if !sfDefined sf.val s then unblock q stRANGE 3 (w32 sf.val) (kickWdog q s)
    else
      let s := kickWdog q s
      match q with
      | .sl n =>
        if (seq n s).handover then handOver n asn bnd s
        else
          let s := setT (.slice n) td (TVal.ofNs bnd) (setW (.slice n) wd (w32 (asn % sfLen sf.val s)) s)
          unblockSlice n st (w32 asn) (w32 (asn / 4294967296)) s
      | .cond =>
        let who := condWho s
        let s := setT who td (TVal.ofNs bnd) (setW who wd (w32 (asn % sfLen sf.val s)) s)
        unblockCond st (w32 asn) (w32 (asn / 4294967296)) s
  | _ => s

/-- Every sequencer. -/
def seqrs : List Seqr := sliceIdx.map .sl ++ [.cond]

/-- Every waiting SLOT completes with ST_RANGE (06 R199). -/
def slotsFail (s : State) : State :=
  seqrs.foldl (fun s q => match awaitOf q s with
    | some (.slot _ _ sf) => unblock q stRANGE 3 (w32 sf.val) (kickWdog q s)
    | _ => s) s

/-! ## The grid (06 R195-R200, R229) -/

/-- The timeslot template fits the slot length (06 R206). -/
def templateFits (s : State) : Bool :=
  cpar 0x0218 s + (standing 0x0202 chip s).toNat + 4256 + cpar 0x0219 s + cpar 0x021A s + cpar 0x021B s ≤ cpar 0x0201 s

/-- The grid is anchored: its first boundary not earlier than now (06 R196). -/
def anchorGrid (g a0 len : Nat) (s : State) : State :=
  let now := tbNs s
  let k := if g < now then (now - g + max 1 len - 1) / max 1 len else 0
  { s with grid := { s.grid with mode := 1, fallen := false, len := len, nextAt := g + k * len, nextAsn := a0 + k } }

/-- The grid stops; stopped-grid ticks resume (11 R369). -/
def haltGrid (s : State) : State :=
  { s with grid := { s.grid with mode := 0, fallen := false, lastTick := s.time.coreNs, tickInc := s.time.incSum } }

/-- The grid at its last ASN stops: waiting SLOTs end with ST_RANGE, and notice 0x0205 is raised (06 R199). -/
def gridEnd (s : State) : State :=
  if 0xFFFFFFFFFF ≤ s.grid.asn then laterNotice 0x0205 0 stRANGE (slotsFail (haltGrid s)) else s

/-- MAC.GRID_CTRL = 0 (06 R196). -/
def gridStop (s : State) : PRes :=
  if sliceIdx.any (fun n => (seq n s).state = .running || (seq n s).state = .blocked) then pRef 0x21 s
  else pOk (haltGrid s)

/-- The refusals that starting and acquiring share, and the template check (06 R196, R198). -/
def gridReady (extra : Option Nat) (body : State → State) (s : State) : PRes :=
  if s.grid.mode ≠ 0 then pRef 0x22 s
  else if !s.time.qual then pRef 0x23 s
  else match extra with
    | some d => pRef d s
    | none => if templateFits s then pOk (body s) else pRange s

/-- MAC.GRID_CTRL = 1 (06 R196). -/
def gridStart (s : State) : PRes :=
  gridReady none (fun s =>
    anchorGrid ((cpar 0x0210 s + cpar 0x0211 s * 4294967296) * 1000000000 + cpar 0x0212 s)
      (cpar 0x0213 s + cpar 0x0214 s * 4294967296) (cpar 0x0201 s * 1000) s) s

/-- MAC.GRID_CTRL = 2 (06 R196, R229). -/
def gridAcquire (s : State) : PRes :=
  gridReady (if cpar 0x0240 s = 0 && cpar 0x0241 s = 0 then some 0x24 else none)
    (fun s => { s with grid := { s.grid with mode := 2, fallen := false, len := cpar 0x0201 s * 1000 } }) s

/-- Nanoseconds of the boundary of an ASN by the current slot length (03 R89): the grid's own, which outlasts a stop (log
entry 116). -/
def asnTimeNs (a : Nat) (s : State) : Int := (s.grid.bound : Int) + ((a : Int) - s.grid.asn) * s.grid.len

/-! ## Over-the-air time parent (06 R228-R232) -/

/-- One parent period in ns. -/
def parentPeriodNs (s : State) : Nat := cpar 0x0242 s * s.grid.len

/-- Acceptance half-width h_s of R228. -/
def parentHalf (s : State) : Nat :=
  cpar 0x0244 s * 1000 + s.grid.parStep * (cpar 0x0245 s * parentPeriodNs s / 1000000000)

/-- A beacon from the parent, started at `start`, carrying an ASN (06 R228-R231); any that is not accepted is rejected and counted. -/
def parentBeacon (start : Nat) (carried : Option Nat) (s : State) : State :=
  let rejected := { s with grid := { s.grid with parRejected := s.grid.parRejected + 1 } }
  if s.grid.mode = 2 then
    match carried with
    | none => rejected
    | some a =>
      let g := (start - cpar 0x0218 s * 1000) / 1000 * 1000
      let s := anchorGrid g a s.grid.len s
      { s with grid := { s.grid with parL := some start, parAsn := a, parFirst := false, parAfterMiss := false, parMisses := 0,
                                     parStep := 0, parSeen := some a } }
  else if s.time.disc ≠ 3 || s.grid.mode ≠ 1 || !s.grid.fallen then rejected
  else
    let k : Int := ((start : Int) - s.grid.bound) / (max 1 s.grid.len : Nat)
    let asn : Int := s.grid.asn + k
    let e : Int := (start : Int) - (s.grid.bound + k * s.grid.len + cpar 0x0218 s * 1000)
    let p := cpar 0x0242 s
    if asn < 0 || carried ≠ some asn.toNat || asn.toNat % p ≠ cpar 0x0243 s % p || (parentHalf s : Int) < |e| then rejected
    else
      let a := asn.toNat
      let g := s.grid
      let n := (a - g.parAsn) / p
      let recordOnly := g.parFirst || g.parAfterMiss || g.parL.isNone || n ≠ 1
      let ends := s.time.holdover && 1 ≤ g.parRecover
      let per := parentPeriodNs s
      let f : Int := truncDiv (((start : Int) - g.parL.getD start - per) * 1000000000) (max 1 per)
      let s := { s with
        time := { s.time with holdover := s.time.holdover && !ends, ppsErr := s.time.ppsErr }
        grid := { g with parL := some start, parAsn := a, parFirst := false, parAfterMiss := false, parMisses := 0, parStep := 0,
                         parRecover := if s.time.holdover then g.parRecover + 1 else 0, parSeen := some a } }
      if recordOnly then s else servo f (truncDiv (e * 1000000000) (max 1 (cpar 0x0246 s * per))) s

/-- The rescan of R232: what SEQ.CTRL = 1 or an arming would refuse is not done (02 R66). -/
def rescan (s : State) : State :=
  let v := cpar 0x0249 s
  let win := par 0x024B chip s
  let entry := par 0x024A chip s
  let fits := startable_ win.toNat entry.toNat
  if win = 0 then s
  else if h : v < 12 then
    let n : Fin 12 := ⟨v, h⟩
    match (seq n s).state with
    | .running | .blocked => if fits then modSeq n (fun q => { q with handover := true, rescan := true }) s else s
    | .idle | .halted => if fits && !(slice n s).offline then startSeq n win entry s else s
    | .offline => notify 0x0203 0xFFFF stOK blkTime s
  else s

/-- A parent beacon slot has ended with no beacon accepted (06 R231). -/
def parentMiss (s : State) : State :=
  let m := sat32 (s.grid.parMisses + 1)
  let s := { s with grid := { s.grid with parMisses := m, parAfterMiss := true, parRecover := 0, parStep := min m 3,
                                          parSeen := some s.grid.asn } }
  if m < 3 then (if m = 1 then setRate s.time.rFreq s else s)
  else if m = 3 then enterHoldover 3 s
  else if m = 8 then notify 0x0203 0 stOK blkTime (rescan s)
  else s

end Sys2Proof.Machine
end

