-- ==== Sys2Proof/Machine/Time.lean ====
section
/-! DEFINITION. The time group of instructions (03 R84-R93), but for TSTEP, and the events of the PPS pins and triggers. -/

namespace Sys2Proof.Machine

/-- Last value of a 40-bit unsigned operand. -/
def max40 : Nat := 1099511627775

/-- AT, AFTER and SLOT as issued: one that completes at once, whatever its status, restarts the watchdog (02 R68; 03 R84, R88; log
entry 116). -/
def countsForWdog (who : Who) (body : State → State) (s : State) : State :=
  let s := body s
  match who with
  | .slice n => if waits who s then s else kickWdog (.sl n) s
  | _ => s

/-- AT (03 R84). -/
def execAt (who : Who) (c : Cond) (ts : Fin 4) (off : BitVec 40) (s : State) : Host.Outcome State Fault Refusal :=
  ok (issueB who c 0x20 .all (countsForWdog who (withTime who ts 1 (fun v s =>
    let target := v.toNs + off.toNat
    if tbMaxNs < target then retRange who 2 off.toNat s
    else if target ≤ tbNs s then retOk who (w32 (min (tbNs s - target) 0xFFFFFFFF)) 0 s
    else block who (.at_ target) s))) s)

/-- A waiting AT's target is reached (02 R56). -/
def atReached (q : Seqr) (s : State) : State :=
  match awaitOf q s with
  | some (.at_ target) =>
    if tbCanReach target s then unblock q stOK 0 0 (kickWdog q (reachTb target s)) else s
  | _ => s

/-- AFTER (03 R85): the interval counts the timebase's increments. -/
def execAfter (who : Who) (c : Cond) (interval : BitVec 40) (ws : Fin 16) (s : State) : Host.Outcome State Fault Refusal :=
  ok (issueB who c 0x21 .all (countsForWdog who (fun s =>
    let n := interval.toNat + (regOrNone who ws s).toNat
    if max40 < n then retRange who 1 interval.toNat s
    else if n = 0 then retOk who 0 0 s
    else block who (.after (s.time.incSum + n * tbFrac)) s)) s)

/-- A waiting AFTER's interval ends (03 R85). -/
def afterEnds (q : Seqr) (s : State) : State :=
  match awaitOf q s with
  | some (.after done) =>
    let s' := if s.time.counting then passTicks ((done - s.time.incSum + tbIncr s - 1) / max 1 (tbIncr s)) s else s
    if done ≤ s'.time.incSum then unblock q stOK 0 0 (kickWdog q s') else s
  | _ => s

/-- TNOW (03 R86). -/
def execTnow (who : Who) (c : Cond) (td : Fin 4) (s : State) : Host.Outcome State Fault Refusal :=
  ok (issue who c 0x22 .all (fun s => retOk who (w32 (tnowFlags s)) 0 (setT who td (nowT s) s)) s)

/-- TADD (03 R87). -/
def execTadd (who : Who) (c : Cond) (td ts : Fin 4) (delta : BitVec 40) (ws : Fin 16) (s : State) :
    Host.Outcome State Fault Refusal :=
  ok (issue who c 0x23 .all (withTime who ts 2 (fun v s =>
    let r : Int := (v.toNs : Int) + delta.toInt + (regOrNone who ws s).toInt
    if r < 0 || (tbMaxNs : Int) < r then retRange who 3 delta.toNat s
    else retOk who 0 0 (setT who td (TVal.ofNs r.toNat) s))) s)

/-- SLOT (03 R88): waits for the next boundary of a defined slotframe. -/
def execSlot (who : Who) (c : Cond) (wd : Fin 16) (td : Fin 4) (sf : Fin 8) (s : State) : Host.Outcome State Fault Refusal :=
  ok (issueB who c 0x24 .all (countsForWdog who (fun s =>
    if sfDefined sf.val s then block who (.slot wd td sf) s else retRange who 3 sf.val s)) s)

/-- ASN.CUR (03 R89). -/
def execAsnCur (who : Who) (c : Cond) (pair : Fin 16) (s : State) : Host.Outcome State Fault Refusal :=
  ok (issue who c 0x25 .all (withPair who pair 1 (fun hi s =>
    retOk who 0 0 (setW who hi (w32 (s.grid.asn / 4294967296)) (setW who pair (w32 s.grid.asn) s)))) s)

/-- ASN.TIME (03 R89). -/
def execAsnTime (who : Who) (c : Cond) (td : Fin 4) (pair : Fin 16) (s : State) : Host.Outcome State Fault Refusal :=
  ok (issue who c 0x25 .all (withPair who pair 2 (fun hi s =>
    let a := (pairVal who pair hi s).toNat
    let t := asnTimeNs a s
    if 1099511627776 ≤ a || t < 0 || (tbMaxNs : Int) < t then retRange who 2 a s
    else retOk who 0 0 (setT who td (TVal.ofNs t.toNat) s))) s)

/-- TRATE's rule: a new offset in range, while the host holds the rate (03 R91, 05 R162). -/
def trateOp (who : Who) (r : Int) (operand : Word) (s : State) : State :=
  if r < -500000 || 500000 < r then retRange who 1 operand.toNat s
  else if s.time.disc ≠ 0 then retRefused who 0x11 s
  else
    let s := setRate r s
    retOk who (i32 r) (s.time.incr.setWidth 32) s

/-- TRATE.SET (03 R91). -/
def execTrateSet (who : Who) (c : Cond) (ws : Fin 16) (s : State) : Host.Outcome State Fault Refusal :=
  ok (issue who c 0x27 .condOnly (fun s => trateOp who (getW who ws s).toInt (getW who ws s) s) s)

/-- TRATE.ADD (03 R91). -/
def execTrateAdd (who : Who) (c : Cond) (ws : Fin 16) (s : State) : Host.Outcome State Fault Refusal :=
  ok (issue who c 0x27 .condOnly (fun s => trateOp who (s.time.rate + (getW who ws s).toInt) (getW who ws s) s) s)

/-- TSEAL (03 R92). -/
def execTseal (who : Who) (c : Cond) (s : State) : Host.Outcome State Fault Refusal :=
  ok (issue who c 0x28 .custodian (fun s =>
    retOk who (w32 (bitAt s.time.sealed_ 0)) 0 { s with time := { s.time with sealed_ := true } }) s)

/-- A capture source that names no slice (03 Table FC-17). -/
def chipCapture (source : Nat) (s : State) : Option Capture :=
  if source = 0 then some s.time.ppsCap else if source = 3 then some (trig 0 s).cap
  else if source = 4 then some (trig 1 s).cap else if source = 5 then some s.time.slotCap else none

/-- TCAP's result. -/
def tcapDone (who : Who) (td : Fin 4) (k : Capture) (s : State) : State := retOk who (w32 k.count) 0 (setT who td k.at_ s)

/-- TCAP (03 R93). -/
def execTcap (who : Who) (c : Cond) (td : Fin 4) (source sl : Fin 16) (s : State) : Host.Outcome State Fault Refusal :=
  ok (issue who c 0x29 .all (fun s =>
    if source.val = 1 || source.val = 2 then
      let n : Option (Fin 12) := match who with
        | .slice n => if sl = 15 then some n else if h : sl.val < 12 then some ⟨sl.val, h⟩ else none
        | _ => if h : sl.val < 12 then some ⟨sl.val, h⟩ else none
      match n with
      | none => retRange who 3 sl.val s
      | some n => tcapDone who td (if source.val = 1 then (slice n s).rxCap else (slice n s).txCap) s
    else match chipCapture source.val s with
      | none => retRange who 2 source.val s
      | some k => if sl = 15 then tcapDone who td k s else retRange who 3 sl.val s) s)

/-! ## Events -/

/-- TIMEBASE_END (05 R153): the timebase reaches its last value and holds. -/
def execTimebaseEnd (s : State) : Host.Outcome State Fault Refusal :=
  ok (if s.time.counting then reachTb tbMaxNs s else s)

/-- PPS_IN_EDGE (05 R163-R168): the capture at the ball, and the edge. TIME.PPS_IN_CTRL[0]
selects the falling edge as the active one; the other edge is not captured. -/
def execPpsInEdge (capture : Nat) (pulse : PpsPulse) (s : State) : Host.Outcome State Fault Refusal :=
  ok (if !ppsEnabled s || pulse.rising = (cpar 0x0804 s).testBit 0 || s.pw.asleep || !bankOn 3 s || !tbCanReach capture s then s
      else
        let s := reachTb capture s
        let cap := ((capture : Int) - (par 0x0805 chip s).toInt).toNat
        if pulse.width < 100 then { s with time := { s.time with ppsShort := s.time.ppsShort + 1 } }
        else if ppsAccepts cap s then ppsAccept cap s
        else { s with time := { s.time with ppsRejected := s.time.ppsRejected + 1 } })

/-- PPS_MISSED (05 R168): no edge accepted by L + n s + n tol. -/
def execPpsMissed (s : State) : Host.Outcome State Fault Refusal :=
  ok (match s.time.ppsL with
      | some l =>
        let n := s.time.ppsMissed + 1
        let d := l + n * 1000000000 + n * (cpar 0x0802 s * 1000)
        if ppsEnabled s && !s.pw.asleep && !s.time.ppsFirst && tbCanReach d s then ppsMiss (reachTb d s) else s
      | none => s)

/-- PPS_OUT_EDGE (05 R173): the timebase, counting, reaches a whole second. -/
def execPpsOutEdge (s : State) : Host.Outcome State Fault Refusal :=
  ok (let t := (tbNs s / 1000000000 + 1) * 1000000000
      let ctl := cpar 0x0808 s
      if !s.time.counting || s.pw.asleep || !tbCanReach t s then s
      else
        let s := reachTb t s
        if ctl.testBit 0 && (s.time.qual || ctl.testBit 1) then
          let s := setPpsOut true s
          { s with time := { s.time with ppsOutEnd := t + cpar 0x0809 s * 1000 } }
        else s)

/-- TRIGGER_EDGE (05 R174): the timebase reaches the trigger's next grid point. -/
def execTriggerEdge (n : Fin 2) (s : State) : Host.Outcome State Fault Refusal :=
  ok (if (trig n s).armed && !s.pw.asleep && tbCanReach (trig n s).target s then fireTrig n 1 false (reachTb (trig n s).target s) else s)

/-- PULSE_WIDTH_END (05 R173, R174): PPS_OUT, TRIG0 or TRIG1 returns to its inactive level. -/
def execPulseWidthEnd (out : Fin 3) (s : State) : Host.Outcome State Fault Refusal :=
  ok (if out = 0 then
        if s.time.ppsOut && tbCanReach s.time.ppsOutEnd s then
          setPpsOut false (reachTb s.time.ppsOutEnd s)
        else s
      else
        let n : Fin 2 := if out = 1 then 0 else 1
        let t := trig n s
        if t.active && tbCanReach t.activeEnd s then
          emitPin (4 + n.val) t.invert (modTrig n (fun t => { t with active := false }) (reachTb t.activeEnd s))
        else s)

/-- PARENT_BEACON_MISS (06 R231): the beacon slot in progress ends with no beacon accepted. -/
def execParentBeaconMiss (s : State) : Host.Outcome State Fault Refusal :=
  ok (let g := s.grid
      let p := max 1 (cpar 0x0242 s)
      if s.time.disc = 3 && g.mode = 1 && g.fallen && g.asn % p = cpar 0x0243 s % p && g.parSeen ≠ some g.asn &&
         tbCanReach g.nextAt s then
        parentMiss (reachTb g.nextAt s)
      else s)

end Sys2Proof.Machine
end

