-- ==== Sys2Proof/Machine/SecOps.lean ====
section
/-! DEFINITION. The vault, link keys, frame security and counters (chapter 13), which the security group, S7 and tamper share. -/

namespace Sys2Proof.Machine

/-! ## Life cycle and attributes (13 R413-R421) -/

/-- State in effect of Table KS-2. -/
def lcState (s : State) : Nat := if s.sec.locked then 3 else s.sec.fused

/-- Security instructions and S7 security are open in this state (13 Table KS-2). -/
def lcOpen (s : State) : Bool := lcState s = 1 || lcState s = 2 || lcState s = 4

/-- The LC bit of the present state (13 Table KS-4). -/
def lcBit (s : State) : Nat := if lcState s = 1 then 8 else if lcState s = 2 then 9 else 10

/-- Master bit of an issuer (13 Table KS-4). -/
def masterBit (who : Who) (s : State) : Nat :=
  match who with
  | .ring w =>
    if s.cond.record.any (·.relayed) then 5 else if w = .operator then 0 else 1
  | _ => 2

/-- World bit that M_COND and M_CAS need. -/
def worldBit (who : Who) (s : State) : Nat := if worldOf who s = .operator then 6 else 7

/-- Attribute word of slots 0-2 (13 R420). -/
def deviceAttr (k : Nat) : Nat := if k = 0 then 0x01002710 else if k = 1 then 0x02000700 else if k = 2 then 0x02002710 else 0

/-- The first attribute bit that refuses: master, world where needed, LC, use (13 R421). -/
def attrFail (attr : BitVec 32) (master : Nat) (world use : Option Nat) (s : State) : Option Nat :=
  ([some master, if master = 2 || master = 5 then world else none, some (lcBit s), use].filterMap id).find? (fun b => !attr.getLsbD b)

/-- The checks of R418 and R421 for an instruction that names a slot of the vault. -/
def withSlot (who : Who) (k : Nat) (use : Option Nat) (body : State → State) (s : State) : State :=
  if !lcOpen s then ret who stLIFECYCLE (w32 (lcState s)) 0 s
  else if k < 8 then ret who stKEY_ATTR (w32 (masterBit who s)) 0 s
  else match attrFail (slot k s).attr (masterBit who s) (some (worldBit who s)) use s with
    | some b => ret who stKEY_ATTR (w32 b) 0 s
    | none => body s

/-- The next generation of a slot (13 R419). -/
def nextGen (g : Nat) : Nat := if g = 65535 then 1 else g + 1

/-! ## Zeroisation (13 R433, R444) -/

/-- Revoked-pending entries that satisfy p are zeroised; notice 0x0702 for each slot whose last child of a former generation went
(13 R431). -/
def sweepEntries (p : CacheE → Bool) (s : State) : State :=
  let gone := (s.sec.cache.filter (fun kv => kv.2.state = 2 && kv.2.inuse = 0 && p kv.2)).map (·.2)
  let s := { s with sec := { s.sec with cache := s.sec.cache.filter (fun kv => !(kv.2.state = 2 && kv.2.inuse = 0 && p kv.2)) } }
  let slots := ((gone.filter (fun e => e.pgen ≠ (slot e.slot s).gen)).map (·.slot)).dedup
  slots.foldl (fun s k => if s.sec.cache.any (fun kv => kv.2.slot = k && kv.2.pgen ≠ (slot k s).gen) then s
                          else notify 0x0702 k stOK blkPipe s) s

/-- The whole of slots 8-8,191 and the cache are zeroised: on tamper, or on entering Returned (13 R444); generations stand. -/
def zeroVault (s : State) : State :=
  { s with sec := { s.sec with
      slots := s.sec.slots.filterMap (fun kv => if kv.2.gen = 1 then none else some (kv.1, { gen := kv.2.gen }))
      cache := [], recency := [] } }

/-- Zeroises the device slots too, as tamper does (13 R418). -/
def zeroDevice (s : State) : State :=
  { s with sec := { s.sec with storageKey := none, wrapKey := none, updKey := none } }

/-- Derives the device keys into slots 0-2 (13 R415). -/
def deriveDevice (s : State) : State :=
  let root := if s.sec.bankA = 1 then s.sec.rootA else s.sec.rootB
  let c : Byte := if s.sec.fused = 4 then 1 else 0
  let blk (i : Nat) (label : List Nat) : Nat := Config.cmac root (BitVec.ofNat 8 i :: label.map (BitVec.ofNat 8) ++ [0, c])
  let join (n : Nat) (label : List Nat) : Nat := (List.range n).foldl (fun acc i => acc * 2 ^ 128 + blk (i + 1) label) 0
  let priv (label : List Nat) : Nat := join 3 label % (Config.p256n - 1) + 1
  { s with sec := { s.sec with
      storageKey := some (join 2 [0x53, 0x54, 0x4F, 0x52])
      wrapKey := some (priv [0x57, 0x52, 0x41, 0x50])
      updKey := some (priv [0x55, 0x50, 0x44, 0x54]) } }

/-! ## Link keys and the cache (13 R426-R430) -/

/-- The link key of a node (13 R426). -/
def linkKey (district : Nat) (keygen : Nat) (eui : BitVec 64) (dist : Nat) : Nat :=
  Config.cmac district ([0x4C, 0x4B, 0x01, BitVec.ofNat 8 keygen] ++ beOctets 8 eui.toNat ++ [BitVec.ofNat 8 dist, 0, 0, 0])

/-- Marks a cache entry as the most recently used. -/
def touchCache (i : Nat) (s : State) : State :=
  { s with sec := { s.sec with recency := i :: s.sec.recency.filter (· ≠ i) } }

/-- The cache entry that matches a need (13 R429). -/
def cacheMatch (idx sl keygen : Nat) (s : State) : Option (Nat × CacheE) :=
  s.sec.cache.find? (fun kv => kv.2.state ≠ 0 && kv.2.index = idx && kv.2.slot = sl && kv.2.keygen = keygen &&
    kv.2.pgen = (slot sl s).gen)

/-- Lowest free cache index, else the least recently used valid entry not in use. -/
def cachePlace (s : State) : Option Nat :=
  let i := lowestFreePlace (s.sec.cache.map (·.1)) 0
  if i < 4096 then some i
  else s.sec.recency.reverse.find? (fun i => (Tbl.get {} s.sec.cache i).inuse = 0)

/-- What a need for a link key finds (13 R429). -/
inductive KeyNeed where
  | have_ (cacheIdx key : Nat) (derived : Bool)
  | revoked
  | full
deriving DecidableEq, Repr

/-- A need for the link key of roster entry idx under slot sl (13 R429). -/
def needKey (idx sl : Nat) (r : Roster) (s : State) : KeyNeed × State :=
  match cacheMatch idx sl r.keygen s with
  | some (i, e) => if e.state = 1 then (.have_ i e.key false, touchCache i s) else (.revoked, s)
  | none =>
    let k := slot sl s
    if k.rev then (.revoked, s)
    else match cachePlace s with
      | none => (.full, s)
      | some i =>
        let key := linkKey k.key r.keygen r.eui (idx / 65536)
        let s := { s with sec := { s.sec with
          recency := s.sec.recency.filter (· ≠ i)
          cache := Tbl.set {} s.sec.cache i { key := key, index := idx, slot := sl, pgen := k.gen, keygen := r.keygen, state := 1 } } }
        (.have_ i key true, touchCache i s)

/-! ## Bindings (13 R425) -/

/-- Binding k of a district. -/
def binding (dist k : Nat) (s : State) : Nat := cpar (0x0720 + 4 * dist + k) s

/-- A binding word that SETP refuses for its fields alone. -/
def bindingBad (v : Nat) : Bool :=
  (v / 2097152) % 1024 ≠ 0 ||
  (2147483648 ≤ v && (v % 256 = 0 || v / 256 % 8192 < 8))

/-- The binding of a district that a frame's Key Identifier selects (13 R425). -/
def findBinding (dist keyMode : Nat) (keyIndex : Nat) (keySource : Word) (s : State) : Option Nat :=
  (List.range 4).find? (fun k =>
    let v := binding dist k s
    2147483648 ≤ v && v % 256 = keyIndex && (keyMode ≠ 2 || par (0x0728 + 4 * dist + k) chip s = keySource))

/-- Slot of a binding word. -/
def bindingSlot (v : Nat) : Nat := v / 256 % 8192

/-! ## Frame counters (13 R437, R440) -/

/-- Octets of a MIC at a security level; 0 when the level is not supported (13 R434). -/
def micOctets (level : Nat) : Nat := if level = 5 then 4 else if level = 6 then 8 else if level = 7 then 16 else 0

/-- The CCM* nonce as a number (13 R435). -/
def nonceOf (eui : BitVec 64) (ctr level : Nat) : Nat := (eui.toNat * 4294967296 + ctr) * 256 + level

/-- Extended address of the chip in a district (06 R209). -/
def ownEui (dist : Nat) (s : State) : BitVec 64 :=
  BitVec.ofNat 64 (cpar (0x022A + 2 * dist) s + cpar (0x022B + 2 * dist) s * 4294967296)

/-- Takes a node's outbound counter: none when exhausted (13 R437, R440). -/
def takeCounter (idx : Nat) (s : State) : Option Nat × State :=
  let r := roster idx s
  if r.outcnt = 0xFFFFFFFF then
    (none, report 0x0706 (w32 idx) stKEY_REVOKED (w32 (0x40000000 + blkPipe)) (bump 0x0747 s))
  else
    let s := modRoster idx (fun r => { r with outcnt := r.outcnt + 1 }) s
    (some r.outcnt, if r.outhwm ≤ r.outcnt then report 0x0704 (w32 (idx / 65536)) stOK (w32 idx) s else s)

/-- Takes a district's group counter (13 R437). -/
def takeGroup (dist : Fin 2) (s : State) : Option Nat × State :=
  let c := s.sec.grp[dist]
  if c = 0xFFFFFFFF then (none, report 0x0706 (w32 dist.val) stKEY_REVOKED (w32 (0x40000000 + blkPipe)) (bump 0x0747 s))
  else (some c, { s with sec := { s.sec with grp := s.sec.grp.set dist (c + 1) } })

/-- What S7 does with an outbound item. -/
inductive S7Out where
  | pass (it : Item)
  | exc (status : Nat)
deriving DecidableEq, Repr

/-- S7 takes an outbound item: one for a quarantined or a free entry fails, secured or not (07 R236, R243); one that has Security
Enabled set is secured (13 R436, R437, R609). -/
def s7Secure (it : Item) (s : State) : S7Out × State :=
  let f := it.info
  let dist : Fin 2 := if it.dist then 1 else 0
  let s := if it.index = 0x1FFFF then s else readRoster it.index s
  let use_ := if it.index = 0x1FFFF then 1 else (roster it.index s).use_
  if use_ = 2 then (.exc stTABLE_PARITY, s)
  else if use_ = 0 then (.exc stKEY_REVOKED, s)
  else if !f.sec then (.pass it, s)
  else if !lcOpen s then (.exc stLIFECYCLE, s)
  else if micOctets f.level = 0 || (f.keyMode ≠ 1 && f.keyMode ≠ 2) then (.exc stRANGE, s)
  else match findBinding dist.val f.keyMode f.keyIndex.toNat f.keySource s with
    | none => (.exc stRANGE, s)
    | some k =>
      let sl := bindingSlot (binding dist.val k s)
      let use := if it.index = 0x1FFFF then 12 else 11
      let sealed_ (ctr key : Nat) : Item :=
        { it with data := Config.secure key (nonceOf (ownEui dist.val s) ctr f.level) it.data
                  secCtr := some ctr, keySlot := sl, keyGen := (slot sl s).gen
                  info := { f with counter := BitVec.ofNat 32 ctr } }
      if it.index = 0x1FFFF then
        match attrFail (slot sl s).attr 3 none (some use) s with
        | some _ => (.exc (if (slot sl s).rev then stKEY_REVOKED else stKEY_ATTR), s)
        | none =>
          if (slot sl s).rev then (.exc stKEY_REVOKED, s)
          else match takeGroup dist s with
            | (none, s) => (.exc stKEY_REVOKED, s)
            | (some c, s) => (.pass (sealed_ c (slot sl s).key), s)
      else
        let r := roster it.index s
        if (slot sl s).attr.getLsbD 16 != it.dist then (.exc stKEY_ATTR, s)
        else match attrFail (slot sl s).attr 3 none (some use) s with
          | some _ => (.exc stKEY_ATTR, s)
          | none =>
            match needKey it.index sl r s with
            | (.have_ _ key _, s) =>
              match takeCounter it.index s with
              | (none, s) => (.exc stKEY_REVOKED, s)
              | (some c, s) => (.pass (sealed_ c key), s)
            | (_, s) => (.exc stKEY_REVOKED, s)

/-- Digest of a MIC: the XOR of its two-octet groups (06 R220). -/
def micDigest : List Byte → Nat
  | a :: b :: t => (a.toNat * 256 + b.toNat) ^^^ micDigest t
  | _ => 0

end Sys2Proof.Machine
end

