-- ==== Sys2Proof/Machine/Security.lean ====
section
/-! DEFINITION. The security group of instructions (04 R135-R142), the cache sweep, and the security parameters' own rules. -/

namespace Sys2Proof.Machine

/-- A wrapped key record's checks, in order (13 R424): a status with w1, or the key and attribute word. -/
def unwrapRecord (k : Nat) (b : List Byte) (s : State) : Sum (Nat × Nat) (Nat × BitVec 32) :=
  let attr := leNat ((b.drop 4).take 4)
  let typ := attr / 16777216 % 4
  let zeros (from_ n : Nat) := ((b.drop from_).take n).all (· = 0)
  if b.length ≠ 140 || leNat (b.take 1) ≠ 1 || !zeros 1 3 || !zeros 10 6 || leNat ((b.drop 8).take 2) ≠ k then .inl (stRANGE, 0)
  else if attr / 16384 % 4 ≠ 0 || attr / 131072 % 128 ≠ 0 || attr / 67108864 ≠ 0 || 1 < typ ||
      (typ ≠ 0 && (attr.testBit 11 || attr.testBit 12)) then .inl (stRANGE, 0)
  else match s.sec.wrapKey with
    | none => .inl (stMIC_FAIL, 0)
    | some d =>
      let z := beOctets 32 (Config.ecdh d ((b.drop 16).take 64))
      let label : List Byte := [0x43, 0x59, 0x4C, 0x57, 0x52, 0x41, 0x50, 0x31]
      let key := leNat (Config.sha256 ([0, 0, 0, 1] ++ z ++ label ++ b.take 80)).reverse
      match Config.gcmOpen key (b.take 16 ++ b.drop 80) with
      | none => .inl (stMIC_FAIL, 0)
      | some pt =>
        if typ = 0 && !((pt.drop 16).all (· = 0)) then .inl (stRANGE, 0)
        else if !attr.testBit (lcBit s) then .inl (stKEY_ATTR, lcBit s)
        else .inr (leNat (pt.take (if typ = 0 then 16 else 32)).reverse, BitVec.ofNat 32 attr)

/-- KLOAD (04 R136, 13 R424): the item is consumed in every outcome in which it was taken. -/
def execKload (who : Who) (c : Cond) (slot_ : Fin 8192) (q : QRef) (s : State) : Host.Outcome State Fault Refusal :=
  ok (issue who c 0x60 .custodian (fun s =>
    if !lcOpen s then ret who stLIFECYCLE (w32 (lcState s)) 0 s
    else if slot_.val < 8 then retRange who 1 slot_.val s
    else withQueue who q 2 (fun q s =>
      if (slot slot_.val s).occ then retRefused who 0xA0 s
      else match popHead q s with
        | none => ret who stQ_EMPTY 0 0 s
        | some it =>
          let s := zeroCells it.chain (retireHeld it 0 stOK (popItem q it s))
          match unwrapRecord slot_.val it.data s with
          | .inl (st, w1) => ret who st (w32 w1) 0 s
          | .inr (key, attr) =>
            let s := modSlot slot_.val (fun k => { k with key := key, attr := attr, occ := true, rev := false }) s
            retOk who (w32 (slot slot_.val s).gen) 0 s) s) s)

/-- KDERIVE (04 R137). -/
def execKderive (who : Who) (c : Cond) (wd ws : Fin 16) (slot_ : Fin 8192) (s : State) : Host.Outcome State Fault Refusal :=
  ok (issue who c 0x61 .condOnly (fun s => withSlot who slot_.val (some 11) (fun s =>
    let idx := (getW who ws s).toNat
    let r := roster idx s
    if 131072 ≤ idx || r.use_ ≠ 1 then retRange who 2 idx s
    else match needKey idx slot_.val r s with
      | (.have_ i _ derived, s) =>
        ret who stOK (if derived then 0 else 1) (w32 (slot slot_.val s).gen) (setW who wd (w32 i) s)
      | (.revoked, s) => ret who stKEY_REVOKED 0 0 s
      | (.full, s) => retRefused who 0xA1 s) s) s)

/-- KREVOKE (04 R138, 13 R431). -/
def execKrevoke (who : Who) (c : Cond) (slot_ : Fin 8192) (s : State) : Host.Outcome State Fault Refusal :=
  ok (issue who c 0x62 .custodian (fun s => withSlot who slot_.val none (fun s =>
    let k := slot slot_.val s
    if !k.occ then retRefused who 0xA2 s
    else
      let p (e : CacheE) : Bool := e.slot = slot_.val && e.pgen = k.gen
      let hit := (s.sec.cache.filter (fun kv => kv.2.state = 1 && p kv.2)).map (·.2)
      let s := revokeEntries p s
      let s := modSlot slot_.val (fun k => { k with key := 0, gen := nextGen k.gen, occ := false, rev := true }) s
      retOk who (w32 hit.length) (w32 (hit.filter (fun e => 0 < e.inuse)).length) s) s) s)

/-- A device slot holds its key: slots 3-7 stay empty (13 R415, R418). -/
def deviceKeyHeld (k : Nat) (s : State) : Bool :=
  if k = 0 then s.sec.storageKey.isSome else (([none, s.sec.wrapKey, s.sec.updKey] : List (Option Nat)).getD k none).isSome

/-- KQUERY (04 R139; 13 R418, R421): device slots and empty slots are answered; the generation of a device slot, which
the spec does not give, is a free value, and one is occupied while it holds its key (log entry 7). -/
def execKquery (who : Who) (c : Cond) (wd : Fin 16) (slot_ : Fin 8192) (s : State) : Host.Outcome State Fault Refusal :=
  ok (issue who c 0x63 .condOnly (fun s =>
    if !lcOpen s then ret who stLIFECYCLE (w32 (lcState s)) 0 s
    else if slot_.val < 8 then
      withDraw 65536 s fun v s => retOk who (w32 (v + bitAt (deviceKeyHeld slot_.val s) 16)) 0 (setW who wd (w32 (deviceAttr slot_.val)) s)
    else
      let k := slot slot_.val s
      let answer (s : State) : State :=
        retOk who (w32 (k.gen + bitAt k.occ 16 + bitAt k.rev 17)) (w32 (children (fun e => e.slot = slot_.val && (0 < e.inuse || e.state = 2)) s))
          (setW who wd k.attr s)
      if k.attr = 0 then answer s else withSlot who slot_.val none answer s) s)

/-- CNTSET's roster operand, once security instructions are open. -/
def withNode (who : Who) (ws : Fin 16) (body : Nat → State → State) (s : State) : State :=
  let idx := (getW who ws s).toNat
  if !lcOpen s then ret who stLIFECYCLE (w32 (lcState s)) 0 s
  else if 131072 ≤ idx then retRange who 1 idx s
  else
    let s := readRoster idx s
    if (roster idx s).use_ ≠ 1 then retRange who 1 idx s else body idx s

/-- CNTSET.OUT (04 R140). -/
def execCntsetOut (who : Who) (c : Cond) (ws wc : Fin 16) (s : State) : Host.Outcome State Fault Refusal :=
  ok (issue who c 0x64 .custodian (withNode who ws (fun idx s =>
    let v := (getW who wc s).toNat
    let cur := (roster idx s).outcnt
    retOk who (w32 (max cur v)) (w32 (bitAt (cur < v) 0)) (modRoster idx (fun r => { r with outcnt := max cur v }) s))) s)

/-- CNTSET.IN (04 R140): the digest becomes none. -/
def execCntsetIn (who : Who) (c : Cond) (ws wc : Fin 16) (s : State) : Host.Outcome State Fault Refusal :=
  ok (issue who c 0x64 .custodian (withNode who ws (fun idx s =>
    let v := (getW who wc s).toNat
    let cur := (roster idx s).inl
    retOk who (w32 (max cur v)) (w32 (bitAt (cur < v) 0))
      (modRoster idx (fun r => { r with inl := max cur v, dvalid := false }) s))) s)

/-- CNTEXP (04 R141). -/
def execCntexp (who : Who) (c : Cond) (ws : Fin 16) (q : QRef) (count : BitVec 13) (s : State) : Host.Outcome State Fault Refusal :=
  ok (issue who c 0x65 .condOnly (fun s =>
    if !lcOpen s then ret who stLIFECYCLE (w32 (lcState s)) 0 s
    else withQueue who q 1 (fun q s =>
      let first := (getW who ws s).toNat
      if 131072 ≤ first then retRange who 2 first s
      else if count = 0 || 4096 < count.toNat || 131072 < first + count.toNat then retRange who 3 count.toNat s
      else if pendFull who s then retRefused who 0x40 s
      else
        let t := nextTicket who s
        let s := startPending who 0x65 s
        { s with sec := { s.sec with exports := s.sec.exports ++ [{
            world := worldOf who s, ticket := t, first := first, count := count.toNat, q := q }] } }) s) s)

/-- High-water mark of an exported entry (13 R439). -/
def exportMark (r : Roster) (s : State) : Nat := min (r.outcnt + cpar 0x0730 s) 0xFFFFFFFF

/-- An export record (13 Table KS-8). -/
def exportRecord (idx : Nat) (s : State) : List Byte :=
  let r := roster idx s
  let b := leOctets 4 idx ++ leOctets 4 (exportMark r s) ++ leOctets 4 r.inl
  b ++ leOctets 4 (crc32c 0xFFFFFFFF b)

/-- A pending CNTEXP finishes, the oldest first (13 R439). -/
def cntexpDone (s : State) : State :=
  match s.sec.exports with
  | [] => s
  | e :: rest =>
    let s := { s with sec := { s.sec with exports := rest } }
    let used := ((List.range e.count).map (e.first + ·)).filter (fun i => (roster i s).use_ = 1)
    let now := used.take 127
    let next := match used.drop 127 with
      | i :: _ => i
      | [] => 0x20000
    let fin (st n next : Nat) (s : State) : State := endPending (.ring e.world) e.ticket 0x65 st (w32 n) (w32 next) s
    if now.isEmpty then fin stOK 0 next s
    else
      let data := now.flatMap (fun i => exportRecord i s)
      match pushMade e.q data s with
      | none => fin (if (queue e.q s).room = 0 then stQ_FULL else stPOOL_EXHAUSTED) 0 e.first s
      | some s => fin stOK now.length next
          (now.foldl (fun s i => modRoster i (fun r => { r with outhwm := exportMark r s }) s) s)

/-- One slot is zeroised (13 R433): its children too, those not in use at once. -/
def kzeroOp (k : Nat) (s : State) : State :=
  let g := (slot k s).gen
  let s := revokeEntries (fun e => e.slot = k && e.pgen = g) s
  sweepEntries (fun e => e.slot = k && e.pgen = g) (modSlot k (fun x => { gen := nextGen x.gen }) s)

/-- KZERO of one slot (04 R142). -/
def execKzero (who : Who) (c : Cond) (slot_ : Fin 8192) (s : State) : Host.Outcome State Fault Refusal :=
  ok (issue who c 0x66 .custodian (fun s => withSlot who slot_.val none (fun s =>
    let s := kzeroOp slot_.val s
    retOk who 1 (w32 (children (fun e => e.slot = slot_.val && e.state = 2) s)) s) s) s)

/-- Every slot 8-8,191 is zeroised: its generation advances (13 R419, R433). -/
def kzeroAllOp (s : State) : State :=
  let gens := (List.range 8184).filterMap (fun i =>
    let x : Slot := { gen := nextGen (slot (i + 8) s).gen }
    if x = {} then none else some (i + 8, x))
  let s := revokeEntries (fun _ => true) s
  sweepEntries (fun _ => true) { s with sec := { s.sec with slots := gens } }

/-- KZERO.ALL (04 R142): the device slots are skipped. -/
def execKzeroAll (who : Who) (c : Cond) (s : State) : Host.Outcome State Fault Refusal :=
  ok (issue who c 0x66 .custodian (fun s =>
    if !lcOpen s then ret who stLIFECYCLE (w32 (lcState s)) 0 s
    else
      let s := kzeroAllOp s
      retOk who (w32 8184) (w32 (children (fun e => e.state = 2) s)) s) s)

/-- CACHE_SWEEP (13 R431). -/
def execCacheSweep (s : State) : Host.Outcome State Fault Refusal := ok (sweepEntries (fun _ => true) s)

/-! ## Parameters' own rules -/

/-- VIN below 3.15 V burns no fuse (13 R416). -/
def burnLow (s : State) : Bool := s.pw.vin < 3150

/-- SEC.LC_ADVANCE (13 R416). -/
def lcAdvance (v : Nat) (s : State) : PRes :=
  if s.sec.locked || !((v = 2 && s.sec.fused = 1) || (v = 4 && (s.sec.fused = 1 || s.sec.fused = 2))) then pRef 0x72 s
  else if burnLow s then (stNV_INHIBIT, 0, s)
  else
    let s := { s with sec := { s.sec with fused := v } }
    pOk (if v = 4 then deriveDevice (zeroVault s) else s)

/-- SEC.TAMP_CTRL's range (13 R441). -/
def tampCtrlOk (v : Word) : Bool := v.toNat / 4096 = 0 && v.toNat / 16 % 256 ≠ 0

/-- SEC.TAMP_CTRL (13 R441): in Deployed protection may only be tightened. -/
def tampCtrl (v : Word) (s : State) : PRes :=
  let o := s.sec.tampCtrl
  let relaxes := (o.getLsbD 0 && !v.getLsbD 0) || (o.getLsbD 1 && !v.getLsbD 1) || o.getLsbD 2 != v.getLsbD 2 ||
    o.getLsbD 3 != v.getLsbD 3 || o.toNat / 16 % 256 < v.toNat / 16 % 256
  if lcState s = 2 && relaxes then pRef 0x71 s else pOk { s with sec := { s.sec with tampCtrl := v } }

/-- SEC.TAMP_CLEAR (13 R443): it does not clear a lock. -/
def tampClear (s : State) : PRes :=
  pOk { s with sec := { s.sec with tampRec0 := 0, tampRec1 := 0, tampRec2 := 0, tampRec3 := 0 } }

/-- SEC.GRP_FLOOR_Dn (13 R445): raises the counter, never lowers it. -/
def grpFloor (dist : Fin 2) (v : Word) (s : State) : PRes :=
  pOk { s with sec := { s.sec with grp := upd s.sec.grp dist (fun c => max c v.toNat) } }

/-- A binding's own rule (13 R425). -/
def setBinding (dist k : Nat) (v : Word) (s : State) : PRes :=
  let clash := 2147483648 ≤ v.toNat && (List.range 4).any (fun j => j ≠ k &&
    2147483648 ≤ binding dist j s && binding dist j s % 256 = v.toNat % 256)
  if bindingBad v.toNat || clash then pRange s else pOk (setPar (0x0720 + 4 * dist + k) chip v s)

end Sys2Proof.Machine
end

