-- ==== Sys2Proof/Machine/Receive.lean ====
section
/-! DEFINITION. Reception: watchers and lanes (09 R293-R301), S5's checks (08 R273-R275), and the end of a lane's frame or of
an acknowledgement on it. -/

namespace Sys2Proof.Machine

/-- A tap power in 0.25 dBFS referred to the aerial port in 0.25 dBm: P_tap + FS + G(s) (10 R335, R353). On an external slice FS
is RF.XREF_FS and G(s) the gain state's entry of RF.XGAIN_W0-W3; on an integrated slice both are factory values of the band and
port. -/
def aerialPower (n : Fin 12) (gain : Nat) (p : Int) (s : State) : Int :=
  if isExt n then p + (par 0x0115 n.val s).toInt + 2 * ((spar (0x0116 + gain / 4) n s / 2 ^ (8 * (gain % 4)) % 256 : Nat) : Int)
  else
    let x := slice n s
    p + Config.fullScale n.val (bandOf x.freq) x.listen + Config.gainOf n.val (bandOf x.freq) x.listen gain

/-- The gain state in force at timebase instant t (10 R335): the log keeps when each earlier state ended. -/
def gainAt (x : SliceS) (t : Nat) : Nat := ((x.gainLog.reverse.find? (fun e => t < e.2)).map (·.1)).getD x.gain

/-! ## Detections (09 R294-R301) -/

/-- The lane that receives from a tap of slice n, its PHR not yet passed (08 R274). -/
def laneOn (n : Fin 12) (t : Nat) (s : State) : Option (Fin 64) :=
  laneIdx.find? (fun k => (lane k s).any (fun l => l.sl = n && l.tap = t && l.out.isNone && !l.passed))

/-- A detection falls in the slice's receive window. -/
def inWindow_ (x : SliceS) (t : Nat) : Bool := x.win.any (fun w => w.opened && !w.closed && !w.passed && w.tap = t)

/-- A detection falls in the slice's acknowledgement wait. -/
def inAckWait (x : SliceS) (t at_ : Nat) : Bool :=
  x.ackWait.any (fun w => w.opened && w.tap = t && w.openAt ≤ at_ && at_ < w.closeAt)

/-- The detection is reserved (09 R299). -/
def reservedDet (x : SliceS) (t at_ : Nat) : Bool :=
  (inWindow_ x t && x.win.any (fun w => w.res && !w.bound)) || (inAckWait x t at_ && x.ackWait.any (fun w => w.res && !w.bound))

/-- Victim a is taken before victim b: PHR not passed first, then the later detection, later in the arbiter's order on a tie
(09 R299, R300). -/
def takenBefore (a b : Lane) : Bool :=
  if a.passed != b.passed then b.passed
  else if a.detAt ≠ b.detAt then b.detAt < a.detAt
  else if a.sl ≠ b.sl then b.sl < a.sl
  else b.tap < a.tap

/-- The victim that a reserved detection takes a lane from (09 R300). -/
def victim (n : Fin 12) (atCap : Bool) (s : State) : Option (Fin 64 × Lane) :=
  let cands := laneIdx.filterMap (fun k => ((lane k s).filter (fun l => !l.reserved && l.out.isNone && (!atCap || l.sl = n))).map (fun l => (k, l)))
  cands.foldl (fun best c => match best with
    | none => some c
    | some b => if takenBefore c.2 b.2 then some c else some b) none

/-- A lane is assigned to a detection (09 R295, R299; 04 R128). -/
def assignLane (k : Fin 64) (n : Fin 12) (t : Nat) (power : Int) (at_ : Nat) (res : Bool) (s : State) : State :=
  let x := slice n s
  let w := inWindow_ x t && x.win.any (·.lane.isNone)
  let a := inAckWait x t at_ && x.ackWait.any (·.lane.isNone)
  let s := setLane k (some { sl := n, tap := t, fam := tapFamily x t, since := s.time.elapsed, reserved := res, forAck := a
                             inWin := w, detAt := at_, power := power, port := x.listen }) s
  modSlice n (fun x => { x with
    win := x.win.map (fun v => if w then { v with lane := some k.val, bound := v.bound || v.res } else v)
    ackWait := x.ackWait.map (fun v => if a then { v with lane := some k.val, bound := v.bound || v.res } else v) }) s

/-- A detection is refused a lane (09 R294, R300, R301). -/
def refuseDet (n : Fin 12) (t : Fin 16) (at_ : Nat) (res : Bool) (s : State) : State :=
  let x := slice n s
  let w := inWindow_ x t.val
  let a := inAckWait x t.val at_
  let s := noteBusy n t.val s.time.elapsed (bumpSl (if res then 0x0413 else 0x0411) n s)
  let s := modSlice n (fun x => { x with
    holdOff := x.holdOff.set t (some (at_ + 32000))
    win := x.win.map (fun v => if w then { v with refused := v.refused + 1 } else v)
    ackWait := x.ackWait.map (fun v => if a then { v with refused := v.refused + 1 } else v) }) s
  notify 0x0401 n.val stLANE_STARVED (blkSlice n) s

/-- The arbiter's outcome of a detection (09 Table CH-3). -/
def arbitrate (n : Fin 12) (t : Fin 16) (power : Int) (at_ : Nat) (s : State) : State :=
  let res := reservedDet (slice n s) t.val at_
  let atCap := decide (spar 0x0400 n s ≤ lanesHeld n s)
  match (if atCap then none else (freeLanes s).head?) with
  | some k => assignLane k n t.val power at_ res s
  | none =>
    match (if res then victim n atCap s else none) with
    | some (k, l) => assignLane k n t.val power at_ res (bumpSl 0x0412 l.sl (loseLane k stFCS_FAIL 0 s))
    | none => refuseDet n t at_ res s

/-- A detection of an armed watcher: a pending detection or a capture on a lane that receives from the tap (08 R274, R275),
else the arbiter's outcome. -/
def detection (n : Fin 12) (t : Fin 16) (power : Int) (at_ : Nat) (s : State) : State :=
  let s := bumpSl 0x0410 n s
  match laneOn n t.val s with
  | some k =>
    match lane k s with
    | some l =>
      if l.power + 24 ≤ power then
        bumpSl 0x0324 n (modLane k (fun l => { l with detAt := at_, power := power, pend := none }) s)
      else modLane k (fun l => { l with pend := some (at_, power) }) s
    | none => s
  | none => arbitrate n t power at_ s

/-- Detection a is served before detection b: that of an earlier 1 us interval; in one interval a reserved one first, then by time,
slice and tap (09 R299). -/
def servedBefore (s : State) (a b : Det) : Bool :=
  let ra := reservedDet (slice a.sl s) a.tap.val a.at_
  let rb := reservedDet (slice b.sl s) b.tap.val b.at_
  if a.at_ / 1000 ≠ b.at_ / 1000 then a.at_ < b.at_
  else if ra != rb then ra
  else if a.at_ ≠ b.at_ then a.at_ < b.at_
  else if a.sl ≠ b.sl then a.sl < b.sl
  else a.tap < b.tap

/-- An OFDM watcher fires on an autocorrelation of CH.DETECT_THR / 256 or more, an FSK watcher on four octets of preamble
(08 R255, 09 R294). -/
def fires (d : Det) (s : State) : Bool :=
  if tapFamily (slice d.sl s) d.tap.val ≤ 4 then spar 0x0401 d.sl s ≤ d.corr else 4 ≤ d.octets

/-- One detection has its outcome, if its watcher is armed and fires. -/
def detect (d : Det) (s : State) : State :=
  if armed d.sl d.tap d.at_ s && fires d s then
    detection d.sl d.tap (aerialPower d.sl (gainAt (slice d.sl s) d.at_) d.power s) d.at_ s
  else s

/-- The detections that wait together, one after another in the arbiter's order (09 R299). -/
def serveDets : Nat → List Det → State → State
  | 0, _, s => s
  | _, [], s => s
  | f + 1, d :: ds, s =>
    let b := ds.foldl (fun b d => if servedBefore s d b then d else b) d
    serveDets f ((d :: ds).erase b) (detect b s)

/-- WATCHER_DETECTION (09 R294, R299, R300; 08 R269, R274; 10 R335): a firing, with the others of the same 1 us interval. -/
def execWatcherDetection (sl : Fin 12) (tap : Fin 16) (seen : Seen) (more : List Det) (s : State) :
    Host.Outcome State Fault Refusal :=
  ok (let d : Det := { seen with sl := sl, tap := tap }
      let last := more.foldl (fun m e => max m e.at_) d.at_
      if !tbCanReach last s then s else serveDets (more.length + 1) (d :: more) (openWaits (reachTb last s)))

/-- WATCHER_REARM (09 R294). -/
def execWatcherRearm (sl : Fin 12) (tap : Fin 16) (s : State) : Host.Outcome State Fault Refusal :=
  ok (match (slice sl s).holdOff[tap] with
      | some e => if tbCanReach e s then modSlice sl (fun x => { x with holdOff := x.holdOff.set tap none }) (reachTb e s) else s
      | none => s)

/-! ## S5's checks (08 R273) -/

/-- What checks 2 and 3 give a reception that passes them: mode, map, profile, MID. -/
structure PhrMode where
  mode : Nat := 0
  map : List Word := []
  prof : Nat := 0
  pdist : Bool := false
  pgen : Nat := 0
  mid : Nat := 0
deriving DecidableEq, Repr

/-- Acquisition range of a mode family, Hz: a frame beyond it fails at its PHR (08 R269). -/
def acquired (fam : Nat) : Int := if fam ≤ 4 then 50000 else 40000

/-- Checks 1-3 of Table OM-8. -/
def phrMode (l : Lane) (p : Phr) (s : State) : Option PhrMode :=
  let fam := l.fam
  if !p.hcsOk || !p.resOk || acquired fam < |p.cfo| then none
  else if fam ≤ 4 && p.rate = 24 then
    if !p.xhr.ok || 4 < p.xhr.mid.val then none
    else (selectMap (profileSeen p.xhr.profile.val (if p.xhr.dist then 1 else 0) s) p.xhr.pgen.val fam).map (fun m =>
      { mode := 0x60, map := m, prof := p.xhr.profile.val, pdist := p.xhr.dist, pgen := p.xhr.pgen.val, mid := p.xhr.mid.val })
  else (rateMode fam p.rate).map (fun m => { mode := m })

/-- FCS octets of a reception. -/
def fcsOctets (n : Fin 12) (l : Lane) (p : Phr) (s : State) : Nat :=
  if l.fam ≤ 4 then spar 0x0301 n s else if p.fcs4 then 4 else 2

/-- A PHR failure or oversize: relock on a pending detection not older than 496 us, else the lane is released (08 R275). -/
def relockOrFree (k : Fin 64) (l : Lane) (fails : Nat) (s : State) : State :=
  match l.pend with
  | some (t, p) =>
    if tbNs s ≤ t + 496000 then
      let s := bumpSl 0x0323 l.sl (modLane k (fun l => { l with detAt := t, power := p, pend := none }) s)
      modSlice l.sl (fun x => { x with win := x.win.map (fun w =>
        if w.lane = some k.val then { w with phrFails := w.phrFails + fails } else w) }) s
    else loseLane k stFCS_FAIL fails (bumpSl 0x0325 l.sl s)
  | none => loseLane k stFCS_FAIL fails s

/-- A receive timestamp is captured (03 Table FC-17, 05 R170). -/
def captureRx (n : Fin 12) (at_ : Nat) (s : State) : State :=
  modSlice n (fun x => { x with rxCap := { at_ := TVal.ofNs at_, count := sat32 (x.rxCap.count + 1) } }) s

/-- The receive timestamp: the synchronisation point less the nominal preamble of the mode, 480 us or OM.FSK_PREAMBLE octets and
the SFD, and less the receive path delay, the factory value of slices A-D and TIME.PATH_DELAY_RX (05 R170, 08 R269). -/
def startOf (l : Lane) (p : Phr) (s : State) : Nat :=
  let pre : Int := if l.fam ≤ 4 then 480000 else fskSpan ((fskRate (0x50 + (l.fam - 4))).getD 50) (spar 0x0303 l.sl s + 2)
  ((p.sync : Int) - pre - (if isExt l.sl then 0 else Config.rxDelay l.sl.val) - (par 0x0831 l.sl.val s).toInt).toNat

/-- RSSI at the synchronisation point, with the gain state then in force (08 R277). -/
def rssiOf (l : Lane) (p : Phr) (s : State) : Int := clampI (-640) 40 (aerialPower l.sl (gainAt (slice l.sl s) p.sync) p.rssi s)

/-- The measures of the last frame whose PHR passed, as far as they are known then; its SNR follows at its end (04 R133, 08 R277).
DESIGN CHOICE (log entry 120): until then, and for a frame that never ends, SNR reads 0. -/
def noteLast (k : Fin 64) (l : Lane) (start : Nat) (s : State) : State :=
  modSlice l.sl (fun x => { x with lastQ := some { rssi := l.rssi, cfo := l.cfo, ofLane := k.val, start := start } }) s

/-- An oversize frame: its window completes, its PHR having passed; the lane relocks or is released (08 Table OM-8, 04 R128). -/
def oversize (k : Fin 64) (l : Lane) (start : Nat) (s : State) : State :=
  let s := bumpSl 0x0321 l.sl (captureRx l.sl start s)
  let s := match (slice l.sl s).win with
    | some w => if w.lane = some k.val then winDone l.sl stOVERSIZE 0 { w with rxStart := start }.arrival s else s
    | none => s
  relockOrFree k l 0 s

/-- The Enh-Ack of a frame that asks for one falls due when its PHR passes: its launch instant is fixed then, and a conflict
with a transmission fixed earlier loses it (10 R340). Its length is not known before S7 builds it, so the span that is compared
rests on a free length (log entry 7). -/
def dueAck (k : Fin 64) (l : Lane) (s : State) : State :=
  withDraw 128 s fun len s =>
    let n := l.sl
    let at_ := l.endAt + cpar 0x0219 s * 1000
    let e := at_ + duration l.mode l.map 0 (spar 0x0303 n s) (len + spar 0x0301 n s)
    let lost := conflicts n at_ e s
    let s := if lost then bumpSl 0x0124 n s else s
    modSlice n (fun x => { x with enhAcks := x.enhAcks ++ [{
      lane := k.val, launch := at_, fixedAt := tbNs s, endAt := e, tap := l.tap, mode := l.mode, map := l.map, port := l.port,
      prof := l.prof + bitAt l.pdist 8, pgen := l.pgen, lost := lost }] }) s

/-- The PHR passes (08 R273, R274, R277; 04 R128). -/
def phrPasses (k : Fin 64) (l : Lane) (p : Phr) (start : Nat) (m : PhrMode) (s : State) : State :=
  let n := l.sl
  let l := { l with
    passed := true, passAt := s.time.elapsed, rssi := rssiOf l p s, cfo := p.cfo, whiten := p.whiten, seed := p.seed.val
    start := start, unqual := !s.time.qual, pend := none
    endAt := start + duration m.mode m.map m.mid (spar 0x0303 n s) p.len
    mode := m.mode, map := m.map, prof := m.prof, pdist := m.pdist, pgen := m.pgen, mid := m.mid, len := p.len
    fcs := fcsOctets n l p s, ackReq := p.ackReq }
  let s := noteLast k l start (captureRx n start (setLane k (some l) s))
  let s := modSlice n (fun x => { x with win := x.win.map (fun w =>
    if w.lane = some k.val then { w with passed := true, rxStart := start } else w) }) s
  if p.ackReq then dueAck k l s else s

/-- PHR_CHECK (08 R273, R275). -/
def execPhrCheck (ln : Fin 64) (phr : Phr) (s : State) : Host.Outcome State Fault Refusal :=
  ok (match lane ln s with
      | none => s
      | some l =>
        let start := startOf l phr s
        let s := openWaits s
        if l.passed || l.out.isSome then s
        else match phrMode l phr s with
          | none => relockOrFree ln l 1 (bumpSl 0x0320 l.sl s)
          | some m =>
            if phr.len < fcsOctets l.sl l phr s + 2 then relockOrFree ln l 1 (bumpSl 0x0320 l.sl s)
            else if spar 0x0300 l.sl s < phr.len then
              oversize ln l start (noteLast ln { l with rssi := rssiOf l phr s, cfo := phr.cfo } start s)
            else phrPasses ln l phr start m s)

/-- The PSDU of a lane's frame as S5 gives it (08 R255, R271). -/
def lanePsdu (l : Lane) (p : RxPay) (s : State) : List Byte :=
  if l.fam ≤ 4 then ofdmPsdu l.mode l.map l.seed (cpar 0x0306 s) l.len p else fskPsdu l.whiten l.len p

/-- Data subcarriers of a lane's frame. -/
def laneCarriers (l : Lane) : Nat := dataSubcarriers (payForm l.mode l.map).option

/-- The measures of a lane's frame (08 Table OM-11). -/
def laneQuality (l : Lane) (p : RxPay) : Quality :=
  if l.fam ≤ 4 then
    { rssi := l.rssi, cfo := l.cfo, snr := snrRange (snrOfFrame p (laneCarriers l))
      snrK := (List.range (laneCarriers l)).map (snrOfCarrier p) }
  else { rssi := l.rssi, cfo := l.cfo, snr := snrRange p.snr }

/-- Check 6 of Table OM-8: the last octets are the check sequence of those before (log entry 115). -/
def fcsRight (n : Nat) (psdu : List Byte) : Bool :=
  let k := psdu.length - n
  psdu.drop k = leOctets n (Config.fcs n (psdu.take k))

/-- FCS_CHECK (08 R273, R277, R296): after the declared end of the frame. -/
def execFcsCheck (ln : Fin 64) (fsk : FskRx) (ltf : LtfRx) (syms : List RxSym) (s : State) : Host.Outcome State Fault Refusal :=
  ok (let p : RxPay := { toFskRx := fsk, toLtfRx := ltf, syms := syms }
      match lane ln s with
      | none => s
      | some l =>
        if !l.passed || l.out.isSome || !tbCanReach l.endAt s then s
        else
          let s := openWaits (reachTb l.endAt s)
          let q := laneQuality l p
          let psdu := lanePsdu l p s
          let s := modSlice l.sl (fun x => { x with
            lastQ := x.lastQ.map (fun v =>
              if v.ofLane = ln.val && v.start = l.start then { v with snr := q.snr, lq := linkQuality q.snr } else v) }) s
          if fcsRight l.fcs psdu then
            setLane ln (some { l with out := some { data := psdu.take (psdu.length - l.fcs), q := q } }) (noteBusy l.sl l.tap l.since s)
          else loseLane ln stFCS_FAIL 0 (bumpSl 0x0322 l.sl s))

/-! ## Noise floor (08 R278) -/

/-- A span falls in block b of a window that begins at `from_`. -/
def inBlock (from_ b : Nat) (p : Nat × Nat) : Bool := p.1 < from_ + (b + 1) * 1000000 && from_ + b * 1000000 ≤ p.2

/-- The spans that exclude a block of a tap: its receptions, ended or in progress, and the slice's transmissions. -/
def busySpans (n : Fin 12) (t : Nat) (s : State) : List (Nat × Nat) :=
  let x := slice n s
  (x.nfRx.filter (fun e => e.1 = t)).map (·.2) ++ x.nfTx ++
  (laneIdx.filterMap (fun k => (lane k s).filter (fun l => l.sl = n && l.tap = t && l.out.isNone))).map
    (fun l => (l.since, s.time.elapsed)) ++
  ((x.tx.filter (fun t => t.airing && !t.aired)).elim [] (fun t => [t.launch]) ++
    (x.enhAcks.filter (·.airing)).map (·.launch)).map (fun t => (s.time.elapsed - (tbNs s - t), s.time.elapsed))

/-- Puts a number into a rising list. -/
def insertNat (v : Nat) : List Nat → List Nat
  | [] => [v]
  | x :: xs => if v ≤ x then v :: x :: xs else x :: insertNat v xs

/-- The floor of a window's remaining blocks: the mean power of their lowest quarter, referred to the aerial port; none when fewer
than four remain. -/
def floorOf (n : Fin 12) (left : List Nat) (s : State) : Option Int :=
  let low := (left.foldr insertNat []).take (left.length / 4)
  if left.length < 4 then none
  else some (aerialPower n (slice n s).gain (Config.quarterDbfs low.sum low.length) s)

/-- NOISE_FLOOR_WINDOW (08 R278): a window of OM.NF_WINDOW ends; the mean power of each of its 1 ms blocks comes from the tap. With
fewer than four blocks left the previous value stands; a deaf tap has no floor (09 R312). -/
def execNoiseFloorWindow (sl : Fin 12) (tap : Fin 16) (blocks : List Nat) (s : State) : Host.Outcome State Fault Refusal :=
  ok (let from_ := (slice sl s).nfFrom[tap]
      let s := reachElapsed (from_ + cpar 0x0318 s * 1000000) s
      let spans := busySpans sl tap.val s
      let left := ((blocks.take (cpar 0x0318 s)).zipIdx.filter (fun b => !(spans.any (inBlock from_ b.2)))).map (·.1)
      let now := s.time.elapsed
      modSlice sl (fun x => { x with
        nfFrom := x.nfFrom.set tap now
        nfRx := x.nfRx.filter (fun e => e.1 ≠ tap.val)
        nfTx := x.nfTx.filter (fun e => now ≤ e.2 + 10000000000)
        floors := if x.deaf[tap] then x.floors else match floorOf sl left s with
          | some f => x.floors.set tap (some f)
          | none => x.floors }) s)

end Sys2Proof.Machine
end

