-- ==== Sys2Proof/Machine/Admission.lean ====
section
/-! DEFINITION. S6 to S9 for a received frame: addresses, lookups, S7's decision, acknowledgement, joins, proposals and delivery
(06 R209-R222, 07 R245-R248, 08 R280-R283, 11 R379, 12 R400, 13 R434-R438). -/

namespace Sys2Proof.Machine

/-! ## What S6 and S8 find -/

/-- A frame as it goes through S6 to S9. -/
structure RxCtx where
  /-- lane it came on -/
  k : Fin 64
  /-- that lane -/
  l : Lane
  /-- octets and measures -/
  f : RxFrame
  /-- parse (log entry 5) -/
  info : FrameInfo
  /-- district -/
  dist : Fin 2
  /-- roster index, none for a source that is no roster node -/
  idx : Option Nat
  /-- place of its exact-match entry, for HIT -/
  place : Option Nat
deriving DecidableEq, Repr

/-- The PAN is the district's; 0xFFFE, the parameter's default, matches no frame (06 R209, Table MA-11). -/
def panIs (pan : BitVec 16) (s : State) (d : Fin 2) : Bool := pan ≠ 0xFFFE && pan.toNat = cpar (0x0228 + d.val) s

/-- The first district whose PAN the frame names (06 R209). -/
def panDist (pan : BitVec 16) (s : State) : Option (Fin 2) := (List.finRange 2).find? (panIs pan s)

/-- S6 accepts the frame as addressed to the chip in a district, by that district's PAN and extended address (06 R209). -/
def addressed (f : FrameInfo) (s : State) : Option (Fin 2) :=
  (List.finRange 2).find? (fun d => panIs f.pan s d && match f.dst with
    | .none => true
    | .short a => a = 0xFFFF
    | .ext e => e = ownEui d.val s)

/-! ## Octets of the frames that the device makes (06 R218, 07 R246; the layouts are those of IEEE 802.15.4, log entry 5) -/

/-- Addressing mode and octets of an address. -/
def addrOctets (a : Addr) : Nat × List Byte :=
  match a with
  | .none => (0, [])
  | .short x => (2, leOctets 2 x.toNat)
  | .ext e => (3, leOctets 8 e.toNat)

/-- MAC header, up to its header IEs, of a frame of version 2 with these fields; `comp` is PAN ID Compression. -/
def macHeader (f : FrameInfo) (pan : Option Nat) (comp : Bool) : List Byte :=
  let d := addrOctets f.dst
  let a := addrOctets f.src
  leOctets 2 (f.ftype + bitAt f.sec 3 + bitAt f.ackReq 5 + bitAt comp 6 + bitAt f.seqNo.isNone 8 + bitAt true 9 + d.1 * 1024 +
    2 * 4096 + a.1 * 16384) ++
  f.seqNo.toList ++ (pan.elim [] (leOctets 2)) ++ d.2 ++ a.2 ++
  (if f.sec then leOctets 1 (f.level + 8 * f.keyMode) ++ leOctets 4 f.counter.toNat ++
     (if f.keyMode = 2 then leOctets 4 f.keySource.toNat else []) ++ [f.keyIndex] else [])

/-- A header IE of an element ID. -/
def headerIe (id : Nat) (content : List Byte) : List Byte := leOctets 2 (content.length + id * 128) ++ content

/-- The Enh-Ack of a frame (06 R218): its sequence number, its source as the destination, no source and no PAN ID with PAN ID
Compression set, and one ACK/NACK Time Correction IE without the NACK bit; `ctr` when it is secured as the frame was. -/
def ackOctets (f : FrameInfo) (correction : Int) (ctr : Option Nat) : List Byte :=
  macHeader { f with ftype := 2, ackReq := false, dst := f.src, src := .none, sec := ctr.isSome, counter := BitVec.ofNat 32 (ctr.getD 0) }
    none true ++ headerIe 0x1E (leOctets 2 (correction % 4096).toNat)

/-- The deferral response (07 R246, Table NP-4): an association response of short address 0xFFFF and status 0x01, with the
deferral IE. -/
def deferOctets (f : FrameInfo) (pan n reason : Nat) : List Byte :=
  macHeader f (some pan) false ++ headerIe 0 ([0x8A, 0x47, 0xC5, 0x01] ++ leOctets 2 n ++ leOctets 1 reason) ++ headerIe 0x7F [] ++
    [0x02, 0xFF, 0xFF, 0x01]

/-- The frame's slice. -/
def RxCtx.sl (x : RxCtx) : Fin 12 := x.l.sl

/-- Measured offset of a frame, and the ASN of its slot, while the grid runs (06 R213, R215). -/
def measured (start : Nat) (s : State) : Option (Int × Nat) :=
  if s.grid.mode = 1 && s.grid.fallen then
    let (a, b) := slotAt start s
    some ((start : Int) - b - cpar 0x0218 s * 1000, a)
  else none

/-- The time correction of an Enh-Ack, in us (06 R219); 0 while no grid runs. -/
def timeCorrection (start : Nat) (s : State) : Int :=
  match measured start s with
  | some (m, _) => clampI (-2047) 2047 (roundDiv (-m) 1000)
  | none => 0

/-! ## Ends of a frame -/

/-- The window that the frame completes: the one that holds its lane, or the armed window of the same node in that slot when
the frame is accepted or a duplicate (04 R128, 06 R217). -/
def frameWindow (x : RxCtx) (accepted : Bool) (s : State) : Option Win :=
  match (slice x.sl s).win with
  | none => none
  | some w =>
    if w.lane = some x.k.val && w.passed then some w
    else if accepted && w.lane.isNone && w.node.isSome && w.node = x.idx && s.grid.mode = 1 &&
        (slotAt w.pred.toNat s).1 = (slotAt x.l.start s).1 then some { w with rxStart := x.l.start, passed := true }
    else none

/-- The frame's window completes now, or with the Enh-Ack that is due (04 R128, 10 R339). -/
def endWindow (x : RxCtx) (accepted : Bool) (st w1 : Nat) (s : State) : State :=
  match frameWindow x accepted s with
  | none => s
  | some w =>
    if (slice x.sl s).enhAcks.any (fun e => e.lane = x.k.val) then
      modSlice x.sl (fun y => { y with
        win := some { w with ackDue := true, res0 := st, res1 := w1 }
        enhAcks := y.enhAcks.map (fun e => if e.lane = x.k.val then { e with forWin := true } else e) }) s
    else winDone x.sl st (w32 w1) w.arrival s

/-- The frame is dropped before S7 decides it, or refused by its policy or binding checks: no acknowledgement (04 R128). -/
def dropFrame (x : RxCtx) (it : Option Item) (s : State) : State :=
  let s := match it with
    | some i => retireHeld i 1 stOK s
    | none => s
  endWindow x false stFCS_FAIL 0 (removeAck x.sl x.k.val s)

/-- S7 refuses the frame (06 R221). -/
def refuseFrame (x : RxCtx) (it : Item) (st : Nat) (s : State) : State :=
  endWindow x false st 0 (removeAck x.sl x.k.val (retireHeld it 1 st s))

/-! ## Enh-Ack (06 R218, R219; 13 R430, R609; 10 R339) -/

/-- S7 builds the Enh-Ack that is due for the frame, under the link key when MAC.ACK_SEC asks for it; gives the correction it
carries, 0 when none is sent. -/
def buildAck (x : RxCtx) (job : Nat) (key : Option Nat) (s : State) : Int × State :=
  let n := x.sl
  match (slice n s).enhAcks.find? (fun e => e.lane = x.k.val) with
  | none => (0, s)
  | some e =>
    let asks := cpar 0x0225 s = 1
    if asks && !lcOpen s then (0, bump 0x0740 (removeAck n x.k.val s))
    else if e.lost || e.launch < tbNs s + ackLeadNs n then (0, s)
    else
      let c := timeCorrection x.l.start s
      let put (octets : List Byte) (s : State) : Int × State :=
        let (pw, s) := txPower n s
        (c, modSlice n (fun y => { y with enhAcks := modFirst (fun d => d.lane = x.k.val) (fun d => { d with
          built := true, octets := octets, job := job, power := pw
          endAt := d.launch + duration d.mode d.map 0 (spar 0x0303 n s) (octets.length + spar 0x0301 n s) }) y.enhAcks }) s)
      match (if asks && x.info.sec then key else none) with
      | none => put (ackOctets x.info c none) s
      | some k =>
        let take := match x.idx with
          | some i => takeCounter i s
          | none => (some (Config.draw s.freeCount % 4294967296), { s with freeCount := s.freeCount + 1 })
        match take with
        | (none, s) => (0, removeAck n x.k.val s)
        | (some ctr, s) =>
          put (Config.secure k (nonceOf (ownEui x.dist.val s) ctr x.info.level) (ackOctets x.info c (some ctr))) s

/-! ## S7's decision (13 R434-R438, 06 R221) -/

/-- What S7 decides. -/
inductive Verdict where
  | drop
  | refuse (st : Nat)
  | accept (key : Option Nat)
  | duplicate (key : Option Nat)
deriving DecidableEq, Repr

/-- S7's policy on features and unsecured frames (13 R427, R434, R609): true when the frame may go on. -/
def policyOk (x : RxCtx) (s : State) : Bool :=
  let f := x.info
  if f.sec then lcOpen s && micOctets f.level ≠ 0 && (f.keyMode = 1 || f.keyMode = 2) && !f.ctrSuppressed
  else (f.ftype = 0 && f.beacon) || (f.assocReq && cpar (0x0731 + x.dist.val) s = 1)

/-- A replay: counted, notice 0x0705 (13 R438). -/
def replay (x : RxCtx) (s : State) : Verdict × State :=
  (.refuse stREPLAY, report 0x0705 (w32 x.dist.val) stREPLAY (w32 (x.idx.getD 0x1FFFF)) (bump 0x0743 s))

/-- A MIC failure: counted, notice 0x0703 (13 R438). -/
def micFail (x : RxCtx) (sl : Nat) (s : State) : Verdict × State :=
  (.refuse stMIC_FAIL, report 0x0703 (w32 sl) stMIC_FAIL (w32 (x.idx.getD 0x1FFFF)) (bump 0x0742 s))

/-- The MIC's octets at the end of a frame. -/
def micOf (x : RxCtx) : List Byte := x.f.data.drop (x.f.data.length - micOctets x.info.level)

/-- Step 5 of R438 for a roster node, its key at hand. -/
def decideMic (x : RxCtx) (idx sl key : Nat) (s : State) : Verdict × State :=
  let r := roster idx s
  let c := x.info.counter.toNat
  let d := micDigest (micOf x)
  if !Config.micOk key (nonceOf r.eui c x.info.level) x.f.data then micFail x sl s
  else if r.inl < c then
    (.accept (some key), modRoster idx (fun r => { r with inl := c, digest := d, dvalid := true }) s)
  else if r.dvalid && r.digest = d then (.duplicate (some key), bump 0x0744 s)
  else replay x s

/-- An association request of a node that no in-use entry names: its key derived for this one operation (13 R427). -/
def decideStranger (x : RxCtx) (sl : Nat) (s : State) : Verdict × State :=
  let eui := match x.info.src with | .ext e => e | _ => 0
  let key := linkKey (slot sl s).key 0 eui x.dist.val
  if Config.micOk key (nonceOf eui x.info.counter.toNat x.info.level) x.f.data then (.accept (some key), s) else micFail x sl s

/-- S7 decides a received frame (13 R438). -/
def decideFrame (x : RxCtx) (s : State) : Verdict × State :=
  let f := x.info
  if !policyOk x s then (.drop, bump 0x0740 s)
  else if !f.sec then (.accept none, s)
  else match findBinding x.dist.val f.keyMode f.keyIndex.toNat f.keySource s with
    | none => (.drop, bump 0x0741 s)
    | some b =>
      let sl := bindingSlot (binding x.dist.val b s)
      if (slot sl s).attr.getLsbD 16 != (x.dist = 1) then (.drop, s)
      else
        let c := f.counter.toNat
        if x.idx.any (fun i => c < (roster i s).inl || c = 0xFFFFFFFF) then replay x s
        else if (slot sl s).rev then (.refuse stKEY_REVOKED, bump 0x0745 s)
        else if (attrFail (slot sl s).attr 3 none (some 11) s).isSome then (.drop, s)
        else match x.idx with
          | none => decideStranger x sl s
          | some i =>
            match needKey i sl (roster i s) s with
            | (.have_ _ key _, s) => decideMic x i sl key s
            | (_, s) => (.refuse stKEY_REVOKED, bump 0x0745 s)

/-! ## After acceptance -/

/-- The frame is an observation of its node (06 R215). -/
def observeFrame (x : RxCtx) (corr : Int) (s : State) : State :=
  match x.idx, measured x.l.start s with
  | some i, some (m, a) => if (roster i s).use_ = 1 then observe i m a corr x.sl.val s else s
  | _, _ => s

/-- A rejoining node's drift model is that of a new node (06 R210, R213). -/
def rejoin (x : RxCtx) (idx : Nat) (s : State) : State :=
  let (m, a) := (measured x.l.start s).getD (0, 0)
  let su := cpar 0x0205 s
  let si := cpar 0x0206 s
  modRoster idx (fun r => { r with rejoin := true, asnRef := a, theta := m, phi := 0, uTheta := su, uPhi := si, nobs := 0,
                                   miss := 0, corr := 0 }) s

/-- Cells of the item that the frame makes, with its air fields (15 R501). -/
def frameItem (x : RxCtx) (s : State) : Item :=
  { index := x.idx.getD 0x1FFFF, slice := x.sl.val, phymode := x.l.mode, data := x.f.data, info := x.info,
    dist := x.dist = 1
    air := { at_ := TVal.ofNs x.l.start, rssi := x.f.q.rssi, snr := x.f.q.snr, lq := linkQuality x.f.q.snr, unqual := x.l.unqual,
             verified := x.info.sec && lcOpen s } }

/-- A request is dropped and counted (06 Table MA-11, 07 R246). -/
def countJoinDrop (s : State) : State := { s with grid := { s.grid with joinDrops := s.grid.joinDrops + 1 } }

/-- The requester's EUI-64: its source address, or that of the roster entry its short address names. -/
def RxCtx.eui (x : RxCtx) (s : State) : BitVec 64 :=
  match x.info.src with
  | .ext e => e
  | _ => x.idx.elim 0 (fun i => (roster i s).eui)

/-- The districts' deferral item: an association response secured as the request was (07 R246); its sequence number is a free value
(log entry 5). -/
def deferItem (x : RxCtx) (key : Option Nat) (n reason : Nat) (s : State) : State :=
  withDraw 256 s fun sq s =>
  let d := x.dist.val
  let q := cpar (0x0255 + d) s
  let pan := cpar (0x0228 + d) s
  let info : FrameInfo := { ftype := 3, pan := BitVec.ofNat 16 pan, dst := .ext (x.eui s), src := .ext (ownEui d s), seqNo := some (BitVec.ofNat 8 sq), sec := x.info.sec,
                            level := x.info.level, keyMode := x.info.keyMode, keyIndex := x.info.keyIndex,
                            keySource := x.info.keySource, assocResp := some 0xFFFF }
  if 1024 ≤ q || (queue q s).room = 0 then countJoinDrop s
  else match createItem { port := 0x18, index := x.idx.getD 0x1FFFF, dist := x.dist = 1, info := info,
                          data := deferOctets info pan n reason } s with
    | (none, s) => countJoinDrop s
    | (some it, s) =>
      match x.idx, key with
      | none, some k =>
        withDraw 4294967296 s fun c s =>
          let it := { it with data := Config.secure k (nonceOf (ownEui d s) c info.level) it.data, secCtr := some c }
          pushOrExc q it (setStage it.job 2 stOK s)
      | _, _ =>
        match s7Secure it s with
        | (.pass it, s) => pushOrExc q it (setStage it.job 2 stOK s)
        | (.exc st, s) => toException it st (setStage it.job 3 st s)

/-- A request is deferred (07 R245-R247); its item is dropped, and the node's frame is the reporter (07 R249). -/
def deferJoin (x : RxCtx) (it : Item) (key : Option Nat) (reason : Nat) (s : State) : State :=
  let s := report 0x0207 (w32 x.dist.val) stOK (w32 (x.idx.getD 0x1FFFF)) (retireHeld it 1 stOK s)
  let lo := cpar 0x0252 s
  let hi := cpar 0x0253 s
  if reason = 1 then withDraw (hi + 1 - lo) s fun v s => deferItem x key (lo + v) reason s
  else deferItem x key hi reason s

/-- Association requests accepted in this slot, in the frame's district. -/
def joins (d : Fin 2) (s : State) : Nat := if d = 0 then s.grid.joins0 else s.grid.joins1

/-- Counts an accepted association request. -/
def countJoin (d : Fin 2) (s : State) : State :=
  { s with grid := { s.grid with joins0 := s.grid.joins0 + (if d = 0 then 1 else 0), joins1 := s.grid.joins1 + (if d = 0 then 0 else 1) } }

/-- An accepted association request goes to the join queue or is deferred (06 R210, 07 R245); without a join queue it is dropped and
counted (06 Table MA-11). -/
def joinRequest (x : RxCtx) (it : Item) (key : Option Nat) (s : State) : State :=
  let q := cpar (0x0234 + x.dist.val) s
  let rate := cpar (0x0250 + x.dist.val) s
  let full := (queue q s).room = 0
  let n := joins x.dist s
  let reason := if s.host.silent then 3 else if rate = 0 then 2 else if rate ≤ n then 1 else if full then 4 else 0
  let s := if reason = 4 then s else countJoin x.dist s
  if 1024 ≤ q then countJoinDrop (retireHeld it 1 stOK s)
  else if reason ≠ 0 then deferJoin x it key reason s
  else
    let s := match x.idx with
      | some i => rejoin x i s
      | none => s
    pushOrExc q it s

/-! ## Proposals (08 R280-R283) -/

/-- OPTION and NDBPS of an OFDM frame as it was received; none for FSK. -/
def ofdmOf (l : Lane) : Option (Nat × Nat) :=
  if l.mode = 0x60 then some ((l.map.headD 0).toNat % 4 + 1, (l.map.headD 0).toNat / 65536)
  else (ndbpsOf l.mode).map (fun nd => (modeOption l.mode, nd))

/-- A subcarrier of a bit-loaded frame fell below the threshold of its constellation (08 R280 reason 2). -/
def degraded (l : Lane) (snrs : List Int) : Bool :=
  l.mode = 0x60 && (snrs.zipIdx.any (fun p =>
    let c := mapEntry l.map p.2
    c ≠ 0 && p.1 < snrThr c ((l.map.headD 0).toNat / 4 % 4)))

/-- A measurement record (08 Table OM-15), with the SNRs of the N_D data subcarriers. -/
def measRecord (x : RxCtx) (idx reason nd : Nat) (snrs : List Int) (prof : List Word) : List Byte :=
  let t := TVal.ofNs x.l.start
  leOctets 3 idx ++ leOctets 1 x.sl.val ++ leOctets 4 t.sec.toNat ++ leOctets 4 t.ns.toNat ++ leOctets 1 x.l.mode ++
  leOctets 1 (if x.l.mode = 0x60 then x.l.prof else 0) ++ leOctets 1 reason ++ [0] ++ leOctets 2 ((i32 x.f.q.rssi).toNat % 65536) ++
  leOctets 2 ((i32 x.f.q.snr).toNat % 65536) ++ leOctets 2 nd ++ [0, 0] ++ prof.flatMap wordOctets ++
  (List.range 96).map (fun k => match snrs[k]? with | some v => snrOctet v | none => 0)

/-- A frame that S7 accepted may yield a proposal report, its node the reporter (08 R280-R283, 07 R249). -/
def propose (x : RxCtx) (s : State) : State :=
  let ctrl := cpar 0x0310 s
  let q := cpar (0x0313 + x.dist.val) s
  match x.idx, ofdmOf x.l with
  | some idx, some (opt, nd) =>
    if ctrl % 2 = 0 || 1024 ≤ q || (roster idx s).use_ ≠ 1 then s
    else
      let code := ctrl / 2 % 4
      let snrs := x.f.q.snrK.take (dataSubcarriers opt)
      let map := proposedMap code (cpar 0x0311 s) snrs
      let pnd := ndbpsFor code (ncbps map)
      let reason := if degraded x.l snrs then 2 else if (100 + cpar 0x0312 s) * nd ≤ 100 * pnd then 1 else 0
      if reason = 0 || pnd < 12 then s
      else
        let fresh := !(s.notices.entries.any (fun n => !n.closed && n.is 0x0301 (w32 idx))) && s.notices.entries.length < 1023
        let s := report 0x0301 (w32 idx) stOK (w32 idx) s
        if !fresh then s
        else match pushMade q (measRecord x idx reason nd snrs (profileWords opt code map)) s with
          | some s => s
          | none => report 0x0302 (w32 x.dist.val) stOK (w32 idx) s
  | _, _ => s

/-! ## Accepted and duplicate frames -/

/-- Marks the frame's exact-match entry as hit (12 R400). -/
def markHit (x : RxCtx) (s : State) : State :=
  match x.place with
  | some p => setEntry p { tEntry p s with hit := true } s
  | none => s

/-- What the receiver learns from a frame of its node: SNR per port (10 R342) and the roster index for RQUAL (04 R133). -/
def noteQuality (x : RxCtx) (s : State) : State :=
  modSlice x.sl (fun y => { y with
    snr0 := if x.l.port = 0 then (x.f.q.snr :: y.snr0).take 16 else y.snr0
    snr1 := if x.l.port = 1 then (x.f.q.snr :: y.snr1).take 16 else y.snr1 }) s

/-- The frame's node is the source of RQUAL's last frame. -/
def noteSource (x : RxCtx) (s : State) : State :=
  modSlice x.sl (fun y => { y with lastQ := y.lastQ.map (fun q =>
    if q.ofLane = x.k.val && q.start = x.l.start then { q with idx := x.idx.getD 0x1FFFF } else q) }) s

/-- S7 has accepted the frame. -/
def acceptFrame (x : RxCtx) (it : Item) (key : Option Nat) (s : State) : State :=
  let s := noteQuality x (markHit x s)
  let s := match x.idx with
    | some i => modRoster i (fun r => { r with rejoin := r.rejoin && x.info.assocReq, lastStart := x.l.start, lastSliceRx := x.sl.val }) s
    | none => s
  let it := match key, x.idx with
    | some k, some i => { it with data := Config.unsecure k (nonceOf (roster i s).eui x.info.counter.toNat x.info.level) it.data }
    | some k, none => { it with data := Config.unsecure k x.info.counter.toNat it.data }
    | none, _ => it
  let s := if key.isSome then setStage it.job 2 stOK s else s
  let (c, s) := buildAck x it.job key s
  let s := observeFrame x c s
  let s := propose x s
  let s := if x.info.assocReq then joinRequest x it key s else pushOrExc (Config.rxQueue (x.idx.getD 0x1FFFF) % 1024) it s
  endWindow x true stOK it.job s

/-- The channel plans of two slices overlap: they have a channel centre in common (06 R222; log entry 122). -/
def plansOverlap (a b : Fin 12) (s : State) : Bool :=
  let centres (n : Fin 12) : List Int := (slice n s).plan.toList.flatMap (fun g =>
    (g.taps.toList.filter (fun t => t.family ≠ 0)).map (fun t => (g.centre : Int) + t.offset))
  (centres a).any (fun f => (centres b).contains f)

/-- S7 has found the frame a duplicate: acknowledged again, not delivered; the second reception of one frame on another slice whose
plan overlaps is not acknowledged (06 R221, R222). It is no frame that S7 accepts, so REJOIN stays (07 R248). -/
def duplicateFrame (x : RxCtx) (it : Item) (key : Option Nat) (s : State) : State :=
  let s := noteQuality x (markHit x (retireHeld it 1 stDUPLICATE s))
  let r := roster (x.idx.getD 0x1FFFF) s
  let twin := r.lastSliceRx ≠ x.sl.val && plansOverlap (Fin.ofNat 12 r.lastSliceRx) x.sl s && r.lastStart ≤ x.l.start + 2000 && x.l.start ≤ r.lastStart + 2000
  let (c, s) := if twin then (0, removeAck x.sl x.k.val s) else buildAck x 0 key s
  let s := if twin then s else match x.idx with
    | some i => modRoster i (fun r => { r with lastStart := x.l.start, lastSliceRx := x.sl.val }) s
    | none => s
  endWindow x true stDUPLICATE 0 (observeFrame x c s)

/-! ## The lookup of a source (12 R400, 06 R210, R212, 07 R236) -/

/-- What the lookup of a frame's source gives. -/
inductive Source where
  | node (idx : Option Nat) (place : Option Nat)
  | dropped (s : State)
deriving DecidableEq, Repr

/-- A source with an extended address, association requests apart (12 Table FT-3). -/
def lookupExt (x : RxCtx) (e : BitVec 64) (s : State) : Source :=
  let d := x.dist = 1
  match findKey e d s with
  | none => .dropped (learn e d 1 x.sl 0 (bump 0x0612 s))
  | some p =>
    let t := tEntry p s
    if resPos t.result ≠ myPos s then
      let s := bump 0x0613 s
      .dropped (if t.static then s else learn e d 2 x.sl t.result s)
    else
      let r := roster (resIndex t.result) s
      if r.use_ = 1 && r.eui = e then .node (some (resIndex t.result)) (some p)
      else .dropped (learn e d 3 x.sl t.result (bump 0x0614 s))

/-- The source of an association request: the in-use roster entry that the exact-match table names, if any (06 R210). -/
def lookupJoin (x : RxCtx) (e : BitVec 64) (s : State) : Source :=
  match findKey e (x.dist = 1) s with
  | some p =>
    let t := tEntry p s
    if resPos t.result = myPos s && (roster (resIndex t.result) s).use_ = 1 then .node (some (resIndex t.result)) (some p)
    else .node none none
  | none => .node none none

/-- The source of a frame; a short address whose entry is free is dropped, an association request too (06 R212, 12 R400). A frame
with no source address has no roster node (log entry 19). -/
def lookupSource (x : RxCtx) (s : State) : Source :=
  match x.info.src with
  | .none => .node none none
  | .ext e => if x.info.assocReq then lookupJoin x e s else lookupExt x e s
  | .short a =>
    let i := x.dist.val * 65536 + a.toNat
    if (roster i s).use_ = 1 then .node (some i) none else .dropped (bump 0x0614 s)

/-- The roster entry that the frame's source names, in use or not. -/
def namedEntry (x : RxCtx) (s : State) : Option Nat :=
  match x.info.src with
  | .none => none
  | .short a => some (x.dist.val * 65536 + a.toNat)
  | .ext e => (findKey e (x.dist = 1) s).bind (fun p =>
      if resPos (tEntry p s).result = myPos s then some (resIndex (tEntry p s).result) else none)

/-- S7 and what follows, for a frame that S6 and S8 let through. A secured frame of no source is dropped (log entry 19). -/
def throughS7 (x : RxCtx) (it : Item) (s : State) : State :=
  if x.info.sec && x.idx.isNone && !x.info.assocReq then dropFrame x (some it) s
  else match decideFrame x s with
    | (.drop, s) => dropFrame x (some it) s
    | (.refuse st, s) => refuseFrame x it st s
    | (.accept key, s) => acceptFrame x it key s
    | (.duplicate key, s) => duplicateFrame x it key s

/-- S6 and S8 read the entries that the frame's source names (07 R236, 12 R403). -/
def readSource (x : RxCtx) (s : State) : State :=
  let s := match x.info.src with
    | .ext e => (readTables e (x.dist = 1) s).2
    | _ => s
  match namedEntry x s with
  | some i => readRoster i s
  | none => s

/-- An item has been made of the frame: parse, lookup, S7 (06 R607, 12 R400). -/
def throughS6 (x : RxCtx) (it : Item) (s : State) : State :=
  if !x.info.parseOk || 4 ≤ x.info.ftype then dropFrame x (some it) (if 4 ≤ x.info.ftype then bump 0x0740 s else s)
  else
    let s := readSource x s
    match lookupSource x s with
    | .dropped s => dropFrame x (some it) s
    | .node idx place =>
      let x := { x with idx := idx, place := place }
      throughS7 x { it with index := idx.getD 0x1FFFF } (noteSource x s)

/-- The frame meets the pool at S6 (11 R379). -/
def intoPool (x : RxCtx) (s : State) : State :=
  match createItem (frameItem x s) s with
  | (none, s) => dropFrame x none (bump 0x0512 s)
  | (some it, s) => throughS6 x it s

/-! ## Enh-Acks received (06 R216, R224; 13 R438) -/

/-- The address of the node that a waiting frame was sent to: its destination, or its VIA node's in the same form (07 R237). -/
def hopAddr (w : AckWait) (s : State) : Addr :=
  let i := viaOf w.item.index s
  if i = w.item.index then w.item.info.dst
  else match w.item.info.dst with
    | .none => .none
    | .short _ => .short (BitVec.ofNat 16 i)
    | .ext _ => .ext (roster i s).eui

/-- The Enh-Ack meets the conditions of R224 for the frame that waits: from its destination, or without a source and for the frame's
own source address, with its sequence number, and through S7 when MAC.ACK_SEC asks for security. Gives the verdict and the state
after. -/
def ackAccepted (l : Lane) (f : RxFrame) (info : FrameInfo) (w : AckWait) (s : State) : Bool × State :=
  let i := w.item.info
  let idx := viaOf w.item.index s
  let s := if idx = 0x1FFFF then s else readRoster idx s
  let r := roster idx s
  let seqOk := info.seqNo = i.seqNo && ((info.src = .none && info.dst = i.src) || (info.src ≠ .none && info.src = hopAddr w s))
  if !seqOk then (false, s)
  else if cpar 0x0225 s = 0 then (!info.sec, s)
  else
    let x : RxCtx := { k := 0, l := l, f := f, info := info, dist := if idx < 65536 then 0 else 1, idx := some idx,
                       place := none }
    if !info.sec || !policyOk x s then (false, bump 0x0740 s)
    else if r.use_ ≠ 1 then (false, s)
    else match decideFrame x s with
      | (.accept _, s) => (true, s)
      | (_, s) => (false, s)

/-- ACKED: the frame is retired, its node observed when the Enh-Ack carries a time correction (06 R216, R224-R226). -/
def acked (n : Fin 12) (w : AckWait) (info : FrameInfo) (s : State) : State :=
  let s := modSlice n (fun x => { x with ackWait := none }) s
  let s := retireHeld w.item 0 stOK (setStage w.item.job 7 stOK s)
  let s := match w.q with
    | some q => resetBackoff q s
    | none => s
  let s := match info.timeCorr, measured w.launch s with
    | some t, some (_, a) =>
      let i := viaOf w.item.index s
      if (roster i s).use_ = 1 then modRoster i (fun r => { r with theta := 0, corr := 0 }) (observe i (-t * 1000) a 0 n.val s)
      else s
    | _, _ => s
  if w.byTxf then txfResult n stOK w.item.job w.launch w.ts w.minLoss s else s

/-- An acknowledgement frame on a lane of the slice's acknowledgement wait. -/
def ackFrame (k : Fin 64) (l : Lane) (f : RxFrame) (info : FrameInfo) (s : State) : State :=
  let n := l.sl
  match (slice n s).ackWait with
  | none => s
  | some w =>
    if w.lane ≠ some k.val then s
    else match ackAccepted l f info w s with
      | (false, s) => ackLaneLost n k.val s
      | (true, s) =>
        if info.nack then ackFailed n { s with grid := { s.grid with nacks := s.grid.nacks + 1 } }
        else acked n w info s

/-! ## FRAME_ADMISSION -/

/-- A beacon of the over-the-air time parent, secured or not (06 R228). -/
def fromParent (info : FrameInfo) (s : State) : Bool :=
  let e := cpar 0x0240 s + cpar 0x0241 s * 4294967296
  info.parseOk && info.ftype = 0 && info.beacon && e ≠ 0 && info.src = .ext (BitVec.ofNat 64 e)

/-- S6 takes a lane's finished frame; the lane is released (09 R296). -/
def admitFrame (k : Fin 64) (l : Lane) (f : RxFrame) (info : FrameInfo) (s : State) : State :=
  let s := releaseLane k s
  let x : RxCtx := { k := k, l := l, f := f, info := info, dist := 0, idx := none, place := none }
  let s := if fromParent info s then parentBeacon l.start info.syncAsn s else s
  if info.parseOk && info.ftype = 2 then
    if l.forAck then ackFrame k l f info s
    else dropFrame x none (if !info.sec && cpar 0x0225 s = 1 then bump 0x0740 s else s)
  else
    let s := ackLaneLost l.sl k.val s
    if !info.parseOk || 4 ≤ info.ftype then intoPool x s
    else match addressed info s with
      | none => endWindow x true stOK 0 (removeAck l.sl k.val s)
      | some d => intoPool { x with dist := d } s

end Sys2Proof.Machine
end

