-- ==== Sys2Proof/Machine/Queues.lean ====
section
/-! DEFINITION. The queue group (03 R94-R103; 11 R360-R377). -/

namespace Sys2Proof.Machine

/-- The issuer's held item of a job reference (03 R95). -/
def heldItem (who : Who) (ref : Word) (s : State) : Option HeldItem :=
  (ctx who s).held.find? (fun h => h.item.job = ref.toNat && ref ≠ 0)

/-- The held item leaves its holder. -/
def dropHeldItem (who : Who) (ref : Word) (s : State) : State :=
  modCtx who (fun c => { c with held := dropFirst (fun h => h.item.job = ref.toNat) c.held }) s

/-- TXFs whose selected item has left its queue complete with ST_Q_EMPTY (11 R371). -/
def txfsLost (s : State) : State :=
  sliceIdx.foldl (fun s n => match (slice n s).txf with
    | some a => match a.q, a.sel with
      | some q, some ref => if (findItem q ref s).isNone then txfDone n stQ_EMPTY 0 0 s else s
      | _, _ => s
    | none => s) s

/-- QPUSH (03 R97): the held item joins the tail under R367. -/
def execQpush (who : Who) (c : Cond) (ws : Fin 16) (q : QRef) (s : State) : Host.Outcome State Fault Refusal :=
  ok (issue who c 0x40 .all (fun s =>
    let ref := getW who ws s
    match heldItem who ref s with
    | none => retRange who 1 ref.toNat s
    | some h => withQueue who q 2 (fun q s =>
        match pushItem q h.item (dropHeldItem who ref s) with
        | some s => retOk who (w32 (queue q s).occ) 0 s
        | none => ret who stQ_FULL 0 0 (bump 0x0510 s)) s) s)

/-- QPOP (03 R98). -/
def execQpop (who : Who) (c : Cond) (wd : Fin 16) (q : QRef) (s : State) : Host.Outcome State Fault Refusal :=
  ok (issue who c 0x41 .all (withQueue who q 2 (fun q s =>
    if 8 ≤ (ctx who s).held.length then retRefused who 0x30 s
    else match popHead q s with
      | none => ret who stQ_EMPTY 0 0 s
      | some it =>
        let s := popItem q it s
        let fl := (queue q s).flushes
        let s := modCtx who (fun c => { c with held := { item := it, fromQ := q, flushGen := fl } :: c.held }) s
        retOk who (w32 it.len) (w32 (queue q s).occ) (setW who wd (w32 it.job) s))) s)

/-- QPEEK (03 R99): empty exactly when QPOP would be. -/
def execQpeek (who : Who) (c : Cond) (wd : Fin 16) (q : QRef) (s : State) : Host.Outcome State Fault Refusal :=
  ok (issue who c 0x42 .all (withQueue who q 2 (fun q s =>
    match popHead q s with
    | none => ret who stQ_EMPTY 0 0 s
    | some it =>
      let j := jobAt it.job s
      retOk who (w32 it.len) (w32 (j.attempts + j.stage * 256)) (setW who wd (w32 it.job) s))) s)

/-- QDROP.HEAD (03 R100). -/
def execQdropHead (who : Who) (c : Cond) (q : QRef) (s : State) : Host.Outcome State Fault Refusal :=
  ok (issue who c 0x43 .all (withQueue who q 1 (fun q s =>
    match popHead q s with
    | none => ret who stQ_EMPTY 0 0 s
    | some it => retOk who (w32 it.cells) 0 (retireHeld it 1 stOK (popItem q it s)))) s)

/-- QDROP.HELD (03 R100). -/
def execQdropHeld (who : Who) (c : Cond) (ws : Fin 16) (s : State) : Host.Outcome State Fault Refusal :=
  ok (issue who c 0x43 .all (fun s =>
    let ref := getW who ws s
    match heldItem who ref s with
    | none => retRange who 1 ref.toNat s
    | some h => retOk who (w32 h.item.cells) 0 (retireHeld h.item 1 stOK (dropHeldItem who ref s))) s)

/-- QDROP.REST (03 R100, 11 R373). -/
def execQdropRest (who : Who) (c : Cond) (q : QRef) (s : State) : Host.Outcome State Fault Refusal :=
  ok (issue who c 0x43 .all (withQueue who q 1 (fun q s =>
    if !(queue q s).dropMode then retRefused who 0x31 s
    else match (queue q s).inc with
      | none => ret who stQ_EMPTY 0 0 s
      | some it => retOk who (w32 it.cells) 0 (txfsLost (dropRest q stFLUSHED_MIDITEM s)))) s)

/-- QFLUSH (03 R101, 11 R371). -/
def execQflush (who : Who) (c : Cond) (q : QRef) (s : State) : Host.Outcome State Fault Refusal :=
  ok (issue who c 0x44 .condOnly (withQueue who q 1 (fun q s =>
    let x := queue q s
    if x.dropMode then retRefused who 0x32 s
    else retOk who (w32 x.occ) (w32 x.cells) (txfsLost (flushQueue q s)))) s)

/-- QLEN (03 R102, 11 R368, R376). -/
def execQlen (who : Who) (c : Cond) (wd : Fin 16) (q : QRef) (s : State) : Host.Outcome State Fault Refusal :=
  ok (issue who c 0x45 .all (withQueue who q 2 (fun q s =>
    let x := queue q s
    retOk who (w32 x.cells) (w32 (bitAt x.inc.isSome 0 + bitAt (x.high ≤ x.occ) 1 + x.limit * 65536))
      (setW who wd (w32 x.complete) s))) s)

/-- An attribute write of Table QP-5; none when the value is out of range (11 R364). A lower limit caps the room at once. -/
def setAttr (x : Queue) (attr v : Nat) : Option Queue :=
  let wf (y : Queue) : Option Queue :=
    if 1 ≤ y.limit && y.limit ≤ 32768 && y.low < y.high && y.high ≤ y.limit then some y else none
  match attr with
  | 0 => wf { x with limit := v, room := if v < x.limit then min x.room (v - x.occ) else x.room }
  | 1 => wf { x with high := v }
  | 2 => wf { x with low := v }
  | 3 => if v ≤ 1 then some { x with dropMode := v = 1 } else none
  | 4 => if v ≤ 3 || v = 15 then some { x with flow := v } else none
  | 5 => if v ≤ 1 then some { x with cutthru := v = 1 } else none
  | _ => if v ≤ 1 then some { x with notify := v = 1 } else none

/-- QATTR (03 R103, 11 R364). -/
def execQattr (who : Who) (c : Cond) (q : QRef) (ws : Fin 16) (attr : BitVec 8) (s : State) : Host.Outcome State Fault Refusal :=
  ok (issue who c 0x46 .condOnly (withQueue who q 1 (fun q s =>
    let v := (getW who ws s).toNat
    let x := queue q s
    if 6 < attr.toNat then retRange who 3 attr.toNat s
    else match setAttr x attr.toNat v with
      | none => retRange who 2 v s
      | some y =>
        if x.dropMode != y.dropMode && x.inc.isSome then retRefused who 0x33 s
        else retOk who 0 0 (modQ q (fun _ => y) s))) s)

/-- Instant at which an item that is still being written has received no data for QP.ITEM_TIMEOUT. -/
def itemDue (it : Item) (s : State) : Nat := it.lastData + cpar 0x0503 s * 1000000

/-- ITEM_TIMEOUT (11 R361): an incomplete item that is still being written has received no data for QP.ITEM_TIMEOUT: on a queue, or
a world's routed item. -/
def execItemTimeout (p : Fin 1024 ⊕ World) (s : State) : Host.Outcome State Fault Refusal :=
  ok (match p with
      | .inl q => match (queue q.val s).inc with
        | some it => txfsLost (dropRest q.val stTIMEOUT (reachElapsed (itemDue it s) s))
        | none => s
      | .inr w => match (port w s).held with
        | some it => dropHeldOpen w stTIMEOUT (reachElapsed (itemDue it s) s)
        | none => s)

end Sys2Proof.Machine
end

