-- ==== Sys2Proof/Machine/Health.lean ====
section
/-! DEFINITION. Engines, spares and self-test, chip faults, QUERY and HEALTH (01 R7-R16, 09 R310-R312, 18 R579-R581). -/

namespace Sys2Proof.Machine

/-! ## Stopping a slice's radio -/

/-- What waits on the slice completes with ST_REFUSED and a detail, where `tell` says so; the spec names no status for an
RXWIN, TXF, CAL or FEOUT whose slice goes Off under it (log entry 22). -/
def releaseSlice (n : Fin 12) (detail : Nat) (tell : Bool) (s : State) : State :=
  let x := slice n s
  let s := match x.txf with
    | some a => unselect a s
    | none => s
  let s := modSlice n (fun x => { x with txf := none, win := none, cal := none }) s
  let s := match x.cal.bind (·.ticket) with
    | some (w, t) => endPending (.ring w) t 0x31 stREFUSED (w32 detail) 0 s
    | none => s
  if !tell then s
  else match (seq n s).await with
    | some (.rxwin _) | some (.txf _) | some (.cal _) => unblockSlice n stREFUSED (w32 detail) 0 s
    | some (.feout _) => endFeout n stREFUSED (w32 detail) 0 s
    | _ => s

/-- Every air action of the slice stops and it goes Off: a transmission that is AIRING is cut as for a lost lock, one that is
not goes back, receptions are lost and counted (10 R323, 14 R462). -/
def stopAir (n : Fin 12) (detail : Nat) (tell : Bool) (s : State) : State :=
  let s := match (slice n s).tx with
    | some t =>
      if t.aired then modSlice n (fun x => { x with tx := none }) s
      else if t.airing then cutFor n stLATE_LOCK 0xFFFFFFFF s
      else unlaunch n stREFUSED s
    | none => s
  let s := dropEnhAck n (ackFailed n s)
  let s := releaseSlice n detail tell (abandonAll n s)
  modSlice n (fun x => { x with off := true, locked := false, moving := false, retune := false, settleFrom := none, txOn := false, oldSeg := none,
                                blank := false, lostAt := none }) s

/-- A chip fault (01 R16): every air action stops, ROLE_OUT is dropped (16 R535), nothing executes until reset. -/
def chipFaultOp (cause : Nat) (s : State) : State :=
  if s.health.chipFault ≠ 0 then s
  else
    let s := sliceIdx.foldl (fun s n => stopAir n 0 false s) s
    { s with
      health := { s.health with chipFault := cause }
      twin := { s.twin with roleOut := false } }

/-- CHIP_FAULT (01 R16): CAUSE 1 stage exhausted, 2 uncorrectable error in a fatal region, 3 conductor fault. -/
def execChipFault (cause : Fin 3) (region : Fin 13) (s : State) : Host.Outcome State Fault Refusal :=
  ok (chipFaultOp (cause.val + 1) (if cause = 1 && s.health.chipFault = 0 then uncorrectable region s else s))

/-! ## Stages (01 Table AR-3) -/

/-- Stage number of an engine kind. -/
def engNum (e : Eng) : Nat :=
  match e with
  | .s1 => 1 | .s2 => 2 | .s3watch => 3 | .s3acq => 3 | .s4 => 4 | .s5 => 5 | .s6 => 6 | .s7 => 7 | .s8 => 8 | .s9 => 9
  | .s10 => 10 | .s11 => 11 | .s12 => 12

/-- Health of an engine kind; S1 and S2 keep none of their own. -/
def stg (e : Eng) (h : HealthS) : Stage :=
  match e with
  | .s1 => {} | .s2 => {} | .s3watch => h.watch | .s3acq => h.acq | .s4 => h.s4 | .s5 => h.s5 | .s6 => h.s6 | .s7 => h.s7
  | .s8 => h.s8 | .s9 => h.s9 | .s10 => h.s10 | .s11 => h.s11 | .s12 => h.s12

/-- Changes the health of an engine kind. -/
def modStg (e : Eng) (f : Stage → Stage) (s : State) : State :=
  let h := s.health
  { s with health := match e with
    | .s1 => h | .s2 => h
    | .s3watch => { h with watch := f h.watch } | .s3acq => { h with acq := f h.acq } | .s4 => { h with s4 := f h.s4 }
    | .s5 => { h with s5 := f h.s5 } | .s6 => { h with s6 := f h.s6 } | .s7 => { h with s7 := f h.s7 }
    | .s8 => { h with s8 := f h.s8 } | .s9 => { h with s9 := f h.s9 } | .s10 => { h with s10 := f h.s10 }
    | .s11 => { h with s11 := f h.s11 } | .s12 => { h with s12 := f h.s12 } }

/-- Counts a lost job in an engine kind's stage. -/
def countLost (e : Eng) (s : State) : State := modStg e (fun g => { g with lost := sat32 (g.lost + 1) }) s

/-- The spare takes a faulty engine's place: a test of it is abandoned; it was the last of its kind (01 R7, 18 R580). -/
def substitute (e : Eng) (s : State) : State :=
  notify 0x0010 (engNum e) stOK blkHousekeeper
    (modStg e (fun g => { g with subst := sat32 (g.subst + 1), spare := false, testing := false }) s)

/-- The usable count of an engine kind falls (01 R10); at zero it is a chip fault (01 R13). -/
def degrade (e : Eng) (s : State) : State :=
  let s := modStg e (fun g => { g with usable := g.usable - 1 }) s
  notify 0x0011 (engNum e * 256 + (stg e s.health).usable) stOK blkHousekeeper s

/-- A reception on lane k is lost with its engine and counted in the stage (01 R9, R11). -/
def loseReception (e : Eng) (k : Nat) (s : State) : State :=
  if h : k < 64 then
    if (lane ⟨k, h⟩ s).any (fun l => l.out.isNone) then countLost e (loseLane ⟨k, h⟩ stFCS_FAIL 0 s) else s
  else s

/-- The reception on lane k restarts on another engine from its 512 us sample ring, or is lost (01 R9). -/
def restartReception (e : Eng) (k : Nat) (s : State) : State :=
  if h : k < 64 then
    if (lane ⟨k, h⟩ s).any (fun l => l.out.isNone && l.detAt + 512000 < tbNs s) then loseReception e k s else s
  else s

/-- A fault of an engine of S3 (acquisition), S4 or S5 that serves lane `unit` (01 R7, R9, R11). -/
def laneEngineFault (e : Eng) (unit : Nat) (s : State) : State :=
  if (stg e s.health).spare then restartReception e unit (substitute e s)
  else
    let top := enginesLanes s - 1
    let s := degrade e s
    if enginesLanes s = top then
      let s := loseReception e top s
      if unit = top then s else restartReception e unit s
    else restartReception e unit s

/-- A fault of a watcher; `unit` is 16 × slice + tap (01 Table AR-3, 09 R312). -/
def watcherFault (unit : Nat) (s : State) : State :=
  if (stg .s3watch s.health).spare then substitute .s3watch s
  else if h : unit / 16 < 12 then
    let n : Fin 12 := ⟨unit / 16, h⟩
    let t : Fin 16 := ⟨unit % 16, Nat.mod_lt _ (by decide)⟩
    if (slice n s).deaf[t] then s
    else
      let s := degrade .s3watch s
      let s := modSlice n (fun x => { x with deaf := x.deaf.set t true, floors := x.floors.set t none }) s
      notify 0x0403 unit stOK (blkSlice n) s
  else s

/-- The transmission of slice n loses its engine of S10-S12 (01 R9): on the air it is cut; before, the substitute takes it over,
which may come up to 2 us after detection, or it is not sent. DESIGN CHOICE (log entry 119): a cut one counts as a lost job of the
stage, as R9 has it of a lost reception; the spec says nothing of the count here. -/
def txEngineLost (e : Eng) (n : Fin 12) (taken : Bool) (s : State) : State :=
  withDraw 2001 s fun d s =>
  let now := tbNs s + d
  let s := match (slice n s).tx with
    | some t =>
      if t.aired then s
      else if t.airing then
        let s := countLost e (cutTx n stREFUSED s)
        if t.byTxf then txfDone n stREFUSED (w32 (engNum e)) 0 s else s
      else if taken && now ≤ t.launch + 50 then s
      else
        let s := unlaunch n stREFUSED s
        if t.byTxf then txfDone n stREFUSED (w32 (engNum e)) 0 s else s
    | none => s
  dropAcks n (fun a => a.built && (a.airing || !taken || a.launch + 50 < now)) s

/-- A fault of an engine of S10-S12 that serves slice `unit`. -/
def txEngineFault (e : Eng) (unit : Nat) (s : State) : State :=
  let spare := (stg e s.health).spare
  let s := if spare then substitute e s else degrade e s
  if h : unit < 12 then txEngineLost e ⟨unit, h⟩ (spare || txEngines s ≤ (stg e s.health).usable) s else s

/-- A fault of an engine of S6-S9: its item is presented again to another engine (01 R9). -/
def itemEngineFault (e : Eng) (s : State) : State :=
  if (stg e s.health).spare then substitute e s else degrade e s

/-- A fault of S1 or S2 of slice `unit` is a slice fault; its receptions are lost jobs of the stage (01 R8, R15). -/
def frontFault (second : Bool) (unit : Nat) (s : State) : State :=
  if h : unit < 12 then
    let n : Fin 12 := ⟨unit, h⟩
    let k := (s.radio.lanes.toList.filter (fun l => l.any (fun l => l.sl = n && l.out.isNone))).length
    let s := if (slice n s).offline then s
      else if second then { s with health := { s.health with sliceLost2 := sat32 (s.health.sliceLost2 + k) } }
      else { s with health := { s.health with sliceLost1 := sat32 (s.health.sliceLost1 + k) } }
    sliceFault n (if second then 2 else 1) s
  else s

/-- A stage shared by all slices has no usable engine of the kind left. -/
def exhausted (e : Eng) (s : State) : Bool :=
  match e with
  | .s1 | .s2 => false
  | _ => (stg e s.health).usable = 0

/-- ENGINE_FAULT (01 R7-R13): `unit` is the lane of an engine of S3-S5, 16 × slice + tap of a watcher, the slice of an engine of
S1, S2 or S10-S12; S6-S9 do not use it. Under a chip fault it is still counted and reported (01 R18). -/
def execEngineFault (e : Eng) (unit : Nat) (s : State) : Host.Outcome State Fault Refusal :=
  ok (if exhausted e s then s
      else
        let s := match e with
          | .s1 => frontFault false unit s
          | .s2 => frontFault true unit s
          | .s3watch => watcherFault unit s
          | .s3acq => laneEngineFault .s3acq unit s
          | .s4 => laneEngineFault .s4 unit s
          | .s5 => laneEngineFault .s5 unit s
          | .s6 => itemEngineFault .s6 s
          | .s7 => itemEngineFault .s7 s
          | .s8 => itemEngineFault .s8 s
          | .s9 => itemEngineFault .s9 s
          | .s10 => txEngineFault .s10 unit s
          | .s11 => txEngineFault .s11 unit s
          | .s12 => txEngineFault .s12 unit s
        if exhausted e s then chipFaultOp 1 s else s)

/-- A unit of the kind is idle (09 R310 step 1). -/
def idleUnit (e : Eng) (s : State) : Bool :=
  match e with
  | .s3acq | .s4 | .s5 => laneIdx.any (fun k => k.val < enginesLanes s && (lane k s).isNone)
  | .s10 | .s11 | .s12 => txEngines s < (stg e s.health).usable
  | _ => true

/-- Duration of an engine kind's test, ns (09 Table CH-8). -/
def testNs (e : Eng) : Nat :=
  match e with
  | .s3watch => 120000 | .s3acq => 200000 | .s4 => 300000 | .s5 => 400000 | .s6 | .s8 => 50000 | .s7 => 80000 | .s9 => 100000
  | .s10 | .s11 | .s12 => 150000 | .s1 | .s2 => 0

/-- SELF_TEST_STEP (09 R310), 10 ms after the last test or later: the spare takes over an idle unit, whose engine runs its test; a stage without a healthy spare does
not rotate (R312). -/
def execSelfTestStep (e : Eng) (s : State) : Host.Outcome State Fault Refusal :=
  ok (match e with
      | .s1 | .s2 => s
      | _ => if (stg e s.health).spare && !(stg e s.health).testing && idleUnit e s then
          let s := match (stg e s.health).testAt with
            | some t => reachElapsed (t + 10000000) s
            | none => s
          modStg e (fun g => { g with testing := true, testAt := some s.time.elapsed }) s else s)

/-- SELF_TEST_END (09 R310): the tested engine becomes the spare, or is faulty and the spare keeps its unit. -/
def execSelfTestEnd (e : Eng) (pass : Bool) (s : State) : Host.Outcome State Fault Refusal :=
  ok (if !(stg e s.health).testing then s
      else
        let s := reachElapsed ((stg e s.health).testAt.getD 0 + testNs e) s
        let s := modStg e (fun g => { g with testAt := some s.time.elapsed }) s
        if pass then modStg e (fun g => { g with testing := false, passedN := sat32 (g.passedN + 1) }) s
        else substitute e (modStg e (fun g => { g with failedN := sat32 (g.failedN + 1) }) s))

/-! ## The HEALTH window and instruction (18 R579, 03 R118) -/

/-- Engine kinds of stage n. -/
def kinds (n : Nat) : List Eng :=
  [.s3watch, .s3acq, .s4, .s5, .s6, .s7, .s8, .s9, .s10, .s11, .s12].filter (fun e => engNum e = n)

/-- Usable units of a stage, scarcest kind; S1 and S2: slices that are not Offline for a fault of that stage. -/
def stageUsable (n : Nat) (s : State) : Nat :=
  if n ≤ 2 then (sliceIdx.filter (fun k => !((slice k s).offline && (slice k s).lastCause = n))).length
  else ((kinds n).map (fun e => (stg e s.health).usable)).foldl min 192

/-- A stage is below its full usable count. -/
def stageDegraded (n : Nat) (s : State) : Bool :=
  if n ≤ 2 then stageUsable n s < 12 else (kinds n).any (fun e => (stg e s.health).usable < (stg e s.health).full)

/-- A stage lacks a healthy spare of some kind; S1 and S2 always do. -/
def stageSpareless (n : Nat) (s : State) : Bool := n ≤ 2 || (kinds n).any (fun e => !(stg e s.health).spare)

/-- A count summed over a stage's kinds. -/
def stageCount (n : Nat) (f : Stage → Nat) (s : State) : Nat := sat32 ((kinds n).map (fun e => f (stg e s.health))).sum

/-- Jobs lost in a stage. -/
def stageLost (n : Nat) (s : State) : Nat :=
  if n = 1 then s.health.sliceLost1 else if n = 2 then s.health.sliceLost2 else stageCount n (·.lost) s

/-- Value k of stage n: 0 usable, 1 substitutions, 2 passed, 3 failed, 4 lost. -/
def stageValue (n k : Nat) (s : State) : Nat :=
  if k = 0 then stageUsable n s else if k = 1 then stageCount n (·.subst) s else if k = 2 then stageCount n (·.passedN) s
  else if k = 3 then stageCount n (·.failedN) s else stageLost n s

/-- Taps that are deaf. -/
def deafTaps (s : State) : Nat := (sliceIdx.map (fun k => ((slice k s).deaf.toList.filter id).length)).sum

/-- The HEALTH window's 128 words with a LATCHID (18 Tables SF-3, SF-4). -/
def healthWords (latchId : BitVec 16) (s : State) : List Word :=
  let bits (p : Nat → Bool) : Nat := ((List.range 12).map (fun k => bitAt (p (k + 1)) k)).sum
  [w32 (bits (fun n => if h : n - 1 < 12 then !(slice ⟨n - 1, h⟩ s).offline else false) + bitAt (s.health.chipFault ≠ 0) 12 +
      s.health.chipFault * 8192 + latchId.toNat * 65536),
   w32 (bits (fun n => stageSpareless n s)), w32 (bits (fun n => stageDegraded n s)),
   w32 (enginesLanes s + deafTaps s * 256)] ++
  (List.range 12).flatMap (fun n => (List.range 5).map (fun k => w32 (stageValue (n + 1) k s))) ++
  sliceIdx.flatMap (fun k => [w32 (slice k s).faults, w32 ((slice k s).lastStat + (slice k s).lastCause * 256)]) ++
  (List.finRange 13).flatMap (fun r => [w32 s.health.corrected[r], w32 s.health.uncorr[r]]) ++ List.replicate 14 0

/-- The read of 0x0600 latches the HEALTH window (18 R579). -/
def latchHealth (s : State) : State :=
  let id := s.health.latchId + 1
  { s with health := { s.health with latchId := id, latch := healthWords id s } }

/-- HEALTH_WINDOW_READ (18 R579). -/
def execHealthWindowRead (_w : World) (s : State) : Host.Outcome State Fault Refusal := ok (if s.time.coreOn then latchHealth s else s)

/-- Values of a slice that HEALTH reads. -/
def healthSlice (n lo : Nat) (s : State) : Option Nat :=
  if h : n < 12 then
    let x := slice ⟨n, h⟩ s
    if lo = 0 then some (bitAt (!x.offline) 0) else if lo = 1 then some x.faults else if lo = 2 then some x.lastStat else none
  else none

/-- Words of a halt record that HEALTH reads: those of SA-SL, and at 15 the conductor's of the issuing world. -/
def healthHalt (who : Who) (n lo : Nat) (s : State) : Option Nat :=
  if n = 15 then (worldCtx (worldOf who s) s).halt.words[lo]?.map (·.toNat)
  else if h : n < 12 then (seq ⟨n, h⟩ s).ctx.halt.words[lo]?.map (·.toNat)
  else none

/-- Counts of a memory region that HEALTH reads. -/
def healthMem (lo : Nat) (s : State) : Option Nat :=
  if lo < 128 then s.health.corrected.toList[lo]? else s.health.uncorr.toList[lo - 128]?

/-- The value a HEALTH selector names (03 Table FC-39); none when it is not listed. -/
def healthSel (who : Who) (sel : Nat) (s : State) : Option Nat :=
  let hi := sel / 256
  let lo := sel % 256
  if hi = 0 then none
  else if hi ≤ 12 then (if lo < 5 then some (stageValue hi lo s) else none)
  else if hi / 16 = 1 then healthSlice (hi % 16) lo s
  else if hi / 16 = 2 then healthHalt who (hi % 16) lo s
  else if hi = 0x30 then healthMem lo s
  else none

/-- HEALTH (03 R118). -/
def execHealth (who : Who) (c : Cond) (wd : Fin 16) (sel : BitVec 16) (s : State) : Host.Outcome State Fault Refusal :=
  ok (issue who c 0x85 .all (fun s =>
    match healthSel who sel.toNat s with
    | some v => retOk who 0 0 (setW who wd (w32 v) s)
    | none => retRange who 2 sel.toNat s) s)

/-! ## QUERY (03 R117) -/

/-- Answers a QUERY for a job reference. -/
def queryAnswer (who : Who) (wd : Fin 16) (ref : Nat) (s : State) : State :=
  let j := jobAt ref s
  let answer (job stage att : Nat) (trunc jnl : Bool) (ns : Nat) : State :=
    retOk who (w32 (stage + att * 256 + bitAt trunc 16 + bitAt jnl 17)) (w32 ns) (setW who wd (w32 job) s)
  if j.stage ≠ 0 && j.gen = ref / 32768 then answer ref j.stage j.attempts j.trunc false j.tns
  else match s.qp.journal.find? (fun e => e.job = ref && !e.lost) with
    | some e => answer ref e.after e.attempts e.trunc true e.at_.ns.toNat
    | none => answer 0 0 0 false false 0

/-- QUERY.JOB (03 R117): a record that has been reused or retired is sought in the journal. -/
def execQueryJob (who : Who) (c : Cond) (wd ws : Fin 16) (s : State) : Host.Outcome State Fault Refusal :=
  ok (issue who c 0x84 .all (fun s => queryAnswer who wd (getW who ws s).toNat s) s)

/-- QUERY.SLICE (03 R117): the slice's last transmission that reached LAUNCHED. -/
def execQuerySlice (who : Who) (c : Cond) (wd sl : Fin 16) (s : State) : Host.Outcome State Fault Refusal :=
  ok (issue who c 0x84 .all (fun s =>
    if h : sl.val < 12 then queryAnswer who wd (slice ⟨sl.val, h⟩ s).lastTx s else retRange who 2 sl.val s) s)

end Sys2Proof.Machine
end

