-- ==== Sys2Proof/Machine/TwinOps.lean ====
section
/-! DEFINITION. The twin: the digest of a cycle, comparison, divergence, and changes of role (16 R535-R547). -/

namespace Sys2Proof.Machine

/-! ## Layouts of what the digest covers -/

/-- Packs fields of (width, value), the first one least significant. -/
def pack : List (Nat × Nat) → Nat
  | [] => 0
  | (w, v) :: t => v % 2 ^ w + 2 ^ w * pack t

/-- A signed value in w bits, two's complement. -/
def twos (w : Nat) (v : Int) : Nat := (v % (2 ^ w : Nat)).toNat

/-- The 64 octets of a roster entry, CHECK included, which is 0 in an entry at its reset values (07 Table NP-1). -/
def rosterOctets (r : Roster) : List Byte :=
  let b := leOctets 62 (pack [(64, r.eui.toNat), (2, r.use_), (1, bitAt r.rejoin 0), (1, bitAt r.silent 0), (1, bitAt r.bl 0), (3, 0),
    (8, r.profile), (8, r.keygen), (4, r.lastSlice), (4, 0), (17, r.via), (15, 0), (32, r.outcnt), (32, r.inl), (16, r.digest),
    (1, bitAt r.dvalid 0), (15, 0), (32, r.outhwm), (40, r.asnRef), (4, r.nobs), (4, r.miss), (32, twos 32 r.theta),
    (32, twos 32 r.phi), (32, r.uTheta), (32, r.uPhi), (12, twos 12 r.corr), (4, 0), (32, r.heard), (8, r.ackUnheard), (8, 0)])
  b ++ leOctets 2 (if r = {} then 0 else crc32c 0xFFFFFFFF b)

/-- The 16 octets of a table entry, CHECK included (12 Table FT-1). -/
def entryOctets (e : TEntry) : List Byte :=
  let b := leOctets 14 (pack [(64, e.key.toNat), (32, e.result.toNat), (1, bitAt e.valid 0), (1, bitAt e.dist 0),
    (1, bitAt e.static 0), (1, bitAt e.hit 0), (4, e.age), (8, 0)])
  b ++ leOctets 2 (crc32c 0xFFFFFFFF b)

/-- The 8 octets of a job record with TNS zero (11 Table QP-8, 16 Table CT-8). -/
def jobOctets (j : JobRec) : List Byte :=
  leOctets 8 (pack [(4, j.stage), (8, j.attempts), (1, bitAt j.trunc 0), (1, bitAt j.exc 0), (16, j.gen), (30, 0), (4, j.why)])

/-- CRC-32C of octets, as four octets. -/
def crcOctets (b : List Byte) : List Byte := leOctets 4 (crc32c 0xFFFFFFFF b)

/-! ## Regions -/

/-- What recomputation writes (16 R541). -/
def regionsOf (s : State) : Regions :=
  { cond := s.cond, seqs := s.seqs, par := s.par, progMem := s.progMem, schedMem := s.schedMem, qp := s.qp, roster := s.roster,
    modem := s.modem, tables := s.tables }

/-- The regions go back to a snapshot. -/
def restoreRegions (r : Regions) (s : State) : State :=
  { s with cond := r.cond, seqs := r.seqs, par := r.par, progMem := r.progMem, schedMem := r.schedMem, qp := r.qp,
           roster := r.roster, modem := r.modem, tables := r.tables }

/-- Keys at which two maps differ. -/
def diffKeys {α : Type} [DecidableEq α] (d : α) (a b : Tbl α) : List Nat :=
  ((a.map (·.1)) ++ (b.map (·.1)).filter (fun k => !(a.any (fun kv => kv.1 = k)))).filter (fun k =>
    Tbl.get d a k ≠ Tbl.get d b k)

/-- A parameter that does not enter the digest (16 R542). -/
def notDigested (k : Nat) : Bool := k / 16 = 0x0B35 || (0x0B19 ≤ k / 16 && k / 16 ≤ 0x0B1F)

/-- Delta records of what differs between two snapshots (16 Table CT-8; log entry 25: an object counts as written when it
differs). -/
def deltas (a b : Regions) : List (List Byte) :=
  (diffKeys {} a.roster b.roster).map (fun k => leOctets 1 0x80 ++ leOctets 3 k ++ crcOctets (rosterOctets (Tbl.get {} b.roster k))) ++
  (diffKeys {} a.tables.entries b.tables.entries).map (fun k =>
    leOctets 1 0x81 ++ leOctets 3 k ++ crcOctets (entryOctets (Tbl.get {} b.tables.entries k))) ++
  (diffKeys {} a.qp.queues b.qp.queues).map (fun k =>
    let q := Tbl.get {} b.qp.queues k
    leOctets 1 0x82 ++ leOctets 2 k ++ leOctets 2 q.cnt ++ leOctets 2 q.occ ++ leOctets 2 q.cells) ++
  (diffKeys {} a.qp.jobs b.qp.jobs).map (fun k => leOctets 1 0x83 ++ leOctets 2 k ++ jobOctets (Tbl.get {} b.qp.jobs k)) ++
  ((diffKeys 0 a.par.vals b.par.vals).filter (fun k => !notDigested k)).map (fun k =>
    leOctets 1 0x84 ++ leOctets 2 (k / 16) ++ leOctets 1 (k % 16) ++
      wordOctets (Tbl.get (paramDefault (k / 16) (k % 16)) b.par.vals k)) ++
  (diffKeys 0 a.schedMem b.schedMem).map (fun k => leOctets 1 0x85 ++ leOctets 3 k ++ wordOctets (Tbl.get 0 b.schedMem k)) ++
  (diffKeys 0x1500000000000000 a.progMem b.progMem).map (fun k =>
    leOctets 1 0x86 ++ leOctets 2 k ++ leOctets 8 (Tbl.get 0x1500000000000000 b.progMem k).toNat) ++
  (diffKeys {} a.modem.profiles b.modem.profiles).map (fun k =>
    let p := Tbl.get {} b.modem.profiles k
    leOctets 1 0x87 ++ leOctets 1 (k / 256) ++ leOctets 1 (k % 256) ++ leOctets 1 p.gen ++ crcOctets (p.cur.flatMap wordOctets))

/-! ## The digest (16 R542) -/

/-- Widths in octets of the fields of a record, TYPE first (16 Table CT-8). -/
def recWidths (typ : Nat) : List Nat :=
  (([(0x10, [1, 1, 4, 1, 4, 1, 2, 4]), (0x11, [1, 1, 4, 2, 1]), (0x20, [1, 1, 1, 2, 4, 4]), (0x30, [1, 1, 1, 2, 4]),
    (0x40, [1, 1, 4, 1]), (0x80, [1, 3, 4]), (0x81, [1, 3, 4]), (0x82, [1, 2, 2, 2, 2]), (0x83, [1, 2, 8]), (0x84, [1, 2, 1, 4]),
    (0x85, [1, 3, 4]), (0x86, [1, 2, 8]), (0x87, [1, 1, 1, 1, 4])] : List (Nat × List Nat)).find? (fun p => p.1 = typ)).elim [] (·.2)

/-- The field values of octets cut by widths. -/
def cutFields : List Nat → List Byte → List Nat
  | [], _ => []
  | w :: t, b => leNat (b.take w) :: cutFields t (b.drop w)

/-- The sort key of a record: TYPE, then its fields in the order listed. -/
def recKey (r : List Byte) : List Nat := cutFields (recWidths (leNat (r.take 1))) r

/-- Lexicographic order. -/
def lexLe : List Nat → List Nat → Bool
  | [], _ => true
  | _ :: _, [] => false
  | a :: s, b :: t => a < b || (a = b && lexLe s t)

/-- Inserts a record in order. -/
def insertRec (r : List Byte) : List (List Byte) → List (List Byte)
  | [] => [r]
  | x :: t => if lexLe (recKey r) (recKey x) then r :: x :: t else x :: insertRec r t

/-- Sorts records by TYPE and content. -/
def sortRecs : List (List Byte) → List (List Byte)
  | [] => []
  | x :: t => insertRec x (sortRecs t)

/-- The record stream of the cycle that ends: HEAD, outputs and deltas in order, LEDGER, TAIL. -/
def recStream (since : Regions) (s : State) : List (List Byte) :=
  let head := leOctets 1 0x01 ++ leOctets 5 s.grid.asn ++ leOctets 8 s.twin.own.toNat ++ leOctets 1 (ownPos s)
  let q := s.qp
  let ledger := leOctets 1 0x90 ++ [q.cf, q.cq, q.ch, q.jf, q.jq, q.jh].flatMap (leOctets 4)
  let body := head :: sortRecs (s.twin.recs ++ deltas since (regionsOf s)) ++ [ledger]
  body ++ [leOctets 1 0xFF ++ leOctets 4 (body.length + 1)]

/-- The digest of a record stream. -/
def digestOf (r : List (List Byte)) : BitVec 64 := BitVec.ofNat 64 (leNat ((Config.sha256 r.flatten).take 8))

/-! ## Divergence (16 R543) -/

/-- A cycle has diverged: subject 1 digest, 2 staging, 3 ledger. A standby keeps the last committed state and stops recomputing; an
active starts a full sync at the next boundary when CT.AUTO_SYNC asks. -/
def diverge (subject : Nat) (s : State) : State :=
  let s := match s.twin.role, s.twin.start with
    | 2, some r => restoreRegions r s
    | _, _ => s
  let s := { s with twin := { s.twin with
    mirror := 3, diverged := true, matched := 0, lastOk := false, cycle := none, staged := 0, recs := []
    syncDue := s.twin.syncDue || (s.twin.role = 1 && cpar 0x0B32 s = 1) } }
  notify 0x0B06 subject stMIRROR_DIVERGED (blkMate 0) (bump 0x0B46 s)

/-- Pending MIRROR mode 1 instructions end (04 R150). -/
def endSyncTickets (st : Nat) (s : State) : State :=
  let ts := s.twin.syncTicket
  ts.foldl (fun s t => endPending (.ring t.1) t.2 0x92 st 0 0 s) { s with twin := { s.twin with syncTicket := [] } }

/-- A comparison has matched; the first after a full sync ends the sync (16 R539). -/
def compareMatched (asn : Nat) (digest : BitVec 64) (s : State) : State :=
  let first := s.twin.mirror = 1
  let s := { s with twin := { s.twin with
    mirror := 2, diverged := false, matched := sat32 (s.twin.matched + 1), comparedAsn := asn, digest := digest, lastOk := true
    syncAt := none, lostTold := false } }
  if first then
    notify 0x0B09 0 stOK (blkMate 0) (endSyncTickets stOK s)
  else s

/-- A full sync begins: mirroring will start from here (16 R539; log entry 26). -/
def beginSync (s : State) : State :=
  { s with twin := { s.twin with
    mirror := 1, diverged := s.twin.diverged, matched := 0, own := 0, recs := [], start := some (regionsOf s), cycle := none
    order := 0, staged := 0, syncAt := some s.time.elapsed, syncDue := false } }

/-! ## End of a cycle (16 R540, R542) -/

/-- The cycle in progress ends: its digest is computed, and an active's state becomes the start of the next; a standby keeps its
own until the end marker's comparison. -/
def endCycle (ledgerOk : Bool) (s : State) : State :=
  let t := s.twin
  if (t.role ≠ 1 && t.role ≠ 2) || (t.mirror ≠ 1 && t.mirror ≠ 2) then { s with twin := { t with recs := [] } }
  else
    let since := t.cycle.getD (t.start.getD {})
    let d := digestOf (recStream since s)
    let lost := t.role = 2 && t.cycle.isSome
    let s := { s with twin := { t with
      own := d, ownLedger := ledgerOk, recs := [], order := 0
      start := if t.role = 1 then some (regionsOf s) else t.start
      cycle := if t.role = 2 then some (regionsOf s) else none } }
    if lost then diverge 1 s else s

/-! ## Roles (16 R535-R537, R545) -/

/-- Every air action stops and the mirror with it: the chip is withdrawn until reset (04 R151). What waits on a slice ends with
ST_REFUSED, detail 0, and the mirror state is no twin (log entry 121); a full sync in progress can still time out (16 R539). -/
def withdraw (s : State) : State :=
  let s := sliceIdx.foldl (fun s n => stopAir n 0 true s) s
  { s with twin := { s.twin with role := 3, roleOut := false, mirror := 0, claim := none, recs := [], start := none, cycle := none,
                                 yieldAt := none, syncDue := false
                                 syncAt := if s.twin.syncTicket.isEmpty then none else s.twin.syncAt } }

/-- In-use roster entries' outbound counters and both group counters rise by CT.CTR_SKIP, saturating (16 R545 step 3). -/
def skipCounters (s : State) : State :=
  let k := cpar 0x0B34 s
  let up (n : Nat) : Nat := sat32 (n + k)
  { s with
    roster := s.roster.map (fun kv => if kv.2.use_ = 1 then (kv.1, { kv.2 with outcnt := up kv.2.outcnt }) else kv)
    sec := { s.sec with grp := s.sec.grp.map up } }

/-- Every waiting SLOT of the cycle cut short reports the boundary that has passed (16 R545 step 5, 14 R459). -/
def slotsPassed (s : State) : State :=
  seqrs.foldl (fun s q => match awaitOf q s with
    | some (.slot _ _ _) => slotDone q stOK s.grid.asn s.grid.bound s
    | _ => s) s

/-- The next edge, beacon or TIME frame is a first one. -/
def servoFirst (s : State) : State :=
  let s := ppsRestart s
  { s with grid := { s.grid with parFirst := true }, cas := { s.cas with tFirst := true } }

/-- The chip takes the active role (16 R537, R545 steps 3-8). -/
def becomeActive (skip : Bool) (s : State) : State :=
  let s := if skip then skipCounters s else s
  let s := { s with twin := { s.twin with
    role := 1, roleOut := !s.twin.roleIn, activeAsn := s.grid.asn, wasActive := true, claim := none, recs := [], cycle := none
    start := some (regionsOf s), staged := 0, mirror := if s.twin.mirror = 2 then 4 else s.twin.mirror, syncDue := true } }
  let s := recompute (servoFirst s)
  notify 0x0B08 1 stOK (blkMate 0) s

/-- A mirrored standby takes over: the cycle in progress is discarded (16 R545). -/
def takeover (skip : Bool) (s : State) : State :=
  let s := match s.twin.start with
    | some r => restoreRegions r s
    | none => s
  slotsPassed (bump 0x0B47 (becomeActive skip s))

end Sys2Proof.Machine
end

