-- ==== Sys2Proof/Machine/Cycle.lean ====
section
/-! DEFINITION. The ledger check, the work of a slot boundary and of a stopped-grid tick, and steps of the timebase
(11 R386-R388, 06 R203, 11 R367, R369, 05 R158-R161). -/

namespace Sys2Proof.Machine

/-! ## The ledger (11 R386-R388) -/

/-- The cell equations hold. -/
def cellsBalance (s : State) : Bool :=
  let q := s.qp
  q.cf + q.cq + q.ch = 49152 && q.cf + q.taken = 49152 + q.returned

/-- The job-record equations hold: every item has at least one cell. -/
def jobsBalance (s : State) : Bool :=
  let q := s.qp
  q.jf + q.jq + q.jh = 32768 && q.jq ≤ q.cq && q.jh ≤ q.ch

/-- The credit equations of a virtual channel hold; they are not checked while its link is down (16 R522; log entry 27: the
receiver's B + R never exceeds G). -/
def creditOk (l : Fin 6) (v : Fin 4) (s : State) : Bool :=
  let x := vc l v s
  !(link l s).trained || (x.a + x.sent = x.grant && x.b + x.r ≤ x.grant)

/-- CREDFAIL: bit 4 × link + channel. -/
def credFail (s : State) : Nat :=
  (linkIdx.map (fun l => ((List.finRange 4).map (fun v => bitAt (!creditOk l v s) (4 * l.val + v.val))).sum)).sum

/-- A check of the kinds `kinds` (0 cells, 1 jobs, 2 credits): the LEDGER window is updated (11 R387). -/
def ledgerWindow (kinds : List Nat) (s : State) : State :=
  let bad (k : Nat) : Bool := if k = 0 then !cellsBalance s else if k = 1 then !jobsBalance s else credFail s ≠ 0
  let old := s.qp.ledger.lstat
  let lstat := BitVec.ofNat 3 (((List.range 3).map (fun k =>
    bitAt (if kinds.contains k then bad k else old.getLsbD k) k)).sum)
  let q := s.qp
  { s with qp := { q with ledger := { q.ledger with
    lstat := lstat, sticky := q.ledger.sticky || kinds.any bad, asn := s.grid.asn
    terms := [w32 q.cf, w32 q.cq, w32 q.ch, w32 q.jf, w32 q.jq, w32 q.jh]
    credFail := if kinds.contains 2 then BitVec.ofNat 24 (credFail s) else q.ledger.credFail
    reserved := q.reserved, overflow := count 0x0510 chip s } } }

/-- Notices 0x0503 of the kinds that fail (11 R388). -/
def ledgerNotices (kinds : List Nat) (s : State) : State :=
  kinds.foldl (fun s k => if s.qp.ledger.lstat.getLsbD k then notify 0x0503 k stLEDGER_FAULT blkPipe s else s) s

/-- The credit equations that fail start a resynchronisation of their channel (11 R388, 16 R521). -/
def resyncFailed (s : State) : State :=
  linkIdx.foldl (fun s l => (List.finRange 4).foldl (fun s v =>
    if creditOk l v s then s else resyncReport l v stLEDGER_FAULT s) s) s

/-- The check of a boundary or a stopped-grid tick, and what a failure does (11 R387, R388). -/
def ledgerCheck (s : State) : State :=
  let s := ledgerNotices [0, 1, 2] (ledgerWindow [0, 1, 2] s)
  let l := s.qp.ledger
  let fails := l.lstat ≠ 0
  let own := l.lstat.getLsbD 0 || l.lstat.getLsbD 1
  let s := { s with qp := { s.qp with ledger := { l with psum := fails, hold := l.hold || (own && cpar 0x0506 s = 1) } } }
  if fails then resyncFailed (bump 0x0517 s) else s

/-! ## A slot boundary -/

/-- A TIME frame leaves on each downstream link, and on the mate lanes of an active twin (16 R528, R538). -/
def sendTime (s : State) : State :=
  linkIdx.foldl (fun s l =>
    if (link l s).st = 2 && s.twin.role ≠ 2 && (if isMate l then s.twin.role = 1 else downstream l s) then
      modLink l (fun x => { x with timeOut := some { asn := s.grid.asn, boundary := s.grid.bound, slotLen := s.grid.len / 1000,
                                                     gridRun := s.grid.mode = 1, qual := s.time.qual, holdover := s.time.holdover,
                                                     tDep := tbNs s } }) s
    else s) s

/-- What a boundary and a stopped-grid tick share: the queues' counters, the ledger check, slot-latched values, the per-slot
counts (11 R367, R369). -/
def sharedWork (s : State) : State :=
  let s := applyLatched (ledgerCheck (setCounters s))
  { s with grid := { s.grid with joins0 := 0, joins1 := 0, learn0 := 0 } }

/-- The end-of-cycle monitor (16 R536): an active chip that a fault keeps from its end-of-cycle work at two boundaries in a row is
withdrawn. -/
def cycleMonitor (done : Bool) (s : State) : State :=
  if done || s.twin.role ≠ 1 then { s with twin := { s.twin with missedWork := 0 } }
  else if 1 ≤ s.twin.missedWork then withdraw { s with twin := { s.twin with missedWork := 0 } }
  else { s with twin := { s.twin with missedWork := s.twin.missedWork + 1, roleOut := false } }

/-- A yield takes effect at this boundary: sequencers freeze and ROLE_OUT drops (16 R546). -/
def yieldBoundary (s : State) : State :=
  match s.cond.await with
  | some (.yield _) =>
    if s.twin.yieldAt.isNone && s.twin.role = 1 then
      { s with
        twin := { s.twin with yieldAt := some s.grid.asn, roleOut := false }
        pw := { s.pw with frozen := true } }
    else s
  | _ => s

/-- Every waiting SLOT completes, reporting a boundary (03 R88). -/
def slotsDone (st asn bnd : Nat) (s : State) : State :=
  seqrs.foldl (fun s q => match awaitOf q s with
    | some (.slot _ _ _) => slotDone q st asn bnd s
    | _ => s) s

/-- The work of a boundary for the ASN `asn` at `bnd`, done once (06 R203, 11 R367, 16 R528-R546); a waiting SLOT completes with
`st`, reporting the boundary `first` (ASN, time). -/
def boundaryWork (asn bnd st : Nat) (first : Nat × Nat) (s : State) : State :=
  let s := if s.grid.fallen then endCycle (cellsBalance s && jobsBalance s && credFail s = 0) s else s
  let s := { s with
    grid := { s.grid with asn := asn, bound := bnd, nextAt := bnd + s.grid.len, nextAsn := asn + 1, fallen := true }
    time := { s.time with slotCap := { at_ := TVal.ofNs bnd, count := sat32 (s.time.slotCap.count + 1) } } }
  let s := (List.range 8).foldl (switchBank asn) s
  let s := sharedWork s
  let s := if s.pw.mode = 3 then { s with pw := { s.pw with listenCap := cpar 0x0901 s } } else s
  let s := cycleMonitor true (yieldBoundary (sendTime s))
  let s := if s.twin.syncDue && s.twin.role = 1 && s.twin.peerRole = 2 && linkIdx.any (fun l => isMate l && (link l s).trained)
    then beginSync s else s
  if 0xFFFFFFFFFF ≤ asn then gridEnd s
  else if s.pw.frozen then s
  else slotsDone st first.1 first.2 s

/-- One boundary falls. -/
def boundaryFalls (s : State) : State :=
  let a := s.grid.nextAsn
  let b := s.grid.nextAt
  boundaryWork a b stOK (a, b) s

/-- Under a chip fault only the grid and the monitor go on (01 R16, 06 R199, 16 R536). -/
def boundaryUnderFault (s : State) : State :=
  let g := s.grid
  gridEnd (cycleMonitor false { s with
    grid := { g with asn := g.nextAsn, bound := g.nextAt, nextAt := g.nextAt + g.len, nextAsn := g.nextAsn + 1, fallen := true } })

/-- A slot boundary falls once the timebase reaches it, while the core runs and the grid runs (06 R195, R203). -/
def slotBoundary (s : State) : State :=
  if s.grid.mode = 1 && s.time.coreOn && tbCanReach s.grid.nextAt s && s.grid.nextAsn ≤ 0xFFFFFFFFFF then
    let s := reachTb s.grid.nextAt s
    if s.health.chipFault ≠ 0 then boundaryUnderFault s else boundaryFalls s
  else s

/-- Time passes until the timebase has counted up to a sum of increments. -/
def reachInc (target : Nat) (s : State) : State := passTicks ((target - s.time.incSum + tbIncr s - 1) / max 1 (tbIncr s)) s

/-- STOPPED_GRID_TICK (11 R369): 10 ms on the timebase while it counts, on the core clock otherwise. -/
def execStoppedGridTick (s : State) : Host.Outcome State Fault Refusal :=
  ok (if (s.grid.mode = 1 && s.grid.fallen) || !s.time.coreOn || s.health.chipFault ≠ 0 then s
      else
        let s := if s.time.counting && 0 < tbIncr s then reachInc (s.grid.tickInc + 10000000 * tbFrac) s
          else reachCore (s.grid.lastTick + 10000000) s
        let s := { s with grid := { s.grid with lastTick := s.time.coreNs, tickInc := s.time.incSum } }
        sharedWork s)

/-! ## Steps of the timebase (05 R158-R161) -/

/-- An instant that a forward step from `old` to `new` passes (05 R161). -/
def passes (old new at_ : Nat) : Bool := old < at_ && at_ ≤ new

/-- The actions of a slice that a forward step from `old` to `new` passes (04 R124, 05 R161): a window whose opening or, once open,
whose close is passed, a TXF or a launch. What waited past its instant already is not passed again. -/
def stepAir (old new : Nat) (s : State) (n : Fin 12) : State :=
  let s := match (slice n s).win with
    | some w =>
      if !w.opened then (if passes old new w.openAt then winDone n stSTEPPED_PAST 0 0 s else s)
      else if w.closed then s
      else
        let w := { w with closed := true }
        let s := modSlice n (fun x => { x with win := some w }) s
        if w.passed || w.lane.isSome then s else winEmpty n w s
    | none => s
  let s := match (slice n s).txf with
    | some a => if passes old new a.ts then txfDone n stSTEPPED_PAST (w32 (a.sel.getD a.heldRef)) 0 (unselect a s) else s
    | none => s
  match (slice n s).tx with
  | some t =>
    if !t.airing && !t.aired && passes old new t.launch then
      let s := unlaunch n stSTEPPED_PAST s
      if t.byTxf then txfDone n stSTEPPED_PAST (w32 t.item.job) 0 s else s
    else s
  | none => s

/-- A waiting AT whose target a forward step passed (03 R84). -/
def stepAt (new : Nat) (s : State) (q : Seqr) : State :=
  match awaitOf q s with
  | some (.at_ target) =>
    if target ≤ new then unblock q stALARM_SKIPPED (w32 (min (new - target) 0xFFFFFFFF)) 0 (kickWdog q s) else s
  | _ => s

/-- A trigger whose grid points a forward step passed makes one edge (05 R175). -/
def stepTrig (new : Nat) (s : State) (n : Fin 2) : State :=
  let t := trig n s
  if t.armed && t.target ≤ new then
    let k := if t.period = 0 then 1 else (new - t.target) / t.period + 1
    notify (0x0802 + n.val) k stALARM_SKIPPED blkTime (fireTrig n k true s)
  else s

/-- The boundaries that a forward step passed: their work is done once (05 Table TM-2). -/
def stepGrid (new : Nat) (s : State) : State :=
  let g := s.grid
  if g.mode = 1 && g.nextAt ≤ new then
    let k := (new - g.nextAt) / max 1 g.len
    boundaryWork (min (g.nextAsn + k) 0xFFFFFFFFFF) (g.nextAt + k * g.len) stALARM_SKIPPED (g.nextAsn, g.nextAt) s
  else s

/-- The timebase takes the value `new` with its fraction zeroed; everything that Table TM-2 lists follows. `epoch`: a re-epoch,
which re-anchors the grid instead (05 R160). -/
def stepTb (new : Nat) (epoch : Bool) (s : State) : State :=
  let old := tbNs s
  let s := { s with time := { s.time with tb := new * tbFrac } }
  let s := ppsRestart s
  let s := if epoch then { s with grid := { s.grid with bound := new, nextAt := new + s.grid.len } } else s
  if old < new then
    let s := sliceIdx.foldl (stepAir old new) s
    let s := seqrs.foldl (stepAt new) s
    let s := (List.finRange 2).foldl (stepTrig new) s
    if epoch then s else stepGrid new s
  else s

/-- The step allowance is used (05 R158). -/
def useStep (s : State) : State := { s with time := { s.time with stepUsed := true } }

/-- The refusals of TSTEP modes 0 and 1 (03 R90). -/
def stepAllowed (who : Who) (body : State → State) (s : State) : State :=
  if s.time.sealed_ then ret who stSTEP_SEALED 1 0 s
  else if s.time.stepUsed then ret who stSTEP_SEALED 2 0 s
  else body s

/-- TSTEP_ABS (03 R90). -/
def execTstepAbs (who : Who) (c : Cond) (ts : Fin 4) (s : State) : Host.Outcome State Fault Refusal :=
  ok (issue who c 0x26 .custodian (withTime who ts 1 (fun v s =>
    stepAllowed who (fun s => retOk who 0 0 (useStep (stepTb v.toNs false s))) s)) s)

/-- TSTEP_REL (03 R90). -/
def execTstepRel (who : Who) (c : Cond) (delta : BitVec 40) (s : State) : Host.Outcome State Fault Refusal :=
  ok (issue who c 0x26 .custodian (fun s =>
    let t : Int := (tbNs s : Int) + delta.toInt
    if delta = 0 || t < 0 || (tbMaxNs : Int) < t then retRange who 1 delta.toNat s
    else stepAllowed who (fun s => retOk who 0 0 (useStep (stepTb t.toNat false s))) s) s)

/-- An air action is armed: a window or a launch. -/
def airArmed (s : State) : Bool :=
  sliceIdx.any (fun n => (slice n s).win.isSome || (slice n s).txf.isSome || (slice n s).tx.any (fun t => !t.aired))

/-- A slice sequencer is Running or Blocked. -/
def anyRunning (s : State) : Bool := sliceIdx.any (fun n => (seq n s).state = .running || (seq n s).state = .blocked)

/-- TSTEP_EPOCH (03 R90, 05 R160). -/
def execTstepEpoch (who : Who) (c : Cond) (ts : Fin 4) (s : State) : Host.Outcome State Fault Refusal :=
  ok (issue who c 0x26 .custodian (withTime who ts 1 (fun v s =>
    if anyRunning s || airArmed s then retRefused who 0x10 s
    else retOk who 0 0 (stepTb v.toNs true s))) s)

/-! ## The LEDGER instruction (03 R104) and window (11 R387) -/

/-- LEDGER (03 R104): a check at once of one kind; a failure has no more effects than the window and its notice. -/
def execLedger (who : Who) (c : Cond) (wd : Fin 16) (kind : Fin 4) (lk : Fin 8) (ch : Fin 4) (s : State) :
    Host.Outcome State Fault Refusal :=
  ok (issue who c 0x47 .condOnly (fun s =>
    if kind = 3 then retRange who 2 kind.val s
    else if h : lk.val < 6 then
      if kind.val < 2 && (lk ≠ 0 || ch ≠ 0) then retRange who 2 kind.val s
      else
        let s := ledgerNotices [kind.val] (ledgerWindow [kind.val] s)
        let st := if s.qp.ledger.lstat.getLsbD kind.val then stLEDGER_FAULT else stOK
        let x := vc ⟨lk.val, h⟩ ch s
        let q := s.qp
        let (free, inQ, held) := if kind = 0 then (q.cf, q.cq, q.ch) else if kind = 1 then (q.jf, q.jq, q.jh) else (x.a, x.b, x.sent)
        ret who st (w32 inQ) (w32 held) (setW who wd (w32 free) s)
    else retRange who 2 lk.val s) s)

/-- The LEDGER window's twelve words (11 Table QP-12). -/
def ledgerWords (latchId : BitVec 16) (s : State) : List Word :=
  let l := s.qp.ledger
  [w32 (l.lstat.toNat + bitAt l.sticky 3 + latchId.toNat * 65536), w32 l.asn, w32 (l.asn / 4294967296 % 256)] ++ l.terms ++
  [w32 l.credFail.toNat, w32 l.reserved, w32 l.overflow]

/-- The read of 0x0400 latches the LEDGER window; STICKY is cleared by it (11 R387). -/
def latchLedger (s : State) : State :=
  let id := s.qp.ledger.latchId + 1
  { s with qp := { s.qp with ledger := { s.qp.ledger with latchId := id, latch := ledgerWords id s, sticky := false } } }

/-- LEDGER_WINDOW_READ (11 R387). -/
def execLedgerWindowRead (_w : World) (s : State) : Host.Outcome State Fault Refusal := ok (if s.time.coreOn then latchLedger s else s)

end Sys2Proof.Machine
end

