-- ==== Sys2Proof/Machine/Errors.lean ====
section
/-! DEFINITION. Errors of the memories that a command brings (01 R24, Table AR-7). Those of the roster and the tables stand in the
state until an operation reads the entry (TableOps.lean); the others take effect when they are found, with the command that
brings them (log entry 53). -/

namespace Sys2Proof.Machine

/-! ## The cell pool -/

/-- The item holds the cell. -/
def Item.holds (it : Item) (c : Nat) : Bool := it.chain.contains c

/-- A complete item that holds the cell, with its queue. -/
def queuedOn (c : Nat) (s : State) : Option (Nat × Item) :=
  s.qp.queues.findSome? (fun kv => (kv.2.items.find? (·.holds c)).map (fun i => (kv.1, i)))

/-- The queue whose incomplete item holds the cell. -/
def incOn (c : Nat) (s : State) : Option Nat :=
  (s.qp.queues.find? (fun kv => kv.2.inc.any (·.holds c))).map (·.1)

/-- The issuers that hold items. -/
def holders : List Who := sliceIdx.map (fun n => .slice n) ++ [.ring .operator, .ring .custodian]

/-- An item that a sequencer or a world holds and that holds the cell. -/
def heldOn (c : Nat) (s : State) : Option (Who × Item) :=
  holders.findSome? (fun who => ((ctx who s).held.find? (fun h => h.item.holds c)).map (fun h => (who, h.item)))

/-- The item is taken out of its queue; the pops left in the cycle are no more than the items left. -/
def unlinkItem (q : Nat) (it : Item) (s : State) : State :=
  modQ q (fun x =>
    let rest := dropFirst (·.job = it.job) x.items
    { x with items := rest, poppable := min x.poppable (rest.filter (·.selBy.isNone)).length }) s

/-- A slice lets go of an item that holds the cell: a frame that is not yet AIRING goes back, one that is AIRING is cut, a wait for
its acknowledgement ends, and a TXF that has selected it ends; TXF reports ST_TABLE_PARITY (log entry 122). -/
def sliceLetsGo (c : Nat) (s : State) (n : Fin 12) : State :=
  let s := match (slice n s).tx with
    | some t =>
      if !t.item.holds c || t.aired then s
      else if t.airing then cutFor n stTABLE_PARITY 0xFFFFFFFF s
      else
        let s := unlaunch n stTABLE_PARITY s
        if t.byTxf then txfDone n stTABLE_PARITY (w32 t.item.job) 0 s else s
    | none => s
  let s := if (slice n s).ackWait.any (fun w => w.item.holds c) then ackFailed n s else s
  match (slice n s).txf with
  | some a => if (selected n a s).any (·.holds c) then txfDone n stTABLE_PARITY (w32 (a.sel.getD 0)) 0 (unselect a s) else s
  | none => s

/-- A world's port whose open routed item, held by S6, holds the cell. -/
def portOn (c : Nat) (s : State) : Option (World × Item) :=
  ([.operator, .custodian] : List World).findSome? (fun w => ((port w s).held.filter (·.holds c)).map (fun i => (w, i)))

/-- A link's virtual channel that retains an item that holds the cell. -/
def retainedOn (c : Nat) (s : State) : Option (Fin 6 × Fin 4 × Item) :=
  linkIdx.findSome? (fun l => (List.finRange 4).findSome? (fun v =>
    ((vc l v s).retained.findSome? (fun f => f.item.filter (·.holds c))).map (fun i => (l, v, i))))

/-- The item that a port or a link holds leaves it and is retired. -/
def stageDrops (c : Nat) (s : State) : State :=
  match portOn c s with
  | some (w, it) => retireHeld it 1 stTABLE_PARITY (modPort w (fun p => { p with held := none, discard := true }) s)
  | none => match retainedOn c s with
    | some (l, v, it) => retireHeld it 1 stTABLE_PARITY (modVc l v (fun x => { x with
        retained := x.retained.filter (fun f => !f.item.any (·.holds c)) }) s)
    | none => s

/-- A cell's word fails: the item is dropped wherever it stands, its job record retired with ST_TABLE_PARITY, the cell rewritten and
returned. -/
def cellFails (c : Nat) (s : State) : State :=
  let s := sliceIdx.foldl (sliceLetsGo c) s
  let s := match queuedOn c s with
    | some (q, it) => retireQueued it 1 stTABLE_PARITY (unlinkItem q it s)
    | none => match incOn c s with
      | some q => dropRest q stTABLE_PARITY s
      | none => match heldOn c s with
        | some (who, it) => retireHeld it 1 stTABLE_PARITY (dropHeldItem who (w32 it.job) s)
        | none => stageDrops c s
  zeroCells [c] s

/-! ## The other regions -/

/-- An entry of the journal or of the coalescing table is marked lost: below 32,768 the newest journal entry of that job record, above
it an entry of the table, which posts no more (01 Table AR-7). -/
def journalFails (idx : Nat) (s : State) : State :=
  if 32768 ≤ idx then
    let k := idx - 32768
    let n := s.notices
    if k < n.entries.length then { s with notices := { n with entries := n.entries.eraseIdx k, lost := n.lost + 1 } }
    else if k = 1023 && n.overflow.isSome then { s with notices := { n with overflow := none, lost := n.lost + 1 } }
    else s
  else { s with qp := { s.qp with journal := modFirst (fun e => jobIdx e.job = idx && !e.lost) (fun e => { e with lost := true }) s.qp.journal } }

/-- A profile slot is marked absent, or the reception that needs a lane's samples is lost and counted. -/
def profileFails (p : Nat) (s : State) : State :=
  if p < 512 then
    { s with modem := { s.modem with profiles := Tbl.upd {} s.modem.profiles p (fun x => { x with cur := [], prev := [] }) } }
  else loseReception .s4 (p - 512) s

/-- A cache entry is zeroised; the key is derived again when it is next needed. -/
def cacheFails (i : Nat) (s : State) : State :=
  let e := Tbl.get {} s.sec.cache i
  if e.state = 1 then
    { s with sec := { s.sec with cache := Tbl.set {} s.sec.cache i {}, recency := s.sec.recency.filter (· ≠ i) } }
  else sweepEntries (fun x => x = e) s

/-- The cycle counts as diverged by its staging. -/
def stagingFails (s : State) : State :=
  if (s.twin.role = 1 || s.twin.role = 2) && (s.twin.mirror = 1 || s.twin.mirror = 2) then diverge 2 s else s

/-- A ledger fault of the job records (11 R388). -/
def jobsFail (s : State) : State :=
  let l := s.qp.ledger
  bump 0x0517 (notify 0x0503 1 stLEDGER_FAULT blkPipe
    { s with qp := { s.qp with ledger := { l with
      lstat := l.lstat ||| 2, sticky := true, psum := true, hold := l.hold || cpar 0x0506 s = 1 } } })

/-- What Table AR-7 does with a word that fails. -/
def regionFails (r p : Nat) (s : State) : State :=
  match r with
  | 3 => cellFails p s
  | 4 => chipFaultOp 2 s
  | 5 => chipFaultOp 2 s
  | 7 => journalFails p s
  | 8 => profileFails p s
  | 9 => chipFaultOp 2 s
  | 10 => cacheFails p s
  | 11 => stagingFails s
  | 12 => jobsFail s
  | _ => s

/-- An error arises: in the roster or the tables it waits to be read; elsewhere it is found at once. -/
def meetError (s : State) (e : MemErr) : State :=
  if e.region.val < 3 then { s with health := { s.health with errs := s.health.errs ++ [e] } }
  else if e.kind = .single then countCorrected e.region 1 s
  else regionFails e.region.val e.place (uncorrectable e.region s)

/-- The errors that a command brings. -/
def meetErrors (errs : List MemErr) (s : State) : State := errs.foldl meetError s

/-- A word of ring memory that the command reads fails (15 R496 check 5). -/
def ringFails (errs : List MemErr) : Bool := errs.any (fun e => e.region = 6 && e.kind ≠ .single)

/-! ## FRAME_ADMISSION -/

/-- S7 decides in the order in which the PHRs passed: a finished frame whose PHR passed earlier goes first (06 R222). -/
def firstPassed (l : Lane) (s : State) : Bool :=
  s.radio.lanes.toList.all (fun m => m.all (fun m => m.out.isNone || l.passAt ≤ m.passAt))

/-- FRAME_ADMISSION (11 R379). -/
def execFrameAdmission (ln : Fin 64) (info : FrameInfo) (errs : List MemErr) (s : State) : Host.Outcome State Fault Refusal :=
  ok (let s := meetErrors errs s
      match lane ln s with
      | some l => match l.out with
        | some f => if firstPassed l s then admitFrame ln l f info s else s
        | none => s
      | none => s)

end Sys2Proof.Machine
end

