-- ==== Sys2Proof/Machine/Cascade.lean ====
section
/-! DEFINITION. The cascade: CSEND and CBAR, blocks and frames of the links, items, messages, barriers, relays, and time from the
master (04 R148, R149, 16 R514-R534). -/

namespace Sys2Proof.Machine

/-- The link blocks run: the core clock runs and no chip fault is held. -/
def linksRun (s : State) : Bool := s.time.coreOn && s.health.chipFault = 0

/-- A block of link l has come. -/
def heardBlock (l : Fin 6) (s : State) : State := modLink l (fun x => { x with lastBlock := s.time.elapsed }) s

/-! ## CSEND and CBAR -/

/-- A channel can send a message at once: a credit in hand and nothing that waits before it. -/
def canSend (l : Fin 6) (s : State) : Bool :=
  let x := vc l 0 s
  0 < x.a && !x.resync && (link l s).st = 2 && x.retained.all (·.left = 0)

/-- The first link of a message that lacks a credit. -/
def lacksCredit (dest : Nat) (s : State) : Option (Fin 6) := (msgLinks dest s).find? (fun l => !canSend l s)

/-- Sends a program message on its links and gives its number. -/
def csendNow (kind dest : Nat) (m1 m2 : Word) (s : State) : Nat × State :=
  (msgLinks dest s).foldl (fun (acc : Nat × State) l =>
    let (n, s) := sendOn l 0 { kind := kind, dest := dest, src := ownPos acc.2, m1 := m1, m2 := m2 } acc.2
    (if acc.1 = 0 then n else acc.1, s)) (0, s)

/-- Ready to send: links to send on, each with a credit. -/
def csendReady (dest : Nat) (s : State) : Bool := msgLinks dest s ≠ [] && (lacksCredit dest s).isNone

/-- A broadcast that meets a version 1 link: the neighbour's position. -/
def version1 (s : State) : Option Nat := (casIdx.find? (fun l => inTree l s && (link l s).ver = 1)).map (fun l => (link l s).pos)

/-- CSEND (04 R148). -/
def execCsend (who : Who) (c : Cond) (ws : Fin 16) (dest : Fin 16) (kind : BitVec 8) (latest : BitVec 16) (s : State) :
    Host.Outcome State Fault Refusal :=
  ok (issueB who c 0x90 .condOnly (withPair who ws 1 (fun hi s =>
    let d := dest.val
    if 8 ≤ d && d ≠ 15 then retRange who 2 d s
    else if kind.toNat < 0x80 then retRange who 3 kind.toNat s
    else if d ≠ 15 && (d = ownPos s || !s.cas.known.getLsbD d) then retRefused who 0xC0 s
    else if d = 15 && msgLinks 15 s = [] then retRefused who 0xC0 s
    else match (if d = 15 then version1 s else none) with
      | some p => ret who stVERSION (w32 p) 0 s
      | none =>
        if csendReady d s then
          let (n, s) := csendNow kind.toNat d (getW who ws s) (getW who hi s) s
          retOk who (w32 n) 0 s
        else block who (.csend (getW who ws s) (getW who hi s) d kind.toNat (s.time.elapsed + latest.toNat * 1000)) s)) s)

/-- A waiting CSEND goes out once its links have credits (04 R148). -/
def csendWake (s : State) : State :=
  match s.cond.await with
  | some (.csend m1 m2 dest kind _) =>
    if csendReady dest s then
      let (n, s) := csendNow kind dest m1 m2 s
      unblockCond stOK (w32 n) 0 s
    else s
  | _ => s

/-- Positions that have arrived at a barrier. -/
def arrivedMask (bar : Nat) (s : State) : BitVec 8 :=
  s.cas.barriers.foldl (fun m b => if b.bar = bar then m ||| b.mask else m) 0

/-- The conductor's waiting CBAR on this barrier completes. -/
def cbarDone (bar : Nat) (mask : BitVec 8) (s : State) : State :=
  match s.cond.await with
  | some (.cbar b _) => if b = bar then unblockCond stOK (w32 mask.toNat) 0 s else s
  | _ => s

/-- The master announces a barrier at which every present position has arrived (16 R533). -/
def announce (s : State) (bar : Nat) : State :=
  let m := arrivedMask bar s
  if m ≠ 0 && s.cas.known &&& ~~~m = 0 then
    let s := { s with cas := { s.cas with barriers := s.cas.barriers.filter (fun b => b.bar ≠ bar) } }
    cbarDone bar m (sendMsg { kind := 2, dest := 15, src := ownPos s, m1 := w32 bar, m2 := w32 m.toNat } s)
  else s

/-- The master records an arrival (16 R533). -/
def arrive (pos bar : Nat) (s : State) : State :=
  let a : Barrier := { bar := bar, mask := BitVec.ofNat 8 (2 ^ pos), at_ := s.time.elapsed }
  announce { s with cas := { s.cas with barriers := s.cas.barriers ++ [a] } } bar

/-- The chip has cascade members besides itself. -/
def hasMembers (s : State) : Bool := inCascade s && s.cas.known &&& ~~~ BitVec.ofNat 8 (2 ^ ownPos s) ≠ 0

/-- CBAR (04 R149). -/
def execCbar (who : Who) (c : Cond) (bar : BitVec 8) (latest : BitVec 16) (s : State) : Host.Outcome State Fault Refusal :=
  ok (issueB who c 0x91 .condOnly (fun s =>
    if !hasMembers s then retOk who (w32 (2 ^ ownPos s)) 0 s
    else
      let s := block who (.cbar bar.toNat (s.time.elapsed + latest.toNat * 1000)) s
      if isMaster s then arriveSelf who bar s
      else sendMsg { kind := 1, dest := 0, src := ownPos s, m1 := w32 bar.toNat } s) s)
where
  /-- The master's own arrival; when it completes the barrier, CBAR completes at once. -/
  arriveSelf (who : Who) (bar : BitVec 8) (s : State) : State :=
    let m := arrivedMask bar.toNat s ||| 1
    if s.cas.known &&& ~~~m = 0 then
      let s := { s with
        cond := { s.cond with await := none }
        cas := { s.cas with barriers := s.cas.barriers.filter (fun b => b.bar ≠ bar.toNat) } }
      retOk who (w32 m.toNat) 0 (sendMsg { kind := 2, dest := 15, src := 0, m1 := w32 bar.toNat, m2 := w32 m.toNat } s)
    else arrive 0 bar.toNat s

/-- LATEST of a waiting CSEND or CBAR is reached (02 R55, 04 R148, R149). A member does not know who has arrived: beyond itself the
mask is a free value (log entry 7). -/
def latestReached (q : Seqr) (s : State) : State :=
  match q, s.cond.await with
  | .cond, some (.csend _ _ dest _ d) =>
    let s := reachElapsed d s
    match lacksCredit dest s with
    | some l => unblockCond stCREDIT_TIMEOUT (w32 (link l s).pos) 0 s
    | none => unblockCond stCREDIT_TIMEOUT (w32 dest) 0 s
  | .cond, some (.cbar bar d) =>
    let s := reachElapsed d s
    let fail (m : BitVec 8) (s : State) : State :=
      unblockCond stTIMEOUT (w32 m.toNat) (w32 (s.cas.known &&& ~~~m).toNat) s
    if isMaster s then fail (arrivedMask bar s) s
    else withDraw 256 s fun v s => fail ((BitVec.ofNat 8 v &&& s.cas.known) ||| BitVec.ofNat 8 (2 ^ ownPos s)) s
  | _, _ => s

/-! ## Training (16 R517, R518) -/

/-- Highest version this end offers. -/
def ownVersion (l : Fin 6) (s : State) : Nat := if isMate l then 1 else cpar 0x0B01 s

/-- Why a TRAIN block is unacceptable (16 R517, R538). -/
def trainRefused (l : Fin 6) (b : TrainBlk) (s : State) : Option Nat :=
  let ver := min (ownVersion l s) b.verHi.val
  if isMate l then (if b.verHi ≠ 1 || b.verLo ≠ 1 then some stVERSION else none)
  else if ver < b.verLo.val || ver < 1 then some stVERSION
  else if (isMaster s && b.master) || (b.pos = s.straps.caspos && !b.twinen && !s.straps.twinen) then some stREFUSED
  else if (b.twinen || s.straps.twinen) && ver = 1 then some stVERSION
  else none

/-- A fresh virtual channel with its grant. -/
def freshVc (g now : Nat) : Vc := { grant := g, a := g, progress := now }

/-- The link becomes Up: a new epoch, fresh credits and numbers (16 R517, R518). -/
def linkUp (l : Fin 6) (b : TrainBlk) (s : State) : State :=
  let ver := min (ownVersion l s) b.verHi.val
  let offer := min (cpar 0x0B02 s) b.grant.val
  let g := if ver = 1 then min offer 16 else offer
  let gd := if isMate l then 0 else g
  let now := s.time.elapsed
  let s := modLink l (fun x => { x with
    st := 2, since := now, epoch := (x.epoch + 1) % 256, ver := ver, delay := none, dreqAt := none
    vcs := ((((Vector.replicate 4 (freshVc g now)).set 1 (freshVc 4 now)).set 2 (freshVc gd now)).set 3 (freshVc gd now)) }) s
  recompute (notify 0x0B01 (linkSubj l) stOK (linkBlk l) s)

/-- TRAIN (16 R517). -/
def execTrain (l : Fin 6) (b : TrainBlk) (s : State) : Host.Outcome State Fault Refusal :=
  ok (if !linksRun s || !linkEnabled l s then s
      else
        let s := heardBlock l s
        if (link l s).st ≠ 1 then s
        else match trainRefused l b s with
          | some st =>
            notify 0x0B01 (linkSubj l) st (linkBlk l) (modLink l (fun x => x.restarted 5 s.time.elapsed) s)
          | none =>
            let s := modLink l (fun x => { x with
              good := x.good + 1, ackSeen := x.ackSeen || b.ack, pos := b.pos.val, master := b.master, twin := b.twinen
              role := b.role.val }) s
            if 16 ≤ (link l s).good && (link l s).ackSeen then linkUp l b s else s)

/-- CAS_TRAINING_TIMEOUT (16 R517): 10 ms. -/
def execCasTrainingTimeout (l : Fin 6) (s : State) : Host.Outcome State Fault Refusal :=
  ok (if linksRun s && (link l s).st = 1 then
        let s := reachElapsed ((link l s).since + 10000000) s
        modLink l (fun x => x.restarted 5 s.time.elapsed) s
      else s)

/-- CAS_TRAINING_RETRY (16 R517): every 100 ms. -/
def execCasTrainingRetry (l : Fin 6) (s : State) : Host.Outcome State Fault Refusal :=
  ok (if linksRun s && (link l s).st = 5 then
        let s := reachElapsed ((link l s).since + 100000000) s
        modLink l (fun x => x.restarted (if linkEnabled l s then 1 else 0) s.time.elapsed) s
      else s)

/-- CAS_LINK_DOWN (16 R516): no block for 10 us, or bad sync headers. -/
def execCasLinkDown (l : Fin 6) (s : State) : Host.Outcome State Fault Refusal :=
  ok (if s.time.coreOn && (link l s).trained then linkDown l stTIMEOUT s else s)

/-! ## STATUS (16 R514-R516, R538) -/

/-- STATUS (16 R515): routes are recomputed; a neighbour of a twin follows the chip that is active and resynchronises. -/
def execStatus (l : Fin 6) (b : StatusBlk) (s : State) : Host.Outcome State Fault Refusal :=
  ok (if !linksRun s || !(link l s).trained then s
      else
        let taken := (link l s).twin && (link l s).role ≠ 1 && b.role = 1 && !isMate l
        let s := modLink l (fun x => { x with
          pos := b.pos.val, hop := b.hop.val, role := b.role.val, master := b.master, gridRun := b.gridRun, tbQual := b.tbQual
          subtree := b.subtree, present := b.present, lastBlock := s.time.elapsed }) s
        let s := match (if taken then twinLink l s else none) with
          | some k => handSeries k l s
          | none => s
        let s := recompute s
        if taken then (List.finRange 4).foldl (fun s v => resyncBegin l v s) s else s)

/-- STATUS_SEND (16 R516). -/
def execStatusSend (l : Fin 6) (s : State) : Host.Outcome State Fault Refusal :=
  ok (if !linksRun s || !(link l s).trained then s
      else modLink l (fun x => { x with statusOut := some {
        pos := s.straps.caspos, hop := Fin.ofNat 16 s.cas.hop, role := Fin.ofNat 4 s.twin.role
        master := isMaster s, gridRun := s.grid.mode = 1, tbQual := s.time.qual, subtree := subtreeMask s, present := s.cas.present
        version := Fin.ofNat 16 x.ver } }) s)

/-! ## Credits and resynchronisation (16 R520-R523) -/

/-- A CREDIT block: credits that come back, and DELIVERED (16 R520, R524). -/
def creditBlock (l : Fin 6) (v : Fin 4) (cnt delivered : Nat) (s : State) : State :=
  if !linksRun s || !(link l s).trained then s
  else
    let x := vc l v s
    let k := min (diff16 cnt x.credSeen) x.sent
    let s := modVc l v (fun x => { x with
      credSeen := cnt, a := x.a + k, sent := x.sent - k, progress := if 0 < k then s.time.elapsed else x.progress })
      (heardBlock l s)
    csendWake (pump l v (retireCovered l v delivered s))

/-- CREDIT_SEND (16 R516): what has been freed is returned. -/
def execCreditSend (l : Fin 6) (v : Fin 4) (s : State) : Host.Outcome State Fault Refusal :=
  ok (if !linksRun s || !(link l s).trained then s
      else modVc l v (fun x => { x with freed := (x.freed + x.r) % 65536, r := 0 }) s)

/-- CREDIT_TIMEOUT (16 R521). -/
def execCreditTimeout (l : Fin 6) (v : Fin 4) (s : State) : Host.Outcome State Fault Refusal :=
  ok (let x := vc l v s
      if linksRun s && (link l s).trained && 0 < x.sent && !x.resync then
        resyncReport l v stCREDIT_TIMEOUT (reachElapsed (x.progress + cpar 0x0B0A s * 1000) s)
      else s)

/-- RESYNC_REQUEST (16 R523). -/
def execResyncRequest (l : Fin 6) (v : Fin 4) (s : State) : Host.Outcome State Fault Refusal :=
  ok (if linksRun s && (link l s).trained then
        resyncBegin l v (modVc l v (fun x => { x with b := 0, r := 0 }) (heardBlock l s))
      else s)

/-- A RESYNC reply: credits are restored, what DELIVERED covers is retired, the rest is sent again (16 R523, R524). -/
def resyncReplied (l : Fin 6) (v : Fin 4) (delivered grant : Nat) (s : State) : State :=
  if !linksRun s || !(vc l v s).resync then s
  else
    let s := modVc l v (fun x => { x with resync := false, tries := 0, grant := grant, a := grant, sent := 0,
                                          retained := x.retained.map (fun f => { f with left := 0 }) }) (heardBlock l s)
    let s := retireCovered l v delivered s
    let n := (vc l v s).retained.length
    let s := modVc l v (fun x => { x with retained := x.retained.map (fun f => { f with left := f.frames }) }) s
    csendWake (pump l v (bumpN 0x0B42 chip n s))

/-- RESYNC_REPLY_TIMEOUT (16 R523): the request again; after the third failure the link is retrained. -/
def execResyncReplyTimeout (l : Fin 6) (v : Fin 4) (s : State) : Host.Outcome State Fault Refusal :=
  ok (let x := vc l v s
      if !linksRun s || !x.resync then s
      else
        let s := reachElapsed (x.asked + 1000000) s
        if x.tries < 3 then modVc l v (fun x => { x with tries := x.tries + 1, asked := s.time.elapsed }) s
        else linkDown l stTIMEOUT s)

/-- LINK_FRAME_ERROR (16 R516): counted, the buffer freed; a resynchronisation on channels 0, 2 and 3. -/
def execLinkFrameError (l : Fin 6) (v : Fin 4) (s : State) : Host.Outcome State Fault Refusal :=
  ok (if !linksRun s || (link l s).st ≠ 2 then s
      else
        let s := bump 0x0B40 s
        if v = 1 then modVc l v (fun x => { x with r := x.r + 1 }) s else resyncBegin l v s)

/-! ## Items (16 R524-R527) -/

/-- CT.FWD_p: source queue and destination queue, when enabled. -/
def fwd (p : Nat) (s : State) : Option (Nat × Nat) :=
  let v := cpar (0x0B10 + p) s
  if v.testBit 31 then some (v % 1024, v / 1024 % 1024) else none

/-- Position p has an item to take for link l. -/
def fwdReady (l : Fin 6) (p : Nat) (s : State) : Bool :=
  p ≠ ownPos s && s.cas.known.getLsbD p && route p s = some l && (fwd p s).any (fun q => (popHead q.1 s).isSome)

/-- The position whose turn it is on a link's data channel. -/
def fwdTurn (l : Fin 6) (s : State) : Option Nat :=
  let t := (vc l (dataVc l s) s).turn
  ((List.range 8).map (fun k => (t + 1 + k) % 8)).find? (fun p => fwdReady l p s)

/-- CAS_ITEM_SEND (16 R524): the queue whose turn it is is popped, its item numbered, kept and sent as credits allow. -/
def execCasItemSend (l : Fin 6) (p : Fin 8) (s : State) : Host.Outcome State Fault Refusal :=
  ok (let v := dataVc l s
      let x := vc l v s
      if !linksRun s || isMate l || (link l s).st ≠ 2 || s.twin.role = 2 || x.resync || x.a = 0 || 16384 ≤ x.retained.length ||
         x.retained.any (fun f => 0 < f.left) || fwdTurn l s ≠ some p.val then s
      else match fwd p.val s with
        | none => s
        | some (q, dq) => match popHead q s with
          | none => s
          | some it =>
            let s := modVc l v (fun x => { x with turn := p.val }) (popItem q it s)
            (sendOn l v { item := some it, q := q, dest := p.val, destQ := dq } s).2)

/-- A cascade item is started, written and ended on a queue (16 R526, 11 R360, R362, R379). -/
def casItemIn (l : Fin 6) (q : Nat) (f : CasItemF) (s : State) : State :=
  if f.decl = 0 || 2047 < f.decl || f.decl < f.data.length then bump 0x0513 s
  else if s.qp.ledger.hold then s
  else if !poolGrantsStream (cellsFor f.decl) s then bump 0x0512 (bump 0x0511 s)
  else
    let (ref, s) := takeJob s
    let n := cellsFor f.data.length
    let (cs, s) := takeCells n s
    let s := { s with qp := { s.qp with ch := s.qp.ch + n, jh := s.qp.jh + 1 } }
    pushOrExc q { job := ref, written := true, len := f.data.length, decl := f.decl, secured := f.secured, phymode := f.phymode.toNat
                  port := 0x10 + l.val, index := f.index.toNat, data := f.data, chain := cs, info := f.info
                  lastData := s.time.elapsed } s

/-- CAS_ITEM (16 R526): a repeat is discarded; an item for this chip goes to its queue; another is forwarded. -/
def execCasItem (l : Fin 6) (v : Fin 4) (f : CasItemF) (s : State) : Host.Outcome State Fault Refusal :=
  ok (if !linksRun s || isMate l || (link l s).st ≠ 2 || v.val < 2 then s
      else
        let n := f.num.toNat
        let frames := frameCount f.data.length
        let s := heardBlock l s
        if covered n (vc l v s).delivered then bump 0x0B43 (modVc l v (fun x => { x with r := x.r + frames }) s)
        else
          let s := if f.dest.val = ownPos s then casItemIn l f.destQ.val f s
            else match fwd f.dest.val s with
              | some (q, _) => casItemIn l q f s
              | none => bump 0x0B44 s
          disposed l v n frames s)

/-! ## Messages (16 R532-R534) -/

/-- A program message is delivered to CT.MSG_QUEUE (16 R532). -/
def msgIn (m : CasMsg) (s : State) : State :=
  let q := cpar 0x0B0E s
  if 1024 ≤ q || ((queue q s).room = 0 && q ≠ cpar 0x0500 s) then bump 0x0B48 s
  else
    let t := nowT s
    let data := leOctets 1 m.src.val ++ leOctets 1 m.kind.toNat ++ leOctets 1 m.dest.val ++ leOctets 1 0 ++ leOctets 4 m.num.toNat ++
      wordOctets m.w1 ++ wordOctets m.w2 ++ leOctets 4 t.sec.toNat ++ leOctets 4 t.ns.toNat ++ leOctets 8 0
    match createItem { data := data } s with
    | (some it, s) => pushOrExc q it s
    | (none, s) => bump 0x0B48 s

/-- CAS_MESSAGE (16 R532): delivered here, passed on, or both for a broadcast. What a device message (kinds 0x01-0x04) does here is
its own row. -/
def execCasMessage (l : Fin 6) (m : CasMsg) (s : State) : Host.Outcome State Fault Refusal :=
  ok (if !linksRun s || isMate l || (link l s).st ≠ 2 then s
      else
        let n := m.num.toNat
        let s := heardBlock l s
        if covered n (vc l 0 s).delivered then bump 0x0B43 (modVc l 0 (fun x => { x with r := x.r + 1 }) s)
        else
          let s := disposed l 0 n 1 s
          let s := if m.dest.val ≠ ownPos s then
              ((msgLinks m.dest.val s).filter (· ≠ l)).foldl (fun s k =>
                (sendOn k 0 { kind := m.kind.toNat, dest := m.dest.val, src := m.src.val, m1 := m.w1, m2 := m.w2, more := m.more } s).2) s
            else s
          if 0x80 ≤ m.kind.toNat && (m.dest.val = ownPos s || m.dest = 15) then msgIn m s else s)

/-- BARRIER_FORGET (16 R533): the oldest arrival at the barrier is forgotten 1 s after it came. -/
def execBarrierForget (bar : BitVec 8) (s : State) : Host.Outcome State Fault Refusal :=
  ok (match s.cas.barriers.find? (fun b => b.bar = bar.toNat) with
      | some b =>
        let s := reachElapsed (b.at_ + 1000000000) s
        { s with cas := { s.cas with barriers := dropFirst (fun b => b.bar = bar.toNat) s.cas.barriers } }
      | none => s)

/-- A member's arrival reaches the master (16 R533). -/
def barrierArrived (pos : Fin 8) (bar : BitVec 8) (s : State) : State :=
  if linksRun s && isMaster s then arrive pos.val bar.toNat s else s

/-- An announcement reaches a member (16 R533). -/
def barrierAnnounced (bar mask : BitVec 8) (s : State) : State := if linksRun s then cbarDone bar.toNat mask s else s

/-- A position has been missing from the present mask for CT.LINK_TIMEOUT (16 R515); barriers no longer await it (R533). -/
def positionAbsent (p : Fin 8) (s : State) : State :=
  match s.cas.lostAt[p] with
  | some t =>
    if linksRun s && s.cas.known.getLsbD p.val then
      let s := reachElapsed (t + cpar 0x0B0B s * 1000000) s
      let s := { s with cas := { s.cas with known := s.cas.known &&& ~~~ BitVec.ofNat 8 (2 ^ p.val), lostAt := s.cas.lostAt.set p none } }
      let s := notify 0x0B02 p.val stTIMEOUT (blkCas 0) s
      if isMaster s then ((s.cas.barriers.map (·.bar)).eraseDups).foldl announce s else s
    else s
  | none => s

/-- CT.RELAY_GO (16 R534). -/
def relayGo (w : World) (pos cnt : Nat) (s : State) : PRes :=
  if cnt = 0 then pRange s
  else if pos = ownPos s || !s.cas.known.getLsbD pos then pRef 0xC0 s
  else if s.cas.relay.isSome then pRef 0xC6 s
  else match route pos s with
    | some l =>
      if (link l s).ver = 1 then (stVERSION, 0, s)
      else
        let words := (List.range (2 * cnt)).map (fun k => par (0x0B19 + k) chip s)
        pOk (sendMsg { kind := 3, dest := pos, src := ownPos s, m1 := w32 cnt, m2 := if w = .operator then 0 else 1, more := words }
          { s with cas := { s.cas with relay := some { pos := pos, world := w, at_ := s.time.elapsed } } })
    | none => pRef 0xC0 s

/-- The outstanding relay ends with its result in CT.RELAY_RES0-3; notice 0x0B05 (16 R534). -/
def relayEnds (executed w0 w1 w2 : Word) (s : State) : State :=
  match s.cas.relay with
  | some r =>
    let s := { s with cas := { s.cas with relay := none, relayRes := #v[executed, w0, w1, w2] } }
    notify 0x0B05 r.pos w0.toNat (blkCas 0) s
  | none => s

/-- RELAY_RESULT (16 R534). -/
def execRelayResult (executed w0 w1 w2 : Word) (s : State) : Host.Outcome State Fault Refusal :=
  ok (if linksRun s then relayEnds executed w0 w1 w2 s else s)

/-- RELAY_TIMEOUT (16 R534): COND.CMD_LIMIT plus 10 ms without a result. -/
def execRelayTimeout (s : State) : Host.Outcome State Fault Refusal :=
  ok (match s.cas.relay with
      | some r => if linksRun s then
          relayEnds 0 (w32 stTIMEOUT) 0 0 (reachElapsed (r.at_ + cpar 0x0001 s * 1000 + 10000000) s) else s
      | none => s)

/-! ## Link delay (16 R528) -/

/-- LINK_DELAY_MEASURE (16 R528): DREQ leaves. -/
def execLinkDelayMeasure (l : Fin 6) (s : State) : Host.Outcome State Fault Refusal :=
  ok (if linksRun s && (link l s).st = 2 then modLink l (fun x => { x with dreqAt := some (tbNs s) }) s else s)

/-- DREQ (16 R528): answered with its arrival and the instant the answer leaves. -/
def execDreq (l : Fin 6) (t2 : Nat) (s : State) : Host.Outcome State Fault Refusal :=
  ok (if linksRun s && (link l s).st = 2 then
        modLink l (fun x => { x with drespOut := some (t2, tbNs s), lastBlock := s.time.elapsed }) s
      else s)

/-- Asymmetry of a link, in ns. -/
def asym (l : Fin 6) (s : State) : Int := (par (if isMate l then 0x0B36 else 0x0B04 + l.val) chip s).toInt

/-- DRESP (16 R528): d = ((t4 - t1) - (t3 - t2)) / 2 + asymmetry. -/
def execDresp (l : Fin 6) (t2 t3 t4 : Nat) (s : State) : Host.Outcome State Fault Refusal :=
  ok (match (link l s).dreqAt with
      | some t1 =>
        if linksRun s && (link l s).st = 2 then
          let d := roundDiv (((t4 : Int) - t1) - ((t3 : Int) - t2)) 2 + asym l s
          modLink l (fun x => { x with delay := some d, dreqAt := none, lastBlock := s.time.elapsed }) s
        else s
      | none => s)

/-! ## Time from the master (16 R529, R530) -/

/-- This chip takes its time from TIME frames of link l. -/
def followsTime (l : Fin 6) (s : State) : Bool :=
  if isMate l then s.twin.role = 2 else s.time.disc = 2 && upLink s = some l && s.twin.role ≠ 2

/-- The cycle of the frames, in ns. -/
def timeCycle (s : State) : Nat := max 1 s.grid.len

/-- The first frame after enabling aligns the member (16 R530): by the step allowance, or by a re-epoch, or not at all. -/
def alignTime (e : Int) (s : State) : State :=
  let new := ((tbNs s : Int) - e).toNat
  let done (s : State) : State := { s with cas := { s.cas with aligned := true, alignTold := false } }
  if e = 0 then done s
  else if !s.time.stepUsed && !s.time.sealed_ then done (useStep (stepTb new false s))
  else if !anyRunning s && !airArmed s then done (stepTb new true s)
  else
    let s := if s.cas.alignTold then s else notify 0x0B04 0 stSTEP_SEALED (blkCas 0) s
    { s with cas := { s.cas with aligned := true, alignTold := true } }

/-- The member's grid follows the frame's (16 R530). -/
def followGrid (f : TimeFr) (s : State) : State :=
  if s.grid.mode = 0 then
    if f.gridRun then
      let len := f.slotLen * 1000
      setPar 0x0201 chip (w32 f.slotLen) { s with grid := { s.grid with
        mode := 1, fallen := true, len := len, asn := f.asn, bound := f.boundary, nextAt := f.boundary + len, nextAsn := f.asn + 1 } }
    else s
  else
    let same := f.gridRun && f.slotLen * 1000 = s.grid.len &&
      ((f.asn = s.grid.asn && s.grid.fallen) || (f.asn = s.grid.nextAsn && f.boundary = s.grid.nextAt))
    if same then s else notify 0x0B04 0 stRANGE (blkCas 0) (slotsFail (haltGrid s))

/-- The accepted frame's part in the servo (16 R529, 05 R165, R166). -/
def timeServo (arr : Nat) (e : Int) (s : State) : State :=
  let c := s.cas
  let cyc := timeCycle s
  let l := c.tLast.getD arr
  let n := (arr - l + cyc / 2) / cyc
  let recordOnly := c.tFirst || c.tAfterMiss || c.tLast.isNone || n ≠ 1
  let ends := s.time.holdover && 1 ≤ c.tRecover
  let f : Int := truncDiv (((arr : Int) - l - cyc) * 1000000000) cyc
  let s := { s with
    cas := { c with tLast := some arr, tFirst := false, tMissed := 0, tAfterMiss := false
                    tRecover := if s.time.holdover then c.tRecover + 1 else 0 }
    time := { s.time with holdover := s.time.holdover && !ends } }
  if recordOnly then s else servo f (truncDiv (e * 1000000000) (max 1 (cpar 0x0B08 s * cyc))) s

/-- A TIME frame's capture is accepted (16 R529, 05 R165). -/
def timeAccepts (arr : Nat) (s : State) : Bool :=
  match s.cas.tLast with
  | none => true
  | some l =>
    let cyc := timeCycle s
    let n := (arr - l + cyc / 2) / cyc
    s.cas.tFirst || (0 < n && |(arr : Int) - l - (n * cyc : Nat)| ≤ (n * cpar 0x0B09 s : Nat))

/-- A TIME frame (16 R528-R530). -/
def timeFrame (l : Fin 6) (f : TimeFr) (s : State) : State :=
  if !linksRun s || (link l s).st ≠ 2 then s
  else
    let s := modVc l (if isMate l then 0 else 1) (fun x => { x with r := x.r + 1 }) (heardBlock l s)
    match (link l s).delay with
    | none => s
    | some d =>
      if !followsTime l s then s
      else
        let e : Int := (f.tArr : Int) - f.tDep - d
        if !s.cas.aligned then
          let s := alignTime e s
          followGrid f { s with cas := { s.cas with tLast := some ((f.tArr : Int) - e).toNat, tFirst := false, tMissed := 0 } }
        else if timeAccepts f.tArr s then followGrid f (timeServo f.tArr e s)
        else bump 0x0B45 s

/-- TIME_FRAME_MISSED (16 R529, 05 R168): no frame accepted by the end of its tolerance. -/
def execTimeFrameMissed (s : State) : Host.Outcome State Fault Refusal :=
  ok (match s.cas.tLast with
      | some l =>
        let n := s.cas.tMissed + 1
        let d := l + n * timeCycle s + n * cpar 0x0B09 s
        if linksRun s && (s.time.disc = 2 || s.twin.role = 2) && !s.cas.tFirst && tbCanReach d s then
          let s := reachTb d s
          let s := { s with cas := { s.cas with tMissed := n, tAfterMiss := true, tRecover := 0 } }
          if n < 3 then setRate s.time.rFreq s else if n = 3 then enterHoldover 2 s else s
        else s
      | none => s)

end Sys2Proof.Machine
end

