-- ==== Sys2Proof/Machine/Twin.lean ====
section
/-! DEFINITION. The twin's instructions and events: MIRROR, ROLE, heartbeats, claims, takeover, mirrored inputs and full sync
(04 R150, R151, 16 R535-R547). -/

namespace Sys2Proof.Machine

/-! ## MIRROR and ROLE -/

/-- MIRROR_STATUS (04 R150). -/
def execMirrorStatus (who : Who) (c : Cond) (wd : Fin 16) (s : State) : Host.Outcome State Fault Refusal :=
  ok (issue who c 0x92 .condOnly (fun s =>
    retOk who (w32 s.twin.comparedAsn) (w32 s.twin.matched) (setW who wd (w32 s.twin.mirror) s)) s)

/-- MIRROR_DIGEST (04 R150). -/
def execMirrorDigest (who : Who) (c : Cond) (wd : Fin 16) (s : State) : Host.Outcome State Fault Refusal :=
  ok (issue who c 0x92 .condOnly (fun s =>
    retOk who (s.twin.digest.extractLsb' 32 32) 0 (setW who wd (s.twin.digest.extractLsb' 0 32) s)) s)

/-- MIRROR_SYNC (04 R150, 16 R539): a full sync starts. -/
def execMirrorSync (who : Who) (c : Cond) (_wd : Fin 16) (s : State) : Host.Outcome State Fault Refusal :=
  ok (issue who c 0x92 .condOnly (fun s =>
    if s.twin.role ≠ 1 then retRefused who 0xC2 s
    else if pendFull who s then retRefused who 0x40 s
    else
      let t := nextTicket who s
      let s := startPending who 0x92 s
      beginSync { s with twin := { s.twin with syncTicket := s.twin.syncTicket ++ [(worldOf who s, t)] } }) s)

/-- ROLE_READ (04 R151). -/
def execRoleRead (who : Who) (c : Cond) (wd : Fin 16) (s : State) : Host.Outcome State Fault Refusal :=
  ok (issue who c 0x93 .custodian (fun s => retOk who 0 0 (setW who wd (w32 s.twin.role) s)) s)

/-- ROLE_YIELD (04 R151, 16 R546). -/
def execRoleYield (who : Who) (c : Cond) (_wd : Fin 16) (s : State) : Host.Outcome State Fault Refusal :=
  ok (issueB who c 0x93 .custodian (fun s =>
    if s.twin.role ≠ 1 then retRefused who 0xC4 s
    else if s.twin.mirror ≠ 2 || s.twin.diverged then retRefused who 0xC3 s
    else block who (.yield (s.time.elapsed + s.grid.len + 1000000)) s) s)

/-- ROLE_WITHDRAW (04 R151). -/
def execRoleWithdraw (who : Who) (c : Cond) (_wd : Fin 16) (s : State) : Host.Outcome State Fault Refusal :=
  ok (issue who c 0x93 .custodian (fun s => retOk who 0 0 (withdraw s)) s)

/-- The frozen sequencers of a yield go on; a boundary has passed. -/
def unfreeze (s : State) : State := slotsPassed { s with pw := { s.pw with frozen := false } }

/-- A yield is not confirmed in one cycle plus 1 ms: roles unchanged (04 R151). -/
def yieldTimedOut (s : State) : State :=
  match s.cond.await with
  | some (.yield d) =>
    let s := reachElapsed d s
    let s := { s with twin := { s.twin with yieldAt := none, roleOut := s.twin.role = 1 && !s.twin.roleIn } }
    unblockCond stTIMEOUT 0 0 (unfreeze s)
  | _ => s

/-- The standby confirms the role: the former active becomes standby with its own state at the end of the cycle (16 R546). -/
def yieldConfirmed (s : State) : State :=
  match s.cond.await, s.twin.yieldAt with
  | some (.yield _), some a =>
    let s := { s with twin := { s.twin with role := 2, yieldAt := none, roleOut := false, mirror := 2, start := some (regionsOf s) } }
    unblockCond stOK (w32 a) 0 (recompute (unfreeze s))
  | _, _ => s

/-! ## CT.ACTIVATE and claims (16 R537) -/

/-- The partner's heartbeat shows it active. -/
def peerActive (s : State) : Bool := s.twin.peerRole = 1 && !s.twin.hbSilent

/-- CT.ACTIVATE = 1 (16 R537): the claim's draw is a free value (log entry 7). -/
def activate (s : State) : PRes :=
  if s.twin.role ≠ 2 || s.twin.roleIn || s.time.elapsed < s.twin.roleInAt + cpar 0x0B31 s * 1000 || peerActive s then pRef 0xC8 s
  else pOk (withDraw 4294967296 s fun v s =>
    { s with twin := { s.twin with claim := some v, claimAt := s.time.elapsed, peerClaim := none } })

/-- CLAIM_RESOLUTION (16 R537): 300 us after the claim. -/
def execClaimResolution (s : State) : Host.Outcome State Fault Refusal :=
  ok (match s.twin.claim with
      | some d =>
        if !linksRun s || s.twin.role ≠ 2 then s
        else
          let s := reachElapsed (s.twin.claimAt + 300000) s
          match s.twin.peerClaim with
          | some p =>
            if d < p then notify 0x0B08 2 stOK (blkMate 0) { s with twin := { s.twin with claim := none } }
            else if d = p then withDraw 4294967296 s fun v s =>
              { s with twin := { s.twin with claim := some v, claimAt := s.time.elapsed, peerClaim := none } }
            else becomeActive s.twin.wasActive s
          | none => becomeActive s.twin.wasActive s
      | none => s)

/-! ## Heartbeats and pins (16 R535, R538, R544, R547) -/

/-- The mate lane of number 0 or 1. -/
def mate (k : Fin 2) : Fin 6 := ⟨4 + k.val, by omega⟩

/-- HEARTBEAT_SEND (16 R538). -/
def execHeartbeatSend (s : State) : Host.Outcome State Fault Refusal :=
  ok (if s.time.coreOn && (link 4 s).trained || s.time.coreOn && (link 5 s).trained then
        { s with twin := { s.twin with hbOut := some {
            role := Fin.ofNat 4 s.twin.role, mirror := Fin.ofNat 8 s.twin.mirror, activeAsn := BitVec.ofNat 32 s.twin.activeAsn
            lastCycle := BitVec.ofNat 32 s.twin.comparedAsn, lastOk := s.twin.lastOk, fault := s.health.chipFault ≠ 0
            claim := s.twin.claim.map (BitVec.ofNat 32) } } }
      else s)

/-- Two chips find each other active: the later one, or the lower draw, withdraws (16 R547). -/
def bothActive (h : Hb) (s : State) : State :=
  if s.twin.role = 1 && h.role = 1 && s.twin.yieldAt.isNone then
    let own := s.twin.activeAsn % 4294967296
    let mine := s.twin.claim.getD 0
    let theirs := (h.claim.map (·.toNat)).getD 0
    if h.activeAsn.toNat < own || (h.activeAsn.toNat = own && mine < theirs) then withdraw s else s
  else s

/-- An active learns the result of a comparison from its standby's heartbeat (16 R538, R543). -/
def learnResult (h : Hb) (s : State) : State :=
  if s.twin.role ≠ 1 || h.role ≠ 2 || (s.twin.mirror ≠ 1 && s.twin.mirror ≠ 2) || h.mirror.val < 2 ||
     h.lastCycle.toNat = s.twin.comparedAsn % 4294967296 then s
  else if h.lastOk then compareMatched h.lastCycle.toNat s.twin.own s
  else { diverge (if s.twin.ownLedger then 1 else 3) s with twin.comparedAsn := h.lastCycle.toNat }

/-- A heartbeat (16 R538). -/
def heartbeat (k : Fin 2) (h : Hb) (s : State) : State :=
  if !linksRun s || !(link (mate k) s).trained then s
  else
    let fresh := s.twin.role = 1 && h.role = 2 && s.twin.mirror ≠ 1 && s.twin.mirror ≠ 2 && !s.twin.diverged
    let s := heardBlock (mate k) s
    let s := modVc (mate k) 0 (fun x => { x with r := x.r + 1 }) s
    let s := { s with twin := { s.twin with
      hbAt := s.twin.hbAt.set k s.time.elapsed, hbSilent := false, peerRole := h.role.val, peerMirror := h.mirror.val
      peerAsn := h.activeAsn.toNat, peerFault := h.fault, peerClaim := h.claim.map (·.toNat), syncDue := s.twin.syncDue || fresh } }
    let s := if h.role = 1 && s.twin.yieldAt.isSome then yieldConfirmed s else bothActive h s
    let s := learnResult h s
    if s.twin.role = 2 && h.role = 1 && !s.twin.roleIn && s.twin.roleInAt + cpar 0x0B31 s * 1000 ≤ s.time.elapsed then
      notify 0x0B0A 0 stRANGE (blkMate k.val) s
    else s

/-- The position is lost to the twin: notice 0x0B07, once for a loss (16 R544). -/
def reportLost (s : State) : State :=
  if s.twin.lostTold then s
  else notify 0x0B07 0 stOK (blkMate 0) { s with twin := { s.twin with lostTold := true } }

/-- HEARTBEAT_TIMEOUT (16 R544): both lanes silent for CT.HB_TIMEOUT. -/
def execHeartbeatTimeout (s : State) : Host.Outcome State Fault Refusal :=
  ok (if !linksRun s || (s.twin.role ≠ 1 && s.twin.role ≠ 2) || s.twin.hbSilent then s
      else
        let s := reachElapsed (max s.twin.hbAt[0] s.twin.hbAt[1] + cpar 0x0B30 s * 1000) s
        let s := { s with twin := { s.twin with hbSilent := true } }
        if s.twin.role = 1 then { s with twin := { s.twin with mirror := 4 } }
        else if s.twin.roleIn then reportLost { s with twin := { s.twin with mirror := 4 } }
        else if s.twin.mirror ≠ 2 then reportLost s
        else s)

/-- ROLE_IN_CHANGE (16 R535). -/
def execRoleInChange (high : Bool) (s : State) : Host.Outcome State Fault Refusal :=
  ok (if !s.straps.twinen || !bankOn 3 s || s.twin.roleIn = high then s
      else { s with twin := { s.twin with
        roleIn := high, roleInAt := s.time.elapsed
        roleOut := !high && s.twin.role = 1 && s.twin.yieldAt.isNone && s.health.chipFault = 0 } })

/-- The witnesses agree that the partner is gone (16 R545): a mirrored standby takes over, another reports the loss. -/
def takeoverDue (s : State) : State :=
  if !linksRun s || s.twin.role ≠ 2 || s.twin.roleIn || !(s.twin.peerFault || s.twin.peerRole = 3 || s.twin.hbSilent) then s
  else
    let s := reachElapsed (s.twin.roleInAt + cpar 0x0B31 s * 1000) s
    if s.twin.mirror = 2 then takeover true s else reportLost s

/-! ## Mirroring (16 R540-R543) -/

/-- A mirrored write of mirror staging: 512 KiB of it (01 Table AR-7). -/
def stageWrite (n : Nat) (body : State → State) (s : State) : State :=
  if 524288 < s.twin.staged + n then diverge 2 s else body { s with twin := { s.twin with staged := s.twin.staged + n } }

/-- A mirrored input's own effect (16 Table CT-7). Inputs that arrive as commands of their own have none here; a draw of the
active's generator is a free value here as there (log entry 28). -/
def mirrorEffect (m : MirIn) (s : State) : State :=
  match m with
  | .radio | .cascade | .lane | .fault | .draw _ => s
  | .host => { s with twin := { s.twin with mirNext := true } }
  | .krevoke k =>
    let x := slot k.val s
    let s := revokeEntries (fun e => e.slot = k.val && e.pgen = x.gen) s
    modSlot k.val (fun k => { k with key := 0, gen := nextGen k.gen, occ := false, rev := true }) s
  | .kzero k => kzeroOp k.val s
  | .kzeroAll => kzeroAllOp s
  | .cntset idx inbound v =>
    modRoster idx.toNat (fun r => if inbound then { r with inl := max r.inl v.toNat, dvalid := false }
                                  else { r with outcnt := max r.outcnt v.toNat }) s
  | .entryWrite p key dist result static =>
    stageWrite 16 (setEntry p { key := key, result := result, valid := true, dist := dist, static := static }) s
  | .entryClear p => stageWrite 16 (setEntry p {}) s

/-- MIRROR_INPUT (16 R541): taken in order, once. -/
def execMirrorInput (order : Nat) (m : MirIn) (s : State) : Host.Outcome State Fault Refusal :=
  ok (if !linksRun s || s.twin.role ≠ 2 || (s.twin.mirror ≠ 1 && s.twin.mirror ≠ 2) || order ≠ s.twin.order then s
      else mirrorEffect m { s with twin := { s.twin with order := order + 1 } })

/-- The standby compares its digest with the end marker's, commits or diverges, and takes over at a yield (16 R543, R546). -/
def endMarker (m : EndMark) (s : State) : State :=
  if !linksRun s || s.twin.role ≠ 2 || (s.twin.mirror ≠ 1 && s.twin.mirror ≠ 2) then s
  else match s.twin.cycle with
    | none => s
    | some r =>
      let s := { s with twin := { s.twin with comparedAsn := m.asn } }
      if !m.ledgerOk || !s.twin.ownLedger then diverge 3 s
      else if m.lost || m.digest ≠ s.twin.own then diverge 1 s
      else
        let s := compareMatched m.asn m.digest { s with twin := { s.twin with start := some r, cycle := none, staged := 0 } }
        if m.yielding then takeover false s else s

/-- The calibrations of a full sync (16 R539 step 4). -/
def syncCal (s : State) (n : Fin 12) : State :=
  let x := slice n s
  if x.calOk || x.cal.isSome || x.tuned.isNone || x.offline then s
  else startCal n (if isExt n then 12 else 15) none s

/-- FULL_SYNC_START (16 R539). -/
def execFullSyncStart (s : State) : Host.Outcome State Fault Refusal :=
  ok (if !linksRun s || !((link 4 s).trained || (link 5 s).trained) then s
      else if s.twin.role = 1 && s.twin.peerRole = 2 then beginSync s
      else if s.twin.role = 2 then
        sliceIdx.foldl syncCal { beginSync s with cas := { s.cas with aligned := false, tFirst := true } }
      else s)

/-- A full sync fails: no matching comparison within CT.SYNC_TIMEOUT, though it has diverged or lost its partner since (16 R539). -/
def fullSyncTimedOut (s : State) : State :=
  match s.twin.syncAt with
  | some t =>
    if !linksRun s then s
    else
      let s := reachElapsed (t + cpar 0x0B33 s * 1000000000) s
      let s := { s with twin := { s.twin with syncAt := none } }
      let s := if s.twin.mirror = 1 then { s with twin := { s.twin with mirror := 3, cycle := none } } else s
      notify 0x0B09 0 stTIMEOUT (blkMate 0) (endSyncTickets stTIMEOUT s)
  | none => s

end Sys2Proof.Machine
end

