-- ==== Sys2Proof/Machine/PowerOps.lean ====
section
/-! DEFINITION. Sleep, wake, degraded service, resets of the core domain and the backup domain's integrity check
(04 R144-R147, 14 R446-R477). -/

namespace Sys2Proof.Machine

/-! ## Clocks and the reference -/

/-- The reference is started; TIME.REF_KIND is read at the first start (05 R186). -/
def startRef (s : State) : State :=
  { s with time := { s.time with refStarted := true, refKind := some (s.time.refKind.getD (cpar 0x0830 s)) } }

/-- The reference was started as the kind that is fitted; a wrong kind leaves it unqualified (05 R186). -/
def refKindRight (s : State) : Bool := s.time.refKind = some (bitAt s.straps.tcxo 0)

/-- CLKSEL 1 on the conductor's behalf or its own: the PLL's lock time is a free value of at most 200 us, or it does not lock and
the core stays on the RC (04 R147, log entry 7). -/
def clkPll (s : State) (k : Option Nat → State → State) : State :=
  withDraw 200002 s fun v s =>
    if v ≤ 200000 then
      let s := reachElapsed (s.time.elapsed + v) s
      k (some v) { s with pw := { s.pw with pll := true } }
    else k none (reachElapsed (s.time.elapsed + 200000) s)

/-- Degraded service begins (14 R462); in it, a reference that was qualified is disqualified all the same (05 R156). -/
def degradedEnter (s : State) : State :=
  if s.pw.degraded then
    if s.time.refQual then disqualifyRef { s with time := { s.time with refStarted := false } } else s
  else
    let s := { s with pw := { s.pw with pll := false, degraded := true } }
    let s := disqualifyRef { s with time := { s.time with refStarted := false } }
    let s := sliceIdx.foldl (fun s n => stopAir n 0xB6 true s) s
    notify 0x0903 1 stWAKE_FAIL_OSC blkPower (linksDown stREFUSED s)

/-- Degraded service ends at the first qualification of the reference (14 R462). -/
def degradedLeave (s : State) : State :=
  if !s.pw.degraded then s
  else
    let s := startLinks { s with pw := { s.pw with degraded := false } }
    if s.pw.mode = 3 || s.pw.mode = 4 then clkPll s fun _ s => notify 0x0903 0 stOK blkPower s else s

/-- A wake or a move has ended with the reference qualified and the regulator in normal mode: both indications and the count of
failed wakes are cleared (14 R461, R463). -/
def wakeCleared (s : State) : State := { s with pw := { s.pw with wakeReg := false, wakeOsc := false, fails := 0 } }

/-! ## Going to sleep (04 R145, 14 R451) -/

/-- An air action is armed within 2 ms or in progress: reason 1; a calibration runs, or waits and so counts as
running (04 R122): reason 4. A slice that is Off is skipped. -/
def sliceRefuses (n : Fin 12) (s : State) : Option Nat :=
  let x := slice n s
  let soon := tbNs s + 2000000
  if x.off then none
  else if x.win.any (fun w => w.opened || w.openAt ≤ soon) || x.txf.any (fun a => a.ts ≤ soon) || x.tx.any (fun t => !t.aired) ||
      x.enhAcks.any (fun a => !a.lost) || x.ackWait.isSome || s.radio.lanes.toList.any (receives n) then some 1
  else if x.cal.isSome then some 4
  else none

/-- A link has credits that have not come back or been returned: reason 2; a mirror that is not acknowledged: reason 5. -/
def linkRefuses (l : Fin 6) (s : State) : Option Nat :=
  if !(link l s).trained then none
  else if isMate l && ((s.twin.role = 1 && s.twin.mirror = 2 && s.twin.comparedAsn % 4294967296 + 1 ≠ s.grid.asn % 4294967296) ||
      (s.twin.role = 2 && s.twin.cycle.isSome)) then some 5
  else if (link l s).vcs.toList.any (fun v => 0 < v.sent || 0 < v.r) then some 2
  else none

/-- The first block that refuses, in the order of Table FD-23: its ID and reason. The shared pipeline and the core clock
never refuse between commands; the host PHY is checked by REST itself. -/
def firstRefusal (s : State) : Option (Nat × Nat) :=
  match (sliceIdx.filterMap (fun n => (sliceRefuses n s).map (fun r => (n.val, r)))) ++
        (linkIdx.filterMap (fun l => (linkRefuses l s).map (fun r => (if isMate l then 0x28 + (l.val - 4) else 0x20 + l.val, r)))) with
  | [] => none
  | p :: _ => some p

/-- Is a slotframe's offset marked at an ASN, a pending bank switch taken into account from its switch ASN (14 R457)? -/
def markedAt (asn : Nat) (s : State) : Bool :=
  (List.range 8).any (fun sf => activityBit sf asn (switchQuiet asn s sf))
where
  /-- The bank that will be active at the ASN. -/
  switchQuiet (asn : Nat) (s : State) (sf : Nat) : State :=
    let st := (schedWord (8 * sf) s).toNat
    let sw := (schedWord (8 * sf + 5) s).toNat
    let swAsn := (schedWord (8 * sf + 6) s).toNat + (schedWord (8 * sf + 7) s).toNat % 256 * 4294967296
    if sw / 256 % 256 ≠ st / 256 % 256 && swAsn ≤ asn && sfBankLen sf (sw % 2) s ≠ 0 then
      { s with schedMem := Tbl.set 0 s.schedMem (8 * sf) (w32 (st / 2 * 2 + sw % 2)) }
    else s

/-- The first marked ASN of up to n from a on. -/
def findMarked (s : State) : Nat → Nat → Option Nat
  | 0, _ => none
  | n + 1, a => if markedAt a s then some a else findMarked s n (a + 1)

/-- Boundaries that the timebase has passed without the core: the ASN follows, every bank switch that is due is made, and the grid
stops at the last ASN (06 R199, R203, 14 R454, R455). -/
def gridCatchUp (s : State) : State :=
  let g := s.grid
  if g.mode = 1 && g.nextAt ≤ tbNs s then
    let k := min ((tbNs s - g.nextAt) / max 1 g.len + 1) (0xFFFFFFFFFF + 1 - g.nextAsn)
    let asn := g.nextAsn + (k - 1)
    gridEnd ((List.range 8).foldl (switchBank asn) { s with
      grid := { g with asn := asn, bound := g.nextAt + (k - 1) * g.len, nextAt := g.nextAt + k * g.len, nextAsn := g.nextAsn + k
                       fallen := true } })
  else s

/-- The always-on wake timer of Doze is set from a boundary on (14 R457). -/
def setTimer (from_ : Nat) (s : State) : State :=
  let g := s.grid
  let at_ (a : Nat) : Nat := g.nextAt + (a - g.nextAsn) * g.len
  if g.mode ≠ 1 then { s with pw := { s.pw with timerAt := none, timerSlot := none } }
  else match findMarked s 65536 from_ with
    | some a => { s with pw := { s.pw with timerAt := some (at_ a - cpar 0x0902 s * 1000), timerSlot := some (a, at_ a) } }
    | none => { s with pw := { s.pw with timerAt := some (at_ (from_ + 65535) - cpar 0x0902 s * 1000), timerSlot := none } }

/-- The die is hot: the regulator goes to, or stays in, normal mode for the rest of the sleep (14 R465). -/
def hotDie (s : State) : State :=
  if (8 * cpar 0x0905 s : Nat) ≤ s.pw.dieTemp && !s.pw.lpHot then
    bump 0x0924 { s with pw := { s.pw with lpHot := true, lowPower := false
                                           due := s.pw.due ++ [(0x0904, (w32 (s.pw.dieTemp / 8).toNat).toNat, stOK)] } }
  else s

/-- The core clock stops (04 R145, 14 R453-R456): Retain, Doze or Backup. The timebase is unqualified from here to the
qualification of a wake, and is carried at the increment it has (05 R155, 14 R454). Each return to sleep of a Doze begins a new
sleep for the die's temperature (log entry 121; 01 R30, 14 R465). -/
def coreStops (s : State) : State :=
  let s := linksDown stREFUSED s
  let s := setPpsOut false s
  let s := (List.finRange 2).foldl (fun s n => modTrig n (fun t => { t with active := false }) s) s
  let s := sliceIdx.foldl (fun s n => modSlice n (fun x => { x with off := true, locked := false, moving := false }) s) s
  let m := if s.pw.slotAwake then 2 else s.pw.armedMode
  let s := { s with
    pw := { s.pw with mode := m, armedMode := 7, entering := false, frozen := true, asleep := true, slotAwake := false, wake := none
                      pll := false, lpHot := false, lowPower := m ≠ 0
                      asserted := if m = 0 then 0 else s.pw.asserted }
    host := { s.host with pcieUp := false }
    time := { s.time with coreOn := false, refQual := false, tbPll := false, qual := false, rcIncr := tbIncr s, refStarted := false
                          counting := s.time.counting && m ≠ 0 } }
  if m = 0 then s
  else
    let s := hotDie s
    if m = 2 then setTimer s.grid.nextAsn s else { s with pw := { s.pw with timerAt := none, timerSlot := none } }

/-- A sleep that is being entered has reached its last step by the time anything happens that only a sleeping chip meets. -/
def settleSleep (s : State) : State := if s.pw.entering then coreStops s else s

/-! ## Waking (14 R452, R458-R463) -/

/-- Notices that waited for the core to run. -/
def postDue (s : State) : State :=
  let d := s.pw.due
  let s := { s with pw := { s.pw with due := [] } }
  let s := d.foldl (fun s x => notify x.1 x.2.1 x.2.2 (if x.1 / 256 = 8 || x.1 / 256 = 2 then blkTime else blkPower) s) s
  let t := s.sec.tampNotes
  t.foldl (fun s i => notify 0x0701 i stOK blkBackup s) { s with sec := { s.sec with tampNotes := [] } }

/-- Milliseconds asleep since REST, saturating. -/
def msAsleep (s : State) : Word := w32 (min ((s.time.elapsed - s.pw.asleepAt) / 1000000) 0xFFFFFFFF)

/-- REST completes; time asleep does not count toward COND.CMD_LIMIT (04 R144). -/
def restDone (st : Nat) (w1 w2 : Word) (s : State) : State :=
  let slept := s.time.elapsed - s.pw.asleepAt
  let s := { s with pw := { s.pw with restWaits := false } }
  if s.cond.await = some .rest then
    unblockCond st w1 w2 (modRecord (fun r => { r with asleep := r.asleep + slept }) s)
  else s

/-- Automatic wake attempts of this source are held (14 R463). -/
def sourceHeld (src : Nat) (s : State) : Bool := s.pw.fails = 3 && [0, 1, 2, 5, 6].contains src

/-- A wake begins at step 2 (14 Table PW-3). -/
def beginWake (src : Nat) (slotWake : Bool) (s : State) : State :=
  { s with pw := { s.pw with wake := some { step := 2, since := s.time.elapsed, src := src, slot := slotWake } } }

/-- The chip goes back to the mode that REST left, with every block started (14 R458, R460). -/
def endSleep (src : Nat) (s : State) : State :=
  let s := { s with pw := { s.pw with mode := s.pw.restMode, slotAwake := false, timerAt := none, timerSlot := none } }
  restDone stOK (w32 src) (msAsleep s) (startLinks s)

/-- A wake source occurs (04 R146, 14 R452, R458, R463). Whether one that meets a sleep being entered comes before the core clock
has stopped is a free value (log entry 7). -/
def wakeEvent (src : Nat) (s : State) : State :=
  if !(s.pw.wakeMask.getLsbD src || src = 7) || !s.pw.restWaits then s
  else if s.pw.entering then
    withDraw 2 s fun v s =>
      if v = 0 then restDone stOK (w32 src) 0 { s with pw := { s.pw with entering := false, frozen := false } }
      else
        let s := coreStops s
        if s.pw.mode = 0 || sourceHeld src s then s else beginWake src false s
  else if s.pw.slotAwake then endSleep src s
  else match s.pw.wake with
    | some w => if w.slot then { s with pw := { s.pw with wake := some { w with slot := false, src := src } } } else s
    | none => if !s.pw.asleep || s.pw.mode = 0 || sourceHeld src s then s else beginWake src false s

/-- What sequencers await and the sleep has passed (14 R455). -/
def awaitsPassed (s : State) : State :=
  seqrs.foldl (fun s q => match awaitOf q s with
    | some (.at_ t) => if t ≤ tbNs s then unblock q stOK (w32 (min (tbNs s - t) 0xFFFFFFFF)) 0 (kickWdog q s) else s
    | some (.after d) => if d ≤ s.time.incSum then unblock q stOK 0 0 (kickWdog q s) else s
    | _ => s) s

/-- The SLOTs that wait for the boundary a slot wake was set for complete, reporting it (14 R459). -/
def lateSlots (s : State) : State :=
  match s.pw.timerSlot with
  | some (a, b) => if b ≤ tbNs s then slotsDone stOK a b s else s
  | none => s

/-- Each slice that was not Off at REST is powered and relocked on its channel (14 Table PW-3 step 7). -/
def relockSlices (s : State) : State :=
  sliceIdx.foldl (fun s n =>
    if s.pw.onSlices[n] && !(slice n s).offline && s.twin.role ≠ 3 then beginRetune n (modSlice n (fun x => { x with off := false }) s) else s) s

/-- The core runs again: the grid, the triggers, the servos and what sequencers await follow the carried timebase. -/
def resumeTime (s : State) : State :=
  let s := gridCatchUp s
  let s := (List.finRange 2).foldl (stepTrig (tbNs s)) s
  servoFirst (awaitsPassed { s with pw := { s.pw with frozen := false, wake := none } })

/-- The timebase is taken from the carry: its error is a free value within 500 ppm of the time asleep plus 31 ns (14 R454, log
entry 7). -/
def takeCarry (s : State) (k : State → State) : State :=
  let b := (s.time.elapsed - s.pw.asleepAt) / 2000 + 31
  withDraw (2 * b + 1) s fun v s =>
    k (if s.time.counting then { s with time := { s.time with tb := s.time.tb + v * tbFrac - b * tbFrac } } else s)

/-- The reference qualifies in a wake: steps 5-7 (14 R460). -/
def wakeDone (w : WakeRun) (s : State) : State :=
  takeCarry s fun s =>
    let left := s.pw.degraded
    let s := wakeCleared (bump 0x0920 (qualifyRef { s with pw := { s.pw with degraded := false } }))
    let s := { s with pw := { s.pw with lastWake := stOK } }
    let s := if s.pw.restPll then clkPll s (fun _ s => s) else s
    let s := resumeTime (relockSlices s)
    if w.slot then
      let late := s.pw.timerSlot.any (fun t => t.2 ≤ tbNs s)
      let s := { s with pw := { s.pw with slotAwake := true } }
      if late then bump 0x0922 (lateSlots s) else s
    else
      let s := endSleep w.src s
      if left then degradedLeave { s with pw := { s.pw with degraded := true } } else s

/-- A wake has failed at its step (14 R461, R463). -/
def wakeFailed (w : WakeRun) (s : State) : State :=
  let st := if w.step = 2 then stWAKE_FAIL_REG else stWAKE_FAIL_OSC
  let s := bump 0x0921 { s with pw := { s.pw with
    wake := none, lastWake := st, fails := min 3 (s.pw.fails + 1), wakeReg := s.pw.wakeReg || w.step = 2
    wakeOsc := s.pw.wakeOsc || w.step = 4, due := s.pw.due ++ [(0x0902, w.step, st)] } }
  if w.step = 2 then
    let s := gridCatchUp { s with pw := { s.pw with lowPower := !s.pw.lpHot } }
    if s.pw.mode = 2 then
      setTimer (match s.pw.timerSlot with | some t => max s.grid.nextAsn (t.1 + 1) | none => s.grid.nextAsn) s
    else s
  else
    let s := resumeTime (postDue { s with pw := { s.pw with mode := s.pw.restMode, slotAwake := false } })
    let s := degradedEnter s
    let s := if w.slot then lateSlots s else s
    restDone stWAKE_FAIL_OSC 0 0 { s with pw := { s.pw with timerAt := none, timerSlot := none } }

/-- A step's timeout: it is restarted once, then the wake fails. -/
def wakeTimeout (step ns : Nat) (s : State) : State :=
  match s.pw.wake with
  | some w =>
    if w.step ≠ step then s
    else
      let s := reachElapsed (w.since + ns) s
      if w.retried then wakeFailed w s
      else { s with pw := { s.pw with wake := some { w with retried := true, since := s.time.elapsed } } }
  | none => s

/-- The conditions of a return to sleep after a slot wake (14 R458). -/
def mayReturn (s : State) : Bool :=
  s.pw.slotAwake && sliceIdx.all (fun n => (sliceRefuses n s).isNone && match (seq n s).state, (seq n s).await with
    | .running, _ => false
    | .blocked, some (.slot _ _ _) => true
    | .blocked, some (.at_ _) => true
    | .blocked, some (.after _) => true
    | .blocked, _ => false
    | _, _ => true)

/-! ## Resets (14 R466, R469, 17 R574) -/

/-- The own position's bit. -/
def ownBit (s : State) : BitVec 8 := BitVec.ofNat 8 (2 ^ ownPos s)

/-- The core starts: the notices that wait for it, the strap fault, and the links (16 R513). -/
def coreStarts (s : State) : State :=
  let s := { s with
    host := { s.host with lastPsum := s.time.elapsed }
    twin := { s.twin with role := if s.straps.twinen then 2 else 0 }
    cas := { s.cas with present := ownBit s, known := ownBit s } }
  let s := if s.pw.integNote = 0 then s
    else notify 0x0905 s.pw.integNote stOK blkBackup { s with pw := { s.pw with integNote := 0 } }
  let s := if s.straps.master && s.straps.caspos ≠ 0 then notify 0x0B02 0xFF stRANGE (blkCas 0) s else s
  recompute (startLinks (postDue s))

/-- What the backup domain holds of the power registers. -/
def PowerS.backup (p : PowerS) : PowerS :=
  { onVin := p.onVin, integ := p.integ, part := p.part, pwron := p.pwron, bkpWake := p.bkpWake, why := p.why, vbatLow := p.vbatLow
    asserted := p.asserted, bkpRegs := p.bkpRegs, canary := p.canary, integNote := p.integNote, vin := p.vin, dieTemp := p.dieTemp
    vio := p.vio }

/-- Life cycle, root, lock and tamper registers: fuses and the backup domain. -/
def SecS.kept (x : SecS) : SecS :=
  { fused := x.fused, locked := x.locked, lockId := x.lockId, rootA := x.rootA, rootB := x.rootB, bankA := x.bankA, bankB := x.bankB
    tampCtrl := x.tampCtrl, tampRec0 := x.tampRec0, tampRec1 := x.tampRec1, tampRec2 := x.tampRec2, tampRec3 := x.tampRec3
    tampActive := x.tampActive, tampNotes := x.tampNotes }

/-- Flash, boot records and fuses. -/
def BootS.kept (b : BootS) : BootS :=
  { recA := b.recA, recB := b.recB, active := b.active, fallback := b.fallback, staging := b.staging, arbFuse := b.arbFuse
    vkRev := b.vkRev, svcCts := b.svcCts }

/-- The core's side of the crossing to the backup domain is lost: nothing is on its way or waits. -/
def RtcS.crossLost (r : RtcS) : RtcS :=
  { r with inflight := false, staged := none, trimBusy := false, trimStaged := none, alarmBusy := false, alarmStaged := none }

/-- Deaf taps stay deaf until power-up (09 R312). -/
def deafKept (r : RadioS) : RadioS := { slices := r.slices.map (fun x => { deaf := x.deaf }) }

/-- The values of sealed parameters written since power-up, which are sealed until the next (02 R63). -/
def sealedVals (p : ParS) : Tbl Word := p.vals.filter (fun kv => p.sealedDone.contains (kv.1 / 16))

/-- What outlives a loss of main power: the backup domain, fuses, flash, and the model's own measures. -/
def powerLost (s : State) : State :=
  { rtc := s.rtc, sec := s.sec.kept, boot := s.boot.kept, pw := s.pw.backup, freeCount := s.freeCount, pending := s.pending
    time := { elapsed := s.time.elapsed, coreNs := s.time.coreNs, incSum := s.time.incSum } }

/-- A core-domain reset (14 R466, 17 R566, R574): every region is lost; the always-on and backup domains, the straps, the counts
that only power-up clears and the once-per-power-up marks stay (log entry 29). -/
def coreReset (cause : Nat) (s : State) : State :=
  let p := s.pw
  let s' := { powerLost s with
    straps := s.straps
    rtc := s.rtc.crossLost
    par := { counts := s.par.counts, vals := sealedVals s.par, sealedDone := s.par.sealedDone }
    health := { s.health with chipFault := 0, latch := [] }
    host := { link := s.host.link }
    radio := deafKept s.radio
    twin := { roleIn := s.twin.roleIn, roleInAt := s.twin.roleInAt, wasActive := s.twin.wasActive }
    pw := { p.backup with lastWake := p.lastWake, fails := p.fails, lpHot := p.lpHot, lastReset := cause, nvInhibit := p.nvInhibit
                          wakeReg := p.wakeReg, wakeOsc := p.wakeOsc, due := p.due }
    boot := { s.boot.kept with fbReq := s.boot.fbReq }
    time := { elapsed := s.time.elapsed, coreNs := s.time.coreNs, incSum := s.time.incSum, stepUsed := s.time.stepUsed
              sealed_ := s.time.sealed_, refKind := s.time.refKind } }
  coreStarts s'

/-! ## The backup domain (14 R471-R477) -/

/-- The backup domain asserts PWRON for a cause of WHY (14 R472, R473). -/
def assertPwron (why : Nat) (s : State) : State :=
  { s with pw := { s.pw with asserted := if s.pw.asserted = 0 then why else s.pw.asserted, pwron := true } }

/-- The chip enters Locked: LOCK_ID is a free non-zero value; the vault and the cache are zeroised (13 R416, R417, log entry 7). -/
def enterLocked (s : State) : State :=
  withDraw 65535 s fun v s =>
    zeroDevice (zeroVault { s with sec := { s.sec with locked := true, lockId := v + 1 } })

/-- The RTC is not set: its alarm is disarmed (05 R182). -/
def RtcS.unset (r : RtcS) : RtcS := { r with set_ := false, armed := false }

/-- The integrity word or the canary fails (14 R475): part 1 CRC, 2 canary, 3 both. -/
def integrityCheck (crcOk canaryOk : Bool) (s : State) : State :=
  let part := bitAt (!crcOk) 0 + bitAt (!canaryOk) 1
  if part = 0 then s
  else
    let s := { s with
      rtc := { s.rtc.unset with t := {}, wday := 0 }
      sec := { s.sec with tampCtrl := 0x4F, tampRec0 := 0, tampRec1 := 0, tampRec2 := 0, tampRec3 := 0 }
      pw := { s.pw with bkpRegs := Vector.replicate 4 0, integ := true, part := part, canary := 0xA55A3CC3, integNote := part
                        asserted := 3, pwron := true } }
    if s.sec.fused = 2 && !s.sec.locked then enterLocked s else s

end Sys2Proof.Machine
end

