-- ==== Sys2Proof/Machine/Rtc.lean ====
section
/-! DEFINITION. The RTC and its alarm (05 R176-R185). -/

namespace Sys2Proof.Machine

/-! ## The calendar (05 R176, R177) -/

/-- February has 29 days. -/
def leapYear (y : Nat) : Bool := y % 4 = 0 && (y % 100 ≠ 0 || y % 400 = 0)

/-- Days of a month. -/
def monthDays (y m : Nat) : Nat :=
  if m = 2 then (if leapYear y then 29 else 28) else if m = 4 || m = 6 || m = 9 || m = 11 then 30 else 31

/-- The reading one second later; `true` when the year wraps from 9999. The second component: a midnight was reached. -/
def RtcTime.succ (t : RtcTime) : RtcTime × Bool × Bool :=
  if t.sec < 59 then ({ t with sec := t.sec + 1 }, false, false)
  else if t.min < 59 then ({ t with sec := 0, min := t.min + 1 }, false, false)
  else if t.hour < 23 then ({ t with sec := 0, min := 0, hour := t.hour + 1 }, false, false)
  else
    let d := { t with sec := 0, min := 0, hour := 0 }
    if t.day < monthDays t.year t.month then ({ d with day := t.day + 1 }, true, false)
    else if t.month < 12 then ({ d with day := 1, month := t.month + 1 }, true, false)
    else if t.year < 9999 then ({ d with day := 1, month := 1, year := t.year + 1 }, true, false)
    else ({ d with day := 1, month := 1, year := 0 }, true, true)

/-- TIME word (05 Table TM-5). -/
def RtcTime.timeWord (t : RtcTime) : Word := w32 (t.sec + t.min * 256 + t.hour * 65536)

/-- DATE word (05 Table TM-5). -/
def RtcTime.dateWord (t : RtcTime) (wday : Nat) : Word := w32 (t.day + t.month * 256 + wday * 4096 + t.year * 65536)

/-- The reading that a TIME and a DATE word hold. -/
def rtcOf (tw dw : Word) : RtcTime :=
  let t := tw.toNat
  let d := dw.toNat
  { year := d / 65536 % 16384, month := d / 256 % 16, day := d % 32, hour := t / 65536 % 32, min := t / 256 % 64, sec := t % 64 }

/-- Weekday of a DATE word. -/
def wdayOf (dw : Word) : Nat := dw.toNat / 4096 % 8

/-- The time fields lie in their ranges (05 R178). -/
def RtcTime.timeOk (t : RtcTime) : Bool := t.sec ≤ 59 && t.min ≤ 59 && t.hour ≤ 23

/-- The date fields lie in their ranges (05 R178). -/
def RtcTime.dateOk (t : RtcTime) : Bool :=
  t.year ≤ 9999 && 1 ≤ t.month && t.month ≤ 12 && 1 ≤ t.day && t.day ≤ monthDays t.year t.month

/-- Readings in their order. -/
def RtcTime.key (t : RtcTime) : Nat :=
  ((((t.year * 16 + t.month) * 32 + t.day) * 32 + t.hour) * 64 + t.min) * 64 + t.sec

/-- The alarm's instant. -/
def RtcS.alarm (r : RtcS) : RtcTime := rtcOf r.alarmTime r.alarmDate

/-- The alarm settings last written: those that wait to cross, or the backup domain's. -/
def RtcS.alarmSet (r : RtcS) : AlarmSet := r.alarmStaged.getD { time := r.alarmTime, date := r.alarmDate }

/-- RTC_STATUS (05 Table TM-4): FIRED also as latched at the main power-up (05 R185; log entry 79). -/
def RtcS.status (r : RtcS) : Nat :=
  bitAt r.set_ 0 + bitAt r.armed 1 + bitAt (r.fired || r.statusAt.testBit 2) 2 + bitAt r.inflight 3 + bitAt r.stopped 4 + bitAt r.wrapped 5 +
  bitAt r.trimpend 6 + bitAt r.late 7

/-- Corrections that a trim of t has made by pulse p of its window: one per 2^20 / |t| pulses, rounded down (05 R181). -/
def trimDone (t : Int) (p : Nat) : Nat := if t = 0 then 0 else min t.natAbs (p / (1048576 / t.natAbs))

/-- Prescaler counts d pulses after secAt: a count a pulse, with the single counts that the trim inserts or suppresses (05 R181). -/
def RtcS.countAt (r : RtcS) (d : Nat) : Nat :=
  let c := trimDone r.trim (r.winP + d) - trimDone r.trim r.winP
  if 0 ≤ r.trim then r.presc + d + c else r.presc + d - c

/-- Crystal pulses since secAt, at the nominal rate (log entry 3). -/
def rtcPulses (s : State) : Nat := if s.rtc.crystalOff then 0 else (s.time.elapsed - s.rtc.secAt) * 32768 / 1000000000

/-- Time passes until pulse d after secAt. -/
def reachPulse (d : Nat) (s : State) : State := reachElapsed (s.rtc.secAt + (d * 1000000000 + 32767) / 32768) s

/-- Pulses from secAt to the completion of the second: the first at which the prescaler has counted 32,768. -/
def RtcS.secondPulses (r : RtcS) : Nat :=
  let need := 32768 - r.presc
  ((List.range 40).find? (fun j => 32768 ≤ r.countAt (need - 18 + j))).elim need (fun j => need - 18 + j)

/-- Prescaler counts into the second (05 R176, R181). -/
def rtcPresc (s : State) : Nat := min 32767 (s.rtc.countAt (rtcPulses s))

/-! ## Alarm and set (05 R178-R184) -/

/-- A notice of the backup domain: at once while the core runs, when it next runs after a sleep; a chip in Backup starts anew and
keeps none. -/
def backupNotice (kind subject st : Nat) (s : State) : State :=
  if s.time.coreOn then notify kind subject st (if kind / 256 = 8 then blkTime else blkBackup) s
  else if s.pw.asleep && s.pw.mode ≠ 0 then { s with pw := { s.pw with due := s.pw.due ++ [(kind, subject, st)] } }
  else s

/-- The chip is in Backup. -/
def inBackup (s : State) : Bool := s.pw.asleep && s.pw.mode = 0

/-- The alarm fires (05 R183, R184). -/
def fireAlarm (st : Nat) (late : Bool) (s : State) : State :=
  let s := { s with rtc := { s.rtc with armed := false, fired := true, late := late } }
  let s := backupNotice 0x0801 st st s
  if inBackup s then assertPwron 1 s else wakeEvent 0 s

/-- A transfer reaches the backup domain (05 R178, R182, R184; log entry 3: at the instant of the commit). -/
def rtcTransfer (time date : Bool) (tw dw : Word) (s : State) : State :=
  let r := s.rtc
  let n := rtcOf tw dw
  let t := r.t
  let t := if time then { t with hour := n.hour, min := n.min, sec := n.sec } else t
  let t := if date then { t with year := n.year, month := n.month, day := n.day } else t
  let skips := r.armed && r.t.key < r.alarm.key && r.alarm.key < t.key
  let both := time && date
  let d := rtcPulses s
  let s := { s with rtc := { r with
    t := t, wday := if date then wdayOf dw else r.wday, secAt := s.time.elapsed
    presc := if time then 0 else r.countAt d, winP := r.winP + d
    set_ := r.set_ || both, stopped := r.stopped && !both, wrapped := r.wrapped && !both
    inflight := true } }
  if skips then fireAlarm stALARM_SKIPPED false s else s

/-- TIME.RTC_COMMIT = v (05 R178, R179): one that meets a transfer in flight coalesces and sets overrun flag 15. -/
def rtcCommit (v : Nat) (s : State) : PRes :=
  let tw := par 0x0820 chip s
  let dw := par 0x0821 chip s
  let time := v = 1 || v = 3
  let date := v = 2 || v = 3
  let n := rtcOf tw dw
  if (time && !n.timeOk) || (date && !(n.dateOk && wdayOf dw ≤ 6)) then pRange s
  else if s.rtc.inflight then pOk (setXovr 15 { s with rtc := { s.rtc with staged := some (time, date, tw, dw) } })
  else pOk (rtcTransfer time date tw dw s)

/-- Alarm settings reach the backup domain: an alarm that is not later than the RTC fires as it is armed (05 R183; log entry 3). -/
def alarmSent (a : AlarmSet) (s : State) : State :=
  let s := { s with rtc := { s.rtc with alarmTime := a.time, alarmDate := a.date, alarmBusy := true } }
  match a.arm with
  | none => s
  | some false => { s with rtc := { s.rtc with armed := false } }
  | some true =>
    if !s.rtc.set_ then s
    else
      let s := { s with rtc := { s.rtc with armed := true, fired := false, late := false, statusAt := 0 } }
      if s.rtc.alarm.key ≤ s.rtc.t.key then fireAlarm stOK true s else s

/-- A change of the alarm settings is offered to the crossing: while others are on their way it joins those that wait and sets
overrun flag 15 (05 R187, R191). -/
def alarmOffer (f : AlarmSet → AlarmSet) (s : State) : State :=
  let a := f s.rtc.alarmSet
  if s.rtc.alarmBusy then setXovr 15 { s with rtc := { s.rtc with alarmStaged := some a } } else alarmSent a s

/-- TIME.RTC_ALARM_CTRL (05 R182, R183, R193): the alarm's fields are checked first (02 R62). -/
def alarmCtrl (arm : Bool) (s : State) : PRes :=
  let w := s.rtc.alarmSet
  let a := rtcOf w.time w.date
  if !arm then pOk (alarmOffer (fun a => { a with arm := some false }) s)
  else if !(a.timeOk && a.dateOk) then pRange s
  else if !s.rtc.set_ then pRef 0x14 s
  else pOk (alarmOffer (fun a => { a with arm := some true }) s)

/-- A trim reaches the backup domain; it takes effect at the next window (05 R181). -/
def trimSent (t : Int) (s : State) : State :=
  { s with rtc := { s.rtc with trimNew := t, trimpend := true, trimBusy := true } }

/-- TIME.RTC_TRIM (05 R181, R187). -/
def rtcTrim (t : Int) (s : State) : PRes :=
  pOk (if s.rtc.trimBusy then setXovr 15 { s with rtc := { s.rtc with trimStaged := some t } } else trimSent t s)

/-! ## Events of the backup domain -/

/-- The backup domain acknowledges what is on its way to it, a commit, a trim and alarm settings; what waited of each is sent then
(05 R179, R187). -/
def rtcAcked (s : State) : State :=
  let r := s.rtc
  let s := { s with rtc := r.crossLost }
  let s := match r.trimStaged with
    | some t => trimSent t s
    | none => s
  let s := match r.alarmStaged with
    | some a => alarmSent a s
    | none => s
  match r.staged with
  | some (time, date, tw, dw) => rtcTransfer time date tw dw s
  | none => s

/-- The basis of the prescaler moves to pulse d: its value there, less `off` counts (05 R176). -/
def RtcS.rebase (r : RtcS) (d off : Nat) (at_ : Nat) : RtcS :=
  { r with secAt := at_, presc := r.countAt d - off, winP := r.winP + d }

/-- A second completes: the calendar carries, and an armed alarm at or after its instant fires (05 R176, R177, R183). None does
while the crystal stands (05 R182). -/
def rtcTick (s : State) : State :=
  if s.rtc.crystalOff then s
  else
    let d := s.rtc.secondPulses
    let s := reachPulse d s
    let (t, midnight, wraps) := s.rtc.t.succ
    let r := s.rtc.rebase d 32768 s.time.elapsed
    let s := { s with rtc := { r with
      t := t, wday := if midnight then (r.wday + 1) % 7 else r.wday, wrapped := r.wrapped || wraps } }
    if s.rtc.armed && s.rtc.alarm.key ≤ t.key then fireAlarm stOK false s else s

/-- RTC_TRIM_WINDOW (05 R181). -/
def execRtcTrimWindow (s : State) : Host.Outcome State Fault Refusal :=
  ok (if s.rtc.crystalOff then s
      else
        let d := 1048576 - s.rtc.winP
        let s := reachPulse d s
        { s with rtc := { s.rtc.rebase d 0 s.time.elapsed with trim := s.rtc.trimNew, trimpend := false, winP := 0 } })

/-- CRYSTAL_STOP (05 R182): no pulse for 2 ms. -/
def execCrystalStop (s : State) : Host.Outcome State Fault Refusal :=
  ok (if s.rtc.crystalOff then s
      else
        let s := reachElapsed (s.time.elapsed + 2000000) s
        { s with rtc := { s.rtc.unset with stopped := true, crystalOff := true, t := {}, wday := 0 } })

/-- CRYSTAL_RESTART (05 R182): the RTC counts from this instant, from 0000-01-01 00:00:00 and weekday 0 or from what a commit has
set since the stop. -/
def execCrystalRestart (s : State) : Host.Outcome State Fault Refusal :=
  ok (if !s.rtc.crystalOff then s
      else { s with rtc := { s.rtc with crystalOff := false, secAt := s.time.elapsed, presc := 0, winP := 0 } })

end Sys2Proof.Machine
end

