-- ==== Sys2Proof/Machine/Power.lean ====
section
/-! DEFINITION. The power and clock instructions and the events of supplies, sleep and wake (04 R143-R147, 14 R446-R477). -/

namespace Sys2Proof.Machine

/-! ## Instructions -/

/-- CLKSEL (04 R147); source 1 also starts the reference (14 Table PW-1). -/
def execClksel (who : Who) (c : Cond) (src : Fin 4) (s : State) : Host.Outcome State Fault Refusal :=
  ok (issue who c 0x70 .condOnly (fun s =>
    if 1 < src.val then retRange who 1 src.val s
    else if src = 0 then
      if anyRunning s || airArmed s then retRefused who 0xB4 s else retOk who 0 0 { s with pw := { s.pw with pll := false } }
    else if !s.time.refQual then retRefused who 0xB5 (startRef s)
    else clkPll s fun v s => match v with
      | some v => retOk who 1 (w32 v) s
      | none => ret who stTIMEOUT 0 0 s) s)

/-- The armed sleep mode as PMODE reports it. -/
def armedDetail (s : State) : Word := if s.pw.armedMode = 7 then 0xFF else w32 s.pw.armedMode

/-- May the chip move to, or arm, mode m (14 Table PW-2)? -/
def pmodeAllowed (m : Nat) (s : State) : Bool :=
  let serving := s.pw.mode = 3 || s.pw.mode = 4
  if m ≤ 1 then true
  else if m = 2 then serving && s.grid.mode = 1
  else if m = 5 then !(anyRunning s || airArmed s)
  else true

/-- PMODE (04 R143, 14 R449, R450). While a change between run modes is pending, a sleep mode may be armed and another change is
refused (log entry 121). -/
def execPmode (who : Who) (c : Cond) (m : Fin 8) (s : State) : Host.Outcome State Fault Refusal :=
  ok (issue who c 0x71 .condOnly (fun s =>
    if 5 < m.val then retRange who 1 m.val s
    else if m.val = s.pw.mode && !(s.pw.degraded && m.val ≠ 5) then retOk who (w32 s.pw.mode) (armedDetail s) s
    else if !pmodeAllowed m.val s || (s.pw.pmodeTo.isSome && 2 < m.val) then retRefused who 0xB0 s
    else if m.val ≤ 2 then
      let s := { s with pw := { s.pw with armedMode := m.val } }
      retOk who (w32 s.pw.mode) (armedDetail s) s
    else if pendFull who s then retRefused who 0x40 s
    else
      let t := nextTicket who s
      let s := { s with pw := { s.pw with pmodeTo := some (m.val, worldOf who s, t) } }
      startPending who 0x71 (if m = 5 || s.time.refQual then s else startRef s)) s)

/-- A pending change between run modes completes; `refOk`: the reference was qualified, where the move needs it (14 R450). -/
def pmodeDone (refOk : Bool) (s : State) : State :=
  match s.pw.pmodeTo with
  | none => s
  | some (m, w, t) =>
    let s := { s with pw := { s.pw with pmodeTo := none } }
    let finish (s : State) : State := endPending (.ring w) t 0x71 stOK (w32 s.pw.mode) (armedDetail s) s
    if m = 5 then
      let s := sliceIdx.foldl (fun s n => stopAir n 0xB0 false s) s
      finish { s with pw := { s.pw with mode := 5, listenCap := 64 } }
    else if s.time.refQual || (refOk && refKindRight s) then
      let s := if s.time.refQual then s else qualifyRef s
      let s := { s with pw := { s.pw with mode := m, listenCap := if m = 3 then cpar 0x0901 s else 64 } }
      let s := wakeCleared (degradedLeave s)
      if s.pw.pll then finish s else clkPll s (fun _ s => finish s)
    else
      let s := reachElapsed (s.time.elapsed + 10000000) { s with time := { s.time with refStarted := false } }
      endPending (.ring w) t 0x71 stWAKE_FAIL_OSC 0 0 s

/-- An instruction of any sequencer is pending under R79. -/
def anyPending (s : State) : Bool :=
  !s.cond.op.pend.isEmpty || !s.cond.cust.pend.isEmpty || sliceIdx.any (fun n => !(seq n s).ctx.pend.isEmpty)

/-- The host PHY is checked: a transfer over PCIe may be in flight, which is a free value, since every transfer of the model is one
command (04 Table FD-24 reason 3; log entry 7). -/
def dmaInFlight (k : Bool → State → State) (s : State) : State :=
  if s.host.link = some .pcie && s.host.pcieUp then withDraw 2 s fun v s => k (v = 1) s else k false s

/-- REST (04 R144, R145, 14 R451): refusals by detail stop nothing; a refusing block's stopped predecessors are restarted. -/
def execRest (who : Who) (c : Cond) (s : State) : Host.Outcome State Fault Refusal :=
  ok (issueB who c 0x72 .condOnly (fun s =>
    if s.pw.armedMode = 7 then retRefused who 0xB1 s
    else if anyPending s then retRefused who 0xB2 s
    else if s.pw.armedMode ≠ 0 && s.pw.wakeMask &&& 0x7F = 0 then retRefused who 0xB3 s
    else match firstRefusal s with
      | some (id, reason) => ret who stSLEEP_REFUSED (w32 id) (w32 reason) (bump 0x0923 s)
      | none => dmaInFlight (fun busy s =>
        let on := Vector.ofFn (fun (n : Fin 12) => !(slice n s).off)
        if busy then ret who stSLEEP_REFUSED (w32 0x30) (w32 3) (bump 0x0923 s)
        else block who .rest { s with pw := { s.pw with
          entering := true, frozen := true, restWaits := true, restMode := s.pw.mode, restPll := s.pw.pll, onSlices := on
          asleepAt := s.time.elapsed } }) s) s)

/-- WAKEON (04 R146). -/
def execWakeon (who : Who) (c : Cond) (ws : Fin 16) (mask : BitVec 16) (s : State) : Host.Outcome State Fault Refusal :=
  ok (issue who c 0x73 .condOnly (fun s =>
    let v := if ws = 0 then mask.toNat else (getW who ws s).toNat
    if 256 ≤ v then retRange who 1 v s
    else
      let m : BitVec 16 := BitVec.ofNat 16 v ||| 0x80
      retOk who (w32 s.pw.wakeMask.toNat) (w32 m.toNat) { s with pw := { s.pw with wakeMask := m } }) s)

/-! ## The reference -/

/-- The reference is qualified (05 R155): at step 4 of a wake, by a retry or CLKSEL, or under a pending move (which then
completes by itself). -/
def refQualified (s : State) : State :=
  if !s.time.coreOn || s.time.refQual || !s.time.refStarted || !refKindRight s || s.health.chipFault ≠ 0 then s
  else match s.pw.wake with
    | some w => if w.step = 4 then wakeDone w s else s
    | none => degradedLeave (qualifyRef s)

/-- The once-per-second count of the reference (05 R156). -/
def refCount (n : Nat) (s : State) : State :=
  if !s.time.coreOn || !s.time.refQual || !s.rtc.set_ || s.rtc.crystalOff then s
  else if 78109 ≤ n && n ≤ 78141 then { s with time := { s.time with refUnver := false } }
  else degradedEnter s

/-- No reference edge for 200 ns (05 R156). -/
def refLost (s : State) : State :=
  if !s.time.coreOn || !s.time.refQual then s else degradedEnter (reachElapsed (s.time.elapsed + 200) s)

/-- Degraded service starts the reference again, with a single 5 ms timeout (14 R462). -/
def refRetry (good : Bool) (s : State) : State :=
  if !s.pw.degraded || cpar 0x0904 s = 0 || s.pw.wake.isSome || s.pw.pmodeTo.isSome || !s.time.coreOn then s
  else
    let s := startRef s
    if good && refKindRight s then degradedLeave (qualifyRef s)
    else reachElapsed (s.time.elapsed + 5000000) { s with time := { s.time with refStarted := false } }

/-! ## Sleep and wake -/

/-- A wake source other than a marked slot occurs (14 R452). -/
def wakeSource (src : Fin 8) (s : State) : State := if src = 1 then s else wakeEvent src.val s

/-- The wake timer of Doze expires (14 R457, R463): at the horizon the search is repeated. -/
def dozeTimer (s : State) : State :=
  let s := settleSleep s
  match s.pw.timerAt with
  | some t =>
    if !s.pw.asleep || s.pw.mode ≠ 2 || s.pw.wake.isSome || !tbCanReach t s then s
    else
      let s := gridCatchUp (reachTb t s)
      match s.pw.timerSlot with
      | none => setTimer s.grid.nextAsn s
      | some (a, _) =>
        if s.pw.wakeMask.getLsbD 1 && !sourceHeld 1 s then beginWake 1 true s else setTimer (max s.grid.nextAsn (a + 1)) s
  | none => s

/-- REGULATOR_READY (14 Table PW-3 steps 2-4): the RC and the reference are started. -/
def execRegulatorReady (s : State) : Host.Outcome State Fault Refusal :=
  ok (match s.pw.wake with
    | some w =>
      if w.step ≠ 2 then s
      else postDue (startRef { s with
        pw := { s.pw with asleep := false, lowPower := false, wake := some { w with step := 4, since := s.time.elapsed, retried := false } }
        time := { s.time with coreOn := true } })
    | none => s)

/-- The chip returns to sleep after a slot wake (14 R458). -/
def returnToSleep (s : State) : State :=
  if mayReturn s then
    let s' := setTimer s.grid.nextAsn s
    match s'.pw.timerAt with
    | some t => if tbNs s + cpar 0x0903 s * 1000 ≤ t then coreStops s else s
    | none => s
  else s

/-- RETURN_TO_SLEEP (14 R458). -/
def execReturnToSleep (s : State) : Host.Outcome State Fault Refusal := ok (returnToSleep s)

/-- DIE_TEMP_MEASURE (14 R465): every 100 ms while the chip sleeps. -/
def execDieTempMeasure (t : Int) (s : State) : Host.Outcome State Fault Refusal :=
  ok (let s := settleSleep s
      if !s.pw.asleep || s.pw.mode = 0 then s else hotDie { s with pw := { s.pw with dieTemp := t } })

/-! ## Supplies (14 R466-R469) -/

/-- LP_OVERLOAD (14 R466). -/
def execLpOverload (s : State) : Host.Outcome State Fault Refusal :=
  ok (let s := settleSleep s
      if !s.pw.lowPower || !s.pw.asleep || s.pw.mode = 0 then s
      else
        let s := coreReset 3 (reachElapsed (s.time.elapsed + 30000) s)
        modWhost .operator (fun h => { h with lpovl := true }) (modWhost .custodian (fun h => { h with lpovl := true }) s))

/-- Main power is present: the core domain is powered or sleeps on retention. -/
def mainOn (s : State) : Bool := s.time.coreOn || (s.pw.asleep && s.pw.mode ≠ 0)

/-- CORE_BROWN_OUT (14 R466). -/
def execCoreBrownOut (s : State) : Host.Outcome State Fault Refusal :=
  ok (if mainOn s then coreReset 2 (reachElapsed (s.time.elapsed + 20000) s) else s)

/-- MAIN_BROWN_OUT (14 R469): the core and always-on domains are reset and stay off until power-up; a chip in Backup stays in
Backup. -/
def execMainBrownOut (s : State) : Host.Outcome State Fault Refusal :=
  ok (let b := inBackup s || (s.pw.entering && s.pw.armedMode = 0)
      let s := powerLost s
      { s with
        time := { s.time with coreOn := false }
        pw := { s.pw with onVin := s.pw.onVin, mode := if b then 0 else 5, asleep := b } })

/-- NV_INHIBIT_ENTER (14 R468): VIN below 3.05 V. -/
def execNvInhibitEnter (mv : Nat) (s : State) : Host.Outcome State Fault Refusal :=
  ok (if s.pw.nvInhibit || 3050 ≤ mv || !mainOn s then s
      else
        let s := bump 0x0925 { s with pw := { s.pw with nvInhibit := true, vin := mv } }
        if s.time.coreOn then notify 0x0901 0 stNV_INHIBIT blkPower s
        else { s with pw := { s.pw with due := s.pw.due ++ [(0x0901, 0, stNV_INHIBIT)] } })

/-- VIN_MEASURE (14 R467): every 1 ms while the core runs. -/
def execVinMeasure (mv : Nat) (s : State) : Host.Outcome State Fault Refusal :=
  ok (if s.time.coreOn then { s with pw := { s.pw with vin := mv } } else s)

/-! ## The backup domain (14 R471-R477) -/

/-- BACKUP_SWITCH_TO_VBAT (14 R471). -/
def execBackupSwitchToVbat (s : State) : Host.Outcome State Fault Refusal := ok { s with pw := { s.pw with onVin := false } }

/-- BACKUP_SWITCH_TO_VIN (14 R471, R475): the integrity word and the canary are checked. -/
def execBackupSwitchToVin (crcOk canaryOk : Bool) (s : State) : Host.Outcome State Fault Refusal :=
  ok (if s.pw.onVin then s else integrityCheck crcOk canaryOk { s with pw := { s.pw with onVin := true } })

/-- PWRON_DELAY (14 R472). -/
def execPwronDelay (s : State) : Host.Outcome State Fault Refusal :=
  ok (let delay := cpar 0x0906 s
      let s := settleSleep s
      if inBackup s && s.pw.asserted = 0 then
        let s := reachElapsed (s.time.elapsed + delay * 1000000) s
        { s with pw := { s.pw with pwron := false } }
      else s)

/-- VBAT_MEASURE (14 R476). -/
def execVbatMeasure (mv : Nat) (s : State) : Host.Outcome State Fault Refusal :=
  ok { s with pw := { s.pw with vbatLow := mv < 2200 } }

/-- BACKUP_DOMAIN_POWER_UP (14 R473, R476, R477, 05 R182, 13 R441): every register of the domain takes its reset value. -/
def execBackupDomainPowerUp (s : State) : Host.Outcome State Fault Refusal :=
  ok { s with
    rtc := { secAt := s.time.elapsed }
    sec := { s.sec with tampCtrl := 0x4F, tampRec0 := 0, tampRec1 := 0, tampRec2 := 0, tampRec3 := 0, locked := false, lockId := 0
                        tampActive := Vector.replicate 2 false, tampNotes := [] }
    pw := { s.pw with onVin := false, integ := false, part := 0, pwron := true, bkpWake := false, why := 0, vbatLow := false
                      asserted := 0, bkpRegs := Vector.replicate 4 0, canary := 0xA55A3CC3, integNote := 0 } }

/-- RTC_STATUS is latched, and the TIME.RTC_ parameters take their defaults in the backup domain, at a main power-up (05 R185). -/
def rtcDefaults (s : State) : State :=
  { s with rtc := { s.rtc.crossLost with statusAt := s.rtc.status, trimNew := 0, trimpend := s.rtc.trim ≠ 0, alarmTime := 0
                                         alarmDate := 0, armed := false } }

/-- MAIN_POWER_UP (14 R447, R472, R475, R476, 05 R185): nothing happens while main power is on already, or in Backup until PWRON is
asserted. -/
def execMainPowerUp (st : Straps) (crcOk canaryOk : Bool) (s : State) : Host.Outcome State Fault Refusal :=
  ok (let s := settleSleep s
      if mainOn s || (inBackup s && !s.pw.pwron) then s
      else
        let fromBackup := s.pw.asserted
        let s := integrityCheck crcOk canaryOk (powerLost s)
        let why := if s.pw.asserted = 0 then fromBackup else s.pw.asserted
        let s := rtcDefaults s
        coreStarts { s with
          straps := st
          pw := { s.pw with bkpWake := why ≠ 0, why := if why ≠ 0 then why else s.pw.why, asserted := 0
                            lastReset := if why ≠ 0 then 1 else 0 }
          time := { s.time with coreOn := true } })

/-- PW.BKP_STATUS as a word (14 Table PW-7). -/
def bkpStatus (s : State) : Nat :=
  let p := s.pw
  bitAt p.onVin 0 + bitAt p.integ 1 + p.part * 4 + bitAt p.pwron 4 + bitAt p.bkpWake 5 + p.why * 64 + bitAt p.vbatLow 8

/-- PW.BKP_STATUS := 1 clears INTEG and WHY (14 R476). -/
def bkpClear (s : State) : PRes := pOk { s with pw := { s.pw with integ := false, why := 0 } }

/-- PW.AON_STATUS (14 Table PW-4). -/
def aonStatus (s : State) : Nat :=
  let p := s.pw
  p.mode + bitAt p.asleep 3 + p.armedMode * 16 + bitAt p.degraded 7 + p.lastWake * 256 + p.fails * 65536 + bitAt (p.fails = 3) 18 +
  bitAt p.lpHot 19 + bitAt p.nvInhibit 20 + p.lastReset * 16777216

/-! ## Tamper (13 R441-R444) -/

/-- The chip is starting up: from the release of main reset until the image has started (13 Table KS-9, 17 R560). -/
def startingUp (s : State) : Bool := s.time.coreOn && s.boot.phase ≠ 6

/-- The phase of Table KS-9. -/
def tamperPhase (s : State) : Nat :=
  if !s.time.coreOn then 2
  else if startingUp s then (if s.sec.fused = 0 then 1 else 0)
  else if s.sec.exports.isEmpty then 3 else 4

/-- The security instructions that are pending end with ST_TAMPER_ABORT and write nothing. -/
def abortExports (s : State) : State :=
  let es := s.sec.exports
  es.foldl (fun s e => endPending (.ring e.world) e.ticket 0x65 stTAMPER_ABORT 0 0 s) { s with sec := { s.sec with exports := [] } }

/-- A filtered tamper event (13 R441-R444, 17 R573). -/
def tamper (input : Fin 2) (s : State) : State :=
  if !s.sec.tampCtrl.getLsbD input.val || s.sec.tampActive[input] then s
  else
    let s := { s with sec := { s.sec with tampActive := s.sec.tampActive.set input true } }
    let ph := tamperPhase s
    let (t1, t2) := if s.rtc.set_ then (s.rtc.t.timeWord, s.rtc.t.dateWord s.rtc.wday) else (0, 0)
    let x := zeroDevice (zeroVault s)
    let s := { x with
      sec := { x.sec with tampRec0 := w32 (input.val + 2 * ph), tampRec1 := t1, tampRec2 := t2, tampRec3 := sat32 (x.sec.tampRec3 + 1) }
      boot := { x.boot with svcAbort := x.boot.svcAbort || x.boot.svcOpen, svcOpen := false, svcStage := false } }
    let s := bump 0x0746 s
    let s := if s.time.coreOn then notify 0x0701 input.val stOK blkBackup s
      else { s with sec := { s.sec with tampNotes := s.sec.tampNotes ++ [input.val] } }
    if ph = 0 then
      let s := if s.sec.locked then s else enterLocked s
      if s.boot.phase = 0 || s.boot.phase = 4 then s
      else { s with boot := { s.boot with phase := 4 }, host := { s.host with hifMin := 2, hifMax := 3 } }
    else if ph = 1 then { s with boot := { s.boot with phase := 7 } }
    else if ph = 2 then (if inBackup s then assertPwron 2 s else wakeEvent 7 s)
    else abortExports s

/-- TAMPER_INPUT_INACTIVE (13 R441). -/
def execTamperInputInactive (input : Fin 2) (s : State) : Host.Outcome State Fault Refusal :=
  ok { s with sec := { s.sec with tampActive := s.sec.tampActive.set input false } }

end Sys2Proof.Machine
end

