-- ==== Sys2Proof/Machine/Boot.lean ====
section
/-! DEFINITION. Trailhead, boot records, the trial of an image and the service port (chapter 17). -/

namespace Sys2Proof.Machine

/-! ## Boot records (17 R551-R553) -/

/-- SEQ a is later than b (17 R551). -/
def laterSeq (a b : BitVec 32) : Bool := 1 ≤ (a - b).toNat && (a - b).toNat ≤ 2147483647

/-- The current record lies in sector B. -/
def curIsB (s : State) : Bool :=
  match s.boot.recA, s.boot.recB with
  | some a, some b => laterSeq b.sq a.sq
  | none, some _ => true
  | _, none => false

/-- The current record, none when neither is valid. -/
def curRec (s : State) : Option BootRec := if curIsB s then s.boot.recB else s.boot.recA

/-- The current record, or what holds when none is valid: every slot empty. -/
def bootRec (s : State) : BootRec := (curRec s).getD {}

/-- An operation of the flash and the read-back of what it wrote: ST_OK with its effect, or ST_TIMEOUT with none, after a time-out
of Table SF-2 or a second mismatch (17 R550, R552). Which of the two the flash gives is a free value (log entry 83). -/
def flashOp (body : State → State) (s : State) : Nat × State :=
  let good := Config.draw s.freeCount % 2 = 0
  let s := { s with freeCount := s.freeCount + 1 }
  if good then (stOK, body s) else (stTIMEOUT, s)

/-- Writes the next record into the sector that does not hold the current one; when the write fails the current record stands
(17 R552, R553). -/
def writeRec (f : BootRec → BootRec) : State → Nat × State :=
  flashOp (fun s =>
    let r := f (bootRec s)
    let r := { r with sq := (bootRec s).sq + 1, access := s.boot.accessNew.getD r.access }
    if (curRec s).isSome && !curIsB s then { s with boot := { s.boot with recB := some r } }
    else { s with boot := { s.boot with recA := some r } })

/-- A further operation of the flash, when the one before it succeeded. -/
def andThen (f : State → Nat × State) (r : Nat × State) : Nat × State := if r.1 = stOK then f r.2 else r

/-! ## Verification (17 R557, R558) -/

/-- Checks 1-4 of Table BU-5: a status and its detail. -/
def headerCheck (h : ImgHdr) (s : State) : Nat × Nat :=
  if !h.formatOk || h.bodyLen < 16 || 1048576 < h.bodyLen || h.bodyLen % 16 ≠ 0 || h.schemaMin = 0 ||
      h.schemaMax.toNat < h.schemaMin.toNat then (stRANGE, 0)
  else if h.part ≠ 0x8832 || 0xB0 < h.minRev.toNat then (stRANGE, 0)
  else if s.boot.vkRev.getLsbD h.vkey.val then (stKEY_ATTR, 0)
  else if h.arb.val < s.boot.arbFuse then (stREFUSED, 0xE3)
  else (stOK, 0)

/-- All the checks of a slot's image; `good`: its tag, hash and signature verify, a fact that the start brings (log entry 5). -/
def imageCheck (img : Option Image) (good : Bool) (s : State) : Nat :=
  match img with
  | none => stRANGE
  | some i => if (headerCheck i.hdr s).1 ≠ stOK then (headerCheck i.hdr s).1 else if good then stOK else stMIC_FAIL

/-- The anti-rollback level and the revocations are burned (17 R558). -/
def burnFuses (arb : Nat) (rev : BitVec 4) (s : State) : State :=
  let s := { s with boot := { s.boot with arbFuse := max s.boot.arbFuse arb, vkRev := s.boot.vkRev ||| rev } }
  (writeRec (fun r => { r with arbPending := false, revoke := 0
                               fallback := if r.fallback = 2 && r.arbF < s.boot.arbFuse then 3 else r.fallback }) s).2

/-! ## Trailhead (17 R559-R564) -/

/-- The boot phase changes. -/
def setPhase (p : Nat) (s : State) : State := { s with boot := { s.boot with phase := p } }

/-- Phase 1 of a copy, active to fallback (17 R563): the slot is written, then the record. -/
def copyPhase1 (s : State) : Nat × State :=
  andThen (writeRec (fun r => { r with fallback := 2, verF := r.verA, arbF := r.arbA, copy := 2 }))
    (flashOp (fun s => { s with boot := { s.boot with fallback := s.boot.active, okF := s.boot.okA } }) s)

/-- Phase 2 of a copy, staging to active. -/
def copyPhase2 (s : State) : Nat × State :=
  andThen (writeRec (fun r => { r with active := 1, staging := 0, runFb := false, trials := 0, reason := 0, copy := 0, verA := r.verS
                                       arbA := r.arbS }))
    (flashOp (fun s => { s with boot := { s.boot with active := s.boot.staging, okA := s.boot.okS } }) s)

/-- Rule 1 of Table BU-8: a stored fallback request goes into the record. -/
def takeRequest (s : State) : State :=
  let q := s.boot.fbReq
  if q = 0 then s
  else
    let r := writeRec (fun r => { r with active := 3, runFb := true, reason := q }) s
    if r.1 = stOK then { r.2 with boot := { r.2.boot with fbReq := 0 } } else r.2

/-- Rules 2 and 3 of Table BU-8: a copy that the record calls for, and a staged image. -/
def copies (s : State) : Nat × State :=
  andThen (fun s =>
    if (bootRec s).staging ≠ 2 then (stOK, s)
    else
      let st := imageCheck s.boot.staging s.boot.okS s
      if st ≠ stOK then (stOK, notify 0x0032 0 st blkHousekeeper (writeRec (fun r => { r with staging := 3 }) s).2)
      else if (bootRec s).active = 2 then
        andThen copyPhase2 (andThen copyPhase1 (writeRec (fun r => { r with copy := 1 }) s))
      else andThen copyPhase2 (writeRec (fun r => { r with copy := 2 }) s))
    (match (bootRec s).copy with
     | 1 => andThen copyPhase2 (copyPhase1 s)
     | 2 => copyPhase2 s
     | _ => (stOK, s))

/-- Rules 4 and 5 of Table BU-8: a trial start is counted; fuses that wait are burned. -/
def countTrial (s : State) : State :=
  let r := bootRec s
  let s := if r.active = 1 && !r.runFb then
      if 3 ≤ r.trials then (writeRec (fun r => { r with active := 3, runFb := true, reason := 5 }) s).2
      else (writeRec (fun r => { r with trials := r.trials + 1 }) s).2
    else s
  let r := bootRec s
  if (r.arbPending || r.revoke ≠ 0) && 3150 ≤ s.pw.vin then burnFuses (if r.arbPending then r.arbA else 0) r.revoke s else s

/-- Does the slot hold an image that can be started? -/
def startable (fb : Bool) (s : State) : Bool :=
  let r := bootRec s
  if fb then r.fallback = 2 && imageCheck s.boot.fallback s.boot.okF s = stOK
  else (r.active = 1 || r.active = 2) && imageCheck s.boot.active s.boot.okA s = stOK

/-- The image is loaded and the housekeeper started (17 R560 step 9, R565, R567). -/
def launchImage (fb : Bool) (reason : Nat) (s : State) : State :=
  match (if fb then s.boot.fallback else s.boot.active) with
  | none => setPhase 5 s
  | some i =>
    let s := { s with
      boot := { s.boot with phase := 6, runningFb := fb, trial := !fb && (bootRec s).active = 1, confirmed := false
                            trialFrom := s.time.elapsed }
      host := { s.host with hifMin := 2, hifMax := 3, schemaMin := i.hdr.schemaMin, schemaMax := i.hdr.schemaMax } }
    if fb then
      let f (h : WHost) : WHost := { h with fallback := true }
      notify 0x0031 reason stBOOT_FALLBACK blkHousekeeper (modWhost .operator f (modWhost .custodian f s))
    else s

/-- Rule 6 of Table BU-8, and step 9 or recovery. -/
def selectSlot (s : State) : State :=
  if !(bootRec s).runFb && startable false s then launchImage false 0 s
  else
    let s := if (bootRec s).runFb then s else (writeRec (fun r => { r with active := 3, runFb := true, reason := 4 }) s).2
    if startable true s then launchImage true (bootRec s).reason s
    else setPhase 5 (writeRec (fun r => { r with fallback := 3 }) s).2

/-- The rules of Table BU-8 call for a write of the record. -/
def needsWrite (s : State) : Bool :=
  let r := bootRec s
  s.boot.fbReq ≠ 0 || r.copy ≠ 0 || r.staging = 2 || (r.active = 1 && !r.runFb) ||
    (if r.runFb then !startable true s else !startable false s)

/-- Steps 7-9 (17 R562, R564): a record write that the inhibit forbids is waited for. A copy that the flash fails leaves no image
that may run: recovery (log entry 83). -/
def decideRecord (s : State) : State :=
  if s.pw.nvInhibit && needsWrite s then setPhase 1 s
  else
    let r := copies (takeRequest s)
    if r.1 = stOK then selectSlot (countTrial r.2) else setPhase 5 r.2

/-- The start without writing, 5 s after the inhibit met it (17 R564). -/
def startUnwritten (s : State) : State :=
  let r := bootRec s
  let held := r.copy ≠ 0 || r.staging = 2 || (r.active = 1 && !r.runFb)
  let fb := held || r.runFb
  if startable fb s then launchImage fb (if held then 7 else r.reason) s else setPhase 5 s

/-- Steps 6-9 (17 R560): no flash means recovery; BOOTSEL 0b10 forces the fallback slot and writes nothing. -/
def readFlash (s : State) : State :=
  if !s.boot.flash then setPhase 5 s
  else if s.straps.bootsel = 2 then (if startable true s then launchImage true 6 s else setPhase 5 s)
  else decideRecord s

/-- Steps 4-5 (17 R559, R560). -/
def keysAndBootsel (s : State) : State :=
  let s := deriveDevice s
  if s.straps.bootsel = 1 then { s with boot := { s.boot with phase := 2, svcAt := s.time.elapsed } }
  else if s.straps.bootsel = 3 then setPhase 3 s
  else readFlash s

/-- Locked service (17 R561). -/
def lockedService (s : State) : State :=
  let s := setPhase 4 s
  { s with host := { s.host with hifMin := 2, hifMax := 3, schemaMin := 0, schemaMax := 0 } }

/-- Root generation (13 R414). What the TRNG gives and whether a bank's read-back compares are free values: 0 the first bank
tried is good, 1 it is dead and the next good, 2 every bank tried is dead, 3 the TRNG failed three draws (log entry 7). -/
def rootGeneration (s : State) : State :=
  if s.pw.vin < 3150 then s
  else withDraw 4 s fun v s => withDraw (2 ^ 256) s fun root s =>
    let takeB (s : State) : State :=
      if s.sec.bankB = 0 then { s with sec := { s.sec with rootB := root, bankB := 1, fused := 1 } } else s
    if v = 3 then s
    else if s.sec.bankA = 0 then
      if v = 0 then { s with sec := { s.sec with rootA := root, bankA := 1, fused := 1 } }
      else
        let s := { s with sec := { s.sec with bankA := 2 } }
        if v = 1 then takeB s else { s with sec := { s.sec with bankB := 2 } }
    else if v = 0 then takeB s
    else { s with sec := { s.sec with bankB := 2 } }

/-- Steps 2-9 of Table BU-7. -/
def trailhead (s : State) : State :=
  let s := if s.sec.fused = 0 then rootGeneration s else s
  if s.sec.fused = 0 then setPhase 7 s
  else if s.sec.locked then lockedService s
  else keysAndBootsel s

/-- CORE_RESET_RELEASE (17 R560, 19 R587, R593): whether flash answers, and what the verification of each slot's tag, hash and
signature gives, are facts of the start. -/
def execCoreResetRelease (flash : Bool) (stagedOk activeOk fallbackOk : Bool) (s : State) : Host.Outcome State Fault Refusal :=
  ok (if s.boot.phase ≠ 0 || !s.time.coreOn || !bankOn 3 s || s.straps.test then s
      else trailhead { s with boot := { s.boot with flash := flash, okA := activeOk, okF := fallbackOk, okS := stagedOk } })

/-- RECOVERY_LISTEN_TIMEOUT (17 R559). -/
def execRecoveryListenTimeout (s : State) : Host.Outcome State Fault Refusal :=
  ok (if s.boot.phase ≠ 2 || s.boot.svcOpen then s else readFlash (reachElapsed (s.boot.svcAt + 10000000000) s))

/-- RECORD_INHIBIT_WAIT (17 R564). -/
def execRecordInhibitWait (s : State) : Host.Outcome State Fault Refusal :=
  ok (if s.boot.phase ≠ 1 then s else startUnwritten (reachElapsed (s.time.elapsed + 5000000000) s))

/-- NV_INHIBIT_RELEASE (14 R468): VIN above 3.10 V held for 1 ms. -/
def execNvInhibitRelease (mv : Nat) (s : State) : Host.Outcome State Fault Refusal :=
  ok (if !s.pw.nvInhibit || mv ≤ 3100 then s
      else
        let s := { s with pw := { s.pw with nvInhibit := false, vin := mv } }
        if s.boot.phase = 1 then decideRecord s else s)

/-- VIO_RANGE_CHANGE (19 R584, R587): a supply between the two ranges, or above them, is outside the operating conditions. -/
def execVioRangeChange (bank : Fin 4) (mv : Nat) (s : State) : Host.Outcome State Fault Refusal :=
  if (1890 < mv && mv < 3000) || 3600 < mv then .fault .outsideOperatingConditions
  else ok { s with pw := { s.pw with vio := s.pw.vio.set bank mv } }

/-! ## The trial (17 R565, R566) -/

/-- Nanoseconds of the trial window. -/
def trialNs (s : State) : Nat := cpar 0x0030 s * 1000000000

/-- A fallback request and the reset of the core domain (17 R566). -/
def requestFallback (reason : Nat) (s : State) : State := coreReset 4 { s with boot := { s.boot with fbReq := reason } }

/-- Confirmation of the running trial image: its final status (17 R558, R565); a record write that fails leaves the trial running
(R552). -/
def confirmNow (s : State) : Nat × State :=
  if s.pw.nvInhibit then (stNV_INHIBIT, s)
  else
    let rev := match s.boot.active with | some i => i.hdr.revoke | none => 0
    let arb := (bootRec s).arbA
    let pending := s.boot.arbFuse < arb
    andThen (fun s =>
      let s := if 3150 ≤ s.pw.vin then burnFuses arb rev s else s
      (stOK, notify 0x0033 arb stOK blkHousekeeper { s with boot := { s.boot with trial := false, confirmed := true } }))
      (writeRec (fun r => { r with active := 2, trials := 0, arbPending := pending, revoke := rev }) s)

/-- The pending confirmations and rejections complete, oldest first (17 R565, R566); one that meets no trial has nothing left to
do. A rejection resets the chip and places no notice, and ends otherwise only with ST_NV_INHIBIT (03 R119; log entry 85). -/
def confirmAll : List (World × Nat × Bool) → State → State
  | [], s => s
  | (w, t, reject) :: cs, s =>
    if reject && s.boot.trial && !s.pw.nvInhibit then requestFallback 3 s
    else
      let r := if !s.boot.trial then (stOK, s) else if reject then (stNV_INHIBIT, s) else confirmNow s
      confirmAll cs (endPending (.ring w) t 0x86 r.1 0 0 r.2)

/-- CONFIRM_COMPLETE: every pending CONFIRM completes. -/
def confirmDone (s : State) : State := confirmAll s.boot.confirming { s with boot := { s.boot with confirming := [] } }

/-- A settings sequence has completed with ST_OK (17 R565). -/
def selfConfirm (s : State) : State := if s.boot.trial && cpar 0x0031 s = 1 then (confirmNow s).2 else s

/-- The trial window expires (17 R566). -/
def trialExpires (s : State) : State :=
  if !s.boot.trial || s.boot.phase ≠ 6 || !s.time.coreOn then s
  else
    let s := confirmDone (reachElapsed (s.boot.trialFrom + trialNs s) s)
    if s.boot.trial && s.boot.phase = 6 then requestFallback (if s.host.settingsBad then 1 else 2) s else s

/-- CONFIRM of mode 0 or 1 is pending (03 R119). -/
def startConfirm (who : Who) (reject : Bool) (s : State) : State :=
  let c := (worldOf who s, nextTicket who s, reject)
  startPending who 0x86 { s with boot := { s.boot with confirming := s.boot.confirming ++ [c] } }

/-- CONFIRM mode 0 (03 R119). -/
def execConfirmImage (who : Who) (c : Cond) (_wd : Fin 16) (s : State) : Host.Outcome State Fault Refusal :=
  ok (issue who c 0x86 .condOnly (fun s =>
    if !s.boot.trial then retRefused who 0x70 s
    else if pendFull who s then retRefused who 0x40 s
    else if !s.host.setupDone then ret who stSETTINGS_UNREADABLE 0 0 s
    else startConfirm who false s) s)

/-- CONFIRM mode 1 (03 R119, 17 R566): pending; then the request is stored and the core domain reset. -/
def execConfirmReject (who : Who) (c : Cond) (_wd : Fin 16) (s : State) : Host.Outcome State Fault Refusal :=
  ok (issue who c 0x86 .condOnly (fun s =>
    if !s.boot.trial then retRefused who 0x70 s
    else if pendFull who s then retRefused who 0x40 s
    else startConfirm who true s) s)

/-- CONFIRM mode 2 (03 R119). A start of an image that an earlier run confirmed is no trial: 0 (log entry 116). -/
def execConfirmRead (who : Who) (c : Cond) (wd : Fin 16) (s : State) : Host.Outcome State Fault Refusal :=
  ok (issue who c 0x86 .condOnly (fun s =>
    let left := if s.boot.trial then (s.boot.trialFrom + trialNs s - s.time.elapsed) / 1000000000 else 0
    retOk who (w32 left) 0 (setW who wd (if s.boot.trial then 1 else if s.boot.confirmed then 2 else 0) s)) s)

/-- BOOT.RESTART takes effect at the end of the record that wrote it (17 R574). -/
def restartIfDue (s : State) : State := if s.boot.restartDue && s.cond.record.isNone then coreReset 4 s else s

/-- BOOT.STATE (17 Table BU-13). -/
def bootState (s : State) : Nat :=
  let r := bootRec s
  r.active + r.fallback * 4 + r.staging * 16 + bitAt s.boot.runningFb 6 + bitAt s.boot.trial 7 + r.trials * 256 +
  s.boot.arbFuse % 64 * 1024 + r.reason * 65536 + bitAt (r.arbPending || r.revoke ≠ 0) 19 + s.boot.vkRev.toNat * 1048576

/-- A word of BOOT.FLASH_ACCESS is well formed (17 R553). -/
def accessOk (v : Word) : Bool :=
  let n := v.toNat
  !v.getLsbD 15 && n / 1048576 = 0 && n / 4096 % 8 < 6 && 1 ≤ n / 65536 % 16 && n / 65536 % 16 ≤ 8

/-! ## The service port (17 R568-R573) -/

/-- The response is sent, or waits while SVC_CTS is high (17 R568, R569). -/
def respond (typ : Nat) (sq : BitVec 8) (st detail : Nat) (rest : List Byte) (s : State) : State :=
  let r := (typ + 0x80, sq.toNat, st, detail, rest)
  if s.boot.svcCts then { s with boot := { s.boot with svcOut := s.boot.svcOut ++ [r] } }
  else { s with boot := { s.boot with svcSent := some r } }

/-- The port is served: by Trailhead while it listens, in locked service and in recovery, and by the housekeeper. -/
def svcServed (s : State) : Bool :=
  s.time.coreOn && bankOn 1 s && s.health.chipFault = 0 && (s.boot.phase = 2 || s.boot.phase = 4 || s.boot.phase = 5 || s.boot.phase = 6)

/-- A valid frame arrives: a sleeping chip only wakes (17 R568), and after a tamper event in a session the next request is
answered with ST_TAMPER_ABORT (17 R573). -/
def svcRequest (typ : Nat) (sq : BitVec 8) (body : State → State) (s : State) : State :=
  if !bankOn 1 s then s
  else if s.pw.entering || s.pw.asleep then wakeEvent 4 s
  else if !svcServed s then s
  else
    let s := { s with boot := { s.boot with svcAt := s.time.elapsed, svcSwitched := false } }
    if s.boot.svcAbort then respond typ sq stTAMPER_ABORT 0 [] { s with boot := { s.boot with svcAbort := false } }
    else body s

/-- Outside Service mode and recovery a session proceeds to HELLO and INFO only. -/
def svcFull (s : State) : Bool := s.boot.phase ≠ 6 || s.pw.mode = 5

/-- Runs the body in full service, or refuses with 0xE0. -/
def inFullService (typ : Nat) (sq : BitVec 8) (body : State → State) (s : State) : State :=
  if svcFull s then body s else respond typ sq stREFUSED 0xE0 [] s

/-- The session closes and the port returns to 115,200 baud. -/
def closeSession (s : State) : State :=
  { s with boot := { s.boot with svcOpen := false, svcStage := false, svcVer := 0, svcBaud := 0, svcSwitch := none, svcSwitched := false
                                 svcBody := [], svcLast := none } }

/-- ABORT and the idle limit (17 R571): a slot being written becomes empty; the inhibit forbids the record. -/
def abortSession (s : State) : Nat × State :=
  let writing := s.boot.svcStage
  let s := closeSession s
  if !writing then (stOK, s)
  else if s.pw.nvInhibit then (stNV_INHIBIT, s)
  else writeRec (fun r => { r with staging := 0 }) s

/-- SVC_HELLO (17 R570, 19 R596). -/
def svcHelloOp (sq : BitVec 8) (lo hi : BitVec 8) (baud : BitVec 8) : State → State :=
  svcRequest 0x01 sq (fun s =>
    let covers (v : Nat) : Bool := lo.toNat ≤ v && v ≤ hi.toNat
    if !covers 1 && !covers 2 then respond 0x01 sq stVERSION 0 [] (closeSession s)
    else if covers 2 && 3 < baud.toNat then respond 0x01 sq stRANGE 0 [] s
    else
      let v := if covers 2 then 2 else 1
      let b := if v = 1 || (s.rtc.crystalOff && !s.time.refQual) then 0 else baud.toNat
      let s := { s with boot := { s.boot with svcOpen := true, svcVer := v, svcSwitch := if v = 2 then some b else none } }
      respond 0x01 sq stOK 0 [BitVec.ofNat 8 v, BitVec.ofNat 8 b] s)

/-- SVC_INFO (17 R570). -/
def svcInfoOp (sq : BitVec 8) : State → State :=
  svcRequest 0x02 sq (fun s =>
    let ident := 0xB08832 + s.straps.caspos.val * 2 ^ 28 + bitAt s.straps.twinen 31 + bitAt s.straps.master 32 + s.straps.bootsel.val * 2 ^ 33
    let r := bootRec s
    let pub := match s.sec.updKey with | some d => (Config.ecPub d ++ List.replicate 64 0).take 64 | none => List.replicate 64 0
    respond 0x02 sq stOK 0 (leOctets 8 ident ++ leOctets 1 (lcState s) ++ leOctets 4 (bootState s) ++ leOctets 4 r.verA.toNat ++
      leOctets 4 r.verF.toNat ++ leOctets 4 r.verS.toNat ++ pub) s)

/-- SVC_BEGIN (17 R571). -/
def svcBeginOp (sq : BitVec 8) (h : ImgHdr) : State → State :=
  svcRequest 0x03 sq (inFullService 0x03 sq (fun s =>
    if lcState s = 0 || lcState s = 3 then respond 0x03 sq stLIFECYCLE 0 [] s
    else if s.boot.trial then respond 0x03 sq stREFUSED 0xE2 [] s
    else if (headerCheck h s).1 ≠ stOK then respond 0x03 sq (headerCheck h s).1 (headerCheck h s).2 [] s
    else if s.pw.nvInhibit then respond 0x03 sq stNV_INHIBIT 0 [] s
    else
      let r := andThen (fun s => (stOK, { s with boot := { s.boot with
        svcOpen := true, svcStage := true, svcHdr := h, svcBody := [], svcLast := none, staging := none } }))
        (writeRec (fun r => { r with staging := 1 }) s)
      respond 0x03 sq r.1 0 [] r.2))

/-- SVC_DATA (17 R569-R571): a body that the version's limit does not allow makes a frame that is discarded and counted. -/
def svcDataOp (sq : BitVec 8) (off : Nat) (body : List Byte) (s : State) : State :=
  if (if s.boot.svcVer = 2 then 4096 else 1024) < body.length then (if svcServed s then bump 0x0038 s else s)
  else svcRequest 0x04 sq (inFullService 0x04 sq (fun s =>
    let n := s.boot.svcBody.length
    let count := leOctets 4 n
    if s.pw.nvInhibit then respond 0x04 sq stNV_INHIBIT 0 count s
    else if s.boot.svcStage && s.boot.svcLast = some (off, body.length) && off ≠ n then respond 0x04 sq stOK 0 count s
    else if !s.boot.svcStage || off ≠ n || s.boot.svcHdr.bodyLen < n + body.length then respond 0x04 sq stRANGE n count s
    else
      let r := flashOp (fun s => { s with boot := { s.boot with
        svcBody := s.boot.svcBody ++ body, svcLast := some (off, body.length) } }) s
      respond 0x04 sq r.1 0 (leOctets 4 r.2.boot.svcBody.length) r.2)) s

/-- The plaintext of a transit image whose tag, hash and signature verify (17 R555-R557). -/
def openTransit (s : State) : Option (List Byte) :=
  let h := s.boot.svcHdr.octets
  let z := beOctets 32 (Config.ecdh (s.sec.updKey.getD 0) ((h.drop 28).take 64))
  let label : List Byte := [0x43, 0x59, 0x4C, 0x55, 0x50, 0x44, 0x30, 0x31]
  let key := leNat (Config.sha256 ([0, 0, 0, 1] ++ z ++ label ++ h.take 92)).reverse
  match Config.gcmOpen key (h.take 120 ++ s.boot.svcBody) with
  | none => none
  | some pt =>
    let signed := Config.sha256 (h.take 5 ++ (h.drop 6).take 22 ++ (h.drop 120).take 32)
    if Config.sha256 pt = (h.drop 120).take 32 &&
        Config.ecdsaOk (Config.vendorKey s.boot.svcHdr.vkey.val) signed ((h.drop 152).take 64) then some pt
    else none

/-- The image at rest, under the storage key with an initialisation vector of the TRNG (17 R556, log entry 7). -/
def stageImage (pt : List Byte) (s : State) : State :=
  withDraw (2 ^ 96) s fun iv s =>
    { s with boot := { s.boot with
      staging := some { hdr := s.boot.svcHdr, body := Config.gcmSeal (s.sec.storageKey.getD 0) iv pt } } }

/-- SVC_END (17 R572): a restart follows its response, which SVC_CTS may hold. -/
def svcEndOp (sq : BitVec 8) (restart : Bool) : State → State :=
  svcRequest 0x05 sq (inFullService 0x05 sq (fun s =>
    if s.pw.nvInhibit then respond 0x05 sq stNV_INHIBIT 0 [] s
    else if !s.boot.svcStage || s.boot.svcBody.length ≠ s.boot.svcHdr.bodyLen then respond 0x05 sq stRANGE 0 [] s
    else match openTransit s with
      | none =>
        let r := writeRec (fun r => { r with staging := 3 }) s
        respond 0x05 sq stMIC_FAIL 0 [] { r.2 with boot := { r.2.boot with svcStage := false } }
      | some pt =>
        let h := s.boot.svcHdr
        let r := andThen (fun s => (stOK, notify 0x0032 0 stOK blkHousekeeper { s with boot := { s.boot with svcStage := false } }))
          (andThen (writeRec (fun r => { r with staging := 2, verS := h.version, arbS := h.arb.val })) (flashOp (stageImage pt) s))
        let s := respond 0x05 sq r.1 0 [] r.2
        if !restart || r.1 ≠ stOK then s
        else if s.boot.svcCts then { s with boot := { s.boot with svcRestart := true } }
        else
          let sent := s.boot.svcSent
          let s := coreReset 4 s
          { s with boot := { s.boot with svcSent := sent } }))

/-- SVC_ABORT (17 R571). -/
def svcAbortOp (sq : BitVec 8) : State → State :=
  svcRequest 0x06 sq (inFullService 0x06 sq (fun s =>
    let (st, s) := abortSession s
    respond 0x06 sq st 0 [] s))

/-- SVC_STATUS (17 R570). -/
def svcStatusOp (sq : BitVec 8) : State → State :=
  svcRequest 0x07 sq (inFullService 0x07 sq (fun s =>
    let st := if s.boot.svcStage then 2 else if s.boot.svcOpen then 1 else 0
    respond 0x07 sq stOK 0 (leOctets 1 st ++ leOctets 4 s.boot.svcBody.length) s))

/-- SVC_OCTET_GAP_TIMEOUT (17 R569). -/
def execSvcOctetGapTimeout (s : State) : Host.Outcome State Fault Refusal := ok (if svcServed s then bump 0x0038 s else s)

/-- SVC_BAD_FRAME (17 R569). -/
def execSvcBadFrame (s : State) : Host.Outcome State Fault Refusal := ok (if svcServed s then bump 0x0038 s else s)

/-- SVC_SESSION_IDLE (17 R571). -/
def execSvcSessionIdle (s : State) : Host.Outcome State Fault Refusal :=
  ok (if s.boot.svcOpen then (abortSession (reachElapsed (s.boot.svcAt + 30000000000) s)).2 else s)

/-- SVC_RATE_SWITCH (17 R570): 1 ms after the response. -/
def execSvcRateSwitch (s : State) : Host.Outcome State Fault Refusal :=
  ok (match s.boot.svcSwitch with
    | some b =>
      if !s.boot.svcOut.isEmpty then s
      else
        let s := reachElapsed (s.time.elapsed + 1000000) s
        { s with boot := { s.boot with svcBaud := b, svcSwitch := none, svcSwitched := true, svcAt := s.time.elapsed } }
    | none => s)

/-- SVC_RATE_SWITCH_TIMEOUT (17 R570): no valid frame within 2 s of the switch. -/
def execSvcRateSwitchTimeout (s : State) : Host.Outcome State Fault Refusal :=
  ok (if s.boot.svcSwitched then closeSession (reachElapsed (s.boot.svcAt + 2000000000) s) else s)

/-- SVC_CTS_CHANGE (17 R568): the responses that waited are sent in order. -/
def execSvcCtsChange (high : Bool) (s : State) : Host.Outcome State Fault Refusal :=
  ok (if !bankOn 1 s then s
      else
        let s := { s with boot := { s.boot with svcCts := high } }
        if high then s
        else
          let sent := match s.boot.svcOut.getLast? with | some r => some r | none => s.boot.svcSent
          let due := s.boot.svcRestart
          let s := { s with boot := { s.boot with svcOut := [], svcSent := sent, svcRestart := false } }
          if due then
            let s := coreReset 4 s
            { s with boot := { s.boot with svcSent := sent } }
          else s)

end Sys2Proof.Machine
end

