-- ==== Sys2Proof/Machine/Host.lean ====
section
/-! DEFINITION. The host's side of the interface: the status window, PSUM, the rings and their doorbells, and QSPI (chapter 15). -/

namespace Sys2Proof.Machine

/-! ## Links and worlds (15 R479-R482) -/

/-- Writes of a link reach the window: the core runs, and the PCIe link is trained, or the QSPI bank is supplied. -/
def hostLinkUp (l : HostLink) (s : State) : Bool :=
  s.time.coreOn && match l with
  | .pcie => s.host.pcieUp && !s.pw.slotAwake && bankOn 3 s
  | .qspi => bankOn 1 s

/-- A write of link l: nothing while the link is down; ignored and counted when the other link is the host link (15 R481). -/
def hostWrite (l : HostLink) (body : State → State) (s : State) : State :=
  if !hostLinkUp l s then s
  else if s.host.link.any (· ≠ l) then bump 0x0A20 s
  else body s

/-- The host link is chosen and up. -/
def hostUp (s : State) : Bool := s.host.link.any (fun l => hostLinkUp l s)

/-- A world's part of ring memory: first octet and end (15 R482). -/
def ringPart (w : World) (s : State) : Nat × Nat :=
  match w with
  | .operator => (0, cpar 0x0A11 s)
  | .custodian => (cpar 0x0A11 s, 1048576)

/-- Octets a to a + n lie in the world's part. -/
def inPart (w : World) (a n : Nat) (s : State) : Bool := (ringPart w s).1 ≤ a && a + n ≤ (ringPart w s).2

/-! ## Starting and stopping rings (15 R491) -/

/-- Blocks of transmit rings, as ring numbers. -/
def txOf (b : Fin 20) : Option (Fin 8) := if h : 11 ≤ b.val ∧ b.val < 19 then some ⟨b.val - 11, by omega⟩ else none

/-- Blocks of receive rings. -/
def isRx (b : Fin 20) : Bool := 3 ≤ b.val && b.val ≤ 10

/-- Transmit ring state. -/
def txRing (w : World) (r : Fin 8) (s : State) : TxRing := (whost w s).tx[r]

/-- Changes transmit ring state. -/
def modTx (w : World) (r : Fin 8) (f : TxRing → TxRing) (s : State) : State :=
  modWhost w (fun h => { h with tx := upd h.tx r f }) s

/-- A transmit ring's open item is dropped as QDROP.REST would; its descriptors are abandoned, its waiting start too, and its
discard ends (11 R372, 15 R491). -/
def closeTx (w : World) (r : Fin 8) (s : State) : State :=
  let s := if (txRing w r s).open_ then
      let p := port w s
      let s := match p.qOpen with
        | some q => if ((queue q s).inc).any (fun it => it.job = p.job) then txfsLost (dropRest q stFLUSHED_MIDITEM s) else s
        | none => dropHeldOpen w stFLUSHED_MIDITEM s
      modPort w (fun _ => {}) s
    else s
  let s := modTx w r (fun t => { lastWb := t.lastWb }) s
  let s := modWhost w (fun h => { h with txCur := if h.txCur = some r then none else h.txCur }) s
  { s with qp := { s.qp with waits := s.qp.waits.filter (fun x => !(x.cust == (w == .custodian) && x.ring == r.val)) } }

/-- A write of SIZE = 0 (15 R491). -/
def stopRing (w : World) (b : Fin 20) (s : State) : State :=
  if b = blkCommand then stopCommand w s
  else
    let s := modRing w b (fun r => { r with size := 0, unread := [] }) s
    let s := match txOf b with
      | some r => closeTx w r s
      | none => s
    if b = 19 then modWhost w (fun h => { h with mirrorDue := false }) s
    else if b = blkCompletion && s.cond.record.isNone then stopOrphan w s
    else s

/-- Every ring of a world stops (15 R505). -/
def stopRings (w : World) (s : State) : State := (List.finRange 20).foldl (fun s b => stopRing w b s) s

/-- The sizes of Table HI-7. -/
def sizeOk (b : Fin 20) (n : Nat) : Bool :=
  if b = 19 then n = 1 else [16, 32, 64, 128, 256, 512, 1024, 2048, 4096].contains n

/-- BASE and BUFBASE are aligned. -/
def aligned (b : Fin 20) (r : Ring) : Bool :=
  r.base.toNat % (if b = 19 then 8 else 64) = 0 && (!isRx b || r.bufbase.toNat % 2048 = 0)

/-- On QSPI the ring and its buffers lie in the world's part. -/
def placed (w : World) (l : HostLink) (b : Fin 20) (r : Ring) (n : Nat) (s : State) : Bool :=
  l = .pcie || (inPart w r.base.toNat (32 * n) s && (!isRx b || inPart w r.bufbase.toNat (2048 * n) s))

/-- The negotiated version provides the block (15 R506, R488). -/
def provided (l : HostLink) (b : Fin 20) (s : State) : Bool :=
  if b = 19 then s.host.hifNeg = 3 && l = .pcie
  else s.host.hifNeg ≠ 2 || !((4 ≤ b.val && b.val ≤ 10) || 12 ≤ b.val)

/-- A write of a non-zero SIZE (15 R491). -/
def startRing (w : World) (l : HostLink) (b : Fin 20) (n : Nat) (s : State) : State :=
  let r := ring w b s
  if r.runs then bump 0x0A20 s
  else if sizeOk b n && aligned b r && placed w l b r n s && provided l b s &&
      (b ≠ blkCommand || (ring w blkCompletion s).runs) then
    let s := modRing w b (fun r => { base := r.base, bufbase := r.bufbase, size := n }) s
    match txOf b with
    | some r => closeTx w r s
    | none => s
  else notify 0x0A02 b.val stRANGE blkHost s

/-- A write of SIZE. -/
def writeSize (w : World) (l : HostLink) (b : Fin 20) (n : Nat) (s : State) : State :=
  if n = 0 then stopRing w b s else startRing w l b n s

/-- A 64-bit field with one of its words replaced. -/
def setHalf (hi : Bool) (v : Word) (x : BitVec 64) : BitVec 64 :=
  if hi then BitVec.ofNat 64 (x.toNat % 4294967296 + v.toNat * 4294967296)
  else BitVec.ofNat 64 (x.toNat / 4294967296 * 4294967296 + v.toNat)

/-- A write of BASE or BUFBASE (15 R490, R491). -/
def writeBase (w : World) (b : Fin 20) (word : Fin 4) (v : Word) (s : State) : State :=
  if (ring w b s).runs || (2 ≤ word.val && !isRx b) then bump 0x0A20 s
  else if word.val < 2 then modRing w b (fun r => { r with base := setHalf (word = 1) v r.base }) s
  else modRing w b (fun r => { r with bufbase := setHalf (word = 3) v r.bufbase }) s

/-! ## Doorbells (15 R493) -/

/-- A doorbell or CONS write that fails its checks. -/
def badBell (off : Nat) (s : State) : State := notify 0x0A01 off stRANGE blkHost (bump 0x0A21 s)

/-- CONS (15 R493): checked against DEVIDX and the previous CONS. -/
def writeCons (w : World) (b : Fin 20) (v : Nat) (s : State) : State :=
  let r := ring w b s
  if b.val = 0 || 11 ≤ b.val then bump 0x0A20 s
  else if !r.runs || s.host.hifNeg = 0 || diff16 r.dev r.cons < diff16 v r.cons then badBell (0x10C + 32 * b.val) s
  else modRing w b (fun r => { r with cons := v, unread := r.unread.drop (diff16 v r.cons) }) s

/-- A producer index offered by a doorbell is acceptable. -/
def bellOk (r : Ring) (p : Word) (s : State) : Bool :=
  p.toNat < 65536 && r.runs && s.host.hifNeg ≠ 0 && diff16 p.toNat r.dev ≤ r.size && diff16 r.lastP r.dev ≤ diff16 p.toNat r.dev

/-- A producer doorbell. -/
def producer (w : World) (b : Fin 20) (off : Nat) (p : Word) (s : State) : State :=
  if bellOk (ring w b s) p s then modRing w b (fun r => { r with lastP := p.toNat }) s else badBell off s

/-- Block of transmit ring n. -/
def txBlk (n : Fin 8) : Fin 20 := ⟨11 + n.val, by omega⟩

/-- Block of receive ring n. -/
def rxBlk (n : Fin 8) : Fin 20 := ⟨3 + n.val, by omega⟩

/-- The other world. -/
def other (w : World) : World :=
  match w with
  | .operator => .custodian
  | .custodian => .operator

/-- HELLO (15 R505, R481). -/
def helloBell (w : World) (l : HostLink) (v : Word) (s : State) : State :=
  if 256 ≤ v.toNat then badBell 0x1000 s
  else
    let s := stopRings w { s with host := { s.host with link := some (s.host.link.getD l) } }
    let n := BitVec.ofNat 8 v.toNat
    let taken := (whost (other w) s).hello = BitVec.ofNat 8 stOK && s.host.hifNeg ≠ 0
    let (st, neg) :=
      if v.toNat < s.host.hifMin.toNat || s.host.hifMax.toNat < v.toNat then (stRANGE, s.host.hifNeg)
      else if taken && s.host.hifNeg ≠ n then (stVERSION, s.host.hifNeg)
      else (stOK, n)
    let s := modWhost w (fun h => { h with hello := BitVec.ofNat 8 st }) s
    let none_ := s.host.op.hello ≠ 0 && s.host.cust.hello ≠ 0
    { s with host := { s.host with hifNeg := if none_ then 0 else neg } }

/-! ## The status window (15 R483, R490; 01 R22) -/

/-- A write to an offset of the window. -/
def windowWrite (w : World) (l : HostLink) (off : Nat) (v : Word) (s : State) : State :=
  if off % 4 ≠ 0 then bump 0x0A20 s
  else if h : 0x100 ≤ off ∧ off < 0x380 then
    let b : Fin 20 := ⟨(off - 0x100) / 32, by omega⟩
    match off % 32 / 4 with
    | 0 => writeBase w b 0 v s
    | 1 => writeBase w b 1 v s
    | 2 => writeSize w l b (v.toNat % 65536) s
    | 3 => writeCons w b (v.toNat % 65536) s
    | 4 => writeBase w b 2 v s
    | 5 => writeBase w b 3 v s
    | _ => bump 0x0A20 s
  else if off = 0x1000 then helloBell w l v s
  else if off = 0x1004 then producer w blkCommand off v s
  else if h : 0x1008 ≤ off ∧ off < 0x1028 then producer w (txBlk ⟨(off - 0x1008) / 4, by omega⟩) off v s
  else bump 0x0A20 s

/-- STATUS_WINDOW_WRITE (01 R22, 15 R510). -/
def execStatusWindowWrite (w : World) (l : HostLink) (off : BitVec 13) (v : Word) (s : State) : Host.Outcome State Fault Refusal :=
  ok (hostWrite l (windowWrite w l off.toNat v) s)

/-- HELLO (15 R505). -/
def execHello (w : World) (l : HostLink) (v : Word) (s : State) : Host.Outcome State Fault Refusal :=
  ok (hostWrite l (helloBell w l v) s)

/-- COMMAND_PRODUCER (15 R493). -/
def execCommandProducer (w : World) (l : HostLink) (p : Word) (s : State) : Host.Outcome State Fault Refusal :=
  ok (hostWrite l (producer w blkCommand 0x1004 p) s)

/-- TRANSMIT_PRODUCER (15 R493). -/
def execTransmitProducer (w : World) (l : HostLink) (n : Fin 8) (p : Word) (s : State) : Host.Outcome State Fault Refusal :=
  ok (hostWrite l (producer w (txBlk n) (0x1008 + 4 * n.val) p) s)

/-- RING_START (15 R491): a write of SIZE; 0 stops. -/
def execRingStart (w : World) (l : HostLink) (b : Fin 20) (size : BitVec 16) (s : State) : Host.Outcome State Fault Refusal :=
  ok (hostWrite l (writeSize w l b size.toNat) s)

/-- RING_STOP (15 R491). -/
def execRingStop (w : World) (l : HostLink) (b : Fin 20) (s : State) : Host.Outcome State Fault Refusal :=
  ok (hostWrite l (stopRing w b) s)

/-- RING_BASE_WRITE (15 R490, R491). -/
def execRingBaseWrite (w : World) (l : HostLink) (b : Fin 20) (word : Fin 4) (v : Word) (s : State) :
    Host.Outcome State Fault Refusal :=
  ok (hostWrite l (writeBase w b word v) s)

/-- CONSUMER_INDEX (15 R493). -/
def execConsumerIndex (w : World) (l : HostLink) (b : Fin 20) (v : BitVec 16) (s : State) : Host.Outcome State Fault Refusal :=
  ok (hostWrite l (writeCons w b v.toNat) s)

/-! ## PSUM (15 R486-R488, 07 R251) -/

/-- A read of PSUM: the latch, the reading world's RC fields and the silence timer are cleared. -/
def readPsum (w : World) (s : State) : State :=
  let v := psum w s
  let s := { s with host := { s.host with silent := false, lastPsum := s.time.elapsed } }
  let s := modWhost w (fun h => { h with psumLatch := v, txdone := 0, hostSilent := false, lpovl := false, fallback := false }) s
  let b := psumBits w s
  modWhost w (fun h => { h with psumShown := b }) s

/-- PSUM_READ (15 R486). -/
def execPsumRead (w : World) (s : State) : Host.Outcome State Fault Refusal := ok (if s.time.coreOn then readPsum w s else s)

/-- PSUM_MIRROR_WRITE (15 R488): at least HOST.MIRROR_GAP after the last. -/
def execPsumMirrorWrite (w : World) (s : State) : Host.Outcome State Fault Refusal :=
  ok (if !hostUp s || !(ring w 19 s).runs || !(whost w s).mirrorDue then s
      else
        let s := reachElapsed ((whost w s).mirrorAt + cpar 0x0A10 s * 1000) s
        let v := psum w s
        modWhost w (fun h => { h with mirrorDue := false, mirrorAt := s.time.elapsed, mirrorOut := v }) s)

/-- ST_HOST_SILENT is shown in both worlds (07 R251). -/
def showSilent (s : State) : State :=
  let f (h : WHost) : WHost := { h with hostSilent := true }
  modWhost .operator f (modWhost .custodian f { s with host := { s.host with silent := true } })

/-- HOST_SILENCE (07 R251). -/
def execHostSilence (s : State) : Host.Outcome State Fault Refusal :=
  ok (if !s.time.coreOn || s.host.silent then s else showSilent (reachElapsed (s.host.lastPsum + cpar 0x0A40 s * 1000000) s))

/-! ## Latched windows (05 R192, 08 R279) -/

/-- The twelve words of the time snapshot (05 Table TM-8). -/
def timeWords (latchId : BitVec 16) (s : State) : List Word :=
  let t := s.time
  let n := nowT s
  [w32 (bitAt (!t.qual) 0 + bitAt t.holdover 1 + bitAt t.sealed_ 2 + bitAt t.stepUsed 3 + bitAt s.rtc.set_ 4 + bitAt t.ppsLocked 5 +
      t.disc.toNat % 4 * 256 + bitAt t.refUnver 10 + latchId.toNat * 65536),
   w32 n.ns.toNat, w32 n.sec.toNat, w32 (n.sec.toNat / 4294967296), w32 s.grid.asn, w32 (s.grid.asn / 4294967296 % 256),
   s.rtc.t.timeWord, s.rtc.t.dateWord s.rtc.wday, w32 (rtcPresc s), i32 t.rate, i32 t.ppsErr, t.xovr]

/-- The read of 0x0900. -/
def latchTime (s : State) : State :=
  let id := s.time.latchId + 1
  { s with time := { s.time with latchId := id, latch := timeWords id s, xovrDue := s.time.xovr } }

/-- Reading XOVR clears the live flags that the latch contained, once for a latch; one set since stays (05 R192). -/
def readXovr (s : State) : State :=
  { s with time := { s.time with xovr := s.time.xovr &&& ~~~ s.time.xovrDue, xovrDue := 0 } }

/-- TIME_SNAPSHOT_READ (05 R192): the whole snapshot, XOVR included. -/
def execTimeSnapshotRead (_w : World) (s : State) : Host.Outcome State Fault Refusal :=
  ok (if s.time.coreOn then readXovr (latchTime s) else s)

/-- NFLOOR entry of a tap: 0 on an offline slice, on a deaf tap and on a tap that no segment of its plan gives a channel (08 R279,
09 R312). -/
def nfOf (n : Fin 12) (t : Fin 16) (s : State) : Nat :=
  let x := slice n s
  if x.offline || x.deaf[t] || !(x.plan.toList.any (fun g => g.taps[t].family ≠ 0)) then 0 else nfEntry x.floors[t]

/-- The 48 words of the NFLOOR window (08 Table OM-12). -/
def nfWords (s : State) : List Word :=
  sliceIdx.flatMap (fun n => ([0, 1, 2, 3] : List (Fin 4)).map (fun g =>
    w32 (([0, 1, 2, 3] : List (Fin 4)).map (fun k => nfOf n ⟨4 * g.val + k.val, by omega⟩ s * 256 ^ k.val)).sum))

/-- The read of 0x0800. -/
def latchFloors (s : State) : State := { s with radio := { s.radio with nfLatch := nfWords s } }

/-- NFLOOR_READ (08 R279). -/
def execNfloorRead (_w : World) (s : State) : Host.Outcome State Fault Refusal := ok (if s.time.coreOn then latchFloors s else s)

/-- IDENT (15 Table HI-3). -/
def identBits (w : World) (l : HostLink) (s : State) : Nat :=
  0x8832 + 0xB0 * 65536 + bitAt (w = .custodian) 24 + bitAt (l = .qspi) 25 + s.straps.caspos.val * 2 ^ 28 +
    bitAt s.straps.twinen 31 + bitAt s.straps.master 32 + s.straps.bootsel.val * 2 ^ 33

/-- VERS (15 Table HI-4). -/
def versBits (w : World) (s : State) : Nat :=
  let h := s.host
  let ver (k : Fin 6) : Nat := if (link k s).trained then (link k s).ver % 16 else 0
  h.hifMin.toNat + h.hifMax.toNat * 2 ^ 8 + h.hifNeg.toNat * 2 ^ 16 + (whost w s).hello.toNat * 2 ^ 24 +
    (linkIdx.map (fun k => ver k * 2 ^ (32 + 4 * k.val))).sum + s.boot.svcVer % 16 * 2 ^ 56 +
    h.schemaMin.toNat * 2 ^ 64 + h.schemaMax.toNat * 2 ^ 80 + h.schemaApplied.toNat * 2 ^ 96

/-- Word i of a ring pointer block (15 Table HI-7). -/
def ringWord (b : Fin 20) (r : Ring) (i : Nat) : Nat :=
  match i with
  | 0 => r.base.toNat % 4294967296
  | 1 => r.base.toNat / 4294967296
  | 2 => r.size
  | 3 => (if b.val = 0 || 11 ≤ b.val then 0 else r.cons) + r.dev * 65536
  | 4 => if isRx b then r.bufbase.toNat % 4294967296 else 0
  | 5 => if isRx b then r.bufbase.toNat / 4294967296 else 0
  | _ => 0

/-- A read of a word of the window by a world over a link; some words have an effect of their own. -/
def windowRead (w : World) (l : HostLink) (off : Nat) (s : State) : Word × State :=
  if off = 0 then
    let s := readPsum w s
    (w32 ((whost w s).psumLatch.toNat % 4294967296), s)
  else if off = 4 then (w32 ((whost w s).psumLatch.toNat / 4294967296), s)
  else if off = 0x10 || off = 0x14 then (w32 (identBits w l s / 2 ^ (8 * (off - 0x10)) % 4294967296), s)
  else if 0x20 ≤ off && off < 0x30 then (w32 (versBits w s / 2 ^ (8 * (off - 0x20)) % 4294967296), s)
  else if h : 0x100 ≤ off ∧ off < 0x380 then
    let b : Fin 20 := ⟨(off - 0x100) / 32, by omega⟩
    (w32 (ringWord b (ring w b s) (off % 32 / 4)), s)
  else if 0x400 ≤ off && off < 0x430 then
    let s := if off = 0x400 then latchLedger s else s
    (s.qp.ledger.latch.getD ((off - 0x400) / 4) 0, s)
  else if 0x600 ≤ off && off < 0x800 then
    let s := if off = 0x600 then latchHealth s else s
    (s.health.latch.getD ((off - 0x600) / 4) 0, s)
  else if 0x800 ≤ off && off < 0x8C0 then
    let s := if off = 0x800 then latchFloors s else s
    (s.radio.nfLatch.getD ((off - 0x800) / 4) 0, s)
  else if 0x900 ≤ off && off < 0x930 then
    let s := if off = 0x900 then latchTime s else s
    let v := s.time.latch.getD ((off - 0x900) / 4) 0
    (v, if off = 0x92C then readXovr s else s)
  else (0, s)

/-! ## QSPI (15 R480, R482, R510) -/

/-- The length and alignment of a transfer. -/
def transferOk (addr octets : Nat) : Bool := addr % 4 = 0 && octets % 4 = 0 && 0 < octets && octets ≤ 4096

/-- An address of ring memory. -/
def isRingMem (a : Nat) : Bool := 0x100000 ≤ a && a < 0x200000

/-- Some word of a transfer lies in ring memory outside the world's part. -/
def strays (w : World) (addr n : Nat) (s : State) : Bool :=
  (List.range n).any (fun k => isRingMem (addr + 4 * k) && !inPart w (addr + 4 * k - 0x100000) 4 s)

/-- Reads n words from an address, in order. -/
def readWords (w : World) : Nat → Nat → State → List Word × State
  | 0, _, s => ([], s)
  | n + 1, a, s =>
    let (v, s) :=
      if a < 0x2000 then windowRead w .qspi a s
      else if isRingMem a && inPart w (a - 0x100000) 4 s then (ringMemGet ((a - 0x100000) / 4) s, s)
      else (0, s)
    let (vs, s) := readWords w n (a + 4) s
    (v :: vs, s)

/-- A QSPI read while the core runs. -/
def qspiReadOp (w : World) (addr len : Nat) (s : State) : State :=
  if !transferOk addr len then bump 0x0A23 s
  else
    let s := if strays w addr (len / 4) s then bump 0x0A20 s else s
    let (vs, s) := readWords w (len / 4) addr s
    { s with host := { s.host with qspiOut := vs } }

/-- Writes words from an address, in order. -/
def writeWords (w : World) : List Word → Nat → State → State
  | [], _, s => s
  | v :: vs, a, s =>
    let s :=
      if a < 0x2000 then hostWrite .qspi (windowWrite w .qspi a v) s
      else if isRingMem a && inPart w (a - 0x100000) 4 s then ringMemWrite ((a - 0x100000) / 4) [v] s
      else s
    writeWords w vs (a + 4) s

/-- QSPI_WRITE (15 R480, R482). -/
def execQspiWrite (w : World) (addr : BitVec 24) (data : List Word) (s : State) : Host.Outcome State Fault Refusal :=
  ok (if !hostLinkUp .qspi s then s
      else if !transferOk addr.toNat (4 * data.length) then bump 0x0A23 s
      else writeWords w data addr.toNat (if strays w addr.toNat data.length s then bump 0x0A20 s else s))

/-- QSPI_BAD_TRANSFER (15 R510). -/
def execQspiBadTransfer (_w : World) (s : State) : Host.Outcome State Fault Refusal :=
  ok (if hostLinkUp .qspi s then bump 0x0A23 s else s)

/-- PERST_N (19 R602, R587): asserted takes the PCIe link down; released it trains. -/
def execPerstN (asserted : Bool) (s : State) : Host.Outcome State Fault Refusal :=
  ok (if bankOn 3 s then { s with host := { s.host with pcieUp := !asserted } } else s)

end Sys2Proof.Machine
end

