-- ==== Sys2Proof/Machine/Transmit.lean ====
section
/-! DEFINITION. Transmit and receive rings, the host's items, and bad DMA ends (15 R500-R504, R511; 11 R357-R362, R372-R374;
12 R401). -/

namespace Sys2Proof.Machine

/-! ## Write-back (15 R502, R503) -/

/-- A descriptor as the host wrote it, with the octets of the write-back (15 Table HI-13). -/
def txWords (soi eoi : Bool) (d : TxDesc) (job : Nat) (detail : Word) (st : Nat) : List Word :=
  let named := soi && !d.route
  [w32 (bitAt soi 0 + bitAt eoi 1 + bitAt d.secured 2 + bitAt d.route 3 + 16 + (if soi then d.phymode.toNat else 0) * 256 +
      d.data.length % 65536 * 65536),
   w32 ((if named then d.queue.val else 0) + (if soi then d.decl % 65536 else 0) * 65536), w32 job, detail,
   w32 (if named then d.index.toNat else 0), w32 (if d.route then d.eui.toNat % 4294967296 else 0),
   w32 (if d.route then d.eui.toNat / 4294967296 else 0), w32 (bitAt (d.route && d.dist) 0 + st * 256)]

/-- The descriptor at DEVIDX is written back with a status, JOBREF and detail, and DEVIDX passes it. -/
def writeBack (w : World) (r : Fin 8) (soi eoi : Bool) (d : TxDesc) (st job : Nat) (detail : Word) (s : State) : State :=
  let b := txBlk r
  let x := ring w b s
  let ws := txWords soi eoi d job detail st
  let s := emit (leOctets 1 0x20 ++ leOctets 1 (if w = .operator then 0 else 1) ++ leOctets 1 b.val ++ leOctets 2 x.dev ++
      leOctets 4 (crc32c 0xFFFFFFFF (ws.flatMap wordOctets)) ++ leOctets 4 0) s
  let s := modRing w b (fun x => { x with dev := (x.dev + 1) % 65536 }) s
  if hostOutputHeld b s then s
  else
    let s := modTx w r (fun t => { t with lastWb := ws }) s
    let s := modWhost w (fun h => { h with txdone := h.txdone ||| BitVec.ofNat 8 (2 ^ r.val) }) s
    if s.host.link = some .qspi then ringMemWrite (x.base.toNat / 4 + 8 * (x.dev % max x.size 1)) ws s else s

/-- The device moves to the next ring (15 R503). -/
def nextRing (w : World) (r : Fin 8) (s : State) : State :=
  modWhost w (fun h => { h with txCur := none, txNext := (r.val + 1) % 8 }) s

/-- The ring of a world that the device serves now: it stays from an SOI to its EOI, else the next with a descriptor waiting. -/
def txTurn (w : World) (s : State) : Option (Fin 8) :=
  let h := whost w s
  match h.txCur with
  | some r => some r
  | none => ((List.finRange 8).map (fun k => (⟨(h.txNext + k.val) % 8, Nat.mod_lt _ (by decide)⟩ : Fin 8))).find? (fun r =>
      (ring w (txBlk r) s).runs && (ring w (txBlk r) s).dev ≠ (ring w (txBlk r) s).lastP)

/-- A descriptor of this ring is the next that the world's port takes. -/
def txReady (w : World) (r : Fin 8) (s : State) : Bool :=
  let x := ring w (txBlk r) s
  hostUp s && !s.pw.frozen && x.runs && x.dev ≠ x.lastP && txTurn w s = some r &&
    !s.qp.waits.any (fun v => v.cust == (w == .custodian))

/-! ## The open item (11 R359-R362, R374) -/

/-- Where an item that a port writes stands now. -/
inductive Place where
  | queued (q : Nat)
  | held
  | slice (n : Fin 12)
  | gone
deriving DecidableEq, Repr

/-- Queue x holds the item. -/
def Queue.has (x : Queue) (ref : Nat) : Bool := (x.items ++ x.inc.toList).any (fun it => it.job = ref)

/-- The slice's transmission or acknowledgement wait holds the item. -/
def SliceS.has (x : SliceS) (ref : Nat) : Bool := x.tx.any (fun t => t.item.job = ref) || x.ackWait.any (fun a => a.item.job = ref)

/-- Place of the item of a world's port. -/
def placeOf (w : World) (ref : Nat) (s : State) : Place :=
  if (port w s).held.any (fun it => it.job = ref) then .held
  else match s.qp.queues.find? (fun kv => kv.2.has ref) with
    | some kv => .queued kv.1
    | none => match sliceIdx.find? (fun n => (slice n s).has ref) with
      | some n => .slice n
      | none => .gone

/-- The item itself. -/
def itemOf (w : World) (ref : Nat) (s : State) : Option Item :=
  match placeOf w ref s with
  | .held => (port w s).held
  | .queued q => findItem q ref s
  | .slice n => match (slice n s).tx with
    | some t => if t.item.job = ref then some t.item else (slice n s).ackWait.map (·.item)
    | none => (slice n s).ackWait.map (·.item)
  | .gone => none

/-- Changes the item where it stands. -/
def modPlaced (w : World) (ref : Nat) (f : Item → Item) (s : State) : State :=
  let g (it : Item) : Item := if it.job = ref then f it else it
  match placeOf w ref s with
  | .held => modPort w (fun p => { p with held := p.held.map g }) s
  | .queued q => modItem q ref f s
  | .slice n => modSlice n (fun x => { x with tx := x.tx.map (fun t => { t with item := g t.item })
                                              ackWait := x.ackWait.map (fun a => { a with item := g a.item }) }) s
  | .gone => s

/-- Data enters the item's cells, taken against its reservation. -/
def addData (w : World) (ref : Nat) (data : List Byte) (s : State) : State :=
  match itemOf w ref s with
  | none => s
  | some it =>
    let n := cellsFor (it.data.length + data.length) - it.cells
    let (cs, s) := takeCells n s
    let inQ := match placeOf w ref s with | .queued _ => true | _ => false
    let s := { s with qp := { s.qp with reserved := s.qp.reserved - n
                                        cq := if inQ then s.qp.cq + n else s.qp.cq
                                        ch := if inQ then s.qp.ch else s.qp.ch + n } }
    modPlaced w ref (fun it => { it with data := it.data ++ data, chain := it.chain ++ cs, resv := it.resv - n
                                         lastData := s.time.elapsed }) s

/-- The length slot is written and the unused part of the reservation released (11 R359). -/
def writeLength (w : World) (ref : Nat) (s : State) : State :=
  match itemOf w ref s with
  | none => s
  | some it =>
    let s := { s with qp := { s.qp with reserved := s.qp.reserved - it.resv } }
    modPlaced w ref (fun it => { it with written := true, len := it.data.length, resv := 0 }) s

/-- The incomplete item of a queue takes its place among the complete ones (11 R360). -/
def completeInc (q ref : Nat) (s : State) : State :=
  modQ q (fun x => match x.inc with
    | some it => if it.job = ref then { x with inc := none, items := x.items ++ [it] } else x
    | none => x) s

/-- The incomplete item of a queue leaves it; it is held by S6 then. -/
def takeInc (q ref : Nat) (it : Item) (s : State) : State :=
  countToHeld it (modQ q (fun x => if x.inc.any (fun i => i.job = ref) then { x with inc := none } else x) s)

/-! ## Starts (11 R357, R360, R361, R367, R388) -/

/-- District of an item: its descriptor's, its index's, or for a broadcast the one its PAN ID names. -/
def descDist (d : TxDesc) (s : State) : Bool :=
  if d.route then d.dist
  else if d.index.toNat = 0x1FFFF then panDist d.info.pan s = some 1
  else 65536 ≤ d.index.toNat

/-- A refused start: later descriptors of the ring get its status up to the next SOI. -/
def refuseStart (w : World) (r : Fin 8) (d : TxDesc) (st : Nat) (s : State) : State :=
  let s := modPort w (fun _ => {}) s
  let s := modTx w r (fun t => { t with open_ := false, refused := some (w32 st) }) s
  let s := modWhost w (fun h => { h with txCur := some r }) s
  let s := writeBack w r true d.eoi d st 0 0 s
  if d.eoi then nextRing w r s else s

/-- The item a granted start creates. -/
def newItem (w : World) (ref : Nat) (d : TxDesc) (s : State) : Item :=
  { job := ref, decl := d.decl, ct := d.secured && !d.route && (queue d.queue.val s).cutthru, secured := d.secured
    phymode := d.phymode.toNat, port := if w = .operator then 1 else 2, index := if d.route then 0x1FFFF else d.index.toNat
    resv := cellsFor d.decl, lastData := s.time.elapsed, info := d.info, dist := descDist d s
    dstEui := if d.route then d.eui else 0 }

/-- A granted start: the reservation, the job record, and the item's place. -/
def grantStart (w : World) (r : Fin 8) (d : TxDesc) (s : State) : State :=
  let (ref, s) := takeJob s
  let it := newItem w ref d s
  let s := { s with qp := { s.qp with reserved := s.qp.reserved + it.resv } }
  let s := modTx w r (fun t => { t with open_ := true, refused := none }) s
  let s := modWhost w (fun h => { h with txCur := some r }) s
  let s := if d.route then
      modPort w (fun _ => { held := some it, job := ref }) { s with qp := { s.qp with jh := s.qp.jh + 1 } }
    else
      let q := d.queue.val
      let s := modPort w (fun _ => { qOpen := some q, job := ref }) { s with qp := { s.qp with jq := s.qp.jq + 1 } }
      modQ q (fun x => { x with inc := some it, room := x.room - 1 }) s
  let s := if it.ct then setStage ref 3 stOK s else s
  addData w ref d.data s

/-- What the pool and the queue say to a start: none when it is granted, else its status. -/
def startRefusal (d : TxDesc) (s : State) : Option Nat :=
  if s.qp.ledger.hold then some stLEDGER_FAULT
  else if !poolGrantsStream (cellsFor d.decl) s then some stPOOL_EXHAUSTED
  else if !d.route && (queue d.queue.val s).room = 0 && d.queue.val ≠ cpar 0x0500 s then some stQ_FULL
  else none

/-- The refusal is counted. -/
def countRefusal (st : Nat) (s : State) : State :=
  if st = stPOOL_EXHAUSTED then bump 0x0511 s else if st = stQ_FULL then bump 0x0510 s else s

/-! ## Ends: S6, S7, S9 (15 R504, 06 R211, 12 R401, 13 R436, 11 R360) -/

/-- S6 drops the item: its cells return, its record is retired with WHY 1. -/
def dropAtS6 (w : World) (it : Item) (st : Nat) (s : State) : State :=
  match placeOf w it.job s with
  | .queued q => retireQueued it 1 st (modQ q (fun x => if x.inc.any (fun i => i.job = it.job) then { x with inc := none } else x) s)
  | .held => retireHeld it 1 st (modPort w (fun p => { p with held := none }) s)
  | _ => s

/-- S6 can parse the item as a frame (15 R504, 06 R607). -/
def parses (it : Item) : Bool := it.info.parseOk && it.info.ftype ≤ 3 && it.info.minLen ≤ it.data.length

/-- An association response that S6 rejects (06 R211). -/
def badResponse (it : Item) (s : State) : Bool :=
  match it.info.assocResp with
  | none => false
  | some a => a = 0xFFFE || a = 0xFFFF || !(match it.info.dst with
      | .ext e => it.index < 131071 && (roster it.index s).use_ = 1 && (roster it.index s).eui = e
      | _ => false)

/-- The lookup of a routed item (12 Table FT-4): the entry's place, or the detail of ST_NOT_HERE. -/
def routed (it : Item) (s : State) : Nat ⊕ Nat :=
  match findKey it.dstEui it.dist s with
  | none => .inr 0xFF
  | some p =>
    let e := (tEntry p s).result
    if resPos e ≠ ownPos s then .inr (resPos e)
    else
      let n := roster (resIndex e) s
      if n.use_ = 1 && n.eui = it.dstEui then .inl p else .inr 0xFE

/-- The end of an item as its EOI descriptor reports it. -/
structure TxEnd where
  st : Nat := 0
  detail : Word := 0
deriving DecidableEq, Repr

/-- S7 and the queueing of an item that S6 has taken; `q` is its queue. -/
def secureAndQueue (w : World) (it : Item) (q : Nat) (s : State) : TxEnd × State :=
  match placeOf w it.job s with
  | .held =>
    if (queue q s).room = 0 && q ≠ cpar 0x0500 s then ({ st := stQ_FULL }, dropAtS6 w it stQ_FULL (bump 0x0510 s))
    else
      let s := modPort w (fun p => { p with held := none }) s
      match s7Secure it s with
      | (.pass it, s) => ({}, (pushItem q it (setStage it.job 2 stOK s)).getD s)
      | (.exc st, s) => ({}, toException it st s)
  | .queued q => match s7Secure it s with
    | (.pass it', s) =>
      let s := setStage it.job 3 stOK (setStage it.job 2 stOK (modItem q it.job (fun _ => it') s))
      ({}, completeInc q it.job s)
    | (.exc st, s) => ({}, toException it st (takeInc q it.job it s))
  | _ => ({}, s)

/-- S6 and S8 read the entries that a routed item's destination names (12 R403, 07 R236). -/
def readRouted (it : Item) (s : State) : State :=
  let s := (readTables it.dstEui it.dist s).2
  match findKey it.dstEui it.dist s with
  | some p => readRoster (resIndex (tEntry p s).result) s
  | none => s

/-- The end of an item (15 R503). -/
def endItem (w : World) (ref : Nat) (info : FrameInfo) (s : State) : TxEnd × State :=
  match itemOf w ref s with
  | none => ({}, s)
  | some it0 =>
    let s := writeLength w ref s
    let it0 := { it0 with written := true, len := it0.data.length, resv := 0 }
    if it0.secured then
      let s := if it0.ct then s else setStage ref 3 stOK (modPlaced w ref (fun it => { it with info := info }) s)
      match placeOf w ref s with
      | .queued q => ({}, completeInc q ref s)
      | _ => ({}, s)
    else
      let f (it : Item) : Item := { it with info := info
                                            dist := if it.index = 0x1FFFF && it.dstEui = 0 then panDist info.pan s = some 1 else it.dist }
      let it := f it0
      let s := modPlaced w ref f s
      if !parses it then ({ st := stRANGE }, dropAtS6 w it stRANGE s)
      else
        let isHeld := match placeOf w ref s with | .held => true | _ => false
        let s := if isHeld then readRouted it0 s else s
        match (if isHeld then some (routed it s) else none) with
        | some (.inr d) => ({ st := stNOT_HERE, detail := w32 d }, dropAtS6 w it stNOT_HERE s)
        | some (.inl p) =>
          let e := (tEntry p s).result
          let it := { it with index := resIndex e }
          let s := setEntry p { tEntry p s with hit := true } (modPlaced w ref (fun _ => it) s)
          if badResponse it s then ({ st := stRANGE }, dropAtS6 w it stRANGE s) else secureAndQueue w it (resQueue e) s
        | none => if badResponse it s then ({ st := stRANGE }, dropAtS6 w it stRANGE s) else secureAndQueue w it 0 s

/-! ## Descriptors (15 R503) -/

/-- The open item's EOI has been taken: nothing is open on the ring, and the turn passes. -/
def closeItem (w : World) (r : Fin 8) (s : State) : State :=
  nextRing w r (modTx w r (fun t => { t with open_ := false }) (modPort w (fun _ => {}) s))

/-- The data of a granted descriptor is in cells; its EOI, if set, ends the item. -/
def dataTaken (w : World) (r : Fin 8) (soi eoi : Bool) (d : TxDesc) (s : State) : State :=
  let ref := (port w s).job
  if eoi then
    let (e, s) := endItem w ref d.info s
    closeItem w r (writeBack w r soi eoi d e.st ref e.detail s)
  else writeBack w r soi eoi d stOK ref 0 s

/-- A start on its queue, or a routed one: granted, refused or waiting (11 R357, R361, R367). -/
def startItem (w : World) (r : Fin 8) (d : TxDesc) (s : State) : State :=
  if !d.route && !s.qp.ledger.hold &&
      ((queue d.queue.val s).inc.isSome || s.qp.waits.any (fun v => v.q = d.queue.val)) then
    let v : Wait := { q := d.queue.val, cust := w == .custodian, ring := r.val, desc := d, idx := (ring w (txBlk r) s).dev
                      madeAt := s.time.elapsed }
    modWhost w (fun h => { h with txCur := some r }) { s with qp := { s.qp with waits := s.qp.waits ++ [v] } }
  else match startRefusal d s with
    | some st => refuseStart w r d st (countRefusal st s)
    | none => dataTaken w r true d.eoi d (grantStart w r d s)

/-- A refused descriptor: counted, written back, nothing taken. -/
def refuseDesc (w : World) (r : Fin 8) (soi eoi : Bool) (d : TxDesc) (st : Nat) (s : State) : State :=
  let job := if (txRing w r s).open_ then (port w s).job else 0
  let s := if soi then modTx w r (fun t => { t with refused := none }) s else s
  writeBack w r soi eoi d st job 0 (bump 0x0A22 s)

/-- The lengths of a descriptor against Table QP-3. -/
def lengthOk (n have_ decl : Nat) : Bool := 1 ≤ n && n ≤ 2047 && have_ + n ≤ decl

/-- An SOI descriptor. -/
def soiDesc (w : World) (r : Fin 8) (d : TxDesc) (s : State) : State :=
  if ((txRing w r s).open_ && !(port w s).discard) || !d.fieldsOk || (d.secured && d.route) || (d.route && s.host.hifNeg = 2) then
    refuseDesc w r true d.eoi d stRANGE s
  else if d.decl = 0 || 2047 < d.decl || !lengthOk d.data.length 0 d.decl then
    refuseDesc w r true d.eoi d stLEN_RANGE (bump 0x0513 s)
  else startItem w r d s

/-- A descriptor without SOI. -/
def moreDesc (w : World) (r : Fin 8) (eoi : Bool) (d : TxDesc) (s : State) : State :=
  let t := txRing w r s
  match t.refused with
  | some st =>
    let s := writeBack w r false eoi d st.toNat 0 0 s
    if eoi then nextRing w r s else s
  | none =>
    if !t.open_ then refuseDesc w r false eoi d stRANGE s
    else if (port w s).discard then
      let s := writeBack w r false eoi d stFLUSHED_MIDITEM (port w s).job 0 s
      if eoi then closeItem w r s else s
    else if !d.fieldsOk then refuseDesc w r false eoi d stRANGE s
    else
      let it := (itemOf w (port w s).job s).getD { decl := 2047 }
      if !lengthOk d.data.length it.data.length it.decl then refuseDesc w r false eoi d stLEN_RANGE (bump 0x0513 s)
      else dataTaken w r false eoi d (addData w (port w s).job d.data s)

/-- TX_START_OF_ITEM (15 R503). -/
def execTxStartOfItem (w : World) (r : Fin 8) (d : TxDesc) (s : State) : Host.Outcome State Fault Refusal :=
  ok (if txReady w r s then soiDesc w r d s else s)

/-- TX_DATA (15 R503). -/
def execTxData (w : World) (r : Fin 8) (d : TxDesc) (s : State) : Host.Outcome State Fault Refusal :=
  ok (if txReady w r s then moreDesc w r false d s else s)

/-- TX_END_OF_ITEM (15 R503); a descriptor whose word of ring memory fails is malformed (01 Table AR-7). -/
def execTxEndOfItem (w : World) (r : Fin 8) (d : TxDesc) (errs : List MemErr) (s : State) : Host.Outcome State Fault Refusal :=
  ok (let s := meetErrors errs s
      if txReady w r s then moreDesc w r true (if ringFails errs then { d with fieldsOk := false } else d) s else s)

/-- The world and ring of a waiting start. -/
def Wait.world (v : Wait) : World := if v.cust then .custodian else .operator

/-- Ring of a waiting start. -/
def Wait.tx (v : Wait) : Fin 8 := ⟨v.ring % 8, Nat.mod_lt _ (by decide)⟩

/-- START_WAIT_GRANT (11 R361): the oldest start that waits on the queue, once no item is incomplete there. -/
def execStartWaitGrant (q : Fin 1024) (s : State) : Host.Outcome State Fault Refusal :=
  ok (match s.qp.waits.find? (fun v => v.q = q.val) with
      | none => s
      | some v =>
        if (queue q.val s).inc.isSome || !s.time.coreOn then s
        else
          let s := { s with qp := { s.qp with waits := dropFirst (fun v => v.q = q.val) s.qp.waits } }
          match startRefusal v.desc s with
          | some st => refuseStart v.world v.tx v.desc st (countRefusal st s)
          | none => dataTaken v.world v.tx true v.desc.eoi v.desc (grantStart v.world v.tx v.desc s))

/-- START_WAIT_TIMEOUT (11 R361). -/
def execStartWaitTimeout (w : World) (s : State) : Host.Outcome State Fault Refusal :=
  ok (match s.qp.waits.find? (fun v => v.cust == (w == .custodian)) with
      | none => s
      | some v =>
        if !s.time.coreOn then s
        else
          let s := reachElapsed (v.madeAt + cpar 0x0502 s * 1000) s
          let s := { s with qp := { s.qp with waits := dropFirst (fun v => v.cust == (w == .custodian)) s.qp.waits } }
          refuseStart w v.tx v.desc stTIMEOUT s)

/-! ## Receive rings (15 R500, R501) -/

/-- First queue and count of a receive binding. -/
def rxBind (w : World) (r : Fin 8) (s : State) : Nat × Nat :=
  let v := cpar ((if w = .operator then 0x0A00 else 0x0A08) + r.val) s
  (v % 1024, v / 1024 % 2048)

/-- The next bound queue in turn that has an item to pop. -/
def rxNext (w : World) (r : Fin 8) (s : State) : Option (Nat × Item) :=
  let (first, n) := rxBind w r s
  let last := (whost w s).rxTurn[r]
  let k0 := if first ≤ last && last < first + n then last - first + 1 else 0
  (List.range n).findSome? (fun k =>
    let q := first + (k0 + k) % n
    (popHead q s).map (fun it => (q, it)))

/-- The receive descriptor of an item (15 Table HI-12). -/
def rxDesc (it : Item) (q : Nat) (s : State) : List Word :=
  let air := it.slice ≠ 0xFF
  let t := if air then it.air.at_ else nowT s
  let z (n : Nat) : Nat := if air then n else 0
  let h (x : Int) : Nat := if air then (BitVec.ofInt 16 x).toNat else 0
  [w32 (0x20 + it.slice * 256 + it.len * 65536), w32 (it.index + it.port * 16777216),
   w32 (q + z it.phymode * 65536 + it.exc * 16777216), w32 it.job, w32 t.sec.toNat, w32 t.ns.toNat,
   w32 (h it.air.rssi + h it.air.snr * 65536),
   w32 (z it.air.lq + z (bitAt it.air.unqual 8) + z (bitAt it.air.verified 9))]

/-- Octets as words, the last padded with zeros. -/
def octetWords : List Byte → List Word
  | a :: b :: c :: d :: t => w32 (leNat [a, b, c, d]) :: octetWords t
  | [] => []
  | l => [w32 (leNat l)]

/-- RECEIVE_DELIVERY (15 R500): data into the buffer, then the descriptor; the job is retired with WHY 4. -/
def execReceiveDelivery (w : World) (r : Fin 8) (s : State) : Host.Outcome State Fault Refusal :=
  ok (let b := rxBlk r
      let x := ring w b s
      if !hostUp s || s.pw.frozen || s.pw.slotAwake || !x.room then s
      else match rxNext w r s with
        | none => s
        | some (q, it) =>
          let s := popItem q it s
          let s := modWhost w (fun h => { h with rxTurn := h.rxTurn.set r q }) s
          let s := if s.host.link = some .qspi && !hostOutputHeld b s then
              ringMemWrite (x.bufbase.toNat / 4 + 512 * (x.dev % max x.size 1)) (octetWords it.data) s
            else s
          retireHeld it 4 stOK (postDescData w b (rxDesc it q s) it.data s))

/-! ## DMA (15 R511) -/

/-- A bad DMA end: the ring stops, an open item is dropped, a load record completes with ST_TIMEOUT. -/
def dmaBad (w : World) (b : Fin 20) (ld : Option (Fin 2 × BitVec 32)) (s : State) : State :=
  if s.host.link ≠ some .pcie || !hostUp s || !(ring w b s).runs then s
  else
    let s := match ld with
      | some (k, tag) => if b = blkCommand && s.cond.record.isNone then
          postCompletion w (2 + k.val) 0 tag (w32 stTIMEOUT) 0 0 s
        else s
      | none => s
    bump 0x0A24 (notify 0x0A03 (32 * (if w = .operator then 0 else 1) + b.val) stTIMEOUT blkHost (stopRing w b s))

/-- DMA_ERROR (15 R511). -/
def execDmaError (w : World) (b : Fin 20) (ld : Option (Fin 2 × BitVec 32)) (s : State) : Host.Outcome State Fault Refusal :=
  ok (dmaBad w b ld s)

/-- DMA_TIMEOUT (15 R511): no completion within 50 ms. -/
def execDmaTimeout (w : World) (b : Fin 20) (ld : Option (Fin 2 × BitVec 32)) (s : State) : Host.Outcome State Fault Refusal :=
  ok (if s.host.link ≠ some .pcie || !hostUp s || !(ring w b s).runs then s
      else dmaBad w b ld (reachElapsed (s.time.elapsed + 50000000) s))

end Sys2Proof.Machine
end

