-- ==== Sys2Proof/Machine/ParamOps.lean ====
section
/-! DEFINITION. What the parameters with rules of their own do when they are written, each by the rule of its block. -/

namespace Sys2Proof.Machine

/-! ## Sequencers (02 R46, R69-R71) -/

/-- A value of SEQ.WINDOW (02 R66). -/
def windowOk (v : Nat) : Bool :=
  v / 131072 = 0 && 1 ≤ v / 256 % 512 && v / 256 % 512 ≤ 256 && v % 256 + v / 256 % 512 ≤ 256

/-- SEQ.CTRL = 1 (02 R71, R69). -/
def seqStart (n : Fin 12) (s : State) : PRes :=
  let q := seq n s
  if q.state = .running || q.state = .blocked then pRef 1 s
  else if (slice n s).offline then pRef 0xFF06 s
  else if ownStartable n s then pOk (startOwn n s) else pRef 2 s

/-- The sequencer waits in a FEOUT, a bounded instruction (04 R134). -/
def inFeout (n : Fin 12) (s : State) : Bool := (seq n s).state = .blocked && (seq n s).await = some (.feout n)

/-- A host halt (02 R70): nothing to halt when the sequencer neither runs nor waits; in a FEOUT it takes effect at the end of the
instruction. -/
def hostHalt (n : Fin 12) (v : Nat) (s : State) : State :=
  if inFeout n s then modSeq n (fun q => { q with haltDue := v }) s
  else if (seq n s).state = .running || (seq n s).state = .blocked then haltSlice n 8 stOK 0 false s else s

/-- SEQ.CTRL = 3 (02 R71): the checks of the start come before the halt, so that a write that is refused changes nothing (02 R62;
log entry 116). -/
def seqRestart (n : Fin 12) (s : State) : PRes :=
  if (slice n s).offline then pRef 0xFF06 s
  else if !ownStartable n s then pRef 2 s
  else if inFeout n s then pOk (hostHalt n 3 s)
  else pOk (startOwn n (hostHalt n 3 s))

/-- SEQ.CTRL (02 R70, R71). -/
def seqCtrl (n : Fin 12) (v : Nat) (s : State) : PRes :=
  match v with
  | 1 => seqStart n s
  | 2 => pOk (hostHalt n 2 s)
  | _ => seqRestart n s

/-- SEQ.HANDOVER (02 R46, R66). -/
def seqHandover (n : Fin 12) (arm : Bool) (s : State) : PRes :=
  if !arm then pOk (modSeq n (fun q => { q with handover := false, rescan := false }) s)
  else if startable_ (par 0x0014 n.val s).toNat (par 0x0013 n.val s).toNat then
    pOk (modSeq n (fun q => { q with handover := true, rescan := false }) s)
  else pRef 2 s

/-! ## Channel plans (09 R287-R290) -/

/-- A tap word (09 Table CH-1). -/
def tapOf (w : Word) : Tap :=
  let o := w.toNat / 65536 % 8192
  { chan := w.toNat % 65536, offset := if o < 4096 then o else (o : Int) - 8192, family := w.toNat / 536870912 }

/-- The word of a tap. -/
def Tap.word (t : Tap) : Word := w32 (t.chan + (t.offset % 8192).toNat * 65536 + t.family * 536870912)

/-- The staged segment of a slice. -/
def stagedSeg (n : Fin 12) (s : State) : Seg :=
  let w (k : Nat) : Word := par (0x0440 + k) n.val s
  { centre := (w 0).toNat, fetune := (w 1).toNat % 16777216, rsv := (w 1).toNat / 16777216
    taps := Vector.ofFn (fun (t : Fin 16) => tapOf (w (2 + t.val))) }

/-- The eighteen words of a segment. -/
def Seg.words (g : Seg) : List Word := w32 g.centre :: w32 (g.fetune + g.rsv * 16777216) :: g.taps.toList.map Tap.word

/-- Occupied width of a family in twelfths of a kHz (09 Table CH-2). -/
def famWidth (f : Nat) : Nat := [0, 13125, 6625, 3375, 1875, 2400, 4800, 4800].getD f 0

/-- Half of the usable span in kHz (09 R289). -/
def halfSpan (n : Fin 12) (s : State) : Nat := if isExt n && (par 0x0403 n.val s).getLsbD 1 then 3000 else 3100

/-- Two taps of one family do not overlap. -/
def apart (a b : Tap) : Bool := a.family ≠ b.family || (famWidth a.family : Int) ≤ 12 * |a.offset - b.offset|

/-- Every pair of a list satisfies p. -/
def pairs (p : Tap → Tap → Bool) : List Tap → Bool
  | [] => true
  | t :: ts => ts.all (p t) && pairs p ts

/-- A staged segment passes the checks of R290 as segment k of slice n. -/
def segOk (n : Fin 12) (k : Fin 4) (g : Seg) (s : State) : Bool :=
  let act := g.taps.toList.filter (fun t => t.family ≠ 0)
  let others := ((List.finRange 4).filter (fun j => j ≠ k)).flatMap (fun j =>
    ((slice n s).plan[j]).taps.toList.filter (fun t => t.family ≠ 0))
  g.rsv = 0 && g.taps.toList.all (fun t => t.family ≠ 0 || (t.chan = 0 && t.offset = 0)) &&
    act.all (fun t => 24 * |t.offset| + famWidth t.family ≤ 24 * (halfSpan n s : Int) && t.chan ≠ 0xFFFF &&
      !others.any (fun o => o.chan = t.chan)) &&
    pairs (fun a b => apart a b && a.chan ≠ b.chan) act &&
    (isExt n || (g.fetune = 0 && bandOf g.centre ≠ 0 && (bandOf g.centre ≠ 3 || n = 3)))

/-- The slice's sequencer runs or waits. -/
def seqLive (n : Fin 12) (s : State) : Bool := (seq n s).state = .running || (seq n s).state = .blocked

/-- A segment takes new contents: the slice's tuning to it follows R290. -/
def putSeg (n : Fin 12) (k : Fin 4) (g : Seg) (clear : Bool) (s : State) : State :=
  let x := slice n s
  let old := x.plan[k]
  let keeps := !clear && g.centre = old.centre && g.fetune = old.fetune
  if x.tuned = some k then
    let s := modSlice n (fun x => { x with
      plan := x.plan.set k g
      tuned := if keeps then some k else none
      fromNone := x.fromNone || !keeps
      tap := if keeps then x.tap.bind (fun t => (List.finRange 16).find? (fun u => g.taps[u].family ≠ 0 &&
        g.taps[u].chan = old.taps[t].chan)) else none }) s
    abandonAll n s
  else modSlice n (fun x => { x with plan := x.plan.set k g }) s

/-- CH.SEG_COMMIT (09 R290). -/
def segCommit (n : Fin 12) (v : Nat) (s : State) : PRes :=
  let k : Fin 4 := ⟨v % 4, Nat.mod_lt _ (by decide)⟩
  let op := v / 256
  let took := (slice n s).tuned = some k && seqLive n s
  let note (s : State) : State := setPar 0x045F n.val (w32 v) s
  if v / 4 % 64 ≠ 0 || 3 ≤ op then pRange s
  else if op = 0 then
    let g := stagedSeg n s
    if !segOk n k g s then pRange s
    else if took then pRef 0x92 s
    else pOk (note (putSeg n k g false s))
  else if op = 1 then
    if took then pRef 0x92 s else pOk (note (putSeg n k {} true s))
  else
    let ws := ((slice n s).plan[k]).words
    pOk (note ((List.range 18).foldl (fun s j => setPar (0x0440 + j) n.val (ws.getD j 0) s) s))

/-- CH.XIQ_CTRL (09 R308, R313). -/
def xiqCtrl (n : Fin 12) (v : Word) (s : State) : PRes :=
  let o := par 0x0403 n.val s
  if (o ^^^ v) &&& 0xE ≠ 0 && (o ||| v).getLsbD 0 then pRef 0x93 s
  else
    let s' := setPar 0x0403 n.val v s
    if o.getLsbD 0 = v.getLsbD 0 then pOk s'
    else pOk (modSlice n (fun x => { x with xiq := bitAt (v.getLsbD 0) 0, xiqSince := s.time.elapsed, xiqGood := 0, xiqBad := [] }) s')

/-! ## Grid and time (06 R196-R198; 05 R162, R164, R173) -/

/-- MAC.GRID_CTRL; starting or acquiring is refused on a chip that is not at position 0 (16 R531). -/
def gridCtrl (v : Nat) (s : State) : PRes :=
  if v = 0 then gridStop s
  else if ownPos s ≠ 0 then pRef 0x25 s
  else if v = 1 then gridStart s else gridAcquire s

/-- PPS_IN becomes enabled: the next accepted edge is a first edge. -/
def ppsEdge (before : Bool) (s : State) : State := if ppsEnabled s && !before then ppsRestart s else s

/-- TIME.DISCIPLINE (05 R162, 16 R530): a change clears the servo state and holdover. -/
def discipline (v : Word) (s : State) : PRes :=
  if v = 2 && ownPos s = 0 then pRef 0x12 s
  else if v = s.time.disc then pOk s
  else
    let was := ppsEnabled s
    let s := setPar 0x0800 chip v (clearServo s)
    pOk (ppsEdge was { s with
      time := { s.time with disc := v }
      cas := { s.cas with aligned := false, tFirst := true, alignTold := false } })

/-- TIME.PPS_IN_CTRL (05 R164). -/
def ppsInCtrl (v : Word) (s : State) : PRes := pOk (ppsEdge (ppsEnabled s) (setPar 0x0804 chip v s))

/-- TIME.PPS_OUT_CTRL (05 R173): disabled, or held while unqualified, the output is inactive; the pin follows the inversion. -/
def ppsOutCtrl (v : Word) (s : State) : PRes :=
  let level (s : State) : Bool := s.time.ppsOut != (cpar 0x0808 s).testBit 2
  let before := level s
  let s := setPar 0x0808 chip v s
  let on := v.getLsbD 0 && (s.time.qual || v.getLsbD 1)
  let s := { s with time := { s.time with ppsOut := s.time.ppsOut && on } }
  pOk (if level s = before then s else emitPin 6 (level s) s)

/-! ## Security, power, boot, host (13 R417; 14 R477; 15 R512; 07 R251; 17 R574) -/

/-- SEC.LOCK_ACK (13 R417, 17 R561): the start goes on at step 4; every ring stops. -/
def lockAck (v : Nat) (s : State) : PRes :=
  if !s.sec.locked || v ≠ s.sec.lockId then pRef 0x74 s
  else
    let s := stopRings .custodian (stopRings .operator s)
    let s := { s with
      sec := { s.sec with locked := false, lockId := 0 }
      host := { s.host with hifMin := 0, hifMax := 0 }
      cond := { s.cond with record := none, await := none } }
    pOk (keysAndBootsel s)

/-- A value of a receive binding (15 R512). -/
def bindOk (v : Nat) : Bool := v / 2097152 = 0 && v / 1024 ≤ 1024 && v % 1024 + v / 1024 ≤ 1024

/-- It overlaps another binding of either world. -/
def bindOverlaps (id v : Nat) (s : State) : Bool :=
  (List.range 16).any (fun k => 0x0A00 + k ≠ id &&
    let o := cpar (0x0A00 + k) s
    v % 1024 < o % 1024 + o / 1024 && o % 1024 < v % 1024 + v / 1024)

/-- A ring runs over QSPI. -/
def qspiRings (s : State) : Bool :=
  s.host.link ≠ some .pcie && (s.host.op.rings.toList ++ s.host.cust.rings.toList).any (·.runs)

/-- HOST.SILENT_TIMEOUT (07 R251). -/
def silentTimeout (v : Word) (s : State) : PRes :=
  let s := setPar 0x0A40 chip v s
  pOk (if s.time.coreOn && !s.host.silent && s.host.lastPsum + v.toNat * 1000000 < s.time.elapsed then showSilent s else s)

/-- CT.LINK_EN (16 R513, R517). -/
def linkEn (v : Word) (s : State) : PRes :=
  let s := setPar 0x0B00 chip v s
  let s := casIdx.foldl (fun s l => if !linkEnabled l s && (link l s).st ≠ 0 then linkDown l stREFUSED s else s) s
  pOk (startLinks s)

/-! ## Ranges that a table's row does not give as one interval -/

/-- The ranges and relations of R62 (02) and of the blocks' tables. -/
def specialOk (id scope : Nat) (v : Word) (s : State) : Bool :=
  let n := v.toNat
  let other (o : Nat) : Nat := (standing o scope s).toNat
  match id with
  | 0x0011 => n < 65536
  | 0x0012 => windowOk n
  | 0x0014 => windowOk n
  | 0x0016 => n = 0 || (1000 ≤ n && n ≤ 1000000)
  | 0x0037 => accessOk v
  | 0x0100 => if scope < 4 then -20 ≤ v.toInt && v.toInt ≤ 40 else -120 ≤ v.toInt && v.toInt ≤ 0
  | 0x0102 => (standing 0x0103 scope s).toInt + 12 < v.toInt
  | 0x0103 => v.toInt + 12 < (standing 0x0102 scope s).toInt
  | 0x0113 => n ≤ 300 && n % 25 = 0
  | 0x0114 => n ≤ 300 && n % 25 = 0
  | 0x0202 => 10 ≤ n && n ≤ other 0x0218
  | 0x0218 => other 0x0202 ≤ n
  | 0x0219 => other 0x021A < n
  | 0x021A => n < other 0x0219
  | 0x0222 => n ≤ other 0x0223
  | 0x0223 => other 0x0222 ≤ n
  | 0x0236 => n = 0 || 60 ≤ n
  | 0x0242 => n ≤ 65535 && other 0x0243 < n
  | 0x0243 => n < other 0x0242
  | 0x024A => n < 65536
  | 0x024B => n = 0 || windowOk n
  | 0x0252 => n ≤ other 0x0253
  | 0x0253 => other 0x0252 ≤ n
  | 0x0301 => n = 2 || n = 4
  | 0x0302 => standardMode n
  | 0x0704 => tampCtrlOk v
  | 0x0813 => n = 0 || 1000 ≤ n
  | 0x081B => n = 0 || 1000 ≤ n
  | 0x0904 => n = 0 || (1000 ≤ n && n ≤ 600000)
  | 0x0A11 => n ≤ 1048576 && n % 4096 = 0 && !qspiRings s
  | 0x0B1F => n / 64 = 0 && !v.getLsbD 3
  | 0x0C00 => n ≤ other 0x0C01
  | 0x0C01 => other 0x0C00 ≤ n
  | _ =>
    if 0x0A00 ≤ id && id ≤ 0x0A0F then bindOk n && !bindOverlaps id n s
    else if 0x0B10 ≤ id && id ≤ 0x0B17 then n / 1048576 % 2048 = 0 && id - 0x0B10 ≠ ownPos s
    else true

/-- The value lies in the range of its table's row (02 R62). -/
def rangeOk (d : ParamDef) (id scope : Nat) (v : Word) (s : State) : Bool :=
  (match d.rng with
    | .nat lo hi => lo ≤ v.toNat && v.toNat ≤ hi
    | .int lo hi => lo ≤ v.toInt && v.toInt ≤ hi
    | .mask m => v.toNat ≤ m && v.toNat &&& m = v.toNat
    | .queueOrNone => v.toNat < 1024 || v.toNat = 0xFFFF
    | _ => true) && specialOk id scope v s

end Sys2Proof.Machine
end

