-- ==== Sys2Proof/Machine/Setp.lean ====
section
/-! DEFINITION. SETP and GETP (03 R113, R114; 02 R60-R66), and the commands that are a SETP of one parameter. -/

namespace Sys2Proof.Machine

/-! ## The checks of R62 -/

/-- The detail of a SETP of a read-only parameter, by the block of its id (R574, R354, R215, R286, R313, R390, R412, R445, R180,
R477, R512, R549). -/
def roDetail (id : Nat) : Nat :=
  [0xE4, 0x85, 0x26, 0x36, 0x94, 0x34, 0x52, 0x75, 0x13, 0xB7, 0xD0, 0xC9].getD (id / 256) 0

/-- The detail of a slice scope A-D naming a parameter of slices E-L (09 R313, 10 R354). -/
def extDetail (id : Nat) : Nat := if id / 256 = 1 then 0x86 else 0x90

/-- The scope check (02 R62): a status and its detail, none when the scope matches. -/
def scopeFail (d : ParamDef) (id scope : Nat) : Option (Nat × Nat) :=
  match d.scope with
  | .chip => if scope = chip then none else some (stRANGE, 3)
  | .slice => if scope < 12 then none else some (stRANGE, 3)
  | .ext => if scope < 4 then some (stREFUSED, extDetail id) else if scope < 12 then none else some (stRANGE, 3)

/-- The permission check of SETP (02 R62-R64). -/
def setpDenied (who : Who) (d : ParamDef) (id scope : Nat) (s : State) : Option Nat :=
  let access : Option Nat := match who with
    | .slice n => if d.sliceWritable && scope = n.val then none else some 0xFF01
    | _ => if d.custodian && worldOf who s = World.operator then some 0xFF02 else none
  match access with
  | some x => some x
  | none =>
    if d.cls = PClass.ro then some (roDetail id)
    else if d.cls = PClass.sealed_ && s.par.sealedDone.contains id then some 0xFF07
    else none

/-- The permission check of GETP (02 R64). -/
def getpDenied (who : Who) (scope : Nat) : Bool :=
  match who with
  | .slice n => scope ≠ n.val && scope ≠ chip
  | _ => false

/-- The parameters that locked service lets SETP write (17 R561). -/
def lockedWritable (id : Nat) : Bool :=
  id = 0x0703 || id = 0x0709 || id = 0x0909 || id = 0x0037 || (0x0820 ≤ id && id ≤ 0x0822)

/-- The slice a scope names. -/
def scopeSl (scope : Nat) : Fin 12 := ⟨scope % 12, Nat.mod_lt _ (by decide)⟩

/-! ## The effects -/

/-- A parameter without a rule of its own takes its value by its class (02 R63). -/
def setByClass (d : ParamDef) (id scope : Nat) (v : Word) (s : State) : State :=
  match d.cls with
  | .latched => setPend id scope (some v) s
  | .sealed_ =>
    let s := setPar id scope v s
    { s with par := { s.par with sealedDone := id :: s.par.sealedDone } }
  | _ => setPar id scope v s

/-- Only while the grid is stopped (06 R197). -/
def gridStopped (body : State → State) (s : State) : PRes := if s.grid.mode = 0 then pOk (body s) else pRef 0x20 s

/-- QP.FLOW_CTRL (11 R378). -/
def flowCtrl (v : Word) (s : State) : State :=
  let s := setPar 0x0505 chip v s
  { s with qp := { s.qp with flowOnce := s.qp.flowOnce ||| v.setWidth 4 } }

/-- The effect of a SETP that every check of R62 up to the range has passed (step 5 and the write). -/
def setpEffect (who : Who) (d : ParamDef) (id scope : Nat) (v : Word) (s : State) : PRes :=
  let n := v.toNat
  let sl := scopeSl scope
  let plain := setByClass d id scope v
  match id with
  | 0x0010 => seqCtrl sl n s
  | 0x0015 => seqHandover sl (n = 1) s
  | 0x0036 => pOk { s with boot := { s.boot with restartDue := true } }
  | 0x0037 => pOk { plain s with boot := { s.boot with accessNew := some v } }
  | 0x0200 => gridCtrl n s
  | 0x0201 => gridStopped plain s
  | 0x0218 => gridStopped plain s
  | 0x0219 => gridStopped plain s
  | 0x021A => gridStopped plain s
  | 0x021B => gridStopped plain s
  | 0x034F => let r := profCommit n s; (r.1, if r.1 = stRANGE then 2 else 0, r.2)
  | 0x0403 => xiqCtrl sl v s
  | 0x045F => segCommit sl n s
  | 0x0505 => pOk (flowCtrl v s)
  | 0x0600 => if s.tables.entries.any (fun kv => kv.2.valid) then pRef 0x51 s else pOk (plain s)
  | 0x0701 => lcAdvance n s
  | 0x0703 => lockAck n s
  | 0x0704 => tampCtrl v s
  | 0x0709 => tampClear s
  | 0x0735 => grpFloor 0 v (plain s)
  | 0x0736 => grpFloor 1 v (plain s)
  | 0x0800 => discipline v s
  | 0x0804 => ppsInCtrl v s
  | 0x0808 => ppsOutCtrl v s
  | 0x0815 => if v.getLsbD 0 then armTrig 0 (v.getLsbD 1) s else disarmTrig 0 (v.getLsbD 1) s
  | 0x081D => if v.getLsbD 0 then armTrig 1 (v.getLsbD 1) s else disarmTrig 1 (v.getLsbD 1) s
  | 0x0822 => rtcCommit n s
  | 0x0825 => rtcTrim v.toInt s
  | 0x0826 => pOk (alarmOffer (fun a => { a with time := v }) s)
  | 0x0827 => pOk (alarmOffer (fun a => { a with date := v }) s)
  | 0x0828 => alarmCtrl (n = 1) s
  | 0x0909 => bkpClear s
  | 0x0A40 => silentTimeout v s
  | 0x0B00 => linkEn v s
  | 0x0B1F => relayGo (worldOf who s) (n % 8) (n / 16 % 4) s
  | 0x0B35 => activate s
  | _ =>
    if 0x0720 ≤ id && id ≤ 0x0727 then setBinding ((id - 0x0720) / 4) ((id - 0x0720) % 4) v s
    else if 0x0910 ≤ id && id ≤ 0x0913 then
      pOk { s with pw := { s.pw with bkpRegs := upd s.pw.bkpRegs ⟨(id - 0x0910) % 4, Nat.mod_lt _ (by decide)⟩ (fun _ => v) } }
    else pOk (plain s)

/-- SETP with the checks in the order of R62 (02): status, w1, w2 and the state after. -/
def setpChecked (who : Who) (id scope : Nat) (v : Word) (s : State) : Nat × Nat × Nat × State :=
  match paramDef id with
  | none => (stRANGE, 1, 0, s)
  | some d =>
    match scopeFail d id scope with
    | some (st, x) => (st, x, 0, s)
    | none =>
      match setpDenied who d id scope s with
      | some x => (stREFUSED, x, if x = 0xFF01 || x = 0xFF02 then 0x80 else 0, s)
      | none =>
        if !rangeOk d id scope v s then (stRANGE, 2, 0, s)
        else
          let r := setpEffect who d id scope v s
          (r.1, r.2.1, 0, r.2.2)

/-- SETP as issued: first what locked service (17 R561) and a standby (16 R541) refuse. -/
def setpCore (who : Who) (id scope : Nat) (v : Word) (s : State) : Nat × Nat × Nat × State :=
  if s.boot.phase = 4 && !lockedWritable id then (stLIFECYCLE, 3, 0, s)
  else if standbyOut who 0 s && id ≠ 0x0B35 then (stREFUSED, 0xC5, 0, s)
  else setpChecked who id scope v s

/-- A SETP as an instruction: its status goes to w0, its details to w1 and w2; a restart written outside a record follows at
once (17 R574). -/
def setpOp (who : Who) (c : Cond) (id scope : Nat) (v : State → Word) (s : State) : State :=
  restartIfDue (issue who c 0x80 .all (fun s =>
    let r := setpCore who id scope (v s) s
    ret who r.1 (w32 r.2.1) (w32 r.2.2.1) r.2.2.2) s)

/-! ## GETP -/

/-- A big-endian word of octets. -/
def beWord (b : List Byte) (k : Nat) : Word := w32 (leNat ((b.drop (4 * k)).take 4).reverse)

/-- State code of a sequencer (02 Table FM-8). -/
def SeqState.code (x : SeqState) : Nat :=
  match x with
  | .idle => 0
  | .running => 1
  | .blocked => 2
  | .halted => 3
  | .offline => 4

/-- SEQ.CTRL as read: in a FEOUT, a bounded instruction, the sequencer is Running (02 R67, 04 R134). -/
def SeqS.code (q : SeqS) : Nat :=
  match q.await with
  | some (.feout _) => SeqState.code .running
  | _ => q.state.code

/-- CT.LINK_STATE (16 R517). -/
def linkStates (s : State) : Nat := (List.finRange 6).foldl (fun a l => a + (link l s).st % 16 * 16 ^ l.val) 0

/-- Positions present and reached over version 2 links only: the own one, and those whose route leaves on a version 2 link. -/
def reachedV2 (s : State) : Nat :=
  ((List.range 8).map (fun p => bitAt (s.cas.known.getLsbD p &&
    (p = ownPos s || (match route p s with
      | some l => (link l s).ver = 2
      | none => false))) p)).sum

/-- CT.ROUTE (16 Table CT-13). -/
def routes (s : State) : Nat :=
  (List.range 8).foldl (fun a p => a + (match route p s with
    | some l => l.val
    | none => 7) * 8 ^ p) 0

/-- The chip's public key that SEC.DEVPUB_SEL selects (13 R422). -/
def devPub (s : State) : List Byte :=
  Config.ecPub ((if cpar 0x070A s = 0 then s.sec.wrapKey else s.sec.updKey).getD 0)

/-- A TIME word as read: its reserved bits read 0 (00 R5, 05 Table TM-5). -/
def timeFields (v : Word) : Word := v &&& 0x001F3F3F

/-- A DATE word as read (00 R5, 05 Table TM-5). -/
def dateFields (v : Word) : Word := v &&& 0x3FFF7F1F

/-- The value that the device keeps for a parameter of its own (02 R63), none when it is the value written. -/
def devValue (id scope : Nat) (s : State) : Option Word :=
  let sl := scopeSl scope
  let nat (x : Nat) : Option Word := some (w32 x)
  let zero : Option Word := some 0
  match id with
  | 0x0010 => nat (seq sl s).code
  | 0x0015 => nat (bitAt (seq sl s).handover 0)
  | 0x0032 => nat (bootState s)
  | 0x0033 => some (bootRec s).verA
  | 0x0034 => some (bootRec s).verF
  | 0x0035 => some (bootRec s).verS
  | 0x0036 => zero
  | 0x0108 => some (i32 (slice sl s).temp)
  | 0x0200 => nat s.grid.mode
  | 0x0247 => nat s.grid.parStep
  | 0x0248 => nat s.grid.parMisses
  | 0x034F => nat (profState s)
  | 0x0404 => nat (slice sl s).xiq
  | 0x0405 => nat (lanesHeld sl s + resOf sl (openWaits s) * 256)
  | 0x0406 => nat ((freeLanes s).length + usableLanes s * 256 + resAll (openWaits s) * 65536)
  | 0x0610 => nat (ovfEntries s).length
  | 0x0611 => nat s.tables.ovfPeak
  | 0x0700 => nat (lcState s + s.sec.fused * 16)
  | 0x0701 => zero
  | 0x0702 => nat s.sec.lockId
  | 0x0703 => zero
  | 0x0704 => some s.sec.tampCtrl
  | 0x0705 => some s.sec.tampRec0
  | 0x0706 => some s.sec.tampRec1
  | 0x0707 => some s.sec.tampRec2
  | 0x0708 => nat s.sec.tampRec3
  | 0x0709 => zero
  | 0x0733 => nat s.sec.grp[0]
  | 0x0734 => nat s.sec.grp[1]
  | 0x0815 => nat (bitAt (trig 0 s).armed 0 + bitAt (trig 0 s).invert 1)
  | 0x081D => nat (bitAt (trig 1 s).armed 0 + bitAt (trig 1 s).invert 1)
  | 0x0820 => some (timeFields (par 0x0820 chip s))
  | 0x0821 => some (dateFields (par 0x0821 chip s))
  | 0x0822 => zero
  | 0x0823 => some s.rtc.t.timeWord
  | 0x0824 => some (s.rtc.t.dateWord s.rtc.wday)
  | 0x0825 => some (i32 (s.rtc.trimStaged.getD s.rtc.trimNew))
  | 0x0826 => some (timeFields s.rtc.alarmSet.time)
  | 0x0827 => some (dateFields s.rtc.alarmSet.date)
  | 0x0828 => nat (bitAt s.rtc.armed 0)
  | 0x0829 => nat s.rtc.status
  | 0x0900 => nat (aonStatus s)
  | 0x0907 => nat s.pw.vin
  | 0x0908 => some (i32 s.pw.dieTemp)
  | 0x0909 => nat (bkpStatus s)
  | 0x0B03 => nat (linkStates s)
  | 0x0B0C => nat (s.cas.known.toNat + reachedV2 s * 256 + s.cas.hop * 65536)
  | 0x0B0D => nat (routes s)
  | 0x0B1F => nat (bitAt s.cas.relay.isSome 0)
  | 0x0B20 => some s.cas.relayRes[0]
  | 0x0B21 => some s.cas.relayRes[1]
  | 0x0B22 => some s.cas.relayRes[2]
  | 0x0B23 => some s.cas.relayRes[3]
  | 0x0B35 => zero
  | _ =>
    if 0x0710 ≤ id && id ≤ 0x071F then some (beWord (devPub s) (id - 0x0710))
    else if 0x0910 ≤ id && id ≤ 0x0913 then some s.pw.bkpRegs[(⟨(id - 0x0910) % 4, Nat.mod_lt _ (by decide)⟩ : Fin 4)]
    else none

/-- What GETP reads (02 R63). -/
def getpValue (d : ParamDef) (id scope : Nat) (s : State) : Word :=
  match devValue id scope s with
  | some v => v
  | none => if d.cls = PClass.ro then w32 (count id scope s) else par id scope s

/-- A different value of a slot-latched parameter is pending (02 R63). -/
def pendDiffers (id scope : Nat) (s : State) : Bool := (pendPar id scope s).any (fun v => v ≠ par id scope s)

/-- GETP (03 R114). -/
def execGetp (who : Who) (c : Cond) (wd : Fin 16) (id : BitVec 12) (scope : Fin 16) (s : State) : Host.Outcome State Fault Refusal :=
  ok (issue who c 0x81 .all (fun s =>
    match paramDef id.toNat with
    | none => retRange who 1 0 s
    | some d =>
      match scopeFail d id.toNat scope.val with
      | some (st, x) => ret who st (w32 x) 0 s
      | none =>
        if getpDenied who scope.val then ret who stREFUSED (w32 0xFF01) (w32 0x81) s
        else retOk who (w32 (bitAt (pendDiffers id.toNat scope.val s) 0)) 0 (setW who wd (getpValue d id.toNat scope.val s) s)) s)

/-! ## SETP and its commands -/

/-- SETP (03 R113): the value is a register's, or the immediate when no register is named. -/
def execSetp (who : Who) (c : Cond) (id : BitVec 12) (scope ws : Fin 16) (imm : Word) (s : State) : Host.Outcome State Fault Refusal :=
  ok (setpOp who c id.toNat scope.val (fun s => if ws = 0 then imm else getW who ws s) s)

/-- A SETP of a chip parameter to a value. -/
def setpChip (who : Who) (c : Cond) (id : Nat) (v : Word) (s : State) : Host.Outcome State Fault Refusal :=
  ok (setpOp who c id chip (fun _ => v) s)

/-- A SETP of a slice parameter to a value. -/
def setpSlice (who : Who) (c : Cond) (id : Nat) (sl : Fin 12) (v : Word) (s : State) : Host.Outcome State Fault Refusal :=
  ok (setpOp who c id sl.val (fun _ => v) s)

/-- SEQ_START: SEQ.CTRL = 1 (02 R71). -/
def execSeqStart (who : Who) (c : Cond) (sl : Fin 12) (s : State) : Host.Outcome State Fault Refusal := setpSlice who c 0x0010 sl 1 s

/-- SEQ_HALT: SEQ.CTRL = 2 (02 R70). -/
def execSeqHalt (who : Who) (c : Cond) (sl : Fin 12) (s : State) : Host.Outcome State Fault Refusal := setpSlice who c 0x0010 sl 2 s

/-- SEQ_RESTART: SEQ.CTRL = 3 (02 R71). -/
def execSeqRestart (who : Who) (c : Cond) (sl : Fin 12) (s : State) : Host.Outcome State Fault Refusal :=
  setpSlice who c 0x0010 sl 3 s

/-- SEQ_HANDOVER: SEQ.HANDOVER (02 R46). -/
def execSeqHandover (who : Who) (c : Cond) (sl : Fin 12) (arm : Bool) (s : State) : Host.Outcome State Fault Refusal :=
  setpSlice who c 0x0015 sl (if arm then 1 else 0) s

/-- GRID_STOP: MAC.GRID_CTRL = 0 (06 R196). -/
def execGridStop (who : Who) (c : Cond) (s : State) : Host.Outcome State Fault Refusal := setpChip who c 0x0200 0 s

/-- GRID_START: MAC.GRID_CTRL = 1 (06 R196). -/
def execGridStart (who : Who) (c : Cond) (s : State) : Host.Outcome State Fault Refusal := setpChip who c 0x0200 1 s

/-- GRID_ACQUIRE: MAC.GRID_CTRL = 2 (06 R196, R229). -/
def execGridAcquire (who : Who) (c : Cond) (s : State) : Host.Outcome State Fault Refusal := setpChip who c 0x0200 2 s

/-- TIME_DISCIPLINE_CHANGE: TIME.DISCIPLINE (05 R162). -/
def execTimeDisciplineChange (who : Who) (c : Cond) (v : Word) (s : State) : Host.Outcome State Fault Refusal :=
  setpChip who c 0x0800 v s

/-- PPS_IN_ENABLE: TIME.PPS_IN_CTRL (05 R164). -/
def execPpsInEnable (who : Who) (c : Cond) (v : Word) (s : State) : Host.Outcome State Fault Refusal := setpChip who c 0x0804 v s

/-- RTC_COMMIT_TIME: TIME.RTC_COMMIT = 1 (05 R178). -/
def execRtcCommitTime (who : Who) (c : Cond) (s : State) : Host.Outcome State Fault Refusal := setpChip who c 0x0822 1 s

/-- RTC_COMMIT_DATE: TIME.RTC_COMMIT = 2 (05 R178). -/
def execRtcCommitDate (who : Who) (c : Cond) (s : State) : Host.Outcome State Fault Refusal := setpChip who c 0x0822 2 s

/-- RTC_COMMIT_BOTH: TIME.RTC_COMMIT = 3 (05 R178). -/
def execRtcCommitBoth (who : Who) (c : Cond) (s : State) : Host.Outcome State Fault Refusal := setpChip who c 0x0822 3 s

/-- RTC_ALARM_ARM: TIME.RTC_ALARM_CTRL = 1 (05 R183). -/
def execRtcAlarmArm (who : Who) (c : Cond) (s : State) : Host.Outcome State Fault Refusal := setpChip who c 0x0828 1 s

/-- RTC_ALARM_DISARM: TIME.RTC_ALARM_CTRL = 0 (05 R183). -/
def execRtcAlarmDisarm (who : Who) (c : Cond) (s : State) : Host.Outcome State Fault Refusal := setpChip who c 0x0828 0 s

/-- TRIG_ARM: TRIGn.CTRL[0] = 1 (05 R174). -/
def execTrigArm (who : Who) (c : Cond) (n : Fin 2) (invert : Bool) (s : State) : Host.Outcome State Fault Refusal :=
  setpChip who c (0x0815 + 8 * n.val) (w32 (1 + bitAt invert 1)) s

/-- TRIG_DISARM: TRIGn.CTRL[0] = 0 (05 R174). -/
def execTrigDisarm (who : Who) (c : Cond) (n : Fin 2) (invert : Bool) (s : State) : Host.Outcome State Fault Refusal :=
  setpChip who c (0x0815 + 8 * n.val) (w32 (bitAt invert 1)) s

/-- PROF_COMMIT_WRITE: OM.PROF_COMMIT with operation 0 (08 R262). -/
def execProfCommitWrite (who : Who) (c : Cond) (idx : Fin 256) (dist : Bool) (s : State) : Host.Outcome State Fault Refusal :=
  setpChip who c 0x034F (w32 (idx.val + bitAt dist 8)) s

/-- PROF_COMMIT_INVALIDATE: OM.PROF_COMMIT with operation 1 (08 R262). -/
def execProfCommitInvalidate (who : Who) (c : Cond) (idx : Fin 256) (dist : Bool) (s : State) : Host.Outcome State Fault Refusal :=
  setpChip who c 0x034F (w32 (idx.val + bitAt dist 8 + 4096)) s

/-- PROF_COMMIT_READ: OM.PROF_COMMIT with operation 2 (08 R262). -/
def execProfCommitRead (who : Who) (c : Cond) (idx : Fin 256) (dist : Bool) (s : State) : Host.Outcome State Fault Refusal :=
  setpChip who c 0x034F (w32 (idx.val + bitAt dist 8 + 8192)) s

/-- SEG_COMMIT_WRITE: CH.SEG_COMMIT with operation 0 (09 R290). -/
def execSegCommitWrite (who : Who) (c : Cond) (sl : Fin 12) (seg : Fin 4) (s : State) : Host.Outcome State Fault Refusal :=
  setpSlice who c 0x045F sl (w32 seg.val) s

/-- SEG_COMMIT_CLEAR: CH.SEG_COMMIT with operation 1 (09 R290). -/
def execSegCommitClear (who : Who) (c : Cond) (sl : Fin 12) (seg : Fin 4) (s : State) : Host.Outcome State Fault Refusal :=
  setpSlice who c 0x045F sl (w32 (seg.val + 256)) s

/-- SEG_COMMIT_READ: CH.SEG_COMMIT with operation 2 (09 R290). -/
def execSegCommitRead (who : Who) (c : Cond) (sl : Fin 12) (seg : Fin 4) (s : State) : Host.Outcome State Fault Refusal :=
  setpSlice who c 0x045F sl (w32 (seg.val + 512)) s

/-- XIQ_ENABLE: CH.XIQ_CTRL with bit 0 set and the further bits given (09 R308, R313). -/
def execXiqEnable (who : Who) (c : Cond) (sl : Fin 12) (bits : BitVec 3) (s : State) : Host.Outcome State Fault Refusal :=
  setpSlice who c 0x0403 sl (w32 (1 + 2 * bits.toNat)) s

/-- XIQ_DISABLE: CH.XIQ_CTRL with bit 0 clear and the further bits given (09 R308, R313). -/
def execXiqDisable (who : Who) (c : Cond) (sl : Fin 12) (bits : BitVec 3) (s : State) : Host.Outcome State Fault Refusal :=
  setpSlice who c 0x0403 sl (w32 (2 * bits.toNat)) s

/-- LC_ADVANCE_DEPLOY: SEC.LC_ADVANCE = 2 (13 R416). -/
def execLcAdvanceDeploy (who : Who) (c : Cond) (s : State) : Host.Outcome State Fault Refusal := setpChip who c 0x0701 2 s

/-- LC_ADVANCE_RETURN: SEC.LC_ADVANCE = 4 (13 R416). -/
def execLcAdvanceReturn (who : Who) (c : Cond) (s : State) : Host.Outcome State Fault Refusal := setpChip who c 0x0701 4 s

/-- LOCK_ACK: SEC.LOCK_ACK (13 R417). -/
def execLockAck (who : Who) (c : Cond) (v : Word) (s : State) : Host.Outcome State Fault Refusal := setpChip who c 0x0703 v s

/-- TAMP_CTRL_WRITE: SEC.TAMP_CTRL (13 R441). -/
def execTampCtrlWrite (who : Who) (c : Cond) (v : Word) (s : State) : Host.Outcome State Fault Refusal := setpChip who c 0x0704 v s

/-- TAMP_CLEAR: SEC.TAMP_CLEAR = 1 (13 R443). -/
def execTampClear (who : Who) (c : Cond) (s : State) : Host.Outcome State Fault Refusal := setpChip who c 0x0709 1 s

/-- GRP_FLOOR_RAISE: SEC.GRP_FLOOR_Dn (13 R445). -/
def execGrpFloorRaise (who : Who) (c : Cond) (dist : Bool) (v : Word) (s : State) : Host.Outcome State Fault Refusal :=
  setpChip who c (if dist then 0x0736 else 0x0735) v s

/-- BKP_STATUS_CLEAR: PW.BKP_STATUS = 1 (14 R476). -/
def execBkpStatusClear (who : Who) (c : Cond) (s : State) : Host.Outcome State Fault Refusal := setpChip who c 0x0909 1 s

/-- SILENT_TIMEOUT_CHANGE: HOST.SILENT_TIMEOUT (07 R251). -/
def execSilentTimeoutChange (who : Who) (c : Cond) (v : Word) (s : State) : Host.Outcome State Fault Refusal :=
  setpChip who c 0x0A40 v s

/-- ACTIVATE: CT.ACTIVATE = 1 (16 R537). -/
def execActivate (who : Who) (c : Cond) (s : State) : Host.Outcome State Fault Refusal := setpChip who c 0x0B35 1 s

/-- RELAY_GO: CT.RELAY_GO (16 R534). -/
def execRelayGo (who : Who) (c : Cond) (pos : Fin 8) (count : Fin 4) (s : State) : Host.Outcome State Fault Refusal :=
  setpChip who c 0x0B1F (w32 (pos.val + 16 * count.val)) s

/-- BOOT_RESTART: BOOT.RESTART = 1 (17 R574). -/
def execBootRestart (who : Who) (c : Cond) (s : State) : Host.Outcome State Fault Refusal := setpChip who c 0x0036 1 s

end Sys2Proof.Machine
end

