-- ==== Sys2Proof/Machine/Settings.lean ====
section
/-! DEFINITION. The settings block: SETUP and its parser (03 R116, 15 R508, R509). -/

namespace Sys2Proof.Machine

/-- Octets as a number, n of them from an offset, first octet lowest. -/
def octetsAt (b : List Byte) (off n : Nat) : Nat := leNat ((b.drop off).take n)

/-- The first zero field that is not zero, by its offset (15 Table HI-15, Table HI-16 check 6). -/
def badZero (b : List Byte) (count : Nat) : Option Nat :=
  if octetsAt b 10 2 ≠ 0 then some 10
  else ((List.range count).flatMap (fun k =>
    (if octetsAt b (18 + 8 * k) 1 / 16 ≠ 0 then [18 + 8 * k] else []) ++
    (if octetsAt b (19 + 8 * k) 1 ≠ 0 then [19 + 8 * k] else []))).head?

/-- Checks 1-6 of Table HI-16 (15 R509): the offset reported by the first that fails. -/
def blockBad (b : List Byte) (s : State) : Option Nat :=
  let count := octetsAt b 8 2
  let schema := octetsAt b 4 2
  let part := octetsAt b 6 1
  let parts := octetsAt b 7 1
  let h := s.host
  let other : Bool := part ≠ 1
  if b.length ≠ 20 + 8 * count || count = 0 || 253 < count then some 8
  else if b.take 4 ≠ [0x43, 0x59, 0x53, 0x54] then some 0
  else if octetsAt b (16 + 8 * count) 4 ≠ crc32c 0xFFFFFFFF (b.take (16 + 8 * count)) then some (16 + 8 * count)
  else if schema < h.schemaMin.toNat || h.schemaMax.toNat < schema ||
      (other && h.setSchema.any (fun x => x.toNat ≠ schema)) then some 4
  else if part = 0 || parts < part || (h.hifNeg = 2 && parts ≠ 1) ||
      (other && (h.setSchema.isNone || part ≠ h.setPart + 1 || parts ≠ h.setParts)) then some 6
  else badZero b count

/-- Items k, k + 1, ... of a block in item order, each judged in the state that the items before it leave: the offset of the first
that SETP would not accept in the world of the SETUP, if there is one, and the state as the items before it leave it (15 R509). -/
def applyItems (w : World) (b : List Byte) (k : Nat) : Nat → State → Option Nat × State
  | 0, s => (none, s)
  | n + 1, s =>
    let r := setpChecked (.ring w) (octetsAt b (16 + 8 * k) 2) (octetsAt b (18 + 8 * k) 1 % 16) (w32 (octetsAt b (20 + 8 * k) 4)) s
    if r.1 = stOK then applyItems w b (k + 1) n r.2.2.2 else (some (16 + 8 * k), s)

/-- The items of a block applied. -/
def applyBlock (w : World) (b : List Byte) (s : State) : Option Nat × State := applyItems w b 0 (octetsAt b 8 2) s

/-- The checks of Table HI-16 in their order: the offset of the first failure. Nothing is applied (15 R509). -/
def checkBlock (w : World) (b : List Byte) (s : State) : Option Nat :=
  match blockBad b s with
  | some off => some off
  | none => (applyBlock w b s).1

/-- A part has been applied: the sequence goes on, or is complete (15 R509). -/
def partApplied (b : List Byte) (s : State) : State :=
  let schema := BitVec.ofNat 16 (octetsAt b 4 2)
  if octetsAt b 6 1 = octetsAt b 7 1 then
    selfConfirm { s with host := { s.host with
      schemaApplied := schema, settingsBad := false, setupDone := true, setSchema := none, setPart := 0, setParts := 0 } }
  else { s with host := { s.host with setSchema := some schema, setPart := octetsAt b 6 1, setParts := octetsAt b 7 1 } }

/-- A part has failed: it breaks the sequence and sets PSUM.SETTINGS (15 R509). -/
def partFailed (s : State) : State :=
  { s with host := { s.host with settingsBad := true, setSchema := none, setPart := 0, setParts := 0 } }

/-- SETUP (03 R116): the parser has the block, and checks it; of several refusals detail 0x60 comes first, then 0x40, then
ST_Q_EMPTY (log entry 116). -/
def execSetup (who : Who) (c : Cond) (q : QRef) (s : State) : Host.Outcome State Fault Refusal :=
  ok (issue who c 0x83 .condOnly (withQueue who q 1 (fun q s =>
    if s.host.setup.isSome then retRefused who 0x60 s
    else if pendFull who s then retRefused who 0x40 s
    else match popHead q s with
      | none => ret who stQ_EMPTY 0 0 s
      | some it =>
        let s := popItem q it s
        let t := nextTicket who s
        let w := worldOf who s
        let bad := checkBlock w it.data s
        let s := startPending who 0x83 s
        { s with host := { s.host with setup := some (w, t, it), setupBad := bad } }))
    s)

/-- A pending SETUP finishes: the block's cells return to the pool, a block that passed its checks is applied, and the completion
notice is placed (03 R116). What has changed since the checks may refuse an item now: those before it stand (15 R509). -/
def setupParsed (s : State) : State :=
  match s.host.setup with
  | none => s
  | some (w, t, it) =>
    if !alive s then s
    else
      let bad := s.host.setupBad
      let s := retireHeld it 0 stOK { s with host := { s.host with setup := none, setupBad := none } }
      let (off, s) := if bad.isSome then (bad, s) else applyBlock w it.data s
      match off with
      | some off => endPending (.ring w) t 0x83 stSETTINGS_UNREADABLE (w32 off) 0 (partFailed s)
      | none => endPending (.ring w) t 0x83 stOK 0 0 (partApplied it.data s)

end Sys2Proof.Machine
end

