-- ==== Sys2Proof/Machine/Records.lean ====
section
/-! DEFINITION. The conductor and its records (02 R43-R52, 15 R495-R497, 16 R534): the words of a record, load records, the end
of a record, and the commands after which an open record may go on. -/

namespace Sys2Proof.Machine

/-! ## Words -/

/-- The meaning of an instruction as a record's word; no other command is a word. -/
def instrMeaning (i : Instr) (s : State) : Host.Outcome State Fault Refusal :=
  match i with
  | .nop who c => execNop who c s
  | .movi who c wd imm => execMovi who c wd imm s
  | .mov who c m => execMov who c m s
  | .add who c wd ws1 op2 => execAdd who c wd ws1 op2 s
  | .sub who c wd ws1 op2 => execSub who c wd ws1 op2 s
  | .and_ who c wd ws1 op2 => execAnd who c wd ws1 op2 s
  | .or_ who c wd ws1 op2 => execOr who c wd ws1 op2 s
  | .xor_ who c wd ws1 op2 => execXor who c wd ws1 op2 s
  | .shl who c wd ws1 op2 => execShl who c wd ws1 op2 s
  | .shr who c wd ws1 op2 => execShr who c wd ws1 op2 s
  | .cmp who c pd rel ws1 op2 => execCmp who c pd rel ws1 op2 s
  | .test who c pd ws1 op2 => execTest who c pd ws1 op2 s
  | .jmp who c addr => execJmp who c addr s
  | .br who c ws1 base => execBr who c ws1 base s
  | .call who c addr => Host.Outcome.next (callWord who c addr s)
  | .ret who c => Host.Outcome.next (retWord who c s)
  | .loop who c wd addr => execLoop who c wd addr s
  | .halt who c => Host.Outcome.next (haltWord who c s)
  | .trap who c code => Host.Outcome.next (trapWord who c code s)
  | .fence who c => execFence who c s
  | .ldw who c wd ws1 off => Host.Outcome.next (ldwWord who c wd ws1 off s)
  | .stw who c ws1 ws2 off => Host.Outcome.next (stwWord who c ws1 ws2 off s)
  | .at_ who c ts off => execAt who c ts off s
  | .after who c interval ws => execAfter who c interval ws s
  | .tnow who c td => execTnow who c td s
  | .tadd who c td ts delta ws => execTadd who c td ts delta ws s
  | .slot who c wd td sf => execSlot who c wd td sf s
  | .asnCur who c pair => execAsnCur who c pair s
  | .asnTime who c td pair => execAsnTime who c td pair s
  | .tstepAbs who c ts => execTstepAbs who c ts s
  | .tstepRel who c delta => execTstepRel who c delta s
  | .tstepEpoch who c ts => execTstepEpoch who c ts s
  | .trateSet who c ws => execTrateSet who c ws s
  | .trateAdd who c ws => execTrateAdd who c ws s
  | .tseal who c => execTseal who c s
  | .tcap who c td source sl => execTcap who c td source sl s
  | .tune who c ws sl => execTune who c ws sl s
  | .cal who c mask sl => execCal who c mask sl s
  | .rxwin who c ws ts res half => execRxwin who c ws ts res half s
  | .txf who c ts q latest => execTxf who c ts q latest s
  | .txfHeld who c ts ws latest => execTxfHeld who c ts ws latest s
  | .rstate who c wd sl => execRstate who c wd sl s
  | .aerial who c port tuner measure sl => execAerial who c port tuner measure sl s
  | .rqualLast who c wd sl => execRqualLast who c wd sl s
  | .rqualFloor who c wd tap sl => execRqualFloor who c wd tap sl s
  | .feoutTuningWord who c ws sl => execFeoutTuningWord who c ws sl s
  | .feoutStaticControls who c ws sl => execFeoutStaticControls who c ws sl s
  | .feoutRegisterWrite who c ws sl => execFeoutRegisterWrite who c ws sl s
  | .kload who c slot q => execKload who c slot q s
  | .kderive who c wd ws slot => execKderive who c wd ws slot s
  | .krevoke who c slot => execKrevoke who c slot s
  | .kquery who c wd slot => execKquery who c wd slot s
  | .cntsetOut who c ws wc => execCntsetOut who c ws wc s
  | .cntsetIn who c ws wc => execCntsetIn who c ws wc s
  | .cntexp who c ws q count => execCntexp who c ws q count s
  | .kzero who c slot => execKzero who c slot s
  | .kzeroAll who c => execKzeroAll who c s
  | .clksel who c src => execClksel who c src s
  | .pmode who c m => execPmode who c m s
  | .rest who c => execRest who c s
  | .wakeon who c ws mask => execWakeon who c ws mask s
  | .setp who c id scope ws imm => execSetp who c id scope ws imm s
  | .getp who c wd id scope => execGetp who c wd id scope s
  | .note who c kind ws => execNote who c kind ws s
  | .setup who c q => execSetup who c q s
  | .queryJob who c wd ws => execQueryJob who c wd ws s
  | .querySlice who c wd sl => execQuerySlice who c wd sl s
  | .health who c wd sel => execHealth who c wd sel s
  | .confirmImage who c wd => execConfirmImage who c wd s
  | .confirmReject who c wd => execConfirmReject who c wd s
  | .confirmRead who c wd => execConfirmRead who c wd s
  | .qpush who c ws q => execQpush who c ws q s
  | .qpop who c wd q => execQpop who c wd q s
  | .qpeek who c wd q => execQpeek who c wd q s
  | .qdropHead who c q => execQdropHead who c q s
  | .qdropHeld who c ws => execQdropHeld who c ws s
  | .qdropRest who c q => execQdropRest who c q s
  | .qflush who c q => execQflush who c q s
  | .qlen who c wd q => execQlen who c wd q s
  | .qattr who c q ws attr => execQattr who c q ws attr s
  | .ledger who c wd kind link vc => execLedger who c wd kind link vc s
  | .lookup who c wd ws dist => execLookup who c wd ws dist s
  | .insert who c ws wr dist static => execInsert who c ws wr dist static s
  | .delete who c ws dist static => execDelete who c ws dist static s
  | .learnack who c ws dist inserted => execLearnack who c ws dist inserted s
  | .pin who c ws dist => execPin who c ws dist s
  | .unpin who c ws dist => execUnpin who c ws dist s
  | .tload who c q region => execTload who c q region s
  | .tscrub who c region => execTscrub who c region s
  | .csend who c ws dest kind latest => execCsend who c ws dest kind latest s
  | .cbar who c bar latest => execCbar who c bar latest s
  | .mirrorStatus who c wd => execMirrorStatus who c wd s
  | .mirrorSync who c wd => execMirrorSync who c wd s
  | .mirrorDigest who c wd => execMirrorDigest who c wd s
  | .roleRead who c wd => execRoleRead who c wd s
  | .roleYield who c wd => execRoleYield who c wd s
  | .roleWithdraw who c wd => execRoleWithdraw who c wd s
  | _ => .next s

/-- The state that an outcome leaves. -/
def landed (s : State) (o : Host.Outcome State Fault Refusal) : State :=
  match o with
  | .next t => t
  | _ => s

/-- Where an instruction with modes may be executed (02 Table FM-1). -/
def modePerm (op : Nat) : Perm :=
  match op with
  | 0x26 => .custodian
  | 0x86 => .condOnly
  | 0x92 => .condOnly
  | 0x93 => .custodian
  | _ => .all

/-- A mode out of range completes with ST_RANGE (03 R78); where the mode is a suffix and so has no position, w1 is a free value
(log entry 7). -/
def badModeWord (who : Who) (c : Cond) (op mode : Nat) (pos : Option Nat) (s : State) : State :=
  issue who c op (modePerm op) (fun s =>
    match pos with
    | some p => retRange who p mode s
    | none => withDraw 4294967296 s fun p s => retRange who p mode s) s

/-- One word of the open record. -/
def runWord (w : World) (word : BitVec 64) (s : State) : State :=
  match decodeWord (.ring w) word with
  | .instr i => landed s (instrMeaning i s)
  | .illegal => illegalWord (.ring w) word s
  | .badMode c op mode pos => badModeWord (.ring w) c op mode pos s

/-- The status stops a record (02 R50). -/
def stops (st : Option Word) : Bool := st.any (fun v => v ≠ w32 stOK && v ≠ w32 stPENDING)

/-- The open record waits, or its routine runs. -/
def recordBusy (r : Record) (s : State) : Bool := s.cond.await.isSome || r.routine

/-- Runs the open record's words until it ends, waits or calls a routine; at most n words. -/
def runWords : Nat → State → State
  | 0, s => s
  | n + 1, s =>
    match s.cond.record with
    | none => s
    | some r =>
      match r.words with
      | [] => endRecord 0 s
      | word :: rest =>
        let s := modRecord (fun r => { r with words := rest, cur := word, status := none, live := true }) s
        let s := modRecord (fun r => { r with live := false }) (runWord r.world word s)
        match s.cond.record with
        | none => s
        | some r =>
          if recordBusy r s then s
          else
            let s := modRecord (fun r => { r with executed := r.executed + 1 }) s
            if stops r.status then endRecord 0 s else runWords n s

/-- The open record goes on when the word it was executing has finished; a restart that BOOT.RESTART asked for follows the end of
the record (02 R50, R51; 17 R574). -/
def resume (s : State) : State :=
  restartIfDue (match s.cond.record with
    | none => s
    | some r =>
      if recordBusy r s || !alive s then s
      else
        let s := modRecord (fun r => { r with executed := r.executed + 1 }) s
        if stops r.status then endRecord 0 s else runWords (r.words.length + 1) s)

/-- A record opens and its words run. -/
def openRecord (r : Record) (s : State) : State :=
  restartIfDue (runWords (r.words.length + 1) { s with cond := { s.cond with record := some r } })

/-! ## Taking records (02 R49; 15 R495-R497) -/

/-- A command ring holds a record. -/
def offers (w : World) (s : State) : Bool :=
  let r := ring w blkCommand s
  r.runs && diff16 r.lastP r.dev ≠ 0

/-- It is the world's turn (02 R49). -/
def ringTurn (w : World) (s : State) : Bool :=
  let burst := offers .operator s && cpar 0x0002 s ≤ s.cond.custRun
  match w with
  | .custodian => !burst
  | .operator => !offers .custodian s || burst

/-- A record of the world can be taken: the conductor is at a record boundary and the completion ring has room; the record comes
from the world's command ring in its turn, or it is a mirrored input. -/
def canTake (w : World) (s : State) : Bool :=
  alive s && s.cond.record.isNone && s.cond.await.isNone &&
    (s.twin.mirNext || (offers w s && ringTurn w s && (ring w blkCompletion s).room))

/-- A record has been taken from the world's ring, or has come as a mirrored input. -/
def tookRecord (w : World) (s : State) : State :=
  { s with
    cond := { s.cond with custRun := if s.twin.mirNext then s.cond.custRun else if w = .custodian then s.cond.custRun + 1 else 0 }
    twin := { s.twin with mirNext := false } }

/-- A record that executes no word ends with its completion; the world's registers stand. -/
def closeRecord (w : World) (mirrored : Bool) (kind : Nat) (tag : BitVec 32) (st : Nat) (w1 : Nat) (s : State) : State :=
  let s := postCompletion w kind 0 tag (w32 st) (w32 w1) 0 s
  stopOrphan .custodian (stopOrphan .operator (if mirrored then s else passCommand w s))

/-- A layout check of R496 fails: counted. -/
def badRecord (w : World) (mirrored : Bool) (kind : Nat) (tag : BitVec 32) (w1 : Nat) (s : State) : State :=
  closeRecord w mirrored kind tag stRANGE w1 (bump 0x0A22 s)

/-- INSTRUCTION_RECORD (02 R49-R51, 15 R495, R496). -/
def execInstructionRecord (w : World) (tag : BitVec 32) (words : List (BitVec 64)) (errs : List MemErr) (s : State) :
    Host.Outcome State Fault Refusal :=
  ok (let s := meetErrors errs s
      if !canTake w s then s
      else
        let m := s.twin.mirNext
        let s := tookRecord w s
        if ringFails errs then badRecord w m 1 tag 0x105 s
        else if words.length = 0 || 3 < words.length then badRecord w m 1 tag 0x103 s
        else openRecord { world := w, fromRing := !m, tag := tag, words := words, startedAt := s.time.elapsed, mirrored := m } s)

/-- What stops a load record before it writes: the world's registers stand, nothing is written. -/
def loadRefusal (mirrored : Bool) (s : State) : Option (Nat × Nat) :=
  if s.boot.phase = 4 then some (stLIFECYCLE, 3)
  else if s.twin.role = 2 && !mirrored then some (stREFUSED, 0xC5)
  else none

/-- A load of these instructions touches a page in the window of a sequencer that runs or waits (02 R45). -/
def touchesRunning (start n : Nat) (s : State) : Bool :=
  sliceIdx.any (fun k => seqLive k s &&
    (start / 256 < (seq k s).winFirst + (seq k s).winCount && (seq k s).winFirst ≤ (start + n - 1) / 256))

/-- Writes instructions in address order (02 R43). -/
def loadProgram (a : Nat) (ws : List (BitVec 64)) (s : State) : State :=
  (ws.zipIdx).foldl (fun s wk => { s with progMem := Tbl.set 0x1500000000000000 s.progMem (a + wk.2) wk.1 }) s

/-- PROGRAM_LOAD_RECORD (02 R43, R45). -/
def execProgramLoadRecord (w : World) (tag : BitVec 32) (start : BitVec 16) (words : List (BitVec 64)) (s : State) :
    Host.Outcome State Fault Refusal :=
  ok (if !canTake w s then s
      else
        let m := s.twin.mirNext
        let n := words.length
        let s := tookRecord w s
        if n = 0 || 4096 < n || 65536 < start.toNat + n then badRecord w m 2 tag 0x103 s
        else match loadRefusal m s with
          | some (st, x) => closeRecord w m 2 tag st x s
          | none =>
            if touchesRunning start.toNat n s then closeRecord w m 2 tag stREFUSED 0xFF05 s
            else closeRecord w m 2 tag stOK n (loadProgram start.toNat words s))

/-- SCHEDULE_LOAD_RECORD (02 R47, 15 R495). -/
def execScheduleLoadRecord (w : World) (tag : BitVec 32) (addr : BitVec 18) (words : List Word) (s : State) :
    Host.Outcome State Fault Refusal :=
  ok (if !canTake w s then s
      else
        let m := s.twin.mirNext
        let n := words.length
        let s := tookRecord w s
        if n = 0 || 16384 < n || 262144 < addr.toNat + n then badRecord w m 3 tag 0x103 s
        else match loadRefusal m s with
          | some (st, x) => closeRecord w m 3 tag st x s
          | none => closeRecord w m 3 tag stOK n ((words.zipIdx).foldl (fun s wk => setSchedWord (addr.toNat + wk.2) wk.1 s) s))

/-- MALFORMED_RECORD (15 R496). -/
def execMalformedRecord (w : World) (tag : BitVec 32) (kind : BitVec 8) (check : Fin 5) (s : State) :
    Host.Outcome State Fault Refusal :=
  ok (if !canTake w s then s
      else badRecord w s.twin.mirNext kind.toNat tag (0x101 + check.val) (tookRecord w s))

/-- RELAYED_RECORD (16 R534): at the member, at the next record boundary and ahead of both rings. -/
def execRelayedRecord (w : World) (words : List (BitVec 64)) (s : State) : Host.Outcome State Fault Refusal :=
  ok (if !alive s || s.cond.record.isSome || s.cond.await.isSome || words.length = 0 || 3 < words.length then s
      else if cpar 0x0B18 s = 0 then
        sendMsg { kind := 4, dest := 0, src := ownPos s, m1 := 0, m2 := w32 stREFUSED, more := [0xC7, 0] } s
      else openRecord { world := w, posts := false, words := words, relayed := true, startedAt := s.time.elapsed,
                        mirrored := s.twin.mirNext } { s with twin := { s.twin with mirNext := false } })

/-- The limit of a record runs: not while the chip is asleep, under a chip fault, or stopped; a yield's freeze does not stop it. -/
def limitRuns (s : State) : Bool :=
  s.health.chipFault = 0 && s.time.coreOn && s.host.hifMax ≠ 0 && s.cond.await ≠ some .rest &&
    (!s.pw.frozen || (match s.cond.await with
      | some (.yield _) => true
      | _ => false))

/-- RECORD_TIMEOUT (02 R52): the record is abandoned at its limit; a blocking instruction is released without effect. -/
def execRecordTimeout (s : State) : Host.Outcome State Fault Refusal :=
  ok (match s.cond.record with
      | none => s
      | some r =>
        if !limitRuns s || !recordBusy r s then s
        else
          let s := reachElapsed (r.startedAt + cpar 0x0001 s * 1000 + r.asleep) s
          let pc := if r.routine then r.pc else 0
          let s := match s.cond.await with
            | some (.yield _) => unfreeze { s with twin := { s.twin with yieldAt := none, roleOut := s.twin.role = 1 && !s.twin.roleIn } }
            | _ => s
          let s := ret (.ring r.world) stTIMEOUT (w32 r.executed) (w32 pc) { s with cond := { s.cond with await := none } }
          restartIfDue (endRecord 0 s))

/-- SEQ_WATCHDOG (02 R68 reason 7). -/
def execSeqWatchdog (sl : Fin 12) (s : State) : Host.Outcome State Fault Refusal :=
  ok (let limit := spar 0x0016 sl s
      if limit = 0 || !alive s || !seqLive sl s then s
      else haltSlice sl 7 stTIMEOUT 0 false (reachElapsed ((seq sl s).wdogMark + limit * 1000) s))

end Sys2Proof.Machine
end

