-- ==== Sys2Proof/Machine/Events.lean ====
section
/-! DEFINITION. The commands after which the conductor's open record may go on: the transfers of control and the halts of a
routine, the ends of waits, and the events that release a wait (02 R50-R55). -/

namespace Sys2Proof.Machine

/-! ## Control words (03 R80) -/

/-- CALL (03 R80). -/
def execCall (who : Who) (c : Cond) (addr : BitVec 16) (s : State) : Host.Outcome State Fault Refusal :=
  ok (resume (callWord who c addr s))

/-- RET (03 R80, 02 R51). -/
def execRet (who : Who) (c : Cond) (s : State) : Host.Outcome State Fault Refusal := ok (resume (retWord who c s))

/-- HALT (02 R51, R68). -/
def execHalt (who : Who) (c : Cond) (s : State) : Host.Outcome State Fault Refusal := ok (resume (haltWord who c s))

/-- TRAP (02 R51, R68). -/
def execTrap (who : Who) (c : Cond) (code : BitVec 8) (s : State) : Host.Outcome State Fault Refusal :=
  ok (resume (trapWord who c code s))

/-- LDW (03 R80, R83). -/
def execLdw (who : Who) (c : Cond) (wd ws1 : Fin 16) (off : BitVec 18) (s : State) : Host.Outcome State Fault Refusal :=
  ok (resume (ldwWord who c wd ws1 off s))

/-- STW (03 R80, R83). -/
def execStw (who : Who) (c : Cond) (ws1 ws2 : Fin 16) (off : BitVec 18) (s : State) : Host.Outcome State Fault Refusal :=
  ok (resume (stwWord who c ws1 ws2 off s))

/-- ILLEGAL_INSTRUCTION (03 R74, R152). -/
def execIllegalInstruction (who : Who) (word : BitVec 64) (s : State) : Host.Outcome State Fault Refusal :=
  ok (resume (illegalWord who word s))

/-! ## Ends of waits -/

/-- AT_TARGET_REACHED (02 R56). -/
def execAtTargetReached (q : Seqr) (s : State) : Host.Outcome State Fault Refusal := ok (if alive s then resume (atReached q s) else s)

/-- AFTER_INTERVAL_END (03 R85). -/
def execAfterIntervalEnd (q : Seqr) (s : State) : Host.Outcome State Fault Refusal :=
  ok (if alive s then resume (afterEnds q s) else s)

/-- SLOT_BOUNDARY (06 R200, R204; 11 R367). -/
def execSlotBoundary (s : State) : Host.Outcome State Fault Refusal := ok (resume (slotBoundary s))

/-- LATEST_DEADLINE (02 R55, 04 R148, R149). -/
def execLatestDeadline (q : Seqr) (s : State) : Host.Outcome State Fault Refusal :=
  ok (if linksRun s then resume (latestReached q s) else s)

/-- YIELD_TIMEOUT (04 R151). -/
def execYieldTimeout (s : State) : Host.Outcome State Fault Refusal := ok (if linksRun s then resume (yieldTimedOut s) else s)

/-! ## Pending work that ends (03 R79) -/

/-- TLOAD_COMPLETE (03 R111). -/
def execTloadComplete (s : State) : Host.Outcome State Fault Refusal := ok (if alive s then resume (tloadDone s) else s)

/-- TSCRUB_COMPLETE (03 R112). -/
def execTscrubComplete (errs : List MemErr) (s : State) : Host.Outcome State Fault Refusal :=
  ok (let s := meetErrors errs s
      if alive s then resume (tscrubDone s) else s)

/-- SETUP_COMPLETE (15 R509). -/
def execSetupComplete (s : State) : Host.Outcome State Fault Refusal := ok (resume (setupParsed s))

/-- CNTEXP_COMPLETE (04 R140). -/
def execCntexpComplete (s : State) : Host.Outcome State Fault Refusal := ok (if alive s then resume (cntexpDone s) else s)

/-- CAL_COMPLETE (04 R126). -/
def execCalComplete (sl : Fin 12) (failed : Option (Fin 4)) (s : State) : Host.Outcome State Fault Refusal :=
  ok (if alive s then resume (calDone sl failed s) else s)

/-- CONFIRM_COMPLETE (03 R119, 17 R565). -/
def execConfirmComplete (s : State) : Host.Outcome State Fault Refusal := ok (if alive s then resume (confirmDone s) else s)

/-- PMODE_COMPLETE (04 R143). -/
def execPmodeComplete (refOk : Bool) (s : State) : Host.Outcome State Fault Refusal :=
  ok (if alive s then resume (pmodeDone refOk s) else s)

/-- FECTL_TRANSFER (10 R346-R352). -/
def execFectlTransfer (port : Fin 2) (ack : BitVec 8) (s : State) : Host.Outcome State Fault Refusal :=
  ok (resume (feTransfer port ack s))

/-! ## Reference and clocks (14 R460-R463; 05 R155, R156) -/

/-- REFERENCE_QUALIFIED (05 R155). -/
def execReferenceQualified (s : State) : Host.Outcome State Fault Refusal := ok (resume (refQualified s))

/-- REFERENCE_COUNT (05 R155). -/
def execReferenceCount (count : Nat) (s : State) : Host.Outcome State Fault Refusal := ok (resume (refCount count s))

/-- REFERENCE_EDGE_LOST (05 R156, 14 R462). -/
def execReferenceEdgeLost (s : State) : Host.Outcome State Fault Refusal := ok (resume (refLost s))

/-- REF_RETRY (14 R462). -/
def execRefRetry (good : Bool) (s : State) : Host.Outcome State Fault Refusal := ok (resume (refRetry good s))

/-- RTC_SECOND (05 R176, R183). -/
def execRtcSecond (s : State) : Host.Outcome State Fault Refusal := ok (resume (rtcTick s))

/-- RTC_COMMIT_ACK (05 R179): the latest commit offered meanwhile is sent. -/
def execRtcCommitAck (s : State) : Host.Outcome State Fault Refusal := ok (resume (rtcAcked s))

/-! ## Wakes (14 R452-R463) -/

/-- WAKE_SOURCE (14 R452). -/
def execWakeSource (src : Fin 8) (s : State) : Host.Outcome State Fault Refusal := ok (resume (wakeSource src s))

/-- DOZE_WAKE_TIMER (14 R457). -/
def execDozeWakeTimer (s : State) : Host.Outcome State Fault Refusal := ok (resume (dozeTimer s))

/-- REGULATOR_TIMEOUT (14 R461): 1 ms. -/
def execRegulatorTimeout (s : State) : Host.Outcome State Fault Refusal := ok (resume (wakeTimeout 2 1000000 s))

/-- REFERENCE_TIMEOUT (14 R461): 5 ms. -/
def execReferenceTimeout (s : State) : Host.Outcome State Fault Refusal := ok (resume (wakeTimeout 4 5000000 s))

/-- AON_STATUS as every word of a QSPI read while the core is stopped, which is host link activity (14 R464). -/
def asleepRead (words : Nat) (s : State) : State :=
  if s.pw.asleep && s.pw.mode ≠ 0 && bankOn 1 s then
    wakeEvent 3 { s with host := { s.host with qspiOut := List.replicate words (w32 (aonStatus s)) } }
  else s

/-- QSPI_READ (15 R480; 14 R464 while the core is stopped). -/
def execQspiRead (w : World) (addr : BitVec 24) (len : Nat) (s : State) : Host.Outcome State Fault Refusal :=
  ok (if s.pw.asleep then resume (asleepRead (len / 4) s)
      else if hostLinkUp .qspi s then qspiReadOp w addr.toNat len s
      else s)

/-- ASLEEP_QSPI_READ (14 R464): a read of one word. -/
def execAsleepQspiRead (_w : World) (s : State) : Host.Outcome State Fault Refusal := ok (resume (asleepRead 1 s))

/-- TAMPER_EVENT (13 R441-R444). -/
def execTamperEvent (input : Fin 2) (s : State) : Host.Outcome State Fault Refusal := ok (resume (tamper input s))

/-! ## Boot (17 R566-R573) -/

/-- TRIAL_WINDOW_EXPIRY (17 R566). -/
def execTrialWindowExpiry (s : State) : Host.Outcome State Fault Refusal := ok (resume (trialExpires s))

/-- SVC_HELLO (17 R570). -/
def execSvcHello (sq : BitVec 8) (lo hi : BitVec 8) (baud : BitVec 8) (s : State) : Host.Outcome State Fault Refusal :=
  ok (resume (svcHelloOp sq lo hi baud s))

/-- SVC_INFO (17 R570). -/
def execSvcInfo (sq : BitVec 8) (s : State) : Host.Outcome State Fault Refusal := ok (resume (svcInfoOp sq s))

/-- SVC_BEGIN (17 R571). -/
def execSvcBegin (sq : BitVec 8) (h : ImgHdr) (s : State) : Host.Outcome State Fault Refusal := ok (resume (svcBeginOp sq h s))

/-- SVC_DATA (17 R571). -/
def execSvcData (sq : BitVec 8) (off : Nat) (body : List Byte) (s : State) : Host.Outcome State Fault Refusal :=
  ok (resume (svcDataOp sq off body s))

/-- SVC_END (17 R572). -/
def execSvcEnd (sq : BitVec 8) (restart : Bool) (s : State) : Host.Outcome State Fault Refusal := ok (resume (svcEndOp sq restart s))

/-- SVC_ABORT (17 R571). -/
def execSvcAbort (sq : BitVec 8) (s : State) : Host.Outcome State Fault Refusal := ok (resume (svcAbortOp sq s))

/-- SVC_STATUS (17 R570). -/
def execSvcStatus (sq : BitVec 8) (s : State) : Host.Outcome State Fault Refusal := ok (resume (svcStatusOp sq s))

/-! ## Cascade and twin (16 R515-R546) -/

/-- CREDIT (16 R520). -/
def execCredit (l : Fin 6) (v : Fin 4) (count delivered : BitVec 16) (s : State) : Host.Outcome State Fault Refusal :=
  ok (resume (creditBlock l v count.toNat delivered.toNat s))

/-- RESYNC_REPLY (16 R523). -/
def execResyncReply (l : Fin 6) (v : Fin 4) (delivered : BitVec 16) (grant : Fin 256) (s : State) :
    Host.Outcome State Fault Refusal :=
  ok (resume (resyncReplied l v delivered.toNat grant.val s))

/-- BARRIER_ARRIVAL (16 R533). -/
def execBarrierArrival (pos : Fin 8) (bar : BitVec 8) (s : State) : Host.Outcome State Fault Refusal :=
  ok (resume (barrierArrived pos bar s))

/-- BARRIER_ANNOUNCE (16 R533). -/
def execBarrierAnnounce (bar mask : BitVec 8) (s : State) : Host.Outcome State Fault Refusal :=
  ok (resume (barrierAnnounced bar mask s))

/-- POSITION_ABSENT (16 R515). -/
def execPositionAbsent (p : Fin 8) (s : State) : Host.Outcome State Fault Refusal := ok (resume (positionAbsent p s))

/-- TIME_FRAME (16 R529). -/
def execTimeFrame (l : Fin 6) (f : TimeFr) (s : State) : Host.Outcome State Fault Refusal := ok (resume (timeFrame l f s))

/-- HEARTBEAT (16 R538). -/
def execHeartbeat (k : Fin 2) (h : Hb) (s : State) : Host.Outcome State Fault Refusal := ok (resume (heartbeat k h s))

/-- TAKEOVER (16 R544, R545). -/
def execTakeover (s : State) : Host.Outcome State Fault Refusal := ok (resume (takeoverDue s))

/-- END_MARKER (16 R543, R546). -/
def execEndMarker (m : EndMark) (s : State) : Host.Outcome State Fault Refusal := ok (resume (endMarker m s))

/-- FULL_SYNC_TIMEOUT (16 R539). -/
def execFullSyncTimeout (s : State) : Host.Outcome State Fault Refusal := ok (resume (fullSyncTimedOut s))

end Sys2Proof.Machine
end

