-- ==== Sys2Proof/Machine/Dispatch.lean ====
section
/-! DEFINITION. The dispatch: one arm per command, each one direct call of its meaning. -/

namespace Sys2Proof.Machine

def exec (i : Instr) (s : State) : Host.Outcome State Fault Refusal :=
  match i with
  | .nop who c => Sys2Proof.Machine.execNop who c s
  | .movi who c wd imm => Sys2Proof.Machine.execMovi who c wd imm s
  | .mov who c m => Sys2Proof.Machine.execMov who c m s
  | .add who c wd ws1 op2 => Sys2Proof.Machine.execAdd who c wd ws1 op2 s
  | .sub who c wd ws1 op2 => Sys2Proof.Machine.execSub who c wd ws1 op2 s
  | .and_ who c wd ws1 op2 => Sys2Proof.Machine.execAnd who c wd ws1 op2 s
  | .or_ who c wd ws1 op2 => Sys2Proof.Machine.execOr who c wd ws1 op2 s
  | .xor_ who c wd ws1 op2 => Sys2Proof.Machine.execXor who c wd ws1 op2 s
  | .shl who c wd ws1 op2 => Sys2Proof.Machine.execShl who c wd ws1 op2 s
  | .shr who c wd ws1 op2 => Sys2Proof.Machine.execShr who c wd ws1 op2 s
  | .cmp who c pd rel ws1 op2 => Sys2Proof.Machine.execCmp who c pd rel ws1 op2 s
  | .test who c pd ws1 op2 => Sys2Proof.Machine.execTest who c pd ws1 op2 s
  | .jmp who c addr => Sys2Proof.Machine.execJmp who c addr s
  | .br who c ws1 base => Sys2Proof.Machine.execBr who c ws1 base s
  | .call who c addr => Sys2Proof.Machine.execCall who c addr s
  | .ret who c => Sys2Proof.Machine.execRet who c s
  | .loop who c wd addr => Sys2Proof.Machine.execLoop who c wd addr s
  | .halt who c => Sys2Proof.Machine.execHalt who c s
  | .trap who c code => Sys2Proof.Machine.execTrap who c code s
  | .fence who c => Sys2Proof.Machine.execFence who c s
  | .ldw who c wd ws1 off => Sys2Proof.Machine.execLdw who c wd ws1 off s
  | .stw who c ws1 ws2 off => Sys2Proof.Machine.execStw who c ws1 ws2 off s
  | .illegalInstruction who word => Sys2Proof.Machine.execIllegalInstruction who word s
  | .at_ who c ts off => Sys2Proof.Machine.execAt who c ts off s
  | .atTargetReached q => Sys2Proof.Machine.execAtTargetReached q s
  | .after who c interval ws => Sys2Proof.Machine.execAfter who c interval ws s
  | .afterIntervalEnd q => Sys2Proof.Machine.execAfterIntervalEnd q s
  | .tnow who c td => Sys2Proof.Machine.execTnow who c td s
  | .tadd who c td ts delta ws => Sys2Proof.Machine.execTadd who c td ts delta ws s
  | .slot who c wd td sf => Sys2Proof.Machine.execSlot who c wd td sf s
  | .asnCur who c pair => Sys2Proof.Machine.execAsnCur who c pair s
  | .asnTime who c td pair => Sys2Proof.Machine.execAsnTime who c td pair s
  | .tstepAbs who c ts => Sys2Proof.Machine.execTstepAbs who c ts s
  | .tstepRel who c delta => Sys2Proof.Machine.execTstepRel who c delta s
  | .tstepEpoch who c ts => Sys2Proof.Machine.execTstepEpoch who c ts s
  | .trateSet who c ws => Sys2Proof.Machine.execTrateSet who c ws s
  | .trateAdd who c ws => Sys2Proof.Machine.execTrateAdd who c ws s
  | .tseal who c => Sys2Proof.Machine.execTseal who c s
  | .tcap who c td source sl => Sys2Proof.Machine.execTcap who c td source sl s
  | .tune who c ws sl => Sys2Proof.Machine.execTune who c ws sl s
  | .cal who c mask sl => Sys2Proof.Machine.execCal who c mask sl s
  | .rxwin who c ws ts res half => Sys2Proof.Machine.execRxwin who c ws ts res half s
  | .txf who c ts q latest => Sys2Proof.Machine.execTxf who c ts q latest s
  | .txfHeld who c ts ws latest => Sys2Proof.Machine.execTxfHeld who c ts ws latest s
  | .rstate who c wd sl => Sys2Proof.Machine.execRstate who c wd sl s
  | .aerial who c port tuner measure sl => Sys2Proof.Machine.execAerial who c port tuner measure sl s
  | .rqualLast who c wd sl => Sys2Proof.Machine.execRqualLast who c wd sl s
  | .rqualFloor who c wd tap sl => Sys2Proof.Machine.execRqualFloor who c wd tap sl s
  | .feoutTuningWord who c ws sl => Sys2Proof.Machine.execFeoutTuningWord who c ws sl s
  | .feoutStaticControls who c ws sl => Sys2Proof.Machine.execFeoutStaticControls who c ws sl s
  | .feoutRegisterWrite who c ws sl => Sys2Proof.Machine.execFeoutRegisterWrite who c ws sl s
  | .kload who c slot q => Sys2Proof.Machine.execKload who c slot q s
  | .kderive who c wd ws slot => Sys2Proof.Machine.execKderive who c wd ws slot s
  | .krevoke who c slot => Sys2Proof.Machine.execKrevoke who c slot s
  | .kquery who c wd slot => Sys2Proof.Machine.execKquery who c wd slot s
  | .cntsetOut who c ws wc => Sys2Proof.Machine.execCntsetOut who c ws wc s
  | .cntsetIn who c ws wc => Sys2Proof.Machine.execCntsetIn who c ws wc s
  | .cntexp who c ws q count => Sys2Proof.Machine.execCntexp who c ws q count s
  | .kzero who c slot => Sys2Proof.Machine.execKzero who c slot s
  | .kzeroAll who c => Sys2Proof.Machine.execKzeroAll who c s
  | .clksel who c src => Sys2Proof.Machine.execClksel who c src s
  | .pmode who c m => Sys2Proof.Machine.execPmode who c m s
  | .rest who c => Sys2Proof.Machine.execRest who c s
  | .wakeon who c ws mask => Sys2Proof.Machine.execWakeon who c ws mask s
  | .setp who c id scope ws imm => Sys2Proof.Machine.execSetp who c id scope ws imm s
  | .getp who c wd id scope => Sys2Proof.Machine.execGetp who c wd id scope s
  | .note who c kind ws => Sys2Proof.Machine.execNote who c kind ws s
  | .setup who c q => Sys2Proof.Machine.execSetup who c q s
  | .queryJob who c wd ws => Sys2Proof.Machine.execQueryJob who c wd ws s
  | .querySlice who c wd sl => Sys2Proof.Machine.execQuerySlice who c wd sl s
  | .health who c wd sel => Sys2Proof.Machine.execHealth who c wd sel s
  | .confirmImage who c wd => Sys2Proof.Machine.execConfirmImage who c wd s
  | .confirmReject who c wd => Sys2Proof.Machine.execConfirmReject who c wd s
  | .confirmRead who c wd => Sys2Proof.Machine.execConfirmRead who c wd s
  | .qpush who c ws q => Sys2Proof.Machine.execQpush who c ws q s
  | .qpop who c wd q => Sys2Proof.Machine.execQpop who c wd q s
  | .qpeek who c wd q => Sys2Proof.Machine.execQpeek who c wd q s
  | .qdropHead who c q => Sys2Proof.Machine.execQdropHead who c q s
  | .qdropHeld who c ws => Sys2Proof.Machine.execQdropHeld who c ws s
  | .qdropRest who c q => Sys2Proof.Machine.execQdropRest who c q s
  | .qflush who c q => Sys2Proof.Machine.execQflush who c q s
  | .qlen who c wd q => Sys2Proof.Machine.execQlen who c wd q s
  | .qattr who c q ws attr => Sys2Proof.Machine.execQattr who c q ws attr s
  | .ledger who c wd kind link vc => Sys2Proof.Machine.execLedger who c wd kind link vc s
  | .lookup who c wd ws dist => Sys2Proof.Machine.execLookup who c wd ws dist s
  | .insert who c ws wr dist static => Sys2Proof.Machine.execInsert who c ws wr dist static s
  | .delete who c ws dist static => Sys2Proof.Machine.execDelete who c ws dist static s
  | .learnack who c ws dist inserted => Sys2Proof.Machine.execLearnack who c ws dist inserted s
  | .pin who c ws dist => Sys2Proof.Machine.execPin who c ws dist s
  | .unpin who c ws dist => Sys2Proof.Machine.execUnpin who c ws dist s
  | .tload who c q region => Sys2Proof.Machine.execTload who c q region s
  | .tscrub who c region => Sys2Proof.Machine.execTscrub who c region s
  | .csend who c ws dest kind latest => Sys2Proof.Machine.execCsend who c ws dest kind latest s
  | .cbar who c bar latest => Sys2Proof.Machine.execCbar who c bar latest s
  | .mirrorStatus who c wd => Sys2Proof.Machine.execMirrorStatus who c wd s
  | .mirrorSync who c wd => Sys2Proof.Machine.execMirrorSync who c wd s
  | .mirrorDigest who c wd => Sys2Proof.Machine.execMirrorDigest who c wd s
  | .roleRead who c wd => Sys2Proof.Machine.execRoleRead who c wd s
  | .roleYield who c wd => Sys2Proof.Machine.execRoleYield who c wd s
  | .roleWithdraw who c wd => Sys2Proof.Machine.execRoleWithdraw who c wd s
  | .seqStart who c sl => Sys2Proof.Machine.execSeqStart who c sl s
  | .seqHalt who c sl => Sys2Proof.Machine.execSeqHalt who c sl s
  | .seqRestart who c sl => Sys2Proof.Machine.execSeqRestart who c sl s
  | .seqHandover who c sl arm => Sys2Proof.Machine.execSeqHandover who c sl arm s
  | .gridStop who c => Sys2Proof.Machine.execGridStop who c s
  | .gridStart who c => Sys2Proof.Machine.execGridStart who c s
  | .gridAcquire who c => Sys2Proof.Machine.execGridAcquire who c s
  | .timeDisciplineChange who c v => Sys2Proof.Machine.execTimeDisciplineChange who c v s
  | .ppsInEnable who c v => Sys2Proof.Machine.execPpsInEnable who c v s
  | .rtcCommitTime who c => Sys2Proof.Machine.execRtcCommitTime who c s
  | .rtcCommitDate who c => Sys2Proof.Machine.execRtcCommitDate who c s
  | .rtcCommitBoth who c => Sys2Proof.Machine.execRtcCommitBoth who c s
  | .rtcCommitAck => Sys2Proof.Machine.execRtcCommitAck s
  | .rtcAlarmArm who c => Sys2Proof.Machine.execRtcAlarmArm who c s
  | .rtcAlarmDisarm who c => Sys2Proof.Machine.execRtcAlarmDisarm who c s
  | .trigArm who c n invert => Sys2Proof.Machine.execTrigArm who c n invert s
  | .trigDisarm who c n invert => Sys2Proof.Machine.execTrigDisarm who c n invert s
  | .profCommitWrite who c idx dist => Sys2Proof.Machine.execProfCommitWrite who c idx dist s
  | .profCommitInvalidate who c idx dist => Sys2Proof.Machine.execProfCommitInvalidate who c idx dist s
  | .profCommitRead who c idx dist => Sys2Proof.Machine.execProfCommitRead who c idx dist s
  | .segCommitWrite who c sl seg => Sys2Proof.Machine.execSegCommitWrite who c sl seg s
  | .segCommitClear who c sl seg => Sys2Proof.Machine.execSegCommitClear who c sl seg s
  | .segCommitRead who c sl seg => Sys2Proof.Machine.execSegCommitRead who c sl seg s
  | .xiqEnable who c sl bits => Sys2Proof.Machine.execXiqEnable who c sl bits s
  | .xiqDisable who c sl bits => Sys2Proof.Machine.execXiqDisable who c sl bits s
  | .lcAdvanceDeploy who c => Sys2Proof.Machine.execLcAdvanceDeploy who c s
  | .lcAdvanceReturn who c => Sys2Proof.Machine.execLcAdvanceReturn who c s
  | .lockAck who c v => Sys2Proof.Machine.execLockAck who c v s
  | .tampCtrlWrite who c v => Sys2Proof.Machine.execTampCtrlWrite who c v s
  | .tampClear who c => Sys2Proof.Machine.execTampClear who c s
  | .grpFloorRaise who c dist v => Sys2Proof.Machine.execGrpFloorRaise who c dist v s
  | .bkpStatusClear who c => Sys2Proof.Machine.execBkpStatusClear who c s
  | .silentTimeoutChange who c v => Sys2Proof.Machine.execSilentTimeoutChange who c v s
  | .activate who c => Sys2Proof.Machine.execActivate who c s
  | .relayGo who c pos count => Sys2Proof.Machine.execRelayGo who c pos count s
  | .bootRestart who c => Sys2Proof.Machine.execBootRestart who c s
  | .instructionRecord w tag words errs => Sys2Proof.Machine.execInstructionRecord w tag words errs s
  | .programLoadRecord w tag start words => Sys2Proof.Machine.execProgramLoadRecord w tag start words s
  | .scheduleLoadRecord w tag addr words => Sys2Proof.Machine.execScheduleLoadRecord w tag addr words s
  | .malformedRecord w tag kind check => Sys2Proof.Machine.execMalformedRecord w tag kind check s
  | .relayedRecord w words => Sys2Proof.Machine.execRelayedRecord w words s
  | .recordTimeout => Sys2Proof.Machine.execRecordTimeout s
  | .seqWatchdog sl => Sys2Proof.Machine.execSeqWatchdog sl s
  | .tloadComplete => Sys2Proof.Machine.execTloadComplete s
  | .tscrubComplete errs => Sys2Proof.Machine.execTscrubComplete errs s
  | .setupComplete => Sys2Proof.Machine.execSetupComplete s
  | .cntexpComplete => Sys2Proof.Machine.execCntexpComplete s
  | .calComplete sl failed => Sys2Proof.Machine.execCalComplete sl failed s
  | .confirmComplete => Sys2Proof.Machine.execConfirmComplete s
  | .pmodeComplete refOk => Sys2Proof.Machine.execPmodeComplete refOk s
  | .heldNoticePost w => Sys2Proof.Machine.execHeldNoticePost w s
  | .slotBoundary => Sys2Proof.Machine.execSlotBoundary s
  | .stoppedGridTick => Sys2Proof.Machine.execStoppedGridTick s
  | .timebaseEnd => Sys2Proof.Machine.execTimebaseEnd s
  | .referenceQualified => Sys2Proof.Machine.execReferenceQualified s
  | .referenceCount count => Sys2Proof.Machine.execReferenceCount count s
  | .referenceEdgeLost => Sys2Proof.Machine.execReferenceEdgeLost s
  | .refRetry ok => Sys2Proof.Machine.execRefRetry ok s
  | .ppsInEdge capture pulse => Sys2Proof.Machine.execPpsInEdge capture pulse s
  | .ppsMissed => Sys2Proof.Machine.execPpsMissed s
  | .ppsOutEdge => Sys2Proof.Machine.execPpsOutEdge s
  | .triggerEdge n => Sys2Proof.Machine.execTriggerEdge n s
  | .rtcSecond => Sys2Proof.Machine.execRtcSecond s
  | .rtcTrimWindow => Sys2Proof.Machine.execRtcTrimWindow s
  | .crystalStop => Sys2Proof.Machine.execCrystalStop s
  | .rxwinOpen sl => Sys2Proof.Machine.execRxwinOpen sl s
  | .rxwinClose sl => Sys2Proof.Machine.execRxwinClose sl s
  | .txfSelection sl => Sys2Proof.Machine.execTxfSelection sl s
  | .txfDeadline sl => Sys2Proof.Machine.execTxfDeadline sl s
  | .blankingStart sl => Sys2Proof.Machine.execBlankingStart sl s
  | .launch sl => Sys2Proof.Machine.execLaunch sl s
  | .frameAired sl => Sys2Proof.Machine.execFrameAired sl s
  | .txRampDownEnd sl => Sys2Proof.Machine.execTxRampDownEnd sl s
  | .blankingEnd sl => Sys2Proof.Machine.execBlankingEnd sl s
  | .ackWaitExpiry sl => Sys2Proof.Machine.execAckWaitExpiry sl s
  | .txMismatchMeasure sl loss => Sys2Proof.Machine.execTxMismatchMeasure sl loss s
  | .ctCellDeadline sl => Sys2Proof.Machine.execCtCellDeadline sl s
  | .enhAckLaunch sl => Sys2Proof.Machine.execEnhAckLaunch sl s
  | .watcherDetection sl tap seen more => Sys2Proof.Machine.execWatcherDetection sl tap seen more s
  | .watcherRearm sl tap => Sys2Proof.Machine.execWatcherRearm sl tap s
  | .phrCheck ln phr => Sys2Proof.Machine.execPhrCheck ln phr s
  | .fcsCheck ln fsk ltf syms => Sys2Proof.Machine.execFcsCheck ln fsk ltf syms s
  | .frameAdmission ln info errs => Sys2Proof.Machine.execFrameAdmission ln info errs s
  | .parentBeaconMiss => Sys2Proof.Machine.execParentBeaconMiss s
  | .noiseFloorWindow sl tap blocks => Sys2Proof.Machine.execNoiseFloorWindow sl tap blocks s
  | .synthLock sl => Sys2Proof.Machine.execSynthLock sl s
  | .lockLoss sl => Sys2Proof.Machine.execLockLoss sl s
  | .relockTimeout sl => Sys2Proof.Machine.execRelockTimeout sl s
  | .deferredRetuneStart sl => Sys2Proof.Machine.execDeferredRetuneStart sl s
  | .sliceTempMeasure sl t => Sys2Proof.Machine.execSliceTempMeasure sl t s
  | .tempCalStart sl => Sys2Proof.Machine.execTempCalStart sl s
  | .tempCalEnd sl => Sys2Proof.Machine.execTempCalEnd sl s
  | .tcalDeferTimeout sl => Sys2Proof.Machine.execTcalDeferTimeout sl s
  | .agcStepDown m => Sys2Proof.Machine.execAgcStepDown m s
  | .agcStepUp m => Sys2Proof.Machine.execAgcStepUp m s
  | .forcedGainStep sl => Sys2Proof.Machine.execForcedGainStep sl s
  | .diversitySwitch sl => Sys2Proof.Machine.execDiversitySwitch sl s
  | .fectlTransfer port ack => Sys2Proof.Machine.execFectlTransfer port ack s
  | .extSettleElapsed sl => Sys2Proof.Machine.execExtSettleElapsed sl s
  | .extCalTimeElapsed sl => Sys2Proof.Machine.execExtCalTimeElapsed sl s
  | .xiqBlock sl b => Sys2Proof.Machine.execXiqBlock sl b s
  | .xiqSlip sl overflow => Sys2Proof.Machine.execXiqSlip sl overflow s
  | .xiqTrainingTimeout sl => Sys2Proof.Machine.execXiqTrainingTimeout sl s
  | .xiqLaneLoss sl => Sys2Proof.Machine.execXiqLaneLoss sl s
  | .engineFault e unit => Sys2Proof.Machine.execEngineFault e unit s
  | .selfTestStep e => Sys2Proof.Machine.execSelfTestStep e s
  | .selfTestEnd e pass => Sys2Proof.Machine.execSelfTestEnd e pass s
  | .sliceFault sl cause => Sys2Proof.Machine.execSliceFault sl cause s
  | .chipFault cause region => Sys2Proof.Machine.execChipFault cause region s
  | .startWaitGrant q => Sys2Proof.Machine.execStartWaitGrant q s
  | .startWaitTimeout w => Sys2Proof.Machine.execStartWaitTimeout w s
  | .itemTimeout p => Sys2Proof.Machine.execItemTimeout p s
  | .noticeQuietExpiry kind subject => Sys2Proof.Machine.execNoticeQuietExpiry kind subject s
  | .noticeMaxAgeExpiry kind subject => Sys2Proof.Machine.execNoticeMaxAgeExpiry kind subject s
  | .noticeDescriptorPost w => Sys2Proof.Machine.execNoticeDescriptorPost w s
  | .declineHoldExpiry subject => Sys2Proof.Machine.execDeclineHoldExpiry subject s
  | .agingPass => Sys2Proof.Machine.execAgingPass s
  | .agingResume => Sys2Proof.Machine.execAgingResume s
  | .cacheSweep => Sys2Proof.Machine.execCacheSweep s
  | .tamperEvent input => Sys2Proof.Machine.execTamperEvent input s
  | .hostSilence => Sys2Proof.Machine.execHostSilence s
  | .statusWindowWrite w l off v => Sys2Proof.Machine.execStatusWindowWrite w l off v s
  | .psumRead w => Sys2Proof.Machine.execPsumRead w s
  | .psumMirrorWrite w => Sys2Proof.Machine.execPsumMirrorWrite w s
  | .timeSnapshotRead w => Sys2Proof.Machine.execTimeSnapshotRead w s
  | .ledgerWindowRead w => Sys2Proof.Machine.execLedgerWindowRead w s
  | .healthWindowRead w => Sys2Proof.Machine.execHealthWindowRead w s
  | .nfloorRead w => Sys2Proof.Machine.execNfloorRead w s
  | .hello w l v => Sys2Proof.Machine.execHello w l v s
  | .commandProducer w l p => Sys2Proof.Machine.execCommandProducer w l p s
  | .transmitProducer w l n p => Sys2Proof.Machine.execTransmitProducer w l n p s
  | .ringStart w l b size => Sys2Proof.Machine.execRingStart w l b size s
  | .ringStop w l b => Sys2Proof.Machine.execRingStop w l b s
  | .consumerIndex w l b v => Sys2Proof.Machine.execConsumerIndex w l b v s
  | .qspiRead w addr len => Sys2Proof.Machine.execQspiRead w addr len s
  | .qspiWrite w addr data => Sys2Proof.Machine.execQspiWrite w addr data s
  | .qspiBadTransfer w => Sys2Proof.Machine.execQspiBadTransfer w s
  | .asleepQspiRead w => Sys2Proof.Machine.execAsleepQspiRead w s
  | .txStartOfItem w ring d => Sys2Proof.Machine.execTxStartOfItem w ring d s
  | .txData w ring d => Sys2Proof.Machine.execTxData w ring d s
  | .txEndOfItem w ring d errs => Sys2Proof.Machine.execTxEndOfItem w ring d errs s
  | .receiveDelivery w ring => Sys2Proof.Machine.execReceiveDelivery w ring s
  | .dmaError w b ld => Sys2Proof.Machine.execDmaError w b ld s
  | .dmaTimeout w b ld => Sys2Proof.Machine.execDmaTimeout w b ld s
  | .perstN asserted => Sys2Proof.Machine.execPerstN asserted s
  | .wakeSource src => Sys2Proof.Machine.execWakeSource src s
  | .dozeWakeTimer => Sys2Proof.Machine.execDozeWakeTimer s
  | .regulatorReady => Sys2Proof.Machine.execRegulatorReady s
  | .regulatorTimeout => Sys2Proof.Machine.execRegulatorTimeout s
  | .referenceTimeout => Sys2Proof.Machine.execReferenceTimeout s
  | .returnToSleep => Sys2Proof.Machine.execReturnToSleep s
  | .dieTempMeasure t => Sys2Proof.Machine.execDieTempMeasure t s
  | .lpOverload => Sys2Proof.Machine.execLpOverload s
  | .coreBrownOut => Sys2Proof.Machine.execCoreBrownOut s
  | .mainBrownOut => Sys2Proof.Machine.execMainBrownOut s
  | .nvInhibitEnter mv => Sys2Proof.Machine.execNvInhibitEnter mv s
  | .nvInhibitRelease mv => Sys2Proof.Machine.execNvInhibitRelease mv s
  | .vinMeasure mv => Sys2Proof.Machine.execVinMeasure mv s
  | .backupSwitchToVbat => Sys2Proof.Machine.execBackupSwitchToVbat s
  | .backupSwitchToVin crcOk canaryOk => Sys2Proof.Machine.execBackupSwitchToVin crcOk canaryOk s
  | .pwronDelay => Sys2Proof.Machine.execPwronDelay s
  | .vbatMeasure mv => Sys2Proof.Machine.execVbatMeasure mv s
  | .backupDomainPowerUp => Sys2Proof.Machine.execBackupDomainPowerUp s
  | .mainPowerUp st crcOk canaryOk => Sys2Proof.Machine.execMainPowerUp st crcOk canaryOk s
  | .coreResetRelease flash stagedOk activeOk fallbackOk => Sys2Proof.Machine.execCoreResetRelease flash stagedOk activeOk fallbackOk s
  | .recoveryListenTimeout => Sys2Proof.Machine.execRecoveryListenTimeout s
  | .recordInhibitWait => Sys2Proof.Machine.execRecordInhibitWait s
  | .trialWindowExpiry => Sys2Proof.Machine.execTrialWindowExpiry s
  | .svcHello sq lo hi baud => Sys2Proof.Machine.execSvcHello sq lo hi baud s
  | .svcInfo sq => Sys2Proof.Machine.execSvcInfo sq s
  | .svcBegin sq h => Sys2Proof.Machine.execSvcBegin sq h s
  | .svcData sq off body => Sys2Proof.Machine.execSvcData sq off body s
  | .svcEnd sq restart => Sys2Proof.Machine.execSvcEnd sq restart s
  | .svcAbort sq => Sys2Proof.Machine.execSvcAbort sq s
  | .svcStatus sq => Sys2Proof.Machine.execSvcStatus sq s
  | .svcOctetGapTimeout => Sys2Proof.Machine.execSvcOctetGapTimeout s
  | .svcSessionIdle => Sys2Proof.Machine.execSvcSessionIdle s
  | .svcRateSwitch => Sys2Proof.Machine.execSvcRateSwitch s
  | .svcRateSwitchTimeout => Sys2Proof.Machine.execSvcRateSwitchTimeout s
  | .train l b => Sys2Proof.Machine.execTrain l b s
  | .casTrainingTimeout l => Sys2Proof.Machine.execCasTrainingTimeout l s
  | .casTrainingRetry l => Sys2Proof.Machine.execCasTrainingRetry l s
  | .casLinkDown l => Sys2Proof.Machine.execCasLinkDown l s
  | .status l b => Sys2Proof.Machine.execStatus l b s
  | .statusSend l => Sys2Proof.Machine.execStatusSend l s
  | .credit l vc count delivered => Sys2Proof.Machine.execCredit l vc count delivered s
  | .creditSend l vc => Sys2Proof.Machine.execCreditSend l vc s
  | .creditTimeout l vc => Sys2Proof.Machine.execCreditTimeout l vc s
  | .resyncRequest l vc => Sys2Proof.Machine.execResyncRequest l vc s
  | .resyncReply l vc delivered grant => Sys2Proof.Machine.execResyncReply l vc delivered grant s
  | .resyncReplyTimeout l vc => Sys2Proof.Machine.execResyncReplyTimeout l vc s
  | .linkFrameError l vc => Sys2Proof.Machine.execLinkFrameError l vc s
  | .casItemSend l p => Sys2Proof.Machine.execCasItemSend l p s
  | .casItem l vc it => Sys2Proof.Machine.execCasItem l vc it s
  | .casMessage l m => Sys2Proof.Machine.execCasMessage l m s
  | .barrierArrival pos bar => Sys2Proof.Machine.execBarrierArrival pos bar s
  | .barrierAnnounce bar mask => Sys2Proof.Machine.execBarrierAnnounce bar mask s
  | .barrierForget bar => Sys2Proof.Machine.execBarrierForget bar s
  | .relayResult executed w0 w1 w2 => Sys2Proof.Machine.execRelayResult executed w0 w1 w2 s
  | .relayTimeout => Sys2Proof.Machine.execRelayTimeout s
  | .positionAbsent p => Sys2Proof.Machine.execPositionAbsent p s
  | .timeFrame l f => Sys2Proof.Machine.execTimeFrame l f s
  | .linkDelayMeasure l => Sys2Proof.Machine.execLinkDelayMeasure l s
  | .dreq l t2 => Sys2Proof.Machine.execDreq l t2 s
  | .dresp l t2 t3 t4 => Sys2Proof.Machine.execDresp l t2 t3 t4 s
  | .heartbeatSend => Sys2Proof.Machine.execHeartbeatSend s
  | .heartbeat lane h => Sys2Proof.Machine.execHeartbeat lane h s
  | .heartbeatTimeout => Sys2Proof.Machine.execHeartbeatTimeout s
  | .roleInChange high => Sys2Proof.Machine.execRoleInChange high s
  | .claimResolution => Sys2Proof.Machine.execClaimResolution s
  | .takeover => Sys2Proof.Machine.execTakeover s
  | .mirrorInput order m => Sys2Proof.Machine.execMirrorInput order m s
  | .endMarker m => Sys2Proof.Machine.execEndMarker m s
  | .fullSyncStart => Sys2Proof.Machine.execFullSyncStart s
  | .fullSyncTimeout => Sys2Proof.Machine.execFullSyncTimeout s
  | .latestDeadline q => Sys2Proof.Machine.execLatestDeadline q s
  | .yieldTimeout => Sys2Proof.Machine.execYieldTimeout s
  | .timeFrameMissed => Sys2Proof.Machine.execTimeFrameMissed s
  | .pulseWidthEnd out => Sys2Proof.Machine.execPulseWidthEnd out s
  | .tamperInputInactive input => Sys2Proof.Machine.execTamperInputInactive input s
  | .crystalRestart => Sys2Proof.Machine.execCrystalRestart s
  | .vioRangeChange bank mv => Sys2Proof.Machine.execVioRangeChange bank mv s
  | .svcCtsChange high => Sys2Proof.Machine.execSvcCtsChange high s
  | .svcBadFrame => Sys2Proof.Machine.execSvcBadFrame s
  | .ringBaseWrite w l b word v => Sys2Proof.Machine.execRingBaseWrite w l b word v s

end Sys2Proof.Machine
end

