-- ==== Sys2Proof/Machine/Run.lean ====
section
/-! DEFINITION. The sequencers at work: a running sequencer fetches the word at its program counter from program memory and executes
it (02 R42-R44, R74; log entry 11). -/

namespace Sys2Proof.Machine

/-- A slice sequencer that is Running, or the conductor in a routine, executes the word at its program counter. -/
def runFetched (s : State) (who : Who) : State :=
  if !canRun who s then s
  else
    let word := progWord (pcOf who s) s
    match decodeWord who word with
    | .instr i => landed s (exec i s)
    | .illegal => landed s (execIllegalInstruction who word s)
    | .badMode c op mode pos => landed s (ok (badModeWord who c op mode pos s))

/-- The slice sequencers in the order of their turns, from the one after the last that was granted (02 R58). -/
def turns (last : Fin 12) : List (Fin 12) := sliceIdx.map (last + 1 + ·)

/-- The sequencers in the order in which a clock period grants them: the slices in turn, ahead of the conductor, which has its own
grant in every period (02 R58) and whose value stands where both write one parameter (02 R65). -/
def fetchers (s : State) : List Who := (turns s.time.lastGrant).map Who.slice ++ [.routine]

/-- Grants a sequencer its word of the clock period; a slice that had one is the last granted. -/
def grant (s : State) (who : Who) : State :=
  match who with
  | .slice n => if canRun who s then runFetched { s with time := { s.time with lastGrant := n } } who else s
  | _ => runFetched s who

/-- One clock period in which no command waits: the timebase counts on, then each sequencer that can executes one word; their reads
of schedule memory return what it held as the period began (02 R47). -/
def clockPeriod (s : State) : State :=
  let s := passTicks 1 s
  let s := (fetchers s).foldl grant { s with time := { s.time with schedOld := some s.schedMem } }
  { s with time := { s.time with schedOld := none } }

end Sys2Proof.Machine
end

