-- ==== Sys2Proof/Safety.lean ====
section
/-! DEFINITION. The terms in which claims speak of the block: when an instruction issues, what it reports, what every command
leaves alone, and the canonical form of the addressed memories. -/

namespace Sys2Proof.Machine

/-! ## What every command ends with -/

/-- The poll summary's SEQ and the flow outputs are brought up to date (15 R487, 11 R378): the last thing a command does. -/
def settle (s : State) : State := flowSync (psumSync s)

/-! ## Instructions -/

/-- The state in which the issuer's word runs: a word presented in ring context while no record is open opens a record of its
own (02 R51; log entry 2), any other runs in the state as it stands. -/
def opened (who : Who) (s : State) : State :=
  match who, s.cond.record with
  | .ring w, none =>
    { s with
      cond := { s.cond with record := some { world := w, posts := false, live := true, startedAt := s.time.elapsed,
                                             mirrored := s.twin.mirNext } }
      twin := { s.twin with mirNext := false } }
  | _, _ => s

/-- The instruction gets as far as its own effect: the issuer can execute, a slice sequencer's fetch lies in its window (02 R44),
the condition holds (03 R73), neither locked service (17 R561) nor a standby (16 R541) turns it away, and Table FM-1 permits it
where it is executed (02 R34). -/
structure Issues (who : Who) (c : Cond) (op : Nat) (p : Perm) (s : State) : Prop where
  can : canRun who s = true
  inWin : fetchOutside who s = false
  holds : condHolds c (ctx who s).regs.p = true
  open_ : lockedOut op s = false
  active : standbyOut who op (opened who s) = false
  permitted : permFail p who s = none

/-- The instruction is turned away by Table FM-1 with detail d, and by nothing before it (02 R35). -/
structure Barred (who : Who) (c : Cond) (op : Nat) (p : Perm) (d : Nat) (s : State) : Prop where
  can : canRun who s = true
  inWin : fetchOutside who s = false
  holds : condHolds c (ctx who s).regs.p = true
  open_ : lockedOut op s = false
  active : standbyOut who op (opened who s) = false
  barred : permFail p who s = some d

/-- How an instruction issues: who executes it, under which condition, its opcode, and where Table FM-1 permits it. -/
structure Issue where
  who : Who
  cond : Cond
  op : Nat
  perm : Perm
deriving DecidableEq, Repr

/-- The instruction that a command is, none of a command that is no instruction; a row that is a SETP of one parameter issues as a
SETP (03 R73, R113; 02 Table FM-1). An illegal word issues under no condition and is not among them. -/
def issueOf (i : Instr) : Option Issue :=
  match i with
  | .nop who c => some ⟨who, c, 0x00, .all⟩
  | .movi who c _ _ => some ⟨who, c, 0x01, .all⟩
  | .mov who c _ => some ⟨who, c, 0x02, .all⟩
  | .add who c _ _ _ => some ⟨who, c, 0x03, .all⟩
  | .sub who c _ _ _ => some ⟨who, c, 0x04, .all⟩
  | .and_ who c _ _ _ => some ⟨who, c, 0x05, .all⟩
  | .or_ who c _ _ _ => some ⟨who, c, 0x06, .all⟩
  | .xor_ who c _ _ _ => some ⟨who, c, 0x07, .all⟩
  | .shl who c _ _ _ => some ⟨who, c, 0x08, .all⟩
  | .shr who c _ _ _ => some ⟨who, c, 0x09, .all⟩
  | .cmp who c _ _ _ _ => some ⟨who, c, 0x0A, .all⟩
  | .test who c _ _ _ => some ⟨who, c, 0x0B, .all⟩
  | .jmp who c _ => some ⟨who, c, 0x10, .all⟩
  | .br who c _ _ => some ⟨who, c, 0x11, .all⟩
  | .call who c _ => some ⟨who, c, 0x12, .all⟩
  | .ret who c => some ⟨who, c, 0x13, .all⟩
  | .loop who c _ _ => some ⟨who, c, 0x14, .all⟩
  | .halt who c => some ⟨who, c, 0x15, .all⟩
  | .trap who c _ => some ⟨who, c, 0x16, .all⟩
  | .fence who c => some ⟨who, c, 0x17, .all⟩
  | .ldw who c _ _ _ => some ⟨who, c, 0x18, .all⟩
  | .stw who c _ _ _ => some ⟨who, c, 0x19, .all⟩
  | .illegalInstruction _ _ => none
  | .at_ who c _ _ => some ⟨who, c, 0x20, .all⟩
  | .atTargetReached _ => none
  | .after who c _ _ => some ⟨who, c, 0x21, .all⟩
  | .afterIntervalEnd _ => none
  | .tnow who c _ => some ⟨who, c, 0x22, .all⟩
  | .tadd who c _ _ _ _ => some ⟨who, c, 0x23, .all⟩
  | .slot who c _ _ _ => some ⟨who, c, 0x24, .all⟩
  | .asnCur who c _ => some ⟨who, c, 0x25, .all⟩
  | .asnTime who c _ _ => some ⟨who, c, 0x25, .all⟩
  | .tstepAbs who c _ => some ⟨who, c, 0x26, .custodian⟩
  | .tstepRel who c _ => some ⟨who, c, 0x26, .custodian⟩
  | .tstepEpoch who c _ => some ⟨who, c, 0x26, .custodian⟩
  | .trateSet who c _ => some ⟨who, c, 0x27, .condOnly⟩
  | .trateAdd who c _ => some ⟨who, c, 0x27, .condOnly⟩
  | .tseal who c => some ⟨who, c, 0x28, .custodian⟩
  | .tcap who c _ _ _ => some ⟨who, c, 0x29, .all⟩
  | .tune who c _ _ => some ⟨who, c, 0x30, .all⟩
  | .cal who c _ _ => some ⟨who, c, 0x31, .all⟩
  | .rxwin who c _ _ _ _ => some ⟨who, c, 0x32, .sliceOnly⟩
  | .txf who c _ _ _ => some ⟨who, c, 0x33, .sliceOnly⟩
  | .txfHeld who c _ _ _ => some ⟨who, c, 0x33, .sliceOnly⟩
  | .rstate who c _ _ => some ⟨who, c, 0x34, .all⟩
  | .aerial who c _ _ _ _ => some ⟨who, c, 0x35, .all⟩
  | .rqualLast who c _ _ => some ⟨who, c, 0x36, .all⟩
  | .rqualFloor who c _ _ _ => some ⟨who, c, 0x36, .all⟩
  | .feoutTuningWord who c _ _ => some ⟨who, c, 0x37, .all⟩
  | .feoutStaticControls who c _ _ => some ⟨who, c, 0x37, .all⟩
  | .feoutRegisterWrite who c _ _ => some ⟨who, c, 0x37, .all⟩
  | .kload who c _ _ => some ⟨who, c, 0x60, .custodian⟩
  | .kderive who c _ _ _ => some ⟨who, c, 0x61, .condOnly⟩
  | .krevoke who c _ => some ⟨who, c, 0x62, .custodian⟩
  | .kquery who c _ _ => some ⟨who, c, 0x63, .condOnly⟩
  | .cntsetOut who c _ _ => some ⟨who, c, 0x64, .custodian⟩
  | .cntsetIn who c _ _ => some ⟨who, c, 0x64, .custodian⟩
  | .cntexp who c _ _ _ => some ⟨who, c, 0x65, .condOnly⟩
  | .kzero who c _ => some ⟨who, c, 0x66, .custodian⟩
  | .kzeroAll who c => some ⟨who, c, 0x66, .custodian⟩
  | .clksel who c _ => some ⟨who, c, 0x70, .condOnly⟩
  | .pmode who c _ => some ⟨who, c, 0x71, .condOnly⟩
  | .rest who c => some ⟨who, c, 0x72, .condOnly⟩
  | .wakeon who c _ _ => some ⟨who, c, 0x73, .condOnly⟩
  | .setp who c _ _ _ _ => some ⟨who, c, 0x80, .all⟩
  | .getp who c _ _ _ => some ⟨who, c, 0x81, .all⟩
  | .note who c _ _ => some ⟨who, c, 0x82, .all⟩
  | .setup who c _ => some ⟨who, c, 0x83, .condOnly⟩
  | .queryJob who c _ _ => some ⟨who, c, 0x84, .all⟩
  | .querySlice who c _ _ => some ⟨who, c, 0x84, .all⟩
  | .health who c _ _ => some ⟨who, c, 0x85, .all⟩
  | .confirmImage who c _ => some ⟨who, c, 0x86, .condOnly⟩
  | .confirmReject who c _ => some ⟨who, c, 0x86, .condOnly⟩
  | .confirmRead who c _ => some ⟨who, c, 0x86, .condOnly⟩
  | .qpush who c _ _ => some ⟨who, c, 0x40, .all⟩
  | .qpop who c _ _ => some ⟨who, c, 0x41, .all⟩
  | .qpeek who c _ _ => some ⟨who, c, 0x42, .all⟩
  | .qdropHead who c _ => some ⟨who, c, 0x43, .all⟩
  | .qdropHeld who c _ => some ⟨who, c, 0x43, .all⟩
  | .qdropRest who c _ => some ⟨who, c, 0x43, .all⟩
  | .qflush who c _ => some ⟨who, c, 0x44, .condOnly⟩
  | .qlen who c _ _ => some ⟨who, c, 0x45, .all⟩
  | .qattr who c _ _ _ => some ⟨who, c, 0x46, .condOnly⟩
  | .ledger who c _ _ _ _ => some ⟨who, c, 0x47, .condOnly⟩
  | .lookup who c _ _ _ => some ⟨who, c, 0x50, .all⟩
  | .insert who c _ _ _ _ => some ⟨who, c, 0x51, .condOnly⟩
  | .delete who c _ _ _ => some ⟨who, c, 0x52, .condOnly⟩
  | .learnack who c _ _ _ => some ⟨who, c, 0x53, .condOnly⟩
  | .pin who c _ _ => some ⟨who, c, 0x54, .condOnly⟩
  | .unpin who c _ _ => some ⟨who, c, 0x55, .condOnly⟩
  | .tload who c _ _ => some ⟨who, c, 0x56, .condOnly⟩
  | .tscrub who c _ => some ⟨who, c, 0x57, .condOnly⟩
  | .csend who c _ _ _ _ => some ⟨who, c, 0x90, .condOnly⟩
  | .cbar who c _ _ => some ⟨who, c, 0x91, .condOnly⟩
  | .mirrorStatus who c _ => some ⟨who, c, 0x92, .condOnly⟩
  | .mirrorSync who c _ => some ⟨who, c, 0x92, .condOnly⟩
  | .mirrorDigest who c _ => some ⟨who, c, 0x92, .condOnly⟩
  | .roleRead who c _ => some ⟨who, c, 0x93, .custodian⟩
  | .roleYield who c _ => some ⟨who, c, 0x93, .custodian⟩
  | .roleWithdraw who c _ => some ⟨who, c, 0x93, .custodian⟩
  | .seqStart who c _ => some ⟨who, c, 0x80, .all⟩
  | .seqHalt who c _ => some ⟨who, c, 0x80, .all⟩
  | .seqRestart who c _ => some ⟨who, c, 0x80, .all⟩
  | .seqHandover who c _ _ => some ⟨who, c, 0x80, .all⟩
  | .gridStop who c => some ⟨who, c, 0x80, .all⟩
  | .gridStart who c => some ⟨who, c, 0x80, .all⟩
  | .gridAcquire who c => some ⟨who, c, 0x80, .all⟩
  | .timeDisciplineChange who c _ => some ⟨who, c, 0x80, .all⟩
  | .ppsInEnable who c _ => some ⟨who, c, 0x80, .all⟩
  | .rtcCommitTime who c => some ⟨who, c, 0x80, .all⟩
  | .rtcCommitDate who c => some ⟨who, c, 0x80, .all⟩
  | .rtcCommitBoth who c => some ⟨who, c, 0x80, .all⟩
  | .rtcCommitAck => none
  | .rtcAlarmArm who c => some ⟨who, c, 0x80, .all⟩
  | .rtcAlarmDisarm who c => some ⟨who, c, 0x80, .all⟩
  | .trigArm who c _ _ => some ⟨who, c, 0x80, .all⟩
  | .trigDisarm who c _ _ => some ⟨who, c, 0x80, .all⟩
  | .profCommitWrite who c _ _ => some ⟨who, c, 0x80, .all⟩
  | .profCommitInvalidate who c _ _ => some ⟨who, c, 0x80, .all⟩
  | .profCommitRead who c _ _ => some ⟨who, c, 0x80, .all⟩
  | .segCommitWrite who c _ _ => some ⟨who, c, 0x80, .all⟩
  | .segCommitClear who c _ _ => some ⟨who, c, 0x80, .all⟩
  | .segCommitRead who c _ _ => some ⟨who, c, 0x80, .all⟩
  | .xiqEnable who c _ _ => some ⟨who, c, 0x80, .all⟩
  | .xiqDisable who c _ _ => some ⟨who, c, 0x80, .all⟩
  | .lcAdvanceDeploy who c => some ⟨who, c, 0x80, .all⟩
  | .lcAdvanceReturn who c => some ⟨who, c, 0x80, .all⟩
  | .lockAck who c _ => some ⟨who, c, 0x80, .all⟩
  | .tampCtrlWrite who c _ => some ⟨who, c, 0x80, .all⟩
  | .tampClear who c => some ⟨who, c, 0x80, .all⟩
  | .grpFloorRaise who c _ _ => some ⟨who, c, 0x80, .all⟩
  | .bkpStatusClear who c => some ⟨who, c, 0x80, .all⟩
  | .silentTimeoutChange who c _ => some ⟨who, c, 0x80, .all⟩
  | .activate who c => some ⟨who, c, 0x80, .all⟩
  | .relayGo who c _ _ => some ⟨who, c, 0x80, .all⟩
  | .bootRestart who c => some ⟨who, c, 0x80, .all⟩
  | .instructionRecord _ _ _ _ => none
  | .programLoadRecord _ _ _ _ => none
  | .scheduleLoadRecord _ _ _ _ => none
  | .malformedRecord _ _ _ _ => none
  | .relayedRecord _ _ => none
  | .recordTimeout => none
  | .seqWatchdog _ => none
  | .tloadComplete => none
  | .tscrubComplete _ => none
  | .setupComplete => none
  | .cntexpComplete => none
  | .calComplete _ _ => none
  | .confirmComplete => none
  | .pmodeComplete _ => none
  | .heldNoticePost _ => none
  | .slotBoundary => none
  | .stoppedGridTick => none
  | .timebaseEnd => none
  | .referenceQualified => none
  | .referenceCount _ => none
  | .referenceEdgeLost => none
  | .refRetry _ => none
  | .ppsInEdge _ _ => none
  | .ppsMissed => none
  | .ppsOutEdge => none
  | .triggerEdge _ => none
  | .rtcSecond => none
  | .rtcTrimWindow => none
  | .crystalStop => none
  | .rxwinOpen _ => none
  | .rxwinClose _ => none
  | .txfSelection _ => none
  | .txfDeadline _ => none
  | .blankingStart _ => none
  | .launch _ => none
  | .frameAired _ => none
  | .txRampDownEnd _ => none
  | .blankingEnd _ => none
  | .ackWaitExpiry _ => none
  | .txMismatchMeasure _ _ => none
  | .ctCellDeadline _ => none
  | .enhAckLaunch _ => none
  | .watcherDetection _ _ _ _ => none
  | .watcherRearm _ _ => none
  | .phrCheck _ _ => none
  | .fcsCheck _ _ _ _ => none
  | .frameAdmission _ _ _ => none
  | .parentBeaconMiss => none
  | .noiseFloorWindow _ _ _ => none
  | .synthLock _ => none
  | .lockLoss _ => none
  | .relockTimeout _ => none
  | .deferredRetuneStart _ => none
  | .sliceTempMeasure _ _ => none
  | .tempCalStart _ => none
  | .tempCalEnd _ => none
  | .tcalDeferTimeout _ => none
  | .agcStepDown _ => none
  | .agcStepUp _ => none
  | .forcedGainStep _ => none
  | .diversitySwitch _ => none
  | .fectlTransfer _ _ => none
  | .extSettleElapsed _ => none
  | .extCalTimeElapsed _ => none
  | .xiqBlock _ _ => none
  | .xiqSlip _ _ => none
  | .xiqTrainingTimeout _ => none
  | .xiqLaneLoss _ => none
  | .engineFault _ _ => none
  | .selfTestStep _ => none
  | .selfTestEnd _ _ => none
  | .sliceFault _ _ => none
  | .chipFault _ _ => none
  | .startWaitGrant _ => none
  | .startWaitTimeout _ => none
  | .itemTimeout _ => none
  | .noticeQuietExpiry _ _ => none
  | .noticeMaxAgeExpiry _ _ => none
  | .noticeDescriptorPost _ => none
  | .declineHoldExpiry _ => none
  | .agingPass => none
  | .agingResume => none
  | .cacheSweep => none
  | .tamperEvent _ => none
  | .hostSilence => none
  | .statusWindowWrite _ _ _ _ => none
  | .psumRead _ => none
  | .psumMirrorWrite _ => none
  | .timeSnapshotRead _ => none
  | .ledgerWindowRead _ => none
  | .healthWindowRead _ => none
  | .nfloorRead _ => none
  | .hello _ _ _ => none
  | .commandProducer _ _ _ => none
  | .transmitProducer _ _ _ _ => none
  | .ringStart _ _ _ _ => none
  | .ringStop _ _ _ => none
  | .consumerIndex _ _ _ _ => none
  | .qspiRead _ _ _ => none
  | .qspiWrite _ _ _ => none
  | .qspiBadTransfer _ => none
  | .asleepQspiRead _ => none
  | .txStartOfItem _ _ _ => none
  | .txData _ _ _ => none
  | .txEndOfItem _ _ _ _ => none
  | .receiveDelivery _ _ => none
  | .dmaError _ _ _ => none
  | .dmaTimeout _ _ _ => none
  | .perstN _ => none
  | .wakeSource _ => none
  | .dozeWakeTimer => none
  | .regulatorReady => none
  | .regulatorTimeout => none
  | .referenceTimeout => none
  | .returnToSleep => none
  | .dieTempMeasure _ => none
  | .lpOverload => none
  | .coreBrownOut => none
  | .mainBrownOut => none
  | .nvInhibitEnter _ => none
  | .nvInhibitRelease _ => none
  | .vinMeasure _ => none
  | .backupSwitchToVbat => none
  | .backupSwitchToVin _ _ => none
  | .pwronDelay => none
  | .vbatMeasure _ => none
  | .backupDomainPowerUp => none
  | .mainPowerUp _ _ _ => none
  | .coreResetRelease _ _ _ _ => none
  | .recoveryListenTimeout => none
  | .recordInhibitWait => none
  | .trialWindowExpiry => none
  | .svcHello _ _ _ _ => none
  | .svcInfo _ => none
  | .svcBegin _ _ => none
  | .svcData _ _ _ => none
  | .svcEnd _ _ => none
  | .svcAbort _ => none
  | .svcStatus _ => none
  | .svcOctetGapTimeout => none
  | .svcSessionIdle => none
  | .svcRateSwitch => none
  | .svcRateSwitchTimeout => none
  | .train _ _ => none
  | .casTrainingTimeout _ => none
  | .casTrainingRetry _ => none
  | .casLinkDown _ => none
  | .status _ _ => none
  | .statusSend _ => none
  | .credit _ _ _ _ => none
  | .creditSend _ _ => none
  | .creditTimeout _ _ => none
  | .resyncRequest _ _ => none
  | .resyncReply _ _ _ _ => none
  | .resyncReplyTimeout _ _ => none
  | .linkFrameError _ _ => none
  | .casItemSend _ _ => none
  | .casItem _ _ _ => none
  | .casMessage _ _ => none
  | .barrierArrival _ _ => none
  | .barrierAnnounce _ _ => none
  | .barrierForget _ => none
  | .relayResult _ _ _ _ => none
  | .relayTimeout => none
  | .positionAbsent _ => none
  | .timeFrame _ _ => none
  | .linkDelayMeasure _ => none
  | .dreq _ _ => none
  | .dresp _ _ _ _ => none
  | .heartbeatSend => none
  | .heartbeat _ _ => none
  | .heartbeatTimeout => none
  | .roleInChange _ => none
  | .claimResolution => none
  | .takeover => none
  | .mirrorInput _ _ => none
  | .endMarker _ => none
  | .fullSyncStart => none
  | .fullSyncTimeout => none
  | .latestDeadline _ => none
  | .yieldTimeout => none
  | .timeFrameMissed => none
  | .pulseWidthEnd _ => none
  | .tamperInputInactive _ => none
  | .crystalRestart => none
  | .vioRangeChange _ _ => none
  | .svcCtsChange _ => none
  | .svcBadFrame => none
  | .ringBaseWrite _ _ _ _ _ => none

/-- The three status registers after an instruction that reports a status (02 R38). -/
def Reports (who : Who) (st : Nat) (w1 w2 : Word) (t : State) : Prop :=
  getW who 0 t = w32 st ∧ getW who 1 t = w1 ∧ getW who 2 t = w2

/-- Nothing outside the register sets, sequencers and records, and what `settle` writes, has changed. -/
structure Untouched (s t : State) : Prop where
  par : t.par = s.par
  progMem : t.progMem = s.progMem
  schedMem : t.schedMem = s.schedMem
  time : t.time = s.time
  rtc : t.rtc = s.rtc
  grid : t.grid = s.grid
  qp : t.qp = s.qp
  health : t.health = s.health
  roster : t.roster = s.roster
  modem : t.modem = s.modem
  radio : t.radio = s.radio
  straps : t.straps = s.straps
  sec : t.sec = s.sec
  tables : t.tables = s.tables
  cas : t.cas = s.cas
  boot : t.boot = s.boot
  notices : t.notices = s.notices
  ringMem : t.host.ringMem = s.host.ringMem
  freeCount : t.freeCount = s.freeCount
  pending : t.pending = s.pending

/-- The sequencers and worlds other than the issuer's stand as they were. -/
structure Elsewhere (who : Who) (s t : State) : Prop where
  seqs : ∀ n : Fin 12, who ≠ .slice n → seq n t = seq n s
  worlds : ∀ w : World, ((∃ n, who = .slice n) ∨ worldOf who s ≠ w) → worldCtx w t = worldCtx w s

/-- The instruction leaves its issuer the register set g and nothing else: the issuer goes on to its next word, no other
sequencer or world and no other state of the chip has changed. -/
structure OnlyRegs (who : Who) (g : RegSet) (s t : State) : Prop where
  regs : ctx who t = { ctx who s with regs := g }
  next : inRing who = false → pcOf who t = (pcOf who s + 1) % 65536
  elsewhere : Elsewhere who s t
  untouched : Untouched s t

/-- The issuer's registers with working register r written. -/
def withW (who : Who) (r : Fin 16) (v : Word) (s : State) : RegSet :=
  { (ctx who s).regs with w := (ctx who s).regs.w.set r v }

/-- The issuer's registers with time register r written. -/
def withT (who : Who) (r : Fin 4) (v : TVal) (s : State) : RegSet :=
  { (ctx who s).regs with t := (ctx who s).regs.t.set r v }

/-- The issuer's registers with predicate p written. -/
def withP (who : Who) (p : Fin 4) (v : Bool) (s : State) : RegSet :=
  { (ctx who s).regs with p := (ctx who s).regs.p.set p v }

/-- The registers g with a status in w0, w1 and w2 (02 R38). -/
def RegSet.status (g : RegSet) (st : Nat) (w1 w2 : Word) : RegSet :=
  { g with w := ((g.w.set 0 (w32 st)).set 1 w1).set 2 w2 }

/-- The issuer's registers with a status in w0, w1 and w2. -/
def withStatus (who : Who) (st : Nat) (w1 w2 : Word) (s : State) : RegSet := (ctx who s).regs.status st w1 w2

/-- The command takes effect, and all it leaves is the issuer's register set g. -/
def GivesRegs (i : Instr) (who : Who) (g : RegSet) (s : State) : Prop := ∃ t, exec i s = .next t ∧ OnlyRegs who g s t

/-- The instruction's outcome is e, run in the issuer's record, the command then closed. -/
def Answers (i : Instr) (who : Who) (e : State → State) (s : State) : Prop := exec i s = .next (settle (inContext who e s))

/-- The same for a command after which an open record may go on (02 R50). -/
def AnswersThenRecord (i : Instr) (who : Who) (e : State → State) (s : State) : Prop :=
  exec i s = .next (settle (resume (inContext who e s)))

/-- The command takes s to u, and the command is then closed. -/
def Becomes (i : Instr) (s u : State) : Prop := exec i s = .next (settle u)

/-- The command takes s to u; then an open record goes on (02 R50) and the command is closed. -/
def BecomesThenRecord (i : Instr) (s u : State) : Prop := exec i s = .next (settle (resume u))

/-- The slice field sl of an instruction names slice n for its issuer: the conductor by number, a slice sequencer its own slice, by
number or by 15 (04 R121). -/
def Names (who : Who) (sl : Fin 16) (n : Fin 12) : Prop :=
  match who with
  | .slice k => k = n ∧ (sl = 15 ∨ sl.val = n.val)
  | _ => sl.val = n.val

/-- A radio instruction may act on slice n: not Offline, its XIQ lane up, no calibration running (04 R121, R122; 09 R308), and not
held by a sequencer that runs (02 R35). -/
structure RadioReady (who : Who) (n : Fin 12) (s : State) : Prop where
  online : (slice n s).offline = false
  lane : xiqDown n s = false
  idle : calBusy (slice n s) = false
  free : condHeld who n s = false

/-- A queue operand names queue k (03 R77). -/
def NamesQueue (who : Who) (q : QRef) (k : Nat) (s : State) : Prop :=
  match q with
  | .imm n => n.val = k
  | .reg r => (getW who r s).toNat = k ∧ k < 1024

/-- A vault slot is open to the issuer for a use: security instructions are open, it is no device slot, and its attributes allow
the issuer's world and the use (13 R416, R418, R421). -/
structure SlotOpen (who : Who) (k : Nat) (use : Option Nat) (s : State) : Prop where
  open_ : lcOpen s = true
  stored : 8 ≤ k
  allowed : attrFail (slot k s).attr (masterBit who s) (some (worldBit who s)) use s = none

/-- A SETP of parameter id to v gets as far as its own rule: the word issues, neither locked service (17 R561) nor a standby
(16 R541) turns it away, and the checks of 02 R62 up to the range pass. -/
structure Writes (who : Who) (c : Cond) (id scope : Nat) (v : Word) (s : State) : Prop where
  issues : Issues who c 0x80 .all s
  unlocked : s.boot.phase = 4 → lockedWritable id = true
  active : standbyOut who 0 (opened who s) = true → id = 0x0B35
  accepted : ∃ d, paramDef id = some d ∧ scopeFail d id scope = none ∧ setpDenied who d id scope s = none ∧
    rangeOk d id scope v s = true

/-- The SETP takes effect: f is done, the status is ST_OK, and a restart that is due follows (17 R574). -/
def Sets (i : Instr) (who : Who) (f : State → State) (s : State) : Prop :=
  exec i s = .next (settle (restartIfDue (inContext who (fun u => advance who (ret who 0x00 0 0 (f u))) s)))

/-- The SETP answers what its parameter's rule answers. -/
def SetsAs (i : Instr) (who : Who) (rule : State → PRes) (s : State) : Prop :=
  exec i s = .next (settle (restartIfDue (inContext who
    (fun u => advance who (ret who (rule u).1 (w32 (rule u).2.1) 0 (rule u).2.2)) s)))

/-! ## The addressed memories -/

/-- Program and schedule memory of a snapshot are in canonical form. -/
def Regions.Canonical (r : Regions) : Prop :=
  Tbl.wf (0x1500000000000000 : BitVec 64) r.progMem = true ∧ Tbl.wf (0 : Word) r.schedMem = true

/-- Program memory, schedule memory and ring memory are in canonical form: addresses strictly rising, no entry equal to what an
unlisted address reads as (02 R42, R47; 15 R480, R482). -/
def Memory.wf (s : State) : Bool :=
  Tbl.wf (0x1500000000000000 : BitVec 64) s.progMem && Tbl.wf (0 : Word) s.schedMem && Tbl.wf (0 : Word) s.host.ringMem

/-- The addressed memories are in canonical form, and so are the snapshots of them that a twin keeps (16 R540). -/
structure MemCanonical (s : State) : Prop where
  now : Memory.wf s = true
  start : ∀ r ∈ s.twin.start, r.Canonical
  cycle : ∀ r ∈ s.twin.cycle, r.Canonical

/-! ## Safe runs -/

/-- The command takes effect: it ends neither in a fault nor in a refusal. -/
def Takes (c : Instr) (s : State) : Prop := ∃ t, exec c s = .next t

/-- A step is safe when the block goes on. -/
def SafeStep (s : State) : Prop := ∃ t, step s = .next t

end Sys2Proof.Machine
end

