-- ==== Sys2Proof/Certificates/Slice0/Obligations.lean ====
section
/-! DEFINITION. The statements about the block, by group of commands, and then those about the whole machine. In a statement of a
command's effect `Answers`, `AnswersThenRecord`, `Becomes`, `BecomesThenRecord`, `Sets` and `SetsAs` (Safety.lean) name the whole next
state, `GivesRegs` the issuer's registers and that nothing else changes. -/

open Sys2Proof Sys2Proof.Machine

/-- NOP, MOVI and the arithmetic, logic and shift instructions write wd and nothing else (03 R79, R80); arithmetic wraps
(02 R41) and a shift of 32 places or more gives 0. -/
def Obligations.ArithmeticWritesOneRegister : Prop :=
  ∀ (who : Who) (c : Cond) (wd ws1 : Fin 16) (op2 : Op2) (imm : Word) (s : State),
    (Issues who c 0x00 .all s → GivesRegs (.nop who c) who (ctx who s).regs s) ∧
    (Issues who c 0x01 .all s → GivesRegs (.movi who c wd imm) who (withW who wd imm s) s) ∧
    (Issues who c 0x03 .all s → GivesRegs (.add who c wd ws1 op2) who
      (withW who wd (w32 ((getW who ws1 s).toNat + (op2Val who op2 s).toNat)) s) s) ∧
    (Issues who c 0x04 .all s → GivesRegs (.sub who c wd ws1 op2) who
      (withW who wd (w32 (4294967296 + (getW who ws1 s).toNat - (op2Val who op2 s).toNat)) s) s) ∧
    (Issues who c 0x05 .all s → GivesRegs (.and_ who c wd ws1 op2) who
      (withW who wd (getW who ws1 s &&& op2Val who op2 s) s) s) ∧
    (Issues who c 0x06 .all s → GivesRegs (.or_ who c wd ws1 op2) who
      (withW who wd (getW who ws1 s ||| op2Val who op2 s) s) s) ∧
    (Issues who c 0x07 .all s → GivesRegs (.xor_ who c wd ws1 op2) who
      (withW who wd (getW who ws1 s ^^^ op2Val who op2 s) s) s) ∧
    (Issues who c 0x08 .all s → GivesRegs (.shl who c wd ws1 op2) who
      (withW who wd (w32 ((getW who ws1 s).toNat * 2 ^ (op2Val who op2 s).toNat)) s) s) ∧
    (Issues who c 0x09 .all s → GivesRegs (.shr who c wd ws1 op2) who
      (withW who wd (w32 ((getW who ws1 s).toNat / 2 ^ (op2Val who op2 s).toNat)) s) s)

/-- The eight modes of MOV (Table FC-5): the halves and the nanoseconds of a time register move to and from working registers, a
write through mode 6 is not range-checked (03 R81), and nothing else changes. CMP writes pd by its relation (Table FC-6) and
TEST writes whether any common bit is set (03 R80, R82); nothing else changes. -/
def Obligations.MovAndCompare : Prop :=
  (∀ (who : Who) (c : Cond) (d r : Fin 16) (t u : Fin 4) (s : State), Issues who c 0x02 .all s →
     GivesRegs (.mov who c (.ww d r)) who (withW who d (getW who r s) s) s ∧
     GivesRegs (.mov who c (.secLo d t)) who (withW who d (w32 (getT who t s).sec.toNat) s) s ∧
     GivesRegs (.mov who c (.secHi d t)) who (withW who d (w32 ((getT who t s).sec.toNat / 4294967296)) s) s ∧
     GivesRegs (.mov who c (.nsOf d t)) who (withW who d (getT who t s).ns s) s ∧
     GivesRegs (.mov who c (.setSecLo t r)) who (withT who t { getT who t s with
       sec := BitVec.ofNat 64 ((getT who t s).sec.toNat / 4294967296 * 4294967296 + (getW who r s).toNat) } s) s ∧
     GivesRegs (.mov who c (.setSecHi t r)) who (withT who t { getT who t s with
       sec := BitVec.ofNat 64 ((getW who r s).toNat * 4294967296 + (getT who t s).sec.toNat % 4294967296) } s) s ∧
     GivesRegs (.mov who c (.setNs t r)) who (withT who t { getT who t s with ns := getW who r s } s) s ∧
     GivesRegs (.mov who c (.tt t u)) who (withT who t (getT who u s) s) s) ∧
  (∀ (who : Who) (c : Cond) (pd : Fin 4) (ws1 : Fin 16) (op2 : Op2) (s : State),
     let a := getW who ws1 s
     let b := op2Val who op2 s
     let gives := fun (i : Instr) (v : Prop) (_ : Decidable v) => GivesRegs i who (withP who pd (decide v) s) s
     (Issues who c 0x0A .all s →
       gives (.cmp who c pd .eq ws1 op2) (a = b) inferInstance ∧
       gives (.cmp who c pd .ne ws1 op2) (a ≠ b) inferInstance ∧
       gives (.cmp who c pd .ltu ws1 op2) (a.toNat < b.toNat) inferInstance ∧
       gives (.cmp who c pd .leu ws1 op2) (a.toNat ≤ b.toNat) inferInstance ∧
       gives (.cmp who c pd .gtu ws1 op2) (b.toNat < a.toNat) inferInstance ∧
       gives (.cmp who c pd .geu ws1 op2) (b.toNat ≤ a.toNat) inferInstance ∧
       gives (.cmp who c pd .lts ws1 op2) (a.toInt < b.toInt) inferInstance ∧
       gives (.cmp who c pd .les ws1 op2) (a.toInt ≤ b.toInt) inferInstance ∧
       gives (.cmp who c pd .gts ws1 op2) (b.toInt < a.toInt) inferInstance ∧
       gives (.cmp who c pd .ges ws1 op2) (b.toInt ≤ a.toInt) inferInstance) ∧
     (Issues who c 0x0B .all s →
       gives (.test who c pd ws1 op2) (a &&& b ≠ 0) inferInstance))

/-- Where the control transfers go (03 R80, R83): JMP and BR to their target, CALL and RET through the eight-entry call stack,
LOOP back while the count stays above zero; the outermost RET of a routine gives the record back its next word (02 R51). Ring
context refuses JMP, BR, RET, LOOP and HALT with detail 0x0000_FF04 and the opcode (02 R51). -/
def Obligations.ControlTransfers : Prop :=
  (∀ (who : Who) (c : Cond) (wd ws1 : Fin 16) (addr base : BitVec 16) (n : Fin 12) (a : Nat) (st : List Nat) (r : Record) (s : State),
     (Issues who c 0x10 .all s → inRing who = false → Answers (.jmp who c addr) who (setPc who addr.toNat) s) ∧
     (Issues who c 0x11 .all s → inRing who = false →
       Answers (.br who c ws1 base) who (setPc who ((base.toNat + (getW who ws1 s).toNat) % 65536)) s) ∧
     (Issues who c 0x12 .all s → inRing who = false → (ctx who s).regs.stack.length < 8 →
       AnswersThenRecord (.call who c addr) who
         (fun u => setPc who addr.toNat (setStack who ((pcOf who s + 1) % 65536 :: (ctx who s).regs.stack) u)) s) ∧
     (Issues who c 0x12 .all s → inRing who = true → (ctx who s).regs.stack.length < 8 →
       AnswersThenRecord (.call who c addr) who
         (fun u => modRecord (fun r => { r with routine := true, depth := (ctx who s).regs.stack.length, pc := addr.toNat })
           (setStack who (0 :: (ctx who s).regs.stack) u)) s) ∧
     (Issues (.slice n) c 0x13 .all s → (ctx (.slice n) s).regs.stack = a :: st →
       AnswersThenRecord (.ret (.slice n) c) (.slice n) (fun u => setPc (.slice n) a (setStack (.slice n) st u)) s) ∧
     (Issues .routine c 0x13 .all s → (ctx .routine s).regs.stack = a :: st → s.cond.record = some r → r.depth < st.length →
       AnswersThenRecord (.ret .routine c) .routine (fun u => setPc .routine a (setStack .routine st u)) s) ∧
     (Issues .routine c 0x13 .all s → (ctx .routine s).regs.stack = a :: st → s.cond.record = some r → st.length ≤ r.depth →
       AnswersThenRecord (.ret .routine c) .routine
         (fun u => modRecord (fun r => { r with routine := false, pc := 0, status := none }) (setStack .routine st u)) s) ∧
     (Issues who c 0x14 .all s → inRing who = false → getW who wd s = 0 → GivesRegs (.loop who c wd addr) who (ctx who s).regs s) ∧
     (Issues who c 0x14 .all s → inRing who = false → getW who wd s = 1 → GivesRegs (.loop who c wd addr) who (withW who wd 0 s) s) ∧
     (Issues who c 0x14 .all s → inRing who = false → 1 < (getW who wd s).toNat →
       Answers (.loop who c wd addr) who (fun u => setPc who addr.toNat (setW who wd (getW who wd s - 1) u)) s)) ∧
  (∀ (w : World) (c : Cond) (wd ws1 : Fin 16) (addr : BitVec 16) (s : State),
     (Issues (.ring w) c 0x10 .all s → GivesRegs (.jmp (.ring w) c addr) (.ring w) (withStatus (.ring w) 0x04 0xFF04 0x10 s) s) ∧
     (Issues (.ring w) c 0x11 .all s → GivesRegs (.br (.ring w) c ws1 addr) (.ring w) (withStatus (.ring w) 0x04 0xFF04 0x11 s) s) ∧
     (Issues (.ring w) c 0x14 .all s → GivesRegs (.loop (.ring w) c wd addr) (.ring w) (withStatus (.ring w) 0x04 0xFF04 0x14 s) s) ∧
     (Issues (.ring w) c 0x13 .all s →
       AnswersThenRecord (.ret (.ring w) c) (.ring w) (ret (.ring w) 0x04 0xFF04 0x13) s) ∧
     (Issues (.ring w) c 0x15 .all s →
       AnswersThenRecord (.halt (.ring w) c) (.ring w) (ret (.ring w) 0x04 0xFF04 0x15) s))

/-- HALT, TRAP and an illegal word end a program (02 R51, R68; 03 R74, R152): a slice sequencer halts with reason 1, 2 or 3; on
the conductor HALT ends the record as the routine's outermost RET would and the others end it with a halt record. An illegal word
halts whatever its condition. -/
def Obligations.HaltsByReason : Prop :=
  ∀ (who : Who) (n : Fin 12) (c : Cond) (code : BitVec 8) (word : BitVec 64) (r : Record) (s : State),
    (Issues (.slice n) c 0x15 .all s → AnswersThenRecord (.halt (.slice n) c) (.slice n) (haltSlice n 1 0x00 0 false) s) ∧
    (Issues .routine c 0x15 .all s → s.cond.record = some r →
      AnswersThenRecord (.halt .routine c) .routine
        (fun u => endRecord 1 (setStack .routine
          ((ctx .routine s).regs.stack.drop ((ctx .routine s).regs.stack.length - r.depth)) u)) s) ∧
    (Issues who c 0x16 .all s →
      AnswersThenRecord (.trap who c code) who (fun u => haltWho who 2 0x00 code.toNat (curWord who u) u) s) ∧
    (canRun who s = true → fetchOutside who s = false → lockedOut 0xFF s = false →
      AnswersThenRecord (.illegalInstruction who word) who (haltWho who 3 0x45 0 word) s)

/-- FENCE, LDW and STW (02 R47, R59; 03 R80, R83): FENCE goes on when none of its sequencer's work is pending, the conductor's
in either world, and waits otherwise; LDW reads schedule memory, as it stood before a clock period in progress, and STW writes
it at ws1 (ws2) plus offset, computed without wrapping; an address of 2^18 or more halts with reason 6; STW leaves a slotframe's
STATE word (06 R202). STW of a slice sequencer stores its word at ws2 plus offset and nowhere else: every other word of schedule
memory, and all of program memory, reads as before; a STATE word is left as it is (02 R47; 03 R80; 06 R202). -/
def Obligations.FenceAndScheduleWords : Prop :=
  (∀ (who : Who) (c : Cond) (wd ws1 ws2 : Fin 16) (off : BitVec 18) (s : State),
     let a := (getW who ws1 s).toNat + off.toNat
     let b := (getW who ws2 s).toNat + off.toNat
     let pend := match who with
       | .slice n => (seq n s).ctx.pend
       | _ => s.cond.op.pend ++ s.cond.cust.pend
     (Issues who c 0x17 .all s → pend = [] → Answers (.fence who c) who (advance who) s) ∧
     (Issues who c 0x17 .all s → pend ≠ [] → Answers (.fence who c) who (block who .fence) s) ∧
     (Issues who c 0x18 .all s → a < 262144 →
       AnswersThenRecord (.ldw who c wd ws1 off) who (fun u => advance who
         (setW who wd (Tbl.get 0 (s.time.schedOld.getD s.schedMem) a) u)) s) ∧
     (Issues who c 0x18 .all s → 262144 ≤ a →
       AnswersThenRecord (.ldw who c wd ws1 off) who (fun u => haltWho who 6 0x02 0 (curWord who u) u) s) ∧
     (Issues who c 0x19 .all s → b < 262144 → isStateWord b = false →
       AnswersThenRecord (.stw who c ws1 ws2 off) who
         (fun u => advance who { u with schedMem := Tbl.set 0 s.schedMem b (getW who ws1 s) }) s) ∧
     (Issues who c 0x19 .all s → b < 262144 → isStateWord b = true →
       AnswersThenRecord (.stw who c ws1 ws2 off) who (advance who) s) ∧
     (Issues who c 0x19 .all s → 262144 ≤ b →
       AnswersThenRecord (.stw who c ws1 ws2 off) who (fun u => haltWho who 6 0x02 0 (curWord who u) u) s)) ∧
  (∀ (n : Fin 12) (c : Cond) (ws1 ws2 : Fin 16) (off : BitVec 18) (s : State),
     MemCanonical s → Issues (.slice n) c 0x19 .all s → s.cond.record = none → s.boot.restartDue = false →
     let b := (getW (.slice n) ws2 s).toNat + off.toNat
     b < 262144 →
     ∃ t, exec (.stw (.slice n) c ws1 ws2 off) s = .next t ∧ (∀ a, progWord a t = progWord a s) ∧
       (∀ a, schedWord a t = if a = b ∧ isStateWord b = false then getW (.slice n) ws1 s else schedWord a s) ∧
       (ctx (.slice n) t) = ctx (.slice n) s)

/-- What the instructions that read or compute times give (03 R86, R87, R89): TNOW the timebase and its flags, TADD an exact sum
or ST_RANGE with position 3, ASN.CUR the current ASN and ASN.TIME the boundary of an ASN by the current slot length; nothing but
the issuer's registers changes. TCAP reads the latest capture of a source and its count (03 R93): PPS_IN, a slice's latest
reception or launch, TRIG0, TRIG1 or the latest slot boundary. -/
def Obligations.TimeReads : Prop :=
  (∀ (who : Who) (c : Cond) (td ts : Fin 4) (delta : BitVec 40) (ws lo hi : Fin 16) (s : State),
     let v := getT who ts s
     let sum : Int := (v.sec.toNat * 1000000000 + v.ns.toNat : Nat) + delta.toInt + (if ws = 0 then 0 else (getW who ws s).toInt)
     let a := (getW who hi s).toNat * 4294967296 + (getW who lo s).toNat
     let bnd : Int := s.grid.bound + ((a : Int) - s.grid.asn) * s.grid.len
     (Issues who c 0x22 .all s → GivesRegs (.tnow who c td) who
       ((withT who td (TVal.ofNs (tbNs s)) s).status 0x00 (w32 ((if s.time.qual then 0 else 1) + (if s.time.holdover then 2 else 0) +
         (if s.time.sealed_ then 4 else 0) + (if s.time.stepUsed then 8 else 0))) 0) s) ∧
     (Issues who c 0x23 .all s → v.ns.toNat ≤ 999999999 → 0 ≤ sum → sum ≤ tbMaxNs →
       GivesRegs (.tadd who c td ts delta ws) who ((withT who td (TVal.ofNs sum.toNat) s).status 0x00 0 0) s) ∧
     (Issues who c 0x23 .all s → v.ns.toNat ≤ 999999999 → (sum < 0 ∨ tbMaxNs < sum) →
       GivesRegs (.tadd who c td ts delta ws) who (withStatus who 0x02 3 (w32 delta.toNat) s) s) ∧
     (Issues who c 0x23 .all s → 1000000000 ≤ v.ns.toNat →
       GivesRegs (.tadd who c td ts delta ws) who (withStatus who 0x02 2 v.ns s) s) ∧
     (Issues who c 0x25 .all s → lo.val % 2 = 0 → hi.val = lo.val + 1 →
       GivesRegs (.asnCur who c lo) who ({ withW who lo (w32 s.grid.asn) s with
         w := ((withW who lo (w32 s.grid.asn) s).w).set hi (w32 (s.grid.asn / 4294967296)) }.status 0x00 0 0) s) ∧
     (Issues who c 0x25 .all s → lo.val % 2 = 0 → hi.val = lo.val + 1 → a < 1099511627776 → 0 ≤ bnd → bnd ≤ tbMaxNs →
       GivesRegs (.asnTime who c td lo) who ((withT who td (TVal.ofNs bnd.toNat) s).status 0x00 0 0) s) ∧
     (Issues who c 0x25 .all s → lo.val % 2 = 1 →
       GivesRegs (.asnCur who c lo) who (withStatus who 0x02 1 (w32 lo.val) s) s ∧
       GivesRegs (.asnTime who c td lo) who (withStatus who 0x02 2 (w32 lo.val) s) s)) ∧
  (∀ (who : Who) (n : Fin 12) (c : Cond) (td : Fin 4) (sl : Fin 16) (s : State), Issues who c 0x29 .all s →
     let gives := fun (src sl : Fin 16) (k : Capture) =>
       GivesRegs (.tcap who c td src sl) who ((withT who td k.at_ s).status 0x00 (w32 k.count) 0) s
     gives 0 15 s.time.ppsCap ∧ gives 3 15 s.time.trig[0].cap ∧ gives 4 15 s.time.trig[1].cap ∧ gives 5 15 s.time.slotCap ∧
     (sl.val = n.val → gives 1 sl (slice n s).rxCap ∧ gives 2 sl (slice n s).txCap) ∧
     (who = .slice n → gives 1 15 (slice n s).rxCap ∧ gives 2 15 (slice n s).txCap))

/-- AT, AFTER and SLOT (03 R84, R85, R88): each waits until its instant, its interval or the next boundary of a defined
slotframe; a target already reached or an empty interval completes at once, and whatever its status a completion restarts a
slice sequencer's watchdog (02 R68; that one with ST_RANGE does is the model's choice, log entry 116). -/
def Obligations.WaitsUntilATime : Prop :=
  ∀ (who : Who) (c : Cond) (ts td : Fin 4) (wd ws : Fin 16) (off interval : BitVec 40) (sf : Fin 8) (s : State),
    let target := (getT who ts s).toNs + off.toNat
    let len := interval.toNat + (if ws = 0 then 0 else (getW who ws s).toNat)
    let ends := fun (i : Instr) (st : Nat) (w1 w2 : Word) => Answers i who (fun u => advance who
      (match who with
        | .slice k => modSeq k (fun q => { q with wdogMark := u.time.elapsed }) (ret who st w1 w2 u)
        | _ => ret who st w1 w2 u)) s
    (Issues who c 0x20 .all s → (getT who ts s).ns.toNat ≤ 999999999 → target ≤ tbMaxNs → tbNs s < target →
      Answers (.at_ who c ts off) who (block who (.at_ target)) s) ∧
    (Issues who c 0x20 .all s → (getT who ts s).ns.toNat ≤ 999999999 → target ≤ tbMaxNs → target ≤ tbNs s →
      ends (.at_ who c ts off) 0x00 (w32 (min (tbNs s - target) 4294967295)) 0) ∧
    (Issues who c 0x20 .all s → (getT who ts s).ns.toNat ≤ 999999999 → tbMaxNs < target →
      ends (.at_ who c ts off) 0x02 2 (w32 off.toNat)) ∧
    (Issues who c 0x20 .all s → 1000000000 ≤ (getT who ts s).ns.toNat →
      ends (.at_ who c ts off) 0x02 1 (getT who ts s).ns) ∧
    (Issues who c 0x21 .all s → 0 < len → len < 1099511627776 →
      Answers (.after who c interval ws) who (block who (.after (s.time.incSum + len * 4294967296))) s) ∧
    (Issues who c 0x21 .all s → len = 0 → ends (.after who c interval ws) 0x00 0 0) ∧
    (Issues who c 0x21 .all s → 1099511627776 ≤ len → ends (.after who c interval ws) 0x02 1 (w32 interval.toNat)) ∧
    (Issues who c 0x24 .all s → sfDefined sf.val s = true → Answers (.slot who c wd td sf) who (block who (.slot wd td sf)) s) ∧
    (Issues who c 0x24 .all s → sfDefined sf.val s = false →
      ends (.slot who c wd td sf) 0x02 3 (w32 sf.val))

/-- TRATE, TSEAL and TSTEP (03 R90-R92; 05 R158-R162): the rate offset is set within ±500,000 ppb while the host holds it, the
seal stands until reset and refuses the steps, a step takes effect with its allowance, and a re-epoch wants every slice
sequencer stopped and nothing armed. -/
def Obligations.TimebaseControl : Prop :=
  ∀ (who : Who) (c : Cond) (ts : Fin 4) (ws : Fin 16) (delta : BitVec 40) (s : State),
    let r := (getW who ws s).toInt
    let v := getT who ts s
    let t : Int := (tbNs s : Int) + delta.toInt
    (Issues who c 0x27 .condOnly s → -500000 ≤ r → r ≤ 500000 → s.time.disc = 0 →
      Answers (.trateSet who c ws) who (fun u => advance who (ret who 0x00 (i32 r) ((incrOf r).setWidth 32)
        { u with time := { u.time with rate := r, incr := incrOf r } })) s) ∧
    (Issues who c 0x27 .condOnly s → -500000 ≤ s.time.rate + r → s.time.rate + r ≤ 500000 → s.time.disc = 0 →
      Answers (.trateAdd who c ws) who (fun u => advance who
        (ret who 0x00 (i32 (s.time.rate + r)) ((incrOf (s.time.rate + r)).setWidth 32)
          { u with time := { u.time with rate := s.time.rate + r, incr := incrOf (s.time.rate + r) } })) s) ∧
    (Issues who c 0x27 .condOnly s → -500000 ≤ r → r ≤ 500000 → s.time.disc ≠ 0 →
      GivesRegs (.trateSet who c ws) who (withStatus who 0x04 0x11 0 s) s) ∧
    (Issues who c 0x28 .custodian s →
      Answers (.tseal who c) who (fun u => advance who (ret who 0x00 (if s.time.sealed_ then 1 else 0) 0
        { u with time := { u.time with sealed_ := true } })) s) ∧
    (Issues who c 0x26 .custodian s → v.ns.toNat ≤ 999999999 → s.time.sealed_ = false → s.time.stepUsed = false →
      Answers (.tstepAbs who c ts) who (fun u => advance who (ret who 0x00 0 0 (useStep (stepTb v.toNs false u)))) s) ∧
    (Issues who c 0x26 .custodian s → delta ≠ 0 → 0 ≤ t → t ≤ tbMaxNs → s.time.sealed_ = false → s.time.stepUsed = false →
      Answers (.tstepRel who c delta) who (fun u => advance who (ret who 0x00 0 0 (useStep (stepTb t.toNat false u)))) s) ∧
    (Issues who c 0x26 .custodian s → v.ns.toNat ≤ 999999999 → anyRunning s = false → airArmed s = false →
      Answers (.tstepEpoch who c ts) who (fun u => advance who (ret who 0x00 0 0 (stepTb v.toNs true u))) s) ∧
    (Issues who c 0x26 .custodian s → v.ns.toNat ≤ 999999999 → s.time.sealed_ = true →
      GivesRegs (.tstepAbs who c ts) who (withStatus who 0x0B 1 0 s) s) ∧
    (Issues who c 0x26 .custodian s → v.ns.toNat ≤ 999999999 → s.time.sealed_ = false → s.time.stepUsed = true →
      GivesRegs (.tstepAbs who c ts) who (withStatus who 0x0B 2 0 s) s)

/-- The events of the timebase (05 R153, R163-R168, R173-R175; 02 R56; 03 R84, R85): waits end at their instant, the timebase
holds its last value, PPS_IN edges of the active direction are counted short, accepted or rejected, and the pulse outputs rise and fall. -/
def Obligations.TimebaseEvents : Prop :=
  ∀ (q : Seqr) (n : Fin 2) (target done cap width l : Nat) (rising : Bool) (s : State),
    let t := reachTb cap s
    let c := ((cap : Int) - (par 0x0805 chip s).toInt).toNat
    let whole := (tbNs s / 1000000000 + 1) * 1000000000
    (alive s = true → awaitOf q s = some (.at_ target) → tbCanReach target s = true →
      BecomesThenRecord (.atTargetReached q) s (unblock q 0x00 0 0 (kickWdog q (reachTb target s)))) ∧
    (alive s = true → awaitOf q s = some (.after done) → s.time.counting = true →
      let t := passTicks ((done - s.time.incSum + tbIncr s - 1) / max 1 (tbIncr s)) s
      done ≤ t.time.incSum → BecomesThenRecord (.afterIntervalEnd q) s (unblock q 0x00 0 0 (kickWdog q t))) ∧
    (s.time.counting = true → Becomes .timebaseEnd s (reachTb tbMaxNs s)) ∧
    (rising = (cpar 0x0804 s).testBit 0 → Becomes (.ppsInEdge cap { width := width, rising := rising }) s s) ∧
    (ppsEnabled s = true → rising ≠ (cpar 0x0804 s).testBit 0 → s.pw.asleep = false → bankOn 3 s = true → tbCanReach cap s = true →
      (width < 100 → Becomes (.ppsInEdge cap { width := width, rising := rising }) s { t with time := { t.time with ppsShort := t.time.ppsShort + 1 } }) ∧
      (100 ≤ width → ppsAccepts c t = true → Becomes (.ppsInEdge cap { width := width, rising := rising }) s (ppsAccept c t)) ∧
      (100 ≤ width → ppsAccepts c t = false →
        Becomes (.ppsInEdge cap { width := width, rising := rising }) s { t with time := { t.time with ppsRejected := t.time.ppsRejected + 1 } })) ∧
    (s.time.ppsL = some l → ppsEnabled s = true → s.pw.asleep = false → s.time.ppsFirst = false →
      let d := l + (s.time.ppsMissed + 1) * 1000000000 + (s.time.ppsMissed + 1) * (cpar 0x0802 s * 1000)
      tbCanReach d s = true → Becomes .ppsMissed s (ppsMiss (reachTb d s))) ∧
    (s.time.counting = true → s.pw.asleep = false → tbCanReach whole s = true → (cpar 0x0808 s).testBit 0 = true →
      s.time.qual = true →
      let u := setPpsOut true (reachTb whole s)
      Becomes .ppsOutEdge s { u with time := { u.time with ppsOutEnd := whole + cpar 0x0809 (reachTb whole s) * 1000 } }) ∧
    ((trig n s).armed = true → s.pw.asleep = false → tbCanReach (trig n s).target s = true →
      Becomes (.triggerEdge n) s (fireTrig n 1 false (reachTb (trig n s).target s))) ∧
    (s.time.ppsOut = true → tbCanReach s.time.ppsOutEnd s = true →
      Becomes (.pulseWidthEnd 0) s (setPpsOut false (reachTb s.time.ppsOutEnd s))) ∧
    ((trig 0 s).active = true → tbCanReach (trig 0 s).activeEnd s = true →
      Becomes (.pulseWidthEnd 1) s (emitPin 4 (trig 0 s).invert
        (modTrig 0 (fun t => { t with active := false }) (reachTb (trig 0 s).activeEnd s)))) ∧
    ((trig 1 s).active = true → tbCanReach (trig 1 s).activeEnd s = true →
      Becomes (.pulseWidthEnd 2) s (emitPin 5 (trig 1 s).invert
        (modTrig 1 (fun t => { t with active := false }) (reachTb (trig 1 s).activeEnd s))))

/-- The slot grid's own events (06 R195, R200, R203, R231; 11 R369; 16 R536): a boundary does its work once the timebase reaches
it, under a chip fault only the count goes on, a stopped grid keeps the shared work going every 10 ms, a parent period without a
beacon is missed. The grid and time parameters (05 R162-R174; 06 R196-R198): the grid starts anchored at its parameters,
acquires, or stops when no slice sequencer runs; the discipline, PPS_IN and the triggers take what is written. -/
def Obligations.GridEventsAndControl : Prop :=
  (∀ (s : State),
     (s.grid.mode = 1 → s.time.coreOn = true → tbCanReach s.grid.nextAt s = true → s.grid.nextAsn ≤ 1099511627775 →
       s.health.chipFault = 0 →
       BecomesThenRecord .slotBoundary s
         (boundaryWork s.grid.nextAsn s.grid.nextAt 0x00 (s.grid.nextAsn, s.grid.nextAt) (reachTb s.grid.nextAt s))) ∧
     (s.grid.mode = 1 → s.time.coreOn = true → tbCanReach s.grid.nextAt s = true → s.grid.nextAsn ≤ 1099511627775 →
       s.health.chipFault ≠ 0 → BecomesThenRecord .slotBoundary s (boundaryUnderFault (reachTb s.grid.nextAt s))) ∧
     (s.grid.mode = 0 → s.time.coreOn = true → s.health.chipFault = 0 → s.time.counting = false →
       let t := reachCore (s.grid.lastTick + 10000000) s
       Becomes .stoppedGridTick s
         (sharedWork { t with grid := { t.grid with lastTick := t.time.coreNs, tickInc := t.time.incSum } })) ∧
     (s.time.disc = 3 → s.grid.mode = 1 → s.grid.fallen = true → 0 < cpar 0x0242 s →
       s.grid.asn % cpar 0x0242 s = cpar 0x0243 s % cpar 0x0242 s → s.grid.parSeen ≠ some s.grid.asn →
       tbCanReach s.grid.nextAt s = true →
       Becomes .parentBeaconMiss s (parentMiss (reachTb s.grid.nextAt s)))) ∧
  (∀ (who : Who) (c : Cond) (v : Word) (n : Fin 2) (inv : Bool) (s : State),
     let ready := s.grid.mode = 0 ∧ s.time.qual = true ∧ templateFits s = true ∧ ownPos s = 0
     let idle := ∀ k : Fin 12, (seq k s).state ≠ .running ∧ (seq k s).state ≠ .blocked
     (Writes who c 0x0200 15 0 s → idle →
       Sets (.gridStop who c) who (fun u => { u with grid := { u.grid with
         mode := 0, fallen := false, lastTick := u.time.coreNs, tickInc := u.time.incSum } }) s) ∧
     (Writes who c 0x0200 15 0 s → (∃ k : Fin 12, (seq k s).state = .running ∨ (seq k s).state = .blocked) →
       SetsAs (.gridStop who c) who (fun u => (0x04, 0x21, u)) s) ∧
     (Writes who c 0x0200 15 1 s → ready →
       Sets (.gridStart who c) who (anchorGrid ((cpar 0x0210 s + cpar 0x0211 s * 4294967296) * 1000000000 + cpar 0x0212 s)
         (cpar 0x0213 s + cpar 0x0214 s * 4294967296) (cpar 0x0201 s * 1000)) s) ∧
     (Writes who c 0x0200 15 2 s → ready → cpar 0x0240 s ≠ 0 →
       Sets (.gridAcquire who c) who (fun u => { u with grid := { u.grid with
         mode := 2, fallen := false, len := cpar 0x0201 s * 1000 } }) s) ∧
     (Writes who c 0x0800 15 v s → (v ≠ 2 ∨ ownPos s ≠ 0) → v ≠ s.time.disc → ppsEnabled s = true →
       Sets (.timeDisciplineChange who c v) who (fun u => let u := setPar 0x0800 15 v (clearServo u)
         { u with time := { u.time with disc := v }, cas := { u.cas with aligned := false, tFirst := true, alignTold := false } }) s) ∧
     (Writes who c 0x0800 15 v s → (v ≠ 2 ∨ ownPos s ≠ 0) → v = s.time.disc → Sets (.timeDisciplineChange who c v) who id s) ∧
     (Writes who c 0x0804 15 v s → ppsEnabled s = true → Sets (.ppsInEnable who c v) who (setPar 0x0804 15 v) s) ∧
     (let period := trigPar n 3 s
      Writes who c (0x0815 + 8 * n.val) 15 (w32 (1 + (if inv then 2 else 0))) s → (period = 0 ∨ trigPar n 4 s < period) →
       let start := (trigPar n 0 s + trigPar n 1 s * 4294967296) * 1000000000 + trigPar n 2 s
       tbNs s ≤ start →
       Sets (.trigArm who c n inv) who (modTrig n (fun t => { t with armed := true, invert := inv, start := start, period := period,
                                                                     width := trigPar n 4 s, next := 0, pastArm := false })) s) ∧
     (Writes who c (0x0815 + 8 * n.val) 15 (w32 (if inv then 2 else 0)) s → (trig n s).active = false →
       Sets (.trigDisarm who c n inv) who
         (modTrig n (fun t => { t with armed := false, invert := inv, active := false, pastArm := false })) s))

/-- LEDGER and its window (03 R104; 11 R387): LEDGER answers the terms of one check, S2's for kinds 0 and 1 and a virtual
channel's for kind 2; the window's first word latches the whole window and clears its sticky bit. -/
def Obligations.LedgerReads : Prop :=
  ∀ (who : Who) (c : Cond) (wd : Fin 16) (lk : Fin 8) (ch : Fin 4) (w : World) (s : State),
    let chk := fun (k : Nat) (u : State) => ledgerNotices [k] (ledgerWindow [k] u)
    let st := fun (k : Nat) (u : State) => if u.qp.ledger.lstat.getLsbD k then 0x15 else 0x00
    (Issues who c 0x47 .condOnly s →
      Answers (.ledger who c wd 0 0 0) who (fun u => let u := chk 0 u
        advance who (ret who (st 0 u) (w32 u.qp.cq) (w32 u.qp.ch) (setW who wd (w32 u.qp.cf) u))) s ∧
      Answers (.ledger who c wd 1 0 0) who (fun u => let u := chk 1 u
        advance who (ret who (st 1 u) (w32 u.qp.jq) (w32 u.qp.jh) (setW who wd (w32 u.qp.jf) u))) s ∧
      (∀ h : lk.val < 6, Answers (.ledger who c wd 2 lk ch) who (fun u => let u := chk 2 u
        let x := vc ⟨lk.val, h⟩ ch u
        advance who (ret who (st 2 u) (w32 x.b) (w32 x.sent) (setW who wd (w32 x.a) u))) s) ∧
      GivesRegs (.ledger who c wd 3 lk ch) who (withStatus who 0x02 2 3 s) s) ∧
    (s.time.coreOn = true →
      let id := s.qp.ledger.latchId + 1
      Becomes (.ledgerWindowRead w) s
        { s with qp := { s.qp with ledger := { s.qp.ledger with latchId := id, latch := ledgerWords id s, sticky := false } } })

/-- TUNE, AERIAL, RSTATE and RQUAL (04 R121, R125, R131-R133; 10 R342, R343): a slice in the segment already moves its tap alone,
another segment is tuned to as R125 says; an aerial port and tuner take effect at once; the reads give the slice's state, its last
reception's quality and a tap's noise floor. -/
def Obligations.SliceSettingsAndReads : Prop :=
  ∀ (who : Who) (c : Cond) (n : Fin 12) (sl wd ws tp : Fin 16) (g : Fin 4) (t : Fin 16) (port : Fin 4) (tuner : BitVec 6)
    (q : LastQ) (s : State), Names who sl n →
    let x := slice n s
    (Issues who c 0x30 .all s → RadioReady who n s → n.val ≠ 3 → findChannel x (getW who ws s).toNat = some (g, t) →
      Answers (.tune who c ws sl) who (fun u => advance who (tuneTo who n g t u)) s ∧
      (isExt n = false → x.tuned = some g → x.off = false →
        Answers (.tune who c ws sl) who
          (fun u => advance who (ret who 0x00 0 0 (modSlice n (fun x => { x with tap := some t }) u))) s)) ∧
    (Issues who c 0x30 .all s → condHeld who n s = false → findChannel x (getW who ws s).toNat = none →
      GivesRegs (.tune who c ws sl) who (withStatus who 0x02 1 (getW who ws s) s) s) ∧
    (Issues who c 0x35 .all s → RadioReady who n s → isExt n = false → n.val ≠ 3 → port.val < 3 → quietNow n s = true →
      Answers (.aerial who c port tuner false sl) who (fun u => advance who (ret who 0x00 0 (w32 (x.sel + x.tuner * 16))
        (modSlice n (fun x => { x with sel := port.val, tuner := tuner.toNat,
                                       listen := if port = 2 then x.listen else port.val }) u))) s) ∧
    (Issues who c 0x34 .all s → calRunning x = false → x.tuned = some g → x.tap = some t →
      GivesRegs (.rstate who c wd sl) who ((withW who wd (w32 (radioState n s + (if x.locked then 16 else 0) +
        (if x.tcalPend then 32 else 0) + x.listen % 2 * 128 + (x.plan[g]).taps[t].chan * 65536)) s).status 0x00 0 0) s) ∧
    (Issues who c 0x36 .all s → x.lastQ = none →
      GivesRegs (.rqualLast who c wd sl) who ((withW who wd 0 s).status 0x00 0 0xFFFFFFFF) s) ∧
    (Issues who c 0x36 .all s → x.lastQ = some q →
      GivesRegs (.rqualLast who c wd sl) who ((withW who wd ((i32 q.rssi &&& 0xFFFF) ||| (i32 q.snr <<< 16)) s).status 0x00 (i32 q.cfo)
        (w32 (q.idx + q.lq * 16777216))) s) ∧
    (Issues who c 0x36 .all s →
      GivesRegs (.rqualFloor who c wd tp sl) who ((withW who wd (i32 (x.floors[tp].getD 0) &&& 0xFFFF) s).status 0x00 0 0) s)

/-- CAL, RXWIN, TXF and FEOUT arm what they wait for (04 R126-R130, R134): calibrations begin, or wait for a transmission; a window
opens around its predicted time; a transmission is armed for its queue or for a held item; a front-end word is queued. -/
def Obligations.RadioActionsArm : Prop :=
  ∀ (who : Who) (c : Cond) (n : Fin 12) (sl ws : Fin 16) (ts : Fin 4) (res : Bool) (half : BitVec 24) (q : Fin 1024)
    (latest : BitVec 16) (mask : BitVec 4) (s : State),
    let me := Who.slice n
    let x := slice n s
    let t := (getT me ts s).toNs
    let armed := fun (q : Option Nat) (held : Nat) => block me (.txf n) (modSlice n (fun x => { x with
      txf := some { ts := t, latest := latest.toNat * 1000, q := q, heldRef := held, since := tbNs s } }) s)
    (Issues me c 0x31 .all s → Names me sl n → mask ≠ 0 → (isExt n = true → mask.toNat % 4 = 0) → xiqDown n s = false →
      x.cal = none → Answers (.cal me c mask sl) me (fun u => block me (.cal n) (startCal n mask.toNat none u)) s) ∧
    (Issues who c 0x31 .all s → Names who sl n → (∀ k, who ≠ .slice k) → condHeld who n s = false → mask ≠ 0 →
      (isExt n = true → mask.toNat % 4 = 0) → xiqDown n s = false → x.cal = none → pendFull who s = false →
      Answers (.cal who c mask sl) who (fun u => advance who
        (startPending who 0x31 (startCal n mask.toNat (some (worldOf who s, nextTicket who s)) u))) s) ∧
    (Issues me c 0x32 .sliceOnly s → RadioReady me n s → (getT me ts s).ns.toNat ≤ 999999999 → half ≠ 0 → x.tap.isSome = true →
      tbNs s ≤ t + half.toNat →
      Answers (.rxwin me c 0 ts res half) me (fun u => block me (.rxwin n) (modSlice n (fun x => { x with
        win := some { node := none, openAt := t - half.toNat, closeAt := t + half.toNat, pred := (t : Int), wantRes := res } }) u)) s) ∧
    (Issues me c 0x32 .sliceOnly s → RadioReady me n s → (getT me ts s).ns.toNat ≤ 999999999 → ws ≠ 0 →
      (getW me ws s).toNat < 131072 → rosterVoid (getW me ws s).toNat = false → (roster (getW me ws s).toNat s).use_ ≠ 0 →
      x.tap.isSome = true →
      let w := nodeWindow (roster (getW me ws s).toNat s) t half.toNat s
      tbNs s ≤ w.2.1 →
      Answers (.rxwin me c ws ts res half) me (fun u => block me (.rxwin n) (modSlice n (fun x => { x with
        win := some { node := some (getW me ws s).toNat, openAt := w.1, closeAt := w.2.1, pred := w.2.2, wantRes := true } }) u)) s) ∧
    (Issues me c 0x33 .sliceOnly s → RadioReady me n s → (getT me ts s).ns.toNat ≤ 999999999 → x.tap.isSome = true →
      x.inhibit = false → x.mismatch = false → tbNs s + leadNs n ≤ t + latest.toNat * 1000 →
      exec (.txf me c ts (.imm q) latest) s = .next (settle (armed (some q.val) 0)) ∧
      (((ctx me s).held.any (fun h => h.item.job = (getW me ws s).toNat)) = true →
        exec (.txfHeld me c ts ws latest) s = .next (settle (armed none (getW me ws s).toNat)))) ∧
    (Issues who c 0x37 .all s → Names who sl n → RadioReady who n s → isExt n = true →
      let v := (getW who ws s).toNat
      (v < 16777216 → Answers (.feoutTuningWord who c ws sl) who (fun u => block who (.feout n)
        (modSlice n (fun x => { x with locked := false, moving := true, settleFrom := none })
          (feQueue { sl := n, typ := 0, payload := v } u))) s) ∧
      (v < 16 → Answers (.feoutStaticControls who c ws sl) who (fun u => block who (.feout n)
        (feQueue { sl := n, typ := 1, payload := v } u)) s) ∧
      (v < 16777216 → Answers (.feoutRegisterWrite who c ws sl) who (fun u => block who (.feout n)
        (feQueue { sl := n, typ := 2, payload := v } u)) s))

/-- The events of windows and armed transmissions (04 R128-R130; 06 R207, R226; 11 R375): a window opens and closes at its
instants, a TXF selects its frame, goes on the air or misses its deadline. -/
def Obligations.WindowAndSelectionEvents : Prop :=
  ∀ (n : Fin 12) (w : Win) (a : TxfArm) (q d : Nat) (it : Item) (h : HeldItem) (s : State),
    let x := slice n s
    let me := Who.slice n
    let sel := reachTb (a.ts - leadNs n) s
    let due := reachTb (a.ts + a.latest - leadNs n) s
    (x.win = some w → w.opened = false → tbCanReach w.openAt s = true → x.locked = true → calRunning x = false →
      tbNs (reachTb w.openAt s) < w.closeAt → Becomes (.rxwinOpen n) s (openWin n (reachTb w.openAt s))) ∧
    (x.win = some w → w.closed = false → tbCanReach w.closeAt s = true →
      let u := openWaits (reachTb w.closeAt s)
      let v := modSlice n (fun x => { x with win := some { w with closed := true } }) u
      (w.opened = false → (slice n u).locked = false → Becomes (.rxwinClose n) s (winDone n 0x08 0 0 u)) ∧
      (w.opened = false → (slice n u).locked = true → Becomes (.rxwinClose n) s (winEmpty n w u)) ∧
      (w.opened = true → w.passed = false → w.lane = none → Becomes (.rxwinClose n) s (winEmpty n { w with closed := true } v)) ∧
      (w.opened = true → (w.passed = true ∨ w.lane.isSome = true) → Becomes (.rxwinClose n) s v)) ∧
    (x.txf = some a → a.sel = none → tbCanReach (a.ts - leadNs n) s = true → a.q = some q →
      Becomes (.txfSelection n) s (txfSelectQ n a q sel)) ∧
    (x.txf = some a → a.sel = none → tbCanReach (a.ts - leadNs n) s = true → a.q = none →
      (ctx me s).held.find? (fun h => h.item.job = a.heldRef) = some h →
      Becomes (.txfSelection n) s (tryLaunch n (modSlice n (fun x => { x with
        txf := some { a with sel := some h.item.job, heldFrom := h.fromQ, heldFlush := h.flushGen } }) sel))) ∧
    (x.txf = some a → selected n a s = some it → tbCanReach (a.ts + a.latest - leadNs n) s = true →
      (slice n (tryLaunch n due)).txf.isSome = true →
      let u := unselect a (tryLaunch n due)
      let ready := (slice n u).locked = true ∧ calRunning (slice n u) = false
      let ends := fun (st : Nat) (w2 : Word) => Becomes (.txfDeadline n) s (txfDone n st (w32 it.job) w2 u)
      (¬ ready → ends 0x08 (lateLock (slice n u) (a.ts + a.latest - leadNs n))) ∧
      (ready → ctLeadMet it u = false → ends 0x16 0) ∧
      (ready → ctLeadMet it u = true → noTxEngine u = some d →
        Becomes (.txfDeadline n) s (txfDone n 0x04 (w32 d) 0 u))) ∧
    (x.txf = some a → selected n a s = some it → tbCanReach (a.ts + a.latest - leadNs n) s = true →
      (slice n (tryLaunch n due)).txf = none → Becomes (.txfDeadline n) s (tryLaunch n due))

/-- The events of a transmission on the air (04 R129; 06 R207, R224; 09 R302; 10 R318, R326; 11 R375; 16 R542): the blanking
begins, the launch gives S12 the frame that S11 has formed, the frame ends, a cut-through cell is late, the amplifier is down, and a
CAL that waited for that begins, the blanking ends. -/
def Obligations.AirEvents : Prop :=
  ∀ (n : Fin 12) (t : TxRun) (l e : Nat) (c : CalRun) (s : State),
    let x := slice n s
    let at_ := reachTb t.launch s
    let t' := { t with item := { t.item with data := patchBeacon t at_ } }
    let u := modSlice n (fun x => { x with tx := some { t' with airing := true } }) at_
    let down := modSlice n (fun x => { x with txOn := false, tx := x.tx.filter (fun t => !t.aired) }) (reachTb x.rampEnd s)
    (nextAir n s = some (l, e) → tbCanReach (l - 20000) s = true →
      Becomes (.blankingStart n) s (startBlanking n l e (reachTb (l - 20000) s))) ∧
    (x.tx = some t → t.airing = false → tbCanReach t.launch s = true → calRunning x = false → x.txOn = true →
      Becomes (.launch n) s (captureTx n t.launch (setStage t.item.job 5 0x00
        (emitLaunch n t.launch (if t.item.info.beacon then 2 else 0) t.item.job t.mode
          ((if t.item.written then t.item.len else t.item.decl) + spar 0x0301 n s) t'.item.data
          (putOnAir n t.tap (txFrame n t' u) u))))) ∧
    (x.tx = some t → t.airing = true → t.aired = false → tbCanReach t.endAt s = true →
      Becomes (.frameAired n) s (retryLaunches (frameAired n t (reachTb t.endAt s)))) ∧
    (x.tx = some t → t.airing = true → t.aired = false → t.item.ct = true → t.item.written = false →
      let d := t.launch + octetNs t.mode t.map (spar 0x0303 n s) (120 * ((t.item.data.length + 16) / 120) - 16) - 20000
      tbCanReach d s = true → Becomes (.ctCellDeadline n) s (underrun n t (reachTb d s))) ∧
    (x.txOn = true → x.tx.any (fun t => t.airing && !t.aired) = false → x.enhAcks.any (·.airing) = false →
      tbCanReach x.rampEnd s = true →
      ((x.cal = none ∨ x.cal = some c ∧ c.waiting = false) → Becomes (.txRampDownEnd n) s down) ∧
      (x.cal = some c → c.waiting = true →
        Becomes (.txRampDownEnd n) s (beginCal n (modSlice n (fun x => { x with
          cal := some { c with endAt := down.time.elapsed + calNs n c.mask down } }) down)))) ∧
    (x.blank = true → tbCanReach x.blankEnd s = true →
      Becomes (.blankingEnd n) s (modSlice n (fun x => { x with blank := false, blankEnd := 0 }) (reachTb x.blankEnd s)))

/-- The events of acknowledgements and of the measured reflection (01 R21; 06 R224, R225; 10 R336, R339, R340, R344, R345): a wait
ends without an acknowledgement or goes on for the one detected, an Enh-Ack goes on the air, ends, or is abandoned for not being
built in time, and a loss below the limit is counted, reported and acted on. -/
def Obligations.AcknowledgementEvents : Prop :=
  ∀ (n : Fin 12) (t : TxRun) (k : AckWait) (ea : EnhAck) (loss : BitVec 8) (s : State),
    let x := slice n s
    let v := reachTb ea.launch s
    (x.ackWait = some k → tbCanReach k.closeAt s = true → k.lane = none →
      Becomes (.ackWaitExpiry n) s (ackFailed n (openWaits (reachTb k.closeAt s)))) ∧
    (x.ackWait = some k → tbCanReach k.closeAt s = true → k.lane.isSome = true →
      Becomes (.ackWaitExpiry n) s
        (modSlice n (fun x => { x with ackWait := some { k with opened := false } }) (openWaits (reachTb k.closeAt s)))) ∧
    (x.enhAcks = [ea] → ea.airing = false → ea.built = true → tbCanReach ea.launch s = true → x.txOn = true →
      Becomes (.enhAckLaunch n) s (captureTx n ea.launch (modSlice n (fun x => { x with
          enhAcks := modFirst (fun k => k = ea) (fun e => { e with airing := true }) x.enhAcks })
        (emitLaunch n ea.launch 1 0 ea.mode (ea.octets.length + spar 0x0301 n s) ea.octets
          (putOnAir n ea.tap (ackAirFrame n ea v) v))))) ∧
    (x.enhAcks = [ea] → ea.airing = false → ea.built = false → tbCanReach ea.launch s = true →
      Becomes (.enhAckLaunch n) s (dropAcks n (fun k => k = ea) v)) ∧
    (x.tx = none → x.enhAcks = [ea] → ea.airing = true → tbCanReach ea.endAt s = true →
      Becomes (.frameAired n) s (retryLaunches (enhAckAired n ea (reachTb ea.endAt s)))) ∧
    (isExt n = false → x.tx = some t → t.airing = true → t.aired = false → loss.toNat < spar 0x0104 n s →
      let r := notify 0x0102 n.val 0x00 (blkSlice n) (bumpSl 0x0126 n s)
      let act := spar 0x0105 n r
      let w := modSlice n (fun x => { x with
        lastLoss := loss.toNat
        mismatch := x.mismatch || act ≠ 0
        tx := some { t with minLoss := some (min loss.toNat (t.minLoss.getD loss.toNat)), backoff := t.backoff || act = 1 } }) r
      Becomes (.txMismatchMeasure n loss) s (if act = 2 then cutFor n 0x30 (w32 loss.toNat) w else w))

/-- The events of a slice's synthesiser, calibrations and temperature (04 R122, R126; 10 R320-R330; 19 R585). -/
def Obligations.LockAndCalibrationEvents : Prop :=
  ∀ (n : Fin 12) (c : CalRun) (e : Nat) (t : Int) (r : TxRun) (s : State),
    let x := slice n s
    let done := reachElapsed c.endAt s
    (alive s = true → x.cal = some c → c.temp = false → c.waiting = false → isExt n = false → c.wordFail = false →
      c.ticket = none →
      let full := c.mask.testBit 0 && c.mask.testBit 1
      let late := !x.tcalPend && c.trigger && !full
      BecomesThenRecord (.calComplete n none) s (let u := afterCal n (modSlice n (fun x => { x with
          tempRef := if c.mask.testBit 0 then c.irTemp else x.tempRef
          tcalPend := (x.tcalPend && !full) || late
          tcalSince := if late then done.time.elapsed else x.tcalSince
          tcalTold := x.tcalTold && !late, calOk := true, calDoneOk := true, offline := false }) done)
        if (seq n u).await = some (.cal n) then unblockSlice n 0x00 0 0 u else u)) ∧
    (x.tcalPend = true → x.cal = none → isExt n = false → x.off = false → x.offline = false → x.win = none → x.txf = none →
      x.tx = none → x.txOn = false → x.enhAcks = [] → x.ackWait = none → (∀ l ∈ s.radio.lanes.toList, l = none) →
      Becomes (.tempCalStart n) s (bumpSl 0x0129 n (beginCal n (modSlice n (fun x => { x with
        tcalPend := false, cal := some { temp := true, mask := 3, endAt := s.time.elapsed + 2700000 } }) s)))) ∧
    (x.cal = some c → c.temp = true →
      Becomes (.tempCalEnd n) s (afterCal n (modSlice n (fun x => { x with tempRef := c.irTemp }) done))) ∧
    (x.tcalPend = true → x.tcalTold = false →
      Becomes (.tcalDeferTimeout n) s (notify 0x0101 n.val 0x00 (blkSlice n) (modSlice n (fun x => { x with tcalTold := true })
        (reachElapsed (x.tcalSince + spar 0x0107 n s * 1000000000) s)))) ∧
    (isExt n = false →
      let u := modSlice n (fun x => { x with
        temp := t
        cal := x.cal.map (fun c => if s.time.elapsed ≤ c.irEnd && !c.waiting then { c with irTemp := t } else c) }) s
      (t ≤ 1080 → x.tcalPend = true → Becomes (.sliceTempMeasure n t) s u) ∧
      (t ≤ 1080 → x.tcalPend = false → x.cal = none → (spar 0x0106 n s : Int) * 8 ≤ |t - x.tempRef| →
        Becomes (.sliceTempMeasure n t) s
          (modSlice n (fun x => { x with tcalPend := true, tcalSince := s.time.elapsed, tcalTold := false }) u)) ∧
      (1080 < t → x.tcalPend = true → Becomes (.sliceTempMeasure n t) s (sliceFault n 5 u))) ∧
    (isExt n = false → x.moving = true → x.retune = false → calRunning x = false → x.offline = false → x.tuned.isSome = true →
      Becomes (.synthLock n) s (onLock n (modSlice n (fun x => { x with
        locked := true, lockAt := tbNs s, moving := false, lostAt := none, calDoneOk := false }) s))) ∧
    (isExt n = false → (x.locked = true ∨ x.oldSeg.isSome = true) →
      let u := abandonAll n (bumpSl 0x0122 n (modSlice n (fun x => { x with
        locked := false, oldSeg := none, moving := true, lostAt := some s.time.elapsed, lossTold := false }) s))
      ((slice n u).tx = none → Becomes (.lockLoss n) s (dropEnhAck n u)) ∧
      ((slice n u).tx = some r → r.aired = false → r.airing = true →
        Becomes (.lockLoss n) s (dropEnhAck n (cutFor n 0x08 0xFFFFFFFF u)))) ∧
    (x.lostAt = some e → x.lossTold = false → x.locked = false →
      Becomes (.relockTimeout n) s (notify 0x0103 n.val 0x00 (blkSlice n)
        (modSlice n (fun x => { x with lossTold := true }) (reachElapsed (e + 1000000) s)))) ∧
    (x.retune = true → retuneHeld x = false → calRunning x = false → x.offline = false →
      Becomes (.deferredRetuneStart n) s (beginRetune n s))

/-- The events of the front-ends: FECTL transfers, settling and calibration of an external front-end, gain steps and the
diversity switch (10 R332-R334, R342, R346-R352). The XIQ lanes and slice faults (01 R14, R15; 09 R303-R309; 10 R353; 18 R581):
malformed blocks are counted and a lane comes up after 256 good ones, a slip abandons receptions, a lane that does not train is
reported and one that is lost faults its slice. -/
def Obligations.LanesAndFrontEnds : Prop :=
  (∀ (n : Fin 12) (w : FeWord) (rest : List FeWord) (ack : BitVec 8) (c : CalRun) (e : Nat) (p : Int) (clip : Bool) (s : State),
     let x := slice n s
     (s.radio.fe0 = w :: rest → w.fromTune = true → w.typ = 0 → ack = 0xA0 ||| s.radio.feSeq0.setWidth 8 →
       BecomesThenRecord (.fectlTransfer 0 ack) s
         (modSlice w.sl (fun x => { x with settleFrom := some s.time.elapsed })
           { s with radio := { s.radio with fe0 := rest, feSeq0 := s.radio.feSeq0 + 1 } })) ∧
     (s.radio.fe1 = w :: rest → w.fromTune = false → w.typ = 1 → ack = 0xA0 ||| s.radio.feSeq1.setWidth 8 →
       (seq w.sl s).await = some (.feout w.sl) →
       BecomesThenRecord (.fectlTransfer 1 ack) s (endFeout w.sl 0x00 0 0
         (modSlice w.sl (fun x => { x with statics := w.payload, inhibit := w.payload.testBit 3 })
           { s with radio := { s.radio with fe1 := rest, feSeq1 := s.radio.feSeq1 + 1 } }))) ∧
     (x.settleFrom = some e → isExt n = true → x.moving = true → x.offline = false →
       let u := modSlice n (fun x => { x with settleFrom := none, moving := false }) (reachElapsed (e + spar 0x0110 n s * 1000) s)
       (calRunning x = false →
         Becomes (.extSettleElapsed n) s (onLock n (modSlice n (fun x => { x with locked := true, lockAt := tbNs u }) u))) ∧
       (calRunning x = true → Becomes (.extSettleElapsed n) s
         (modSlice n (fun x => { x with cal := x.cal.map (fun c => { c with wasLocked := true }) }) u))) ∧
     (x.cal = some c → isExt n = true → c.temp = false → c.waiting = false → c.mask.testBit 2 = true → c.wordFail = false →
       c.extDone = false → s.radio.fe0 = [] → s.radio.fe1 = [] →
       Becomes (.extCalTimeElapsed n) s (modSlice n (fun x => { x with cal := some { c with extDone := true } })
         (reachElapsed (c.endAt - (if c.mask.testBit 3 then 300000 else 0)) s))) ∧
     (isExt n = false → receiving n s = false → x.off = false →
       let stepped := fun (hold g : Nat) => let u := reachElapsed (x.agcAt + hold) s
         setGain n g (modSlice n (fun x => { x with agcAt := u.time.elapsed }) u)
       ((clip = true ∨ (par 0x0102 n.val s).toInt < p) → Becomes (.agcStepDown { sl := n, power := p, clip := clip }) s (stepped 2000 (min 15 (x.gain + 1)))) ∧
       (p < (par 0x0103 n.val s).toInt → Becomes (.agcStepUp { sl := n, power := p }) s (stepped 64000 (x.gain - 1)))) ∧
     (isExt n = false → receiving n s = true → x.gain < 15 →
       Becomes (.forcedGainStep n) s
         (bumpSl 0x0120 n (bumpSl 0x0121 n (setGain n (x.gain + 1) (modSlice n (fun x => { x with agcAt := s.time.elapsed }) s))))) ∧
     (isExt n = false → x.sel = 2 → quietNow n s = true →
       Becomes (.diversitySwitch n) s (withDraw 2 s fun long s =>
         let q := (x.quiet + long) % 8
         let p := if long = 1 && q = 0 then 1 - x.listen else betterPort x
         let s := modSlice n (fun x => { x with quiet := q, listen := p }) s
         if p = x.listen then s else bumpSl 0x0127 n s))) ∧
  (∀ (n : Fin 12) (b : XiqBlk) (slipped : Bool) (cause : Fin 5) (s : State),
     let x := slice n s
     (isExt n = true → x.xiq = 2 → b.ok = true → b.ovl = false →
       Becomes (.xiqBlock n b) s (modSlice n (fun x => { x with
         xiqOut := xiqBlockOut (slice n s) (tbNs s), xiqGood := x.xiqGood + 1, xiqLast := s.time.elapsed
         xiqBad := (false :: x.xiqBad).take 256 }) (setGain n b.gain.val s))) ∧
     (isExt n = true → x.xiq = 2 → b.ok = false →
       Becomes (.xiqBlock n b) s (modSlice n (fun x => { x with
         xiqOut := xiqBlockOut (slice n s) (tbNs s), xiqGood := 0, xiqBad := (true :: x.xiqBad).take 256 }) (bumpSl 0x0416 n s))) ∧
     (isExt n = true → x.xiq = 1 → b.ok = true → b.ovl = false → 255 ≤ x.xiqGood →
       Becomes (.xiqBlock n b) s (modSlice n (fun x => { x with
         xiqOut := xiqBlockOut (slice n s) (tbNs s), xiqGood := x.xiqGood + 1, xiqLast := s.time.elapsed
         xiq := 2, xiqSince := s.time.elapsed, xiqBad := [] }) (setGain n b.gain.val s))) ∧
     (isExt n = true → x.xiq = 2 → Becomes (.xiqSlip n slipped) s (bumpSl 0x0417 n (abandonAll n s))) ∧
     (isExt n = true → x.xiq = 1 →
       let t := reachElapsed (x.xiqSince + 10000000) s
       Becomes (.xiqTrainingTimeout n) s (notify 0x0402 n.val 0x00 (blkSlice n)
         (modSlice n (fun x => { x with xiq := 3, xiqSince := t.time.elapsed }) t))) ∧
     (isExt n = true → x.xiq = 2 → 32 ≤ (x.xiqBad.filter id).length →
       Becomes (.xiqLaneLoss n) s (sliceFault n 4 (notify 0x0402 n.val 0x00 (blkSlice n)
         (modSlice n (fun x => { x with xiq := 3, xiqSince := s.time.elapsed }) s)))) ∧
     Becomes (.sliceFault n cause) s (sliceFault n (cause.val + 1) s))

/-- The queue instructions (03 R96-R103; 11 R364-R376): what each takes, gives back, drops or reads, and its status; QPEEK and QLEN
change nothing but the issuer's registers. -/
def Obligations.QueueInstructions : Prop :=
  ∀ (who : Who) (c : Cond) (q : QRef) (k : Nat) (wd ws : Fin 16) (attr : BitVec 8) (it : Item) (h : HeldItem) (y : Queue) (s : State),
    NamesQueue who q k s →
    let x := queue k s
    let ref := getW who ws s
    (Issues who c 0x40 .all s → heldItem who ref s = some h →
      Answers (.qpush who c ws q) who (fun u => match pushItem k h.item (dropHeldItem who ref u) with
        | some v => advance who (ret who 0x00 (w32 (queue k v).occ) 0 v)
        | none => advance who (ret who 0x10 0 0 (bump 0x0510 u))) s) ∧
    (Issues who c 0x41 .all s → (ctx who s).held.length < 8 → popHead k s = some it →
      Answers (.qpop who c wd q) who (fun u =>
        let v := popItem k it u
        let v := modCtx who (fun c => { c with held := { item := it, fromQ := k, flushGen := (queue k v).flushes } :: c.held }) v
        advance who (ret who 0x00 (w32 it.len) (w32 (queue k v).occ) (setW who wd (w32 it.job) v))) s) ∧
    (Issues who c 0x41 .all s → (ctx who s).held.length < 8 → popHead k s = none →
      GivesRegs (.qpop who c wd q) who (withStatus who 0x11 0 0 s) s) ∧
    (Issues who c 0x42 .all s → popHead k s = some it →
      GivesRegs (.qpeek who c wd q) who ((withW who wd (w32 it.job) s).status 0x00 (w32 it.len)
        (w32 ((jobAt it.job s).attempts + (jobAt it.job s).stage * 256))) s) ∧
    (Issues who c 0x42 .all s → popHead k s = none → GivesRegs (.qpeek who c wd q) who (withStatus who 0x11 0 0 s) s) ∧
    (Issues who c 0x43 .all s → popHead k s = some it →
      Answers (.qdropHead who c q) who (fun u => advance who (ret who 0x00 (w32 it.cells) 0
        (retireHeld it 1 0x00 (popItem k it u)))) s) ∧
    (Issues who c 0x43 .all s → heldItem who ref s = some h →
      Answers (.qdropHeld who c ws) who (fun u => advance who (ret who 0x00 (w32 h.item.cells) 0
        (retireHeld h.item 1 0x00 (dropHeldItem who ref u)))) s) ∧
    (Issues who c 0x43 .all s → x.dropMode = true → x.inc = some it →
      Answers (.qdropRest who c q) who (fun u => advance who (ret who 0x00 (w32 it.cells) 0 (txfsLost (dropRest k 0x12 u)))) s) ∧
    (Issues who c 0x44 .condOnly s → x.dropMode = false →
      Answers (.qflush who c q) who
        (fun u => advance who (ret who 0x00 (w32 x.occ) (w32 x.cells) (txfsLost (flushQueue k u)))) s) ∧
    (Issues who c 0x45 .all s →
      GivesRegs (.qlen who c wd q) who ((withW who wd (w32 x.complete) s).status 0x00 (w32 x.cells)
        (w32 ((if x.inc.isSome then 1 else 0) + (if x.high ≤ x.occ then 2 else 0) + x.limit * 65536))) s) ∧
    (Issues who c 0x46 .condOnly s → attr.toNat ≤ 6 → setAttr x attr.toNat ref.toNat = some y →
      (x.dropMode = y.dropMode ∨ x.inc = none) →
      Answers (.qattr who c q ws attr) who (fun u => advance who (ret who 0x00 0 0 (modQ k (fun _ => y) u))) s)

/-- Receiving a frame (08 R269-R278; 09 R294-R300, R312; 10 R335; 11 R379): firings in one interval are served in the arbiter's
order and one has its outcome when its watcher is armed and fires, a tap is armed again at its hold-off's end, a header passes,
fails its checks or is too long, the check sequence hands the frame on or loses it, admission takes what S5 handed on in the order
of the headers, a window of the noise floor ends. -/
def Obligations.ReceptionEvents : Prop :=
  ∀ (d : Det) (more : List Det) (n : Fin 12) (tp : Fin 16) (e : Nat) (ln : Fin 64) (phr : Phr) (l : Lane) (m : PhrMode)
    (p : RxPay) (f : RxFrame) (info : FrameInfo) (errs : List MemErr) (blocks : List Nat) (s : State),
    let u := openWaits s
    (let last := more.foldl (fun m e => max m e.at_) d.at_
     tbCanReach last s = true →
      Becomes (.watcherDetection d.sl d.tap d.toSeen more) s (serveDets (more.length + 1) (d :: more) (openWaits (reachTb last s)))) ∧
    (let v := openWaits (reachTb d.at_ s)
     tbCanReach d.at_ s = true → armed d.sl d.tap d.at_ v = true → fires d v = true →
      Becomes (.watcherDetection d.sl d.tap d.toSeen []) s
        (detection d.sl d.tap (aerialPower d.sl (gainAt (slice d.sl v) d.at_) d.power v) d.at_ v)) ∧
    ((slice n s).holdOff[tp] = some e → tbCanReach e s = true →
      Becomes (.watcherRearm n tp) s (modSlice n (fun x => { x with holdOff := x.holdOff.set tp none }) (reachTb e s))) ∧
    (lane ln s = some l → l.passed = false → l.out = none →
      let bad := Becomes (.phrCheck ln phr) s (relockOrFree ln l 1 (bumpSl 0x0320 l.sl u))
      let start := startOf l phr s
      (phrMode l phr u = none → bad) ∧
      (phrMode l phr u = some m → phr.len < fcsOctets l.sl l phr u + 2 → bad) ∧
      (phrMode l phr u = some m → fcsOctets l.sl l phr u + 2 ≤ phr.len → spar 0x0300 l.sl u < phr.len →
        Becomes (.phrCheck ln phr) s
          (oversize ln l start (noteLast ln { l with rssi := rssiOf l phr u, cfo := phr.cfo } start u))) ∧
      (phrMode l phr u = some m → fcsOctets l.sl l phr u + 2 ≤ phr.len → phr.len ≤ spar 0x0300 l.sl u →
        Becomes (.phrCheck ln phr) s (phrPasses ln l phr start m u))) ∧
    (lane ln s = some l → l.passed = true → l.out = none → tbCanReach l.endAt s = true →
      let q := laneQuality l p
      let t := openWaits (reachTb l.endAt s)
      let psdu := lanePsdu l p t
      let v := modSlice l.sl (fun x => { x with lastQ := x.lastQ.map (fun v =>
        if v.ofLane = ln.val && v.start = l.start then { v with snr := q.snr, lq := linkQuality q.snr } else v) }) t
      (fcsRight l.fcs psdu = true → Becomes (.fcsCheck ln p.toFskRx p.toLtfRx p.syms) s
        (setLane ln (some { l with out := some { data := psdu.take (psdu.length - l.fcs), q := q } }) (noteBusy l.sl l.tap l.since v))) ∧
      (fcsRight l.fcs psdu = false → Becomes (.fcsCheck ln p.toFskRx p.toLtfRx p.syms) s (loseLane ln 0x2A 0 (bumpSl 0x0322 l.sl v)))) ∧
    (let v := meetErrors errs s
     lane ln v = some l → l.out = some f → firstPassed l v = true →
      Becomes (.frameAdmission ln info errs) s (admitFrame ln l f info v)) ∧
    (let start := (slice n s).nfFrom[tp]
     let v := reachElapsed (start + cpar 0x0318 s * 1000000) s
     let spans := busySpans n tp.val v
     let left := ((blocks.take (cpar 0x0318 v)).zipIdx.filter (fun b => !(spans.any (inBlock start b.2)))).map (·.1)
     let now := v.time.elapsed
     Becomes (.noiseFloorWindow n tp blocks) s (modSlice n (fun x => { x with
        nfFrom := x.nfFrom.set tp now
        nfRx := x.nfRx.filter (fun e => e.1 ≠ tp.val)
        nfTx := x.nfTx.filter (fun e => now ≤ e.2 + 10000000000)
        floors := if x.deaf[tp] then x.floors else match floorOf n left v with
          | some f => x.floors.set tp (some f)
          | none => x.floors }) v))

/-- Notices and learning (03 R109, R115; 07 R250; 12 R405; 15 R499): NOTE reports under its subject and answers the count,
LEARNACK answers whether a report was open, entries close at their instants and post in order when the ring has room. -/
def Obligations.NoticeCommands : Prop :=
  ∀ (who : Who) (c : Cond) (kind : BitVec 16) (ws hi : Fin 16) (dist ins : Bool) (subject : Word) (w : World) (s : State),
    (Issues who c 0x82 .all s → 0x8000 ≤ kind.toNat →
      Answers (.note who c kind ws) who (fun u =>
        let v := report kind.toNat (getW who ws s) 0x00 (noteReporter who) u
        advance who (ret who 0x00 (w32 (noticeCount kind.toNat (getW who ws s) v)) 0 v)) s) ∧
    (Issues who c 0x82 .all s → kind.toNat < 0x8000 → GivesRegs (.note who c kind ws) who (withStatus who 0x02 1 (w32 kind.toNat) s) s) ∧
    (Issues who c 0x53 .condOnly s → ws.val % 2 = 0 → hi.val = ws.val + 1 →
      let h := w32 (keyHash (pairVal who ws hi s) dist s)
      (s.notices.entries.any (openEntry 0x0601 h) = false →
        GivesRegs (.learnack who c ws dist ins) who (withStatus who 0x00 0 0 s) s) ∧
      (s.notices.entries.any (openEntry 0x0601 h) = true →
        Answers (.learnack who c ws dist false) who (fun u => advance who (ret who 0x00 1 0
          (updNotice (openEntry 0x0601 h) (fun n v => (some { n with declined := some v.time.coreNs }, v)) u))) s ∧
        Answers (.learnack who c ws dist true) who
          (fun u => advance who (ret who 0x00 1 0 (updNotice (openEntry 0x0601 h) closeEntry u))) s)) ∧
    Becomes (.noticeQuietExpiry kind subject) s (closeAtCore (fun n => openEntry kind.toNat subject n && n.declined.isNone)
      (fun n => n.lastAt + cpar 0x0C00 s * 1000000) s) ∧
    Becomes (.noticeMaxAgeExpiry kind subject) s (closeAtCore (fun n => openEntry kind.toNat subject n && n.declined.isNone)
      (fun n => n.openedAt + cpar 0x0C01 s * 1000000) s) ∧
    Becomes (.declineHoldExpiry subject) s (closeAtCore (fun n => openEntry 0x0601 subject n && n.declined.isSome)
      (fun n => n.declined.getD 0 + cpar 0x0604 s * 1000000000) s) ∧
    ((ring w blkNotice s).room = true →
      Becomes (.noticeDescriptorPost w) s (updNotice (fun n => noticeWorld n.kind s = w && (n.due s).isSome) (fun n s => n.post s) s)) ∧
    Becomes (.heldNoticePost w) s (postHeld w s.host.held s)

/-- The device table (03 R105-R112; 12 R394-R411): LOOKUP reads, INSERT and DELETE follow the rules of the table, PIN and UNPIN
change STATIC alone, a LOOKUP whose key a failing entry may have held says so, TLOAD and TSCRUB start work that ends with its completion, an aging pass runs, waits and resumes; an odd pair
is ST_RANGE with the register's number. -/
def Obligations.TableCommands : Prop :=
  ∀ (who : Who) (c : Cond) (wd ws wr hi : Fin 16) (dist static : Bool) (q : QRef) (k p : Nat) (region : Fin 4)
    (errs : List MemErr) (j : TblJob) (s : State),
    let key := pairVal who ws hi s
    let r := getW who wr s
    let e := tEntry p s
    let clean := s.health.errs = []
    let even := ws.val % 2 = 0 ∧ hi.val = ws.val + 1
    (Issues who c 0x50 .all s → even → clean → findKey key dist s = none →
      GivesRegs (.lookup who c wd ws dist) who (withStatus who 0x00 0 (w32 (bucket0 (keyHash key dist s))) s) s) ∧
    (Issues who c 0x50 .all s → even → clean → findKey key dist s = some p → p < ovfBase → resPos e.result = myPos s →
      GivesRegs (.lookup who c wd ws dist) who ((withW who wd e.result s).status 0x00 1 (w32 (p / 4))) s) ∧
    (Issues who c 0x50 .all s → even → clean → findKey key dist s = some p → ovfBase ≤ p → resPos e.result ≠ myPos s →
      GivesRegs (.lookup who c wd ws dist) who ((withW who wd e.result s).status 0x1B 2 (w32 (resPos e.result))) s) ∧
    (Issues who c 0x51 .condOnly s → even → resultBad r s = false →
      Answers (.insert who c ws wr dist static) who (fun u => let x := tblInsert key dist static r (readTables key dist u).2
        advance who (ret who x.1 (w32 x.2.1) (w32 x.2.2.1) x.2.2.2)) s) ∧
    (Issues who c 0x52 .condOnly s → even →
      Answers (.delete who c ws dist static) who (fun u => let x := tblDelete key dist static (readTables key dist u).2
        advance who (ret who x.1 (w32 x.2.1) 0 x.2.2)) s) ∧
    (Issues who c 0x54 .condOnly s → even → clean → findKey key dist s = some p → e.static = false →
      Answers (.pin who c ws dist) who (fun u => advance who (ret who 0x00 1 0 (setEntry p { e with static := true } u))) s) ∧
    (Issues who c 0x55 .condOnly s → even → clean → findKey key dist s = some p → e.static = true →
      Answers (.unpin who c ws dist) who (fun u => advance who (ret who 0x00 1 0 (setEntry p { e with static := false } u))) s) ∧
    (ws.val % 2 = 1 →
      (Issues who c 0x50 .all s → GivesRegs (.lookup who c wd ws dist) who (withStatus who 0x02 2 (w32 ws.val) s) s) ∧
      (Issues who c 0x51 .condOnly s → GivesRegs (.insert who c ws wr dist static) who (withStatus who 0x02 1 (w32 ws.val) s) s) ∧
      (Issues who c 0x52 .condOnly s → GivesRegs (.delete who c ws dist static) who (withStatus who 0x02 1 (w32 ws.val) s) s)) ∧
    (Issues who c 0x56 .condOnly s → NamesQueue who q k s → region.val < 2 → s.tables.job = none → pendFull who s = false →
      (popHead k s).isSome = true →
      Answers (.tload who c q region) who (fun u =>
        let x := popAll k (queue k s).poppable u
        let v := startPending who 0x56 x.2
        advance who { v with tables := { v.tables with
          job := some { world := worldOf who s, ticket := nextTicket who x.2, region := region.val, items := x.1 } } }) s) ∧
    (Issues who c 0x57 .condOnly s → s.tables.job = none → pendFull who s = false →
      Answers (.tscrub who c region) who (fun u =>
        let v := startPending who 0x57 u
        advance who { v with tables := { v.tables with
          job := some { scrub := true, world := worldOf who s, ticket := nextTicket who s, region := region.val } } }) s) ∧
    (alive s = true → s.tables.job = some j → j.scrub = false → BecomesThenRecord .tloadComplete s (tloadDone s)) ∧
    (let u := meetErrors errs s
     alive u = true → u.tables.job = some j → j.scrub = true → BecomesThenRecord (.tscrubComplete errs) s (tscrubDone u)) ∧
    (cpar 0x0605 s ≠ 0 → s.twin.standby = false → s.tables.agingAt = none → Becomes .agingPass s (startAging s)) ∧
    (cpar 0x0605 s ≠ 0 → s.twin.standby = false → s.tables.agingAt = some p →
      Becomes .agingPass s { s with tables := { s.tables with agingDue := true } }) ∧
    (s.tables.agingAt = some p → s.tables.agingDue = false →
      Becomes .agingResume s (let u := agePass (2 * s.tables.entries.length + 1) p s
        if u.tables.agingAt.isNone && u.tables.agingDue then startAging { u with tables := { u.tables with agingDue := false } } else u)) ∧
    (Issues who c 0x50 .all s → even → (readTables key dist (opened who s)).1 = true →
      findKey key dist (readTables key dist (opened who s)).2 = none →
      Answers (.lookup who c wd ws dist) who (fun u => advance who
        (ret who 0x00 3 (w32 (bucket0 (keyHash key dist u))) (readTables key dist u).2)) s)

/-- Health and the jobs' records (01 R7-R16; 03 R117, R118; 09 R310-R312; 18 R579): HEALTH and QUERY read, the window latches, engine
faults substitute or stop the chip, a self test ends with its engine passed or substituted. -/
def Obligations.HealthCommands : Prop :=
  ∀ (who : Who) (c : Cond) (wd ws sl : Fin 16) (sel : BitVec 16) (v : Nat) (n : Fin 12) (cause : Fin 3) (region : Fin 13) (unit : Nat) (w : World)
    (s : State),
    let ref := (getW who ws s).toNat
    (Issues who c 0x85 .all s → healthSel who sel.toNat s = some v →
      GivesRegs (.health who c wd sel) who ((withW who wd (w32 v) s).status 0x00 0 0) s) ∧
    (Issues who c 0x85 .all s → healthSel who sel.toNat s = none →
      GivesRegs (.health who c wd sel) who (withStatus who 0x02 2 (w32 sel.toNat) s) s) ∧
    (Issues who c 0x84 .all s → (jobAt ref s).stage ≠ 0 → (jobAt ref s).gen = ref / 32768 →
      GivesRegs (.queryJob who c wd ws) who ((withW who wd (w32 ref) s).status 0x00
        (w32 ((jobAt ref s).stage + (jobAt ref s).attempts * 256 + (if (jobAt ref s).trunc then 65536 else 0))) (w32 (jobAt ref s).tns)) s) ∧
    (Issues who c 0x84 .all s → (jobAt ref s).stage = 0 → s.qp.journal = [] →
      GivesRegs (.queryJob who c wd ws) who ((withW who wd 0 s).status 0x00 0 0) s) ∧
    (Issues who c 0x84 .all s → sl.val = n.val → let lt := (slice n s).lastTx
      (jobAt lt s).stage ≠ 0 → (jobAt lt s).gen = lt / 32768 →
      GivesRegs (.querySlice who c wd sl) who ((withW who wd (w32 lt) s).status 0x00
        (w32 ((jobAt lt s).stage + (jobAt lt s).attempts * 256 + (if (jobAt lt s).trunc then 65536 else 0))) (w32 (jobAt lt s).tns)) s) ∧
    (s.time.coreOn = true → Becomes (.healthWindowRead w) s { s with health := { s.health with
      latchId := s.health.latchId + 1, latch := healthWords (s.health.latchId + 1) s } }) ∧
    (cause ≠ 1 ∨ s.health.chipFault ≠ 0 → Becomes (.chipFault cause region) s (chipFaultOp (cause.val + 1) s)) ∧
    (s.health.chipFault = 0 → Becomes (.chipFault 1 region) s (chipFaultOp 2 (uncorrectable region s))) ∧
    (s.health.chipFault = 0 → Becomes (.engineFault .s1 unit) s (frontFault false unit s)) ∧
    (s.health.chipFault = 0 → Becomes (.engineFault .s2 unit) s (frontFault true unit s)) ∧
    (s.health.chipFault = 0 → exhausted .s6 s = false → Becomes (.engineFault .s6 unit) s
      (let u := itemEngineFault .s6 s
       if exhausted .s6 u then chipFaultOp 1 u else u)) ∧
    (s.health.chipFault = 0 → exhausted .s10 s = false → Becomes (.engineFault .s10 unit) s
      (let u := txEngineFault .s10 unit s
       if exhausted .s10 u then chipFaultOp 1 u else u)) ∧
    (∀ e : Eng, e ≠ .s1 → e ≠ .s2 → (stg e s.health).spare = true → (stg e s.health).testing = false → idleUnit e s = true →
      let v := match (stg e s.health).testAt with
        | some t => reachElapsed (t + 10000000) s
        | none => s
      Becomes (.selfTestStep e) s (modStg e (fun g => { g with testing := true, testAt := some v.time.elapsed }) v)) ∧
    (∀ e : Eng, (stg e s.health).testing = true →
      let u := reachElapsed ((stg e s.health).testAt.getD 0 + testNs e) s
      let v := modStg e (fun g => { g with testAt := some u.time.elapsed }) u
      Becomes (.selfTestEnd e true) s (modStg e (fun g => { g with testing := false, passedN := sat32 (g.passedN + 1) }) v) ∧
      Becomes (.selfTestEnd e false) s (substitute e (modStg e (fun g => { g with failedN := sat32 (g.failedN + 1) }) v)))

/-- Errors of the memories (01 R24, Table AR-7; 18 Table SF-4; derived: the command that brings them is the model's choice, log
entry 53): an error of the roster or the tables waits until its entry is read; elsewhere a single-bit error is corrected and
counted, and an uncorrectable one is counted and reported and has its region's effect: an item dropped with its cell, a job
record marked lost in the journal, a profile absent or a reception lost, a key derived again, a cycle diverged, a ledger fault, a
chip fault. -/
def Obligations.MemoryErrors : Prop :=
  ∀ (r : Fin 13) (p : Nat) (k : ErrKind) (s : State),
    (alive s = true → s.tables.job = none → r.val < 3 →
      BecomesThenRecord (.tscrubComplete [{ region := r, place := p, kind := k }]) s
        { s with health := { s.health with errs := s.health.errs ++ [{ region := r, place := p, kind := k }] } }) ∧
    (alive s = true → s.tables.job = none → 3 ≤ r.val →
      BecomesThenRecord (.tscrubComplete [{ region := r, place := p, kind := .single }]) s
        { s with health := { s.health with corrected := upd s.health.corrected r (fun c => sat32 (c + 1)) } }) ∧
    (let lost := notify 0x0013 r.val 0x18 blkHousekeeper
        { s with health := { s.health with uncorr := upd s.health.uncorr r (fun c => sat32 (c + 1)) } }
     let u := if r = 3 then cellFails p lost else if r = 4 ∨ r = 5 ∨ r = 9 then chipFaultOp 2 lost
       else if r = 7 then journalFails p lost else if r = 8 then profileFails p lost else if r = 10 then cacheFails p lost
       else if r = 11 then stagingFails lost else if r = 12 then jobsFail lost else lost
     3 ≤ r.val → alive u = true → u.tables.job = none →
      BecomesThenRecord (.tscrubComplete [{ region := r, place := p, kind := .double }]) s u)

/-- The key instructions (04 R136-R142; 13 R416-R431): KLOAD consumes the item, fills its cells with zero and stores what the wrapped record holds, KDERIVE
finds or derives a node's key, KREVOKE and KZERO empty slots and what derives from them, KQUERY answers a slot's attributes. -/
def Obligations.KeyInstructions : Prop :=
  ∀ (who : Who) (c : Cond) (wd ws : Fin 16) (k : Fin 8192) (q : QRef) (n : Nat) (it : Item) (s : State),
    let idx := (getW who ws s).toNat
    let x := slot k.val s
    (Issues who c 0x60 .custodian s → lcOpen s = true → 8 ≤ k.val → NamesQueue who q n s → x.occ = false → popHead n s = some it →
      Answers (.kload who c k q) who (fun u =>
        let v := zeroCells it.chain (retireHeld it 0 0x00 (popItem n it u))
        match unwrapRecord k.val it.data v with
        | .inl (st, w1) => advance who (ret who st (w32 w1) 0 v)
        | .inr (key, attr) =>
          let v := modSlot k.val (fun k => { k with key := key, attr := attr, occ := true, rev := false }) v
          advance who (ret who 0x00 (w32 (slot k.val v).gen) 0 v)) s) ∧
    (Issues who c 0x61 .condOnly s → SlotOpen who k.val (some 11) s → idx < 131072 → (roster idx s).use_ = 1 →
      Answers (.kderive who c wd ws k) who (fun u => match needKey idx k.val (roster idx s) u with
        | (.have_ i _ derived, v) =>
          advance who (ret who 0x00 (if derived then 0 else 1) (w32 (slot k.val v).gen) (setW who wd (w32 i) v))
        | (.revoked, v) => advance who (ret who 0x20 0 0 v)
        | (.full, v) => advance who (ret who 0x04 0xA1 0 v)) s) ∧
    (Issues who c 0x62 .custodian s → SlotOpen who k.val none s → x.occ = true →
      let p := fun (e : CacheE) => decide (e.slot = k.val ∧ e.pgen = x.gen)
      let hit := (s.sec.cache.filter (fun kv => kv.2.state = 1 && p kv.2)).map (·.2)
      Answers (.krevoke who c k) who (fun u => advance who (ret who 0x00 (w32 hit.length)
        (w32 (hit.filter (fun e => 0 < e.inuse)).length)
        (modSlot k.val (fun k => { k with key := 0, gen := nextGen k.gen, occ := false, rev := true }) (revokeEntries p u)))) s) ∧
    (Issues who c 0x62 .custodian s → SlotOpen who k.val none s → x.occ = false →
      GivesRegs (.krevoke who c k) who (withStatus who 0x04 0xA2 0 s) s) ∧
    (Issues who c 0x63 .condOnly s → SlotOpen who k.val none s →
      GivesRegs (.kquery who c wd k) who ((withW who wd x.attr s).status 0x00
        (w32 (x.gen + (if x.occ then 65536 else 0) + (if x.rev then 131072 else 0)))
        (w32 (children (fun e => e.slot = k.val && (0 < e.inuse || e.state = 2)) s))) s) ∧
    (Issues who c 0x66 .custodian s → SlotOpen who k.val none s →
      Answers (.kzero who c k) who (fun u => advance who (ret who 0x00 1
        (w32 (children (fun e => e.slot = k.val && e.state = 2) (kzeroOp k.val u))) (kzeroOp k.val u))) s) ∧
    (Issues who c 0x66 .custodian s → lcOpen s = true →
      Answers (.kzeroAll who c) who (fun u => advance who (ret who 0x00 8184
        (w32 (children (fun e => e.state = 2) (kzeroAllOp u))) (kzeroAllOp u))) s) ∧
    (lcOpen s = false →
      (Issues who c 0x60 .custodian s → GivesRegs (.kload who c k q) who (withStatus who 0x26 (w32 (lcState s)) 0 s) s) ∧
      (Issues who c 0x61 .condOnly s → GivesRegs (.kderive who c wd ws k) who (withStatus who 0x26 (w32 (lcState s)) 0 s) s) ∧
      (Issues who c 0x62 .custodian s → GivesRegs (.krevoke who c k) who (withStatus who 0x26 (w32 (lcState s)) 0 s) s) ∧
      (Issues who c 0x63 .condOnly s → GivesRegs (.kquery who c wd k) who (withStatus who 0x26 (w32 (lcState s)) 0 s) s) ∧
      (Issues who c 0x66 .custodian s → GivesRegs (.kzero who c k) who (withStatus who 0x26 (w32 (lcState s)) 0 s) s))

/-- The counters (04 R140, R141; 13 R438, R439) and the key cache (13 R431): CNTSET only raises a node's counters, the inbound form
making its digest none; CNTEXP starts an export that ends with its completion; a sweep visits every cache entry. -/
def Obligations.CounterCommands : Prop :=
  ∀ (who : Who) (c : Cond) (ws wc : Fin 16) (q : QRef) (k : Nat) (count : BitVec 13) (s : State),
    let idx := (getW who ws s).toNat
    let v := (getW who wc s).toNat
    let out := (roster idx s).outcnt
    let inl := (roster idx s).inl
    (Issues who c 0x64 .custodian s → lcOpen s = true → idx < 131072 → (roster idx s).use_ = 1 →
      Answers (.cntsetOut who c ws wc) who (fun u => advance who (ret who 0x00 (w32 (max out v)) (if out < v then 1 else 0)
        (modRoster idx (fun r => { r with outcnt := max out v }) u))) s ∧
      Answers (.cntsetIn who c ws wc) who (fun u => advance who (ret who 0x00 (w32 (max inl v)) (if inl < v then 1 else 0)
        (modRoster idx (fun r => { r with inl := max inl v, dvalid := false }) u))) s) ∧
    (Issues who c 0x64 .custodian s → lcOpen s = true → (131072 ≤ idx ∨ (roster idx s).use_ ≠ 1) →
      GivesRegs (.cntsetOut who c ws wc) who (withStatus who 0x02 1 (w32 idx) s) s ∧
      GivesRegs (.cntsetIn who c ws wc) who (withStatus who 0x02 1 (w32 idx) s) s) ∧
    (Issues who c 0x65 .condOnly s → lcOpen s = true → NamesQueue who q k s → idx < 131072 → 0 < count.toNat → count.toNat ≤ 4096 →
      idx + count.toNat ≤ 131072 → pendFull who s = false →
      Answers (.cntexp who c ws q count) who (fun u =>
        let v := startPending who 0x65 u
        advance who { v with sec := { v.sec with exports := v.sec.exports ++ [{
          world := worldOf who s, ticket := nextTicket who s, first := idx, count := count.toNat, q := k }] } }) s) ∧
    (alive s = true → BecomesThenRecord .cntexpComplete s (cntexpDone s)) ∧
    Becomes .cacheSweep s (sweepEntries (fun _ => true) s)

/-- SETP and GETP (02 R60-R66; 03 R113, R114): a SETP that passes the checks of R62 answers its parameter's rule and reports it
in w0 and w1; one of a parameter without a rule takes effect by its class; GETP reads the standing value, w1 telling of a
different one pending (an immediate, a next-start, a slot-latched and a sealed parameter are named); an unassigned id is
ST_RANGE with position 1. SETUP and its end (03 R116; 15 R509): the queue's head is handed to the parser; a block that passes
every check is applied item by item as SETP would apply it, the first check that fails, or an item refused as it is applied, is
reported by its offset. -/
def Obligations.ParametersAndSettings : Prop :=
  (∀ (who : Who) (c : Cond) (id : BitVec 12) (scope ws wd : Fin 16) (imm : Word) (d : ParamDef) (s : State),
     let v := if ws = 0 then imm else getW who ws s
     let k := id.toNat
     (Writes who c k scope.val v s → paramDef k = some d →
       SetsAs (.setp who c id scope ws imm) who (fun u => setpEffect who d k scope.val v u) s) ∧
     (Writes who c k scope.val v s → k = 0x0001 → Sets (.setp who c id scope ws imm) who (setPar k scope.val v) s) ∧
     (Writes who c k scope.val v s → k = 0x0011 → Sets (.setp who c id scope ws imm) who (setPar k scope.val v) s) ∧
     (Writes who c k scope.val v s → k = 0x0101 → Sets (.setp who c id scope ws imm) who (setPend k scope.val (some v)) s) ∧
     (Writes who c k scope.val v s → k = 0x0830 → Sets (.setp who c id scope ws imm) who (fun u =>
       { setPar k scope.val v u with par := { (setPar k scope.val v u).par with sealedDone := k :: u.par.sealedDone } }) s) ∧
     (Issues who c 0x81 .all s → paramDef k = some d → scopeFail d k scope.val = none → getpDenied who scope.val = false →
       GivesRegs (.getp who c wd id scope) who ((withW who wd (getpValue d k scope.val s) s).status 0x00
         (if pendDiffers k scope.val s then 1 else 0) 0) s) ∧
     (Issues who c 0x81 .all s → paramDef k = none → GivesRegs (.getp who c wd id scope) who (withStatus who 0x02 1 0 s) s) ∧
     (Issues who c 0x81 .all s → paramDef k = some d → scopeFail d k scope.val = none → getpDenied who scope.val = true →
       GivesRegs (.getp who c wd id scope) who (withStatus who 0x04 0xFF01 0x81 s) s)) ∧
  (∀ (who : Who) (c : Cond) (q : QRef) (k t off : Nat) (w : World) (it : Item) (s : State),
     (Issues who c 0x83 .condOnly s → NamesQueue who q k s →
       (s.host.setup = none → pendFull who s = false → popHead k s = some it →
         Answers (.setup who c q) who (fun u =>
           let v := popItem k it u
           let x := startPending who 0x83 v
           advance who { x with host := { x.host with
             setup := some (worldOf who s, nextTicket who s, it), setupBad := checkBlock (worldOf who s) it.data v } }) s) ∧
       (s.host.setup = none → pendFull who s = false → popHead k s = none →
         GivesRegs (.setup who c q) who (withStatus who 0x11 0 0 s) s) ∧
       (s.host.setup.isSome = true → GivesRegs (.setup who c q) who (withStatus who 0x04 0x60 0 s) s)) ∧
     (alive s = true → s.host.setup = some (w, t, it) →
       let v := retireHeld it 0 0x00 { s with host := { s.host with setup := none, setupBad := none } }
       let failed := fun (off : Nat) (u : State) => endPending (.ring w) t 0x83 0x39 (w32 off) 0 (partFailed u)
       (s.host.setupBad = some off → BecomesThenRecord .setupComplete s (failed off v)) ∧
       (s.host.setupBad = none → BecomesThenRecord .setupComplete s (match applyBlock w it.data v with
         | (none, u) => endPending (.ring w) t 0x83 0x00 0 0 (partApplied it.data u)
         | (some off, u) => failed off u))))

/-- The sequencer parameters (02 R46, R66, R69-R71): a start gives a fresh register set at the configured entry and window, a halt
by the host stops a sequencer that runs, a restart does both, a handover is armed for the next SLOT. -/
def Obligations.SequencerControl : Prop :=
  ∀ (who : Who) (c : Cond) (n : Fin 12) (s : State),
    let q := seq n s
    let window := par 0x0012 n.val s
    let entry := par 0x0011 n.val s
    (Writes who c 0x0010 n.val 1 s → q.state ≠ .running → q.state ≠ .blocked → (slice n s).offline = false →
      startable_ window.toNat entry.toNat = true →
      Sets (.seqStart who c n) who (fun u => modSlice n (fun x => { x with rxOff := false, lastQ := none })
        (modSeq n (fun q => { q with
          ctx := { q.ctx with regs := {}, halt := {} }
          state := .running, await := none, haltDue := 0, pc := entry.toNat % 65536
          winFirst := window.toNat % 256, winCount := window.toNat / 256 % 512
          wdogMark := u.time.elapsed }) u)) s) ∧
    (Writes who c 0x0010 n.val 1 s → (q.state = .running ∨ q.state = .blocked) →
      SetsAs (.seqStart who c n) who (fun u => (0x04, 1, u)) s) ∧
    (Writes who c 0x0010 n.val 2 s → (q.state = .running ∨ q.state = .blocked) →
      (inFeout n s = false → Sets (.seqHalt who c n) who (haltSlice n 8 0x00 0 false) s) ∧
      (inFeout n s = true → Sets (.seqHalt who c n) who (modSeq n (fun q => { q with haltDue := 2 })) s)) ∧
    (Writes who c 0x0010 n.val 2 s → q.state ≠ .running → q.state ≠ .blocked → Sets (.seqHalt who c n) who id s) ∧
    (Writes who c 0x0010 n.val 3 s → q.state ≠ .running → q.state ≠ .blocked → (slice n s).offline = false →
      startable_ window.toNat entry.toNat = true → Sets (.seqRestart who c n) who (startSeq n window entry) s) ∧
    (Writes who c 0x0010 n.val 3 s → (q.state = .running ∨ q.state = .blocked) → (slice n s).offline = false →
      startable_ window.toNat entry.toNat = true →
      (inFeout n s = false → Sets (.seqRestart who c n) who (fun u => startOwn n (haltSlice n 8 0x00 0 false u)) s) ∧
      (inFeout n s = true → Sets (.seqRestart who c n) who (modSeq n (fun q => { q with haltDue := 3 })) s)) ∧
    (Writes who c 0x0010 n.val 3 s → (slice n s).offline = false → startable_ window.toNat entry.toNat = false →
      SetsAs (.seqRestart who c n) who (fun u => (0x04, 2, u)) s) ∧
    (Writes who c 0x0015 n.val 1 s → startable_ (par 0x0014 n.val s).toNat (par 0x0013 n.val s).toNat = true →
      Sets (.seqHandover who c n true) who (modSeq n (fun q => { q with handover := true, rescan := false })) s) ∧
    (Writes who c 0x0015 n.val 0 s →
      Sets (.seqHandover who c n false) who (modSeq n (fun q => { q with handover := false, rescan := false })) s)

/-- The radio parameters with rules of their own (08 R262; 09 R290, R308): a staged profile is committed, invalidated or read back,
a staged segment is committed, cleared or read back, and an XIQ lane's enable starts its training or stops it. -/
def Obligations.ProfileAndPlanCommits : Prop :=
  ∀ (who : Who) (c : Cond) (idx : Fin 256) (dist : Bool) (n : Fin 12) (g : Fin 4) (bits : BitVec 3) (s : State),
    let k := idx.val + (if dist then 256 else 0)
    let x := slice n s
    let o := par 0x0403 n.val s
    (Writes who c 0x034F 15 (w32 k) s → profileOk (stagedProfile s) = true →
      Sets (.profCommitWrite who c idx dist) who (modProfile k (fun x => {
        cur := stagedProfile s, prev := if x.cur = [] then x.prev else x.cur, gen := (x.gen + 1) % 256 })) s) ∧
    (Writes who c 0x034F 15 (w32 k) s → profileOk (stagedProfile s) = false →
      SetsAs (.profCommitWrite who c idx dist) who (fun u => (0x02, 2, u)) s) ∧
    (Writes who c 0x034F 15 (w32 (k + 4096)) s →
      Sets (.profCommitInvalidate who c idx dist) who
        (modProfile k (fun x => { cur := [], prev := [], gen := (x.gen + 1) % 256 })) s) ∧
    (Writes who c 0x034F 15 (w32 (k + 8192)) s →
      Sets (.profCommitRead who c idx dist) who (fun u =>
        let ws := (Tbl.get {} s.modem.profiles k).cur
        let u := (List.range 10).foldl (fun u j => setPar (0x340 + j) 15 (ws.getD j 0) u) u
        { u with modem := { u.modem with last := k } }) s) ∧
    (Writes who c 0x045F n.val (w32 g.val) s → segOk n g (stagedSeg n s) s = true → x.tuned ≠ some g →
      Sets (.segCommitWrite who c n g) who (fun u => setPar 0x045F n.val (w32 g.val)
        (modSlice n (fun x => { x with plan := x.plan.set g (stagedSeg n s) }) u)) s) ∧
    (Writes who c 0x045F n.val (w32 g.val) s → segOk n g (stagedSeg n s) s = false →
      SetsAs (.segCommitWrite who c n g) who (fun u => (0x02, 2, u)) s) ∧
    (Writes who c 0x045F n.val (w32 (g.val + 256)) s → x.tuned ≠ some g →
      Sets (.segCommitClear who c n g) who (fun u => setPar 0x045F n.val (w32 (g.val + 256))
        (modSlice n (fun x => { x with plan := x.plan.set g {} }) u)) s) ∧
    (Writes who c 0x045F n.val (w32 (g.val + 512)) s →
      Sets (.segCommitRead who c n g) who (fun u => setPar 0x045F n.val (w32 (g.val + 512))
        ((List.range 18).foldl (fun u j => setPar (0x0440 + j) n.val ((x.plan[g]).words.getD j 0) u) u)) s) ∧
    (Writes who c 0x0403 n.val (w32 (1 + 2 * bits.toNat)) s → o.getLsbD 0 = false → (o.toNat / 2 % 8 = bits.toNat) →
      Sets (.xiqEnable who c n bits) who (fun u => modSlice n (fun x => { x with
        xiq := 1, xiqSince := u.time.elapsed, xiqGood := 0, xiqBad := [] }) (setPar 0x0403 n.val (w32 (1 + 2 * bits.toNat)) u)) s) ∧
    (Writes who c 0x0403 n.val (w32 (2 * bits.toNat)) s → o.getLsbD 0 = true → (o.toNat / 2 % 8 = bits.toNat) →
      Sets (.xiqDisable who c n bits) who (fun u => modSlice n (fun x => { x with
        xiq := 0, xiqSince := u.time.elapsed, xiqGood := 0, xiqBad := [] }) (setPar 0x0403 n.val (w32 (2 * bits.toNat)) u)) s)

/-- The security parameters (13 R416, R417, R441-R445; 14 R476; 07 R251; 16 R534, R537; 17 R574): the life cycle advances, a lock is
acknowledged by its number, the tamper controls and records, the group floors that only rise, the backup status, the silence
timeout, a standby's claim, a relay of staged words, and a restart that follows its record. -/
def Obligations.SystemParameters : Prop :=
  ∀ (who : Who) (c : Cond) (v : Word) (dist : Bool) (p : Fin 8) (cnt : Fin 4) (l : Fin 6) (s : State),
    (Writes who c 0x0701 15 2 s → s.sec.locked = false → s.sec.fused = 1 → burnLow s = false →
      Sets (.lcAdvanceDeploy who c) who (fun u => { u with sec := { u.sec with fused := 2 } }) s) ∧
    (Writes who c 0x0701 15 4 s → s.sec.locked = false → (s.sec.fused = 1 ∨ s.sec.fused = 2) → burnLow s = false →
      Sets (.lcAdvanceReturn who c) who (fun u => deriveDevice (zeroVault { u with sec := { u.sec with fused := 4 } })) s) ∧
    (Writes who c 0x0703 15 v s → s.sec.locked = true → v.toNat = s.sec.lockId →
      Sets (.lockAck who c v) who (fun u =>
        let u := stopRings .custodian (stopRings .operator u)
        keysAndBootsel { u with
          sec := { u.sec with locked := false, lockId := 0 }
          host := { u.host with hifMin := 0, hifMax := 0 }
          cond := { u.cond with record := none, await := none } }) s) ∧
    (Writes who c 0x0703 15 v s → (s.sec.locked = false ∨ v.toNat ≠ s.sec.lockId) →
      SetsAs (.lockAck who c v) who (fun u => (0x04, 0x74, u)) s) ∧
    (Writes who c 0x0704 15 v s → lcState s ≠ 2 →
      Sets (.tampCtrlWrite who c v) who (fun u => { u with sec := { u.sec with tampCtrl := v } }) s) ∧
    (Writes who c 0x0709 15 1 s →
      Sets (.tampClear who c) who (fun u => { u with sec := { u.sec with
        tampRec0 := 0, tampRec1 := 0, tampRec2 := 0, tampRec3 := 0 } }) s) ∧
    (Writes who c (if dist then 0x0736 else 0x0735) 15 v s →
      Sets (.grpFloorRaise who c dist v) who (fun u => let u := setPar (if dist then 0x0736 else 0x0735) 15 v u
        { u with sec := { u.sec with grp := upd u.sec.grp (if dist then 1 else 0) (fun c => max c v.toNat) } }) s) ∧
    (Writes who c 0x0909 15 1 s →
      Sets (.bkpStatusClear who c) who (fun u => { u with pw := { u.pw with integ := false, why := 0 } }) s) ∧
    (Writes who c 0x0A40 15 v s → s.host.silent = true →
      Sets (.silentTimeoutChange who c v) who (setPar 0x0A40 15 v) s) ∧
    (Writes who c 0x0B35 15 1 s → s.twin.role = 2 → s.twin.roleIn = false →
      s.twin.roleInAt + cpar 0x0B31 s * 1000 ≤ s.time.elapsed → peerActive s = false →
      Sets (.activate who c) who (fun u => withDraw 4294967296 u fun d u =>
        { u with twin := { u.twin with claim := some d, claimAt := u.time.elapsed, peerClaim := none } }) s) ∧
    (Writes who c 0x0B1F 15 (w32 (p.val + 16 * cnt.val)) s → cnt ≠ 0 → p.val ≠ ownPos s → s.cas.known.getLsbD p.val = true →
      s.cas.relay = none → route p.val s = some l → (link l s).ver ≠ 1 →
      Sets (.relayGo who c p cnt) who (fun u => sendMsg {
          kind := 3, dest := p.val, src := ownPos s, m1 := w32 cnt.val, m2 := if worldOf who s = .operator then 0 else 1
          more := (List.range (2 * cnt.val)).map (fun k => par (0x0B19 + k) 15 s) }
        { u with cas := { u.cas with relay := some { pos := p.val, world := worldOf who s, at_ := u.time.elapsed } } }) s) ∧
    (Writes who c 0x0036 15 1 s →
      Sets (.bootRestart who c) who (fun u => { u with boot := { u.boot with restartDue := true } }) s)

/-- The calendar clock's parameters and events (05 R176-R184): commits of a time, a date or both, the alarm armed and disarmed,
the acknowledgement of a transfer, the tick of the second, the trim window, the crystal. The calendar clock's own events (05
R176-R187): the second that the prescaler completes ticks and may fire the alarm, what is on its way to the backup domain is
acknowledged and what waited is sent, the trim in use follows the staged one as a window begins, the crystal's stop unsets the
clock and its restart counts from what the clock then holds. -/
def Obligations.CalendarClock : Prop :=
  (∀ (who : Who) (c : Cond) (s : State),
     let tw := par 0x0820 15 s
     let dw := par 0x0821 15 s
     let n := rtcOf tw dw
     let al := s.rtc.alarmSet
     let a := rtcOf al.time al.date
     (Writes who c 0x0822 15 1 s → n.timeOk = true → s.rtc.inflight = false →
       Sets (.rtcCommitTime who c) who (rtcTransfer true false tw dw) s) ∧
     (Writes who c 0x0822 15 2 s → n.dateOk = true → wdayOf dw ≤ 6 → s.rtc.inflight = false →
       Sets (.rtcCommitDate who c) who (rtcTransfer false true tw dw) s) ∧
     (Writes who c 0x0822 15 3 s → n.timeOk = true → n.dateOk = true → wdayOf dw ≤ 6 → s.rtc.inflight = false →
       Sets (.rtcCommitBoth who c) who (rtcTransfer true true tw dw) s) ∧
     (Writes who c 0x0822 15 1 s → n.timeOk = false → SetsAs (.rtcCommitTime who c) who (fun u => (0x02, 2, u)) s) ∧
     (Writes who c 0x0822 15 1 s → n.timeOk = true → s.rtc.inflight = true →
       Sets (.rtcCommitTime who c) who
         (fun u => setXovr 15 { u with rtc := { u.rtc with staged := some (true, false, tw, dw) } }) s) ∧
     (Writes who c 0x0828 15 1 s → a.timeOk = true → a.dateOk = true → s.rtc.set_ = true →
       (s.rtc.alarmBusy = false → Sets (.rtcAlarmArm who c) who (alarmSent { al with arm := some true }) s) ∧
       (s.rtc.alarmBusy = true → Sets (.rtcAlarmArm who c) who
         (fun u => setXovr 15 { u with rtc := { u.rtc with alarmStaged := some { al with arm := some true } } }) s)) ∧
     (Writes who c 0x0828 15 1 s → (a.timeOk = false ∨ a.dateOk = false) →
       SetsAs (.rtcAlarmArm who c) who (fun u => (0x02, 2, u)) s) ∧
     (Writes who c 0x0828 15 1 s → a.timeOk = true → a.dateOk = true → s.rtc.set_ = false →
       SetsAs (.rtcAlarmArm who c) who (fun u => (0x04, 0x14, u)) s) ∧
     (Writes who c 0x0828 15 0 s → s.rtc.alarmBusy = false →
       Sets (.rtcAlarmDisarm who c) who (alarmSent { al with arm := some false }) s)) ∧
  (∀ (tw dw : Word) (t : Int) (a : AlarmSet) (s : State),
     let d := s.rtc.secondPulses
     let sec := reachPulse d s
     let nx := s.rtc.t.succ
     let r := s.rtc.rebase d 32768 sec.time.elapsed
     let ticked := { sec with rtc := { r with
       t := nx.1, wday := if nx.2.1 then (s.rtc.wday + 1) % 7 else s.rtc.wday, wrapped := s.rtc.wrapped || nx.2.2 } }
     let e := 1048576 - s.rtc.winP
     let win := reachPulse e s
     let off := reachElapsed (s.time.elapsed + 2000000) s
     let acked := { s with rtc := s.rtc.crossLost }
     (s.rtc.crystalOff = false → s.rtc.armed = false → BecomesThenRecord .rtcSecond s ticked) ∧
     (s.rtc.crystalOff = false → s.rtc.armed = true → s.rtc.alarm.key ≤ nx.1.key →
       BecomesThenRecord .rtcSecond s (fireAlarm 0x00 false ticked)) ∧
     (s.rtc.trimStaged = none → s.rtc.alarmStaged = none →
       (s.rtc.staged = none → BecomesThenRecord .rtcCommitAck s acked) ∧
       (s.rtc.staged = some (true, false, tw, dw) → BecomesThenRecord .rtcCommitAck s (rtcTransfer true false tw dw acked))) ∧
     (s.rtc.trimStaged = some t → s.rtc.alarmStaged = some a → s.rtc.staged = none →
       BecomesThenRecord .rtcCommitAck s (alarmSent a (trimSent t acked))) ∧
     (s.rtc.crystalOff = false →
       Becomes .rtcTrimWindow s { win with rtc := { s.rtc.rebase e 0 win.time.elapsed with
         trim := s.rtc.trimNew, trimpend := false, winP := 0 } } ∧
       Becomes .crystalStop s { off with rtc := { s.rtc.unset with stopped := true, crystalOff := true, t := {}, wday := 0 } }) ∧
     (s.rtc.crystalOff = true →
       BecomesThenRecord .rtcSecond s s ∧
       Becomes .crystalRestart s { s with rtc := { s.rtc with crystalOff := false, secAt := s.time.elapsed, presc := 0, winP := 0 } }))

/-- CLKSEL, PMODE, REST and WAKEON (04 R143-R147; 14 R449-R452): the RC and the PLL, the three answers of PMODE, REST's first
refusal and its entry, and the wake mask, whose tamper bit stays set. -/
def Obligations.PowerInstructions : Prop :=
  ∀ (who : Who) (c : Cond) (ws : Fin 16) (mask : BitVec 16) (m : Fin 8) (id reason : Nat) (s : State),
    let v := if ws = 0 then mask.toNat else (getW who ws s).toNat
    (Issues who c 0x70 .condOnly s → anyRunning s = false → airArmed s = false →
      Answers (.clksel who c 0) who (fun u => advance who (ret who 0x00 0 0 { u with pw := { u.pw with pll := false } })) s) ∧
    (Issues who c 0x70 .condOnly s → s.time.refQual = true →
      Answers (.clksel who c 1) who (fun u => advance who (clkPll u fun v u => match v with
        | some v => ret who 0x00 1 (w32 v) u
        | none => ret who 0x03 0 0 u)) s) ∧
    (Issues who c 0x71 .condOnly s → m.val ≤ 5 → m.val = s.pw.mode → s.pw.degraded = false →
      GivesRegs (.pmode who c m) who (withStatus who 0x00 (w32 s.pw.mode) (armedDetail s) s) s) ∧
    (Issues who c 0x71 .condOnly s → m.val ≤ 2 → m.val ≠ s.pw.mode → pmodeAllowed m.val s = true →
      Answers (.pmode who c m) who (fun u => advance who (ret who 0x00 (w32 s.pw.mode) (w32 m.val)
        { u with pw := { u.pw with armedMode := m.val } })) s) ∧
    (Issues who c 0x71 .condOnly s → 3 ≤ m.val → m.val ≤ 5 → m.val ≠ s.pw.mode → pmodeAllowed m.val s = true →
      s.pw.pmodeTo = none → pendFull who s = false →
      Answers (.pmode who c m) who (fun u =>
        let u := { u with pw := { u.pw with pmodeTo := some (m.val, worldOf who s, nextTicket who s) } }
        advance who (startPending who 0x71 (if m = 5 ∨ s.time.refQual = true then u else startRef u))) s) ∧
    (Issues who c 0x72 .condOnly s → s.pw.armedMode ≠ 7 → anyPending s = false →
      (s.pw.armedMode = 0 ∨ s.pw.wakeMask &&& 0x7F ≠ 0) → firstRefusal s = none →
      Answers (.rest who c) who (dmaInFlight fun busy u =>
        if busy then advance who (ret who 0x05 0x30 3 (bump 0x0923 u))
        else block who .rest { u with pw := { u.pw with
          entering := true, frozen := true, restWaits := true, restMode := u.pw.mode, restPll := u.pw.pll
          onSlices := Vector.ofFn (fun (n : Fin 12) => !(slice n u).off), asleepAt := u.time.elapsed } }) s) ∧
    (Issues who c 0x72 .condOnly s → s.pw.armedMode ≠ 7 → anyPending s = false →
      (s.pw.armedMode = 0 ∨ s.pw.wakeMask &&& 0x7F ≠ 0) → firstRefusal s = some (id, reason) →
      Answers (.rest who c) who (fun u => advance who (ret who 0x05 (w32 id) (w32 reason) (bump 0x0923 u))) s) ∧
    (Issues who c 0x73 .condOnly s → v < 256 →
      let k : BitVec 16 := BitVec.ofNat 16 v ||| 0x80
      Answers (.wakeon who c ws mask) who (fun u => advance who (ret who 0x00 (w32 s.pw.wakeMask.toNat) (w32 k.toNat)
        { u with pw := { u.pw with wakeMask := k } })) s)

/-- The reference and the moves between run modes (04 R143; 05 R155, R156; 14 R449, R460, R462): the reference qualifies, is
verified by its count or lost, a pending move completes with the mode reached. -/
def Obligations.ReferenceEvents : Prop :=
  ∀ (m : Nat) (w : World) (t n : Nat) (x : WakeRun) (ok_ : Bool) (s : State),
    (alive s = true → s.pw.pmodeTo = some (5, w, t) →
      BecomesThenRecord (.pmodeComplete ok_) s
        (let u := sliceIdx.foldl (fun u n => stopAir n 0xB0 false u) { s with pw := { s.pw with pmodeTo := none } }
         let u := { u with pw := { u.pw with mode := 5, listenCap := 64 } }
         endPending (.ring w) t 0x71 0x00 (w32 u.pw.mode) (armedDetail u) u)) ∧
    (alive s = true → s.pw.pmodeTo = some (m, w, t) → m ≠ 5 → s.time.refQual = false →
      BecomesThenRecord (.pmodeComplete false) s
        (let u := { s with pw := { s.pw with pmodeTo := none }, time := { s.time with refStarted := false } }
         endPending (.ring w) t 0x71 0x07 0 0 (reachElapsed (s.time.elapsed + 10000000) u))) ∧
    (s.time.coreOn = true → s.time.refQual = false → s.time.refStarted = true → refKindRight s = true → s.health.chipFault = 0 →
      (s.pw.wake = some x → x.step = 4 → BecomesThenRecord .referenceQualified s (wakeDone x s)) ∧
      (s.pw.wake = none → s.pw.pmodeTo = none → BecomesThenRecord .referenceQualified s (degradedLeave (qualifyRef s)))) ∧
    (s.time.coreOn = true → s.time.refQual = true → s.rtc.set_ = true → s.rtc.crystalOff = false →
      (78109 ≤ n → n ≤ 78141 →
        BecomesThenRecord (.referenceCount n) s { s with time := { s.time with refUnver := false } }) ∧
      ((n < 78109 ∨ 78141 < n) → BecomesThenRecord (.referenceCount n) s (degradedEnter s))) ∧
    (s.time.coreOn = true → s.time.refQual = true →
      BecomesThenRecord .referenceEdgeLost s (degradedEnter (reachElapsed (s.time.elapsed + 200) s))) ∧
    (s.pw.degraded = true → cpar 0x0904 s ≠ 0 → s.pw.wake = none → s.pw.pmodeTo = none → s.time.coreOn = true →
      (refKindRight (startRef s) = true → BecomesThenRecord (.refRetry true) s (degradedLeave (qualifyRef (startRef s)))) ∧
      BecomesThenRecord (.refRetry false) s
        (let u := startRef s
         reachElapsed (s.time.elapsed + 5000000) { u with time := { u.time with refStarted := false } }))

/-- Sleeping and waking (14 R452, R457-R465): an enabled source begins a wake, Doze's timer begins one for a marked slot, the
regulator and the reference are waited for, a step's timeout is restarted once before the wake fails, a slot wake ends by a return
to sleep, a hot die keeps the regulator in normal mode. -/
def Obligations.WakeEvents : Prop :=
  ∀ (src : Fin 8) (x : WakeRun) (a b t : Nat) (temp : Int) (s : State),
    ((s.pw.wakeMask.getLsbD src.val = true ∨ src = 7) → src ≠ 1 → s.pw.restWaits = true → s.pw.entering = false →
      s.pw.slotAwake = false → s.pw.wake = none → s.pw.asleep = true → s.pw.mode ≠ 0 → sourceHeld src.val s = false →
      BecomesThenRecord (.wakeSource src) s { s with pw := { s.pw with
        wake := some { step := 2, since := s.time.elapsed, src := src.val, slot := false } } }) ∧
    (s.pw.entering = false → s.pw.timerAt = some t → s.pw.asleep = true → s.pw.mode = 2 → s.pw.wake = none →
      tbCanReach t s = true →
      let u := gridCatchUp (reachTb t s)
      (s.pw.timerSlot = none → BecomesThenRecord .dozeWakeTimer s (setTimer u.grid.nextAsn u)) ∧
      (s.pw.timerSlot = some (a, b) → s.pw.wakeMask.getLsbD 1 = true → s.pw.fails < 3 →
        BecomesThenRecord .dozeWakeTimer s (beginWake 1 true u))) ∧
    (s.pw.wake = some x → x.step = 2 →
      Becomes .regulatorReady s (postDue (startRef { s with
        pw := { s.pw with
          asleep := false, lowPower := false, wake := some { x with step := 4, since := s.time.elapsed, retried := false } }
        time := { s.time with coreOn := true } })) ∧
      let u := reachElapsed (x.since + 1000000) s
      (x.retried = false → BecomesThenRecord .regulatorTimeout s
        { u with pw := { s.pw with wake := some { x with retried := true, since := u.time.elapsed } } }) ∧
      (x.retried = true → BecomesThenRecord .regulatorTimeout s (wakeFailed x u))) ∧
    (s.pw.wake = some x → x.step = 4 →
      let u := reachElapsed (x.since + 5000000) s
      (x.retried = false → BecomesThenRecord .referenceTimeout s
        { u with pw := { s.pw with wake := some { x with retried := true, since := u.time.elapsed } } }) ∧
      (x.retried = true → BecomesThenRecord .referenceTimeout s (wakeFailed x u))) ∧
    (mayReturn s = true → (setTimer s.grid.nextAsn s).pw.timerAt = some t → tbNs s + cpar 0x0903 s * 1000 ≤ t →
      Becomes .returnToSleep s (coreStops s)) ∧
    (s.pw.entering = false → s.pw.asleep = true → s.pw.mode ≠ 0 →
      Becomes (.dieTempMeasure temp) s (hotDie { s with pw := { s.pw with dieTemp := temp } }))

/-- Supplies and resets (13 R441; 14 R465-R477; 19 R584): brown-outs and overloads reset what they reset, the inhibit and
the measurements, the backup domain's supply, its power-up and its integrity check, a tamper event, PWRON, main power-up, and an
I/O supply inside its ranges. -/
def Obligations.SupplyEvents : Prop :=
  ∀ (mv : Nat) (crc can : Bool) (st : Straps) (bank : Fin 4) (inp : Fin 2) (s : State),
    (s.pw.entering = false → s.pw.lowPower = true → s.pw.asleep = true → s.pw.mode ≠ 0 →
      Becomes .lpOverload s (modWhost .operator (fun h => { h with lpovl := true })
        (modWhost .custodian (fun h => { h with lpovl := true }) (coreReset 3 (reachElapsed (s.time.elapsed + 30000) s))))) ∧
    (mainOn s = true → Becomes .coreBrownOut s (coreReset 2 (reachElapsed (s.time.elapsed + 20000) s))) ∧
    (inBackup s = false → s.pw.entering = false → Becomes .mainBrownOut s
      { powerLost s with
        time := { (powerLost s).time with coreOn := false }
        pw := { (powerLost s).pw with mode := 5, asleep := false } }) ∧
    (s.pw.nvInhibit = false → mv < 3050 → mainOn s = true → s.time.coreOn = true →
      Becomes (.nvInhibitEnter mv) s
        (notify 0x0901 0 0x3B blkPower (bump 0x0925 { s with pw := { s.pw with nvInhibit := true, vin := mv } }))) ∧
    (s.pw.nvInhibit = true → 3100 < mv →
      let u := { s with pw := { s.pw with nvInhibit := false, vin := mv } }
      (s.boot.phase ≠ 1 → Becomes (.nvInhibitRelease mv) s u) ∧ (s.boot.phase = 1 → Becomes (.nvInhibitRelease mv) s (decideRecord u))) ∧
    (s.time.coreOn = true → Becomes (.vinMeasure mv) s { s with pw := { s.pw with vin := mv } }) ∧
    Becomes .backupSwitchToVbat s { s with pw := { s.pw with onVin := false } } ∧
    (s.pw.onVin = false → Becomes (.backupSwitchToVin crc can) s (integrityCheck crc can { s with pw := { s.pw with onVin := true } })) ∧
    (s.pw.entering = false → inBackup s = true → s.pw.asserted = 0 →
      let u := reachElapsed (s.time.elapsed + cpar 0x0906 s * 1000000) s
      Becomes .pwronDelay s { u with pw := { u.pw with pwron := false } }) ∧
    Becomes (.vbatMeasure mv) s { s with pw := { s.pw with vbatLow := mv < 2200 } } ∧
    Becomes .backupDomainPowerUp s { s with
      rtc := { secAt := s.time.elapsed }
      sec := { s.sec with
        tampCtrl := 0x4F, tampRec0 := 0, tampRec1 := 0, tampRec2 := 0, tampRec3 := 0, locked := false, lockId := 0
        tampActive := Vector.replicate 2 false, tampNotes := [] }
      pw := { s.pw with
        onVin := false, integ := false, part := 0, pwron := true, bkpWake := false, why := 0, vbatLow := false
        asserted := 0, bkpRegs := Vector.replicate 4 0, canary := 0xA55A3CC3, integNote := 0 } } ∧
    (s.pw.entering = false → mainOn s = false → (inBackup s = false ∨ s.pw.pwron = true) →
      let u := integrityCheck crc can (powerLost s)
      let why := if u.pw.asserted = 0 then s.pw.asserted else u.pw.asserted
      let u := rtcDefaults u
      Becomes (.mainPowerUp st crc can) s (coreStarts { u with
        straps := st
        pw := { u.pw with
          bkpWake := why ≠ 0, why := if why ≠ 0 then why else u.pw.why, asserted := 0, lastReset := if why ≠ 0 then 1 else 0 }
        time := { u.time with coreOn := true } })) ∧
    (mv ≤ 1890 ∨ (3000 ≤ mv ∧ mv ≤ 3600) →
      Becomes (.vioRangeChange bank mv) s { s with pw := { s.pw with vio := s.pw.vio.set bank mv } }) ∧
    (s.sec.tampCtrl.getLsbD inp.val = true → s.sec.tampActive[inp] = false → BecomesThenRecord (.tamperEvent inp) s (tamper inp s)) ∧
    Becomes (.tamperInputInactive inp) s { s with sec := { s.sec with tampActive := s.sec.tampActive.set inp false } }

/-- The records of the command rings (02 R43-R52; 15 R495, R496; 16 R534): an instruction record opens and its words run, or fails its check when a word of the ring is in error, a load
record writes program or schedule memory and completes, a malformed one completes with ST_RANGE and its check, a relayed record
opens, a record that exceeds COND.CMD_LIMIT is abandoned, a silent sequencer is halted by its watchdog. -/
def Obligations.CommandRecords : Prop :=
  ∀ (w : World) (tag : BitVec 32) (words : List (BitVec 64)) (ws : List Word) (start : BitVec 16) (addr : BitVec 18)
    (kind : BitVec 8) (chk : Fin 5) (sl : Fin 12) (r : Record) (errs : List MemErr) (s : State),
    let m := s.twin.mirNext
    let u := tookRecord w s
    let n := words.length
    (let v := meetErrors errs s
     canTake w v = true → 1 ≤ n → n ≤ 3 → ringFails errs = false → Becomes (.instructionRecord w tag words errs) s
       (openRecord {
           world := w, fromRing := !v.twin.mirNext, tag := tag, words := words, startedAt := v.time.elapsed,
           mirrored := v.twin.mirNext } (tookRecord w v))) ∧
    (canTake w s = true → 1 ≤ n → n ≤ 4096 → start.toNat + n ≤ 65536 → loadRefusal m u = none →
      touchesRunning start.toNat n u = false →
      Becomes (.programLoadRecord w tag start words) s (closeRecord w m 2 tag 0x00 n (loadProgram start.toNat words u))) ∧
    (canTake w s = true → 1 ≤ n → n ≤ 4096 → start.toNat + n ≤ 65536 → loadRefusal m u = none →
      touchesRunning start.toNat n u = true →
      Becomes (.programLoadRecord w tag start words) s (closeRecord w m 2 tag 0x04 0xFF05 u)) ∧
    (canTake w s = true → 1 ≤ ws.length → ws.length ≤ 16384 → addr.toNat + ws.length ≤ 262144 → loadRefusal m u = none →
      Becomes (.scheduleLoadRecord w tag addr ws) s (closeRecord w m 3 tag 0x00 ws.length
        ((ws.zipIdx).foldl (fun u wk => setSchedWord (addr.toNat + wk.2) wk.1 u) u))) ∧
    (canTake w s = true → Becomes (.malformedRecord w tag kind chk) s (badRecord w m kind.toNat tag (0x101 + chk.val) u)) ∧
    (alive s = true → s.cond.record = none → s.cond.await = none → 1 ≤ n → n ≤ 3 → cpar 0x0B18 s ≠ 0 →
      Becomes (.relayedRecord w words) s (openRecord {
          world := w, posts := false, words := words, relayed := true, startedAt := s.time.elapsed, mirrored := m }
        { s with twin := { s.twin with mirNext := false } })) ∧
    (s.cond.record = some r → limitRuns s = true → recordBusy r s = true → (∀ d, s.cond.await ≠ some (.yield d)) →
      let u := reachElapsed (r.startedAt + cpar 0x0001 s * 1000 + r.asleep) s
      Becomes .recordTimeout s (restartIfDue (endRecord 0
        (ret (.ring r.world) 0x03 (w32 r.executed) (w32 (if r.routine then r.pc else 0)) { u with cond := { u.cond with await := none } })))) ∧
    (spar 0x0016 sl s ≠ 0 → alive s = true → seqLive sl s = true →
      Becomes (.seqWatchdog sl) s
        (haltSlice sl 7 0x03 0 false (reachElapsed ((seq sl s).wdogMark + spar 0x0016 sl s * 1000) s))) ∧
    (let v := meetErrors errs s
     canTake w v = true → ringFails errs = true → Becomes (.instructionRecord w tag words errs) s
       (badRecord w v.twin.mirNext 1 tag 0x105 (tookRecord w v)))

/-- Start-up and the trial of an image (17 R558-R567): the release of the core's reset runs Trailhead, its waits end at their
instants, the image is confirmed, rejected or read, and a trial window that expires requests the fallback image. -/
def Obligations.StartAndTrial : Prop :=
  ∀ (who : Who) (c : Cond) (wd : Fin 16) (fl st ac fb : Bool) (s : State),
    (s.boot.phase = 0 → s.time.coreOn = true → bankOn 3 s = true → s.straps.test = false →
      Becomes (.coreResetRelease fl st ac fb) s
        (trailhead { s with boot := { s.boot with flash := fl, okA := ac, okF := fb, okS := st } })) ∧
    (s.boot.phase = 2 → s.boot.svcOpen = false →
      Becomes .recoveryListenTimeout s (readFlash (reachElapsed (s.boot.svcAt + 10000000000) s))) ∧
    (s.boot.phase = 1 → Becomes .recordInhibitWait s (startUnwritten (reachElapsed (s.time.elapsed + 5000000000) s))) ∧
    (s.boot.trial = true → s.boot.phase = 6 → s.time.coreOn = true →
      let u := confirmDone (reachElapsed (s.boot.trialFrom + trialNs s) s)
      ((u.boot.trial = false ∨ u.boot.phase ≠ 6) → BecomesThenRecord .trialWindowExpiry s u) ∧
      (u.boot.trial = true → u.boot.phase = 6 →
        BecomesThenRecord .trialWindowExpiry s (requestFallback (if u.host.settingsBad then 1 else 2) u))) ∧
    (Issues who c 0x86 .condOnly s →
      (s.boot.trial = true → pendFull who s = false → s.host.setupDone = true →
        Answers (.confirmImage who c wd) who (fun u => advance who (startPending who 0x86
          { u with boot := { u.boot with confirming := u.boot.confirming ++ [(worldOf who s, nextTicket who s, false)] } })) s) ∧
      (s.boot.trial = true → pendFull who s = false → s.host.setupDone = false →
        GivesRegs (.confirmImage who c wd) who (withStatus who 0x39 0 0 s) s) ∧
      (s.boot.trial = false → GivesRegs (.confirmImage who c wd) who (withStatus who 0x04 0x70 0 s) s ∧
        GivesRegs (.confirmReject who c wd) who (withStatus who 0x04 0x70 0 s) s) ∧
      (s.boot.trial = true → pendFull who s = false →
        Answers (.confirmReject who c wd) who (fun u => advance who (startPending who 0x86
          { u with boot := { u.boot with confirming := u.boot.confirming ++ [(worldOf who s, nextTicket who s, true)] } })) s) ∧
      GivesRegs (.confirmRead who c wd) who ((withW who wd (if s.boot.trial then 1 else if s.boot.confirmed then 2 else 0) s).status 0x00
        (w32 (if s.boot.trial then (s.boot.trialFrom + trialNs s - s.time.elapsed) / 1000000000 else 0)) 0) s) ∧
    (alive s = true → s.boot.confirming ≠ [] → BecomesThenRecord .confirmComplete s (confirmDone s))

/-- The service port (17 R568-R573): in a served port that no tamper event has aborted, every request is answered and takes its
effect, a write of the flash as far as the flash takes it; damaged frames are counted, an idle session closes, the rate follows HELLO, SVC_CTS holds the responses back. -/
def Obligations.ServicePort : Prop :=
  ∀ (sq lo hi baud : BitVec 8) (h : ImgHdr) (off b : Nat) (body : List Byte) (rs : Bool) (s : State),
    let on : State := { s with boot := { s.boot with svcAt := s.time.elapsed, svcSwitched := false } }
    (bankOn 1 s = true → s.pw.entering = false → s.pw.asleep = false → svcServed s = true → s.boot.svcAbort = false →
      (lo.toNat ≤ 2 → 2 ≤ hi.toNat → baud.toNat ≤ 3 →
        let rate := if s.rtc.crystalOff && !s.time.refQual then 0 else baud.toNat
        BecomesThenRecord (.svcHello sq lo hi baud) s (respond 0x01 sq 0x00 0 [2, BitVec.ofNat 8 rate]
          { on with boot := { on.boot with svcOpen := true, svcVer := 2, svcSwitch := some rate } })) ∧
      ((1 < lo.toNat ∨ hi.toNat < 1) → (2 < lo.toNat ∨ hi.toNat < 2) →
        BecomesThenRecord (.svcHello sq lo hi baud) s (respond 0x01 sq 0x38 0 [] (closeSession on))) ∧
      BecomesThenRecord (.svcInfo sq) s (respond 0x02 sq 0x00 0 (leOctets 8 (0xB08832 + s.straps.caspos.val * 2 ^ 28 +
          bitAt s.straps.twinen 31 + bitAt s.straps.master 32 + s.straps.bootsel.val * 2 ^ 33) ++ leOctets 1 (lcState s) ++
        leOctets 4 (bootState s) ++ leOctets 4 (bootRec s).verA.toNat ++ leOctets 4 (bootRec s).verF.toNat ++
        leOctets 4 (bootRec s).verS.toNat ++ (match s.sec.updKey with
          | some d => (Config.ecPub d ++ List.replicate 64 0).take 64
          | none => List.replicate 64 0)) on) ∧
      (svcFull s = true →
        (lcState s ≠ 0 → lcState s ≠ 3 → s.boot.trial = false → headerCheck h s = (0x00, 0) → s.pw.nvInhibit = false →
          let r := andThen (fun u => (0x00, { u with boot := { u.boot with
              svcOpen := true, svcStage := true, svcHdr := h, svcBody := [], svcLast := none, staging := none } }))
            (writeRec (fun r => { r with staging := 1 }) on)
          BecomesThenRecord (.svcBegin sq h) s (respond 0x03 sq r.1 0 [] r.2)) ∧
        (body.length ≤ 1024 → s.pw.nvInhibit = false → s.boot.svcStage = true → off = s.boot.svcBody.length →
          off + body.length ≤ s.boot.svcHdr.bodyLen →
          let r := flashOp (fun u => { u with boot := { u.boot with
            svcBody := u.boot.svcBody ++ body, svcLast := some (off, body.length) } }) on
          BecomesThenRecord (.svcData sq off body) s (respond 0x04 sq r.1 0 (leOctets 4 r.2.boot.svcBody.length) r.2)) ∧
        (s.pw.nvInhibit = false → s.boot.svcStage = true → s.boot.svcBody.length = s.boot.svcHdr.bodyLen →
          BecomesThenRecord (.svcEnd sq false) s (match openTransit on with
            | some pt =>
              let told := fun (u : State) =>
                (0x00, notify 0x0032 0 0x00 blkHousekeeper { u with boot := { u.boot with svcStage := false } })
              let r := andThen told (andThen (writeRec (fun r => { r with
                staging := 2, verS := s.boot.svcHdr.version, arbS := s.boot.svcHdr.arb.val })) (flashOp (stageImage pt) on))
              respond 0x05 sq r.1 0 [] r.2
            | none =>
              let u := (writeRec (fun r => { r with staging := 3 }) on).2
              respond 0x05 sq 0x24 0 [] { u with boot := { u.boot with svcStage := false } })) ∧
        (s.pw.nvInhibit = false → (s.boot.svcStage = false ∨ s.boot.svcBody.length ≠ s.boot.svcHdr.bodyLen) →
          BecomesThenRecord (.svcEnd sq rs) s (respond 0x05 sq 0x02 0 [] on)) ∧
        BecomesThenRecord (.svcAbort sq) s (respond 0x06 sq (abortSession on).1 0 [] (abortSession on).2) ∧
        BecomesThenRecord (.svcStatus sq) s (respond 0x07 sq 0x00 0
          (leOctets 1 (if s.boot.svcStage then 2 else if s.boot.svcOpen then 1 else 0) ++ leOctets 4 s.boot.svcBody.length) on))) ∧
    (svcServed s = true → Becomes .svcOctetGapTimeout s (bump 0x0038 s) ∧ Becomes .svcBadFrame s (bump 0x0038 s)) ∧
    (s.boot.svcOpen = true → Becomes .svcSessionIdle s (abortSession (reachElapsed (s.boot.svcAt + 30000000000) s)).2) ∧
    (s.boot.svcSwitch = some b → s.boot.svcOut = [] →
      let u := reachElapsed (s.time.elapsed + 1000000) s
      Becomes .svcRateSwitch s { u with boot := { s.boot with
        svcBaud := b, svcSwitch := none, svcSwitched := true, svcAt := u.time.elapsed } }) ∧
    (s.boot.svcSwitched = true → Becomes .svcRateSwitchTimeout s (closeSession (reachElapsed (s.boot.svcAt + 2000000000) s))) ∧
    (bankOn 1 s = true →
      Becomes (.svcCtsChange true) s { s with boot := { s.boot with svcCts := true } } ∧
      (s.boot.svcRestart = false → Becomes (.svcCtsChange false) s { s with boot := { s.boot with
        svcCts := false, svcOut := [], svcRestart := false
        svcSent := match s.boot.svcOut.getLast? with | some r => some r | none => s.boot.svcSent } }))

/-- The links' own events (16 R514-R523, R538): a TRAIN block counts, is refused or brings the link Up, training times out and is
tried again, a link goes down, STATUS is taken and sent, credits come back and are returned, a missing credit and a damaged frame
resynchronise, a resynchronisation is asked for again and ends with its reply. -/
def Obligations.LinkEvents : Prop :=
  ∀ (l : Fin 6) (v : Fin 4) (b : TrainBlk) (sb : StatusBlk) (cnt dl : BitVec 16) (g : Fin 256) (why : Nat) (s : State),
    linksRun s = true →
    let h := heardBlock l s
    let x := vc l v s
    (linkEnabled l s = true → (link l s).st = 1 →
      (trainRefused l b h = some why → Becomes (.train l b) s
        (notify 0x0B01 (linkSubj l) why (linkBlk l) (modLink l (fun x => x.restarted 5 s.time.elapsed) h))) ∧
      (trainRefused l b h = none →
        let u := modLink l (fun x => { x with
          good := x.good + 1, ackSeen := x.ackSeen || b.ack, pos := b.pos.val, master := b.master, twin := b.twinen
          role := b.role.val }) h
        ((link l u).good < 16 ∨ (link l u).ackSeen = false → Becomes (.train l b) s u) ∧
        (16 ≤ (link l u).good → (link l u).ackSeen = true → Becomes (.train l b) s (linkUp l b u)))) ∧
    ((link l s).st = 1 → Becomes (.casTrainingTimeout l) s
      (let u := reachElapsed ((link l s).since + 10000000) s; modLink l (fun x => x.restarted 5 u.time.elapsed) u)) ∧
    ((link l s).st = 5 → linkEnabled l s = true → Becomes (.casTrainingRetry l) s
      (let u := reachElapsed ((link l s).since + 100000000) s; modLink l (fun x => x.restarted 1 u.time.elapsed) u)) ∧
    ((link l s).trained = true →
      Becomes (.casLinkDown l) s (linkDown l 0x03 s) ∧
      ((isMate l = true ∨ (link l s).twin = false ∨ (link l s).role = 1 ∨ sb.role ≠ 1) →
        Becomes (.status l sb) s (recompute (modLink l (fun x => { x with
          pos := sb.pos.val, hop := sb.hop.val, role := sb.role.val, master := sb.master, gridRun := sb.gridRun
          tbQual := sb.tbQual, subtree := sb.subtree, present := sb.present, lastBlock := s.time.elapsed }) s))) ∧
      Becomes (.statusSend l) s (modLink l (fun x => { x with statusOut := some {
        pos := s.straps.caspos, hop := Fin.ofNat 16 s.cas.hop, role := Fin.ofNat 4 s.twin.role
        master := isMaster s, gridRun := s.grid.mode = 1, tbQual := s.time.qual, subtree := subtreeMask s, present := s.cas.present
        version := Fin.ofNat 16 x.ver } }) s) ∧
      (let k := min (diff16 cnt.toNat x.credSeen) x.sent
       BecomesThenRecord (.credit l v cnt dl) s (csendWake (pump l v (retireCovered l v dl.toNat
         (modVc l v (fun y => { y with
           credSeen := cnt.toNat, a := y.a + k, sent := y.sent - k, progress := if 0 < k then s.time.elapsed else y.progress }) h))))) ∧
      Becomes (.creditSend l v) s (modVc l v (fun y => { y with freed := (y.freed + y.r) % 65536, r := 0 }) s) ∧
      (0 < x.sent → x.resync = false → Becomes (.creditTimeout l v) s
        (resyncReport l v 0x41 (reachElapsed (x.progress + cpar 0x0B0A s * 1000) s))) ∧
      Becomes (.resyncRequest l v) s (resyncBegin l v (modVc l v (fun y => { y with b := 0, r := 0 }) h))) ∧
    (x.resync = true →
      BecomesThenRecord (.resyncReply l v dl g) s (resyncReplied l v dl.toNat g.val s) ∧
      (x.tries < 3 → Becomes (.resyncReplyTimeout l v) s
        (let u := reachElapsed (x.asked + 1000000) s
         modVc l v (fun y => { y with tries := y.tries + 1, asked := u.time.elapsed }) u)) ∧
      (3 ≤ x.tries → Becomes (.resyncReplyTimeout l v) s (linkDown l 0x03 (reachElapsed (x.asked + 1000000) s)))) ∧
    ((link l s).st = 2 →
      (v = 1 → Becomes (.linkFrameError l v) s (modVc l v (fun y => { y with r := y.r + 1 }) (bump 0x0B40 s))) ∧
      (v ≠ 1 → Becomes (.linkFrameError l v) s (resyncBegin l v (bump 0x0B40 s))))

/-- Items and messages on the links (16 R515, R524-R527, R532-R534; 02 R55): the queue whose turn it is sends, an item that comes is
a repeat or is placed and disposed of, a message is a repeat or is passed on and delivered, barriers are arrived at, announced and
forgotten, a relay ends, a position becomes absent, a waiting CSEND or CBAR reaches its LATEST. -/
def Obligations.CascadeTraffic : Prop :=
  ∀ (l : Fin 6) (v : Fin 4) (p : Fin 8) (q dq d t : Nat) (it : Item) (f : CasItemF) (m : CasMsg) (bar mask : BitVec 8)
    (e w0 w1 w2 : Word) (r : Relay) (b : Barrier) (dest kind : Nat) (m1 m2 : Word) (s : State),
    linksRun s = true →
    let h := heardBlock l s
    let dv := dataVc l s
    (isMate l = false → (link l s).st = 2 →
      (s.twin.role ≠ 2 → (vc l dv s).resync = false → (vc l dv s).a ≠ 0 → (vc l dv s).retained = [] →
        fwdTurn l s = some p.val → fwd p.val s = some (q, dq) → popHead q s = some it →
        Becomes (.casItemSend l p) s
          (sendOn l dv { item := some it, q := q, dest := p.val, destQ := dq } (modVc l dv (fun x => { x with turn := p.val }) (popItem q it s))).2) ∧
      (2 ≤ v.val →
        let frames := frameCount f.data.length
        (covered f.num.toNat (vc l v h).delivered = true →
          Becomes (.casItem l v f) s (bump 0x0B43 (modVc l v (fun x => { x with r := x.r + frames }) h))) ∧
        (covered f.num.toNat (vc l v h).delivered = false → f.dest.val = ownPos s →
          Becomes (.casItem l v f) s (disposed l v f.num.toNat frames (casItemIn l f.destQ.val f h))) ∧
        (covered f.num.toNat (vc l v h).delivered = false → f.dest.val ≠ ownPos s → fwd f.dest.val s = some (q, dq) →
          Becomes (.casItem l v f) s (disposed l v f.num.toNat frames (casItemIn l q f h))) ∧
        (covered f.num.toNat (vc l v h).delivered = false → f.dest.val ≠ ownPos s → fwd f.dest.val s = none →
          Becomes (.casItem l v f) s (disposed l v f.num.toNat frames (bump 0x0B44 h)))) ∧
      (covered m.num.toNat (vc l 0 h).delivered = true →
        Becomes (.casMessage l m) s (bump 0x0B43 (modVc l 0 (fun x => { x with r := x.r + 1 }) h))) ∧
      (covered m.num.toNat (vc l 0 h).delivered = false → m.dest.val = ownPos s →
        let u := disposed l 0 m.num.toNat 1 h
        Becomes (.casMessage l m) s (if 0x80 ≤ m.kind.toNat then msgIn m u else u))) ∧
    (isMaster s = true → BecomesThenRecord (.barrierArrival p bar) s (arrive p.val bar.toNat s)) ∧
    BecomesThenRecord (.barrierAnnounce bar mask) s (cbarDone bar.toNat mask s) ∧
    (s.cas.barriers.find? (fun b => b.bar = bar.toNat) = some b →
      let u := reachElapsed (b.at_ + 1000000000) s
      Becomes (.barrierForget bar) s
        { u with cas := { s.cas with barriers := dropFirst (fun b => b.bar = bar.toNat) s.cas.barriers } }) ∧
    (s.cas.relay = some r →
      let ends := fun (e w0 w1 w2 : Word) (u : State) => notify 0x0B05 r.pos w0.toNat (blkCas 0)
        { u with cas := { u.cas with relay := none, relayRes := #v[e, w0, w1, w2] } }
      Becomes (.relayResult e w0 w1 w2) s (ends e w0 w1 w2 s) ∧
      Becomes .relayTimeout s (ends 0 0x03 0 0 (reachElapsed (r.at_ + cpar 0x0001 s * 1000 + 10000000) s))) ∧
    (s.cas.lostAt[p] = some t → s.cas.known.getLsbD p.val = true → isMaster s = false →
      let u := reachElapsed (t + cpar 0x0B0B s * 1000000) s
      BecomesThenRecord (.positionAbsent p) s (notify 0x0B02 p.val 0x03 (blkCas 0)
        { u with cas := { s.cas with known := s.cas.known &&& ~~~ BitVec.ofNat 8 (2 ^ p.val), lostAt := s.cas.lostAt.set p none } })) ∧
    (s.cond.await = some (.csend m1 m2 dest kind d) →
      let u := reachElapsed d s
      (lacksCredit dest u = some l → BecomesThenRecord (.latestDeadline .cond) s (unblockCond 0x41 (w32 (link l u).pos) 0 u))) ∧
    (s.cond.await = some (.cbar bar.toNat d) → isMaster s = true →
      let u := reachElapsed d s
      let a := arrivedMask bar.toNat u
      BecomesThenRecord (.latestDeadline .cond) s (unblockCond 0x03 (w32 a.toNat) (w32 (u.cas.known &&& ~~~a).toNat) u))

/-- CSEND and CBAR (04 R148, R149): a message goes out on its links when each has a credit and waits otherwise, a chip without
cascade members passes every barrier, a member's arrival goes to the master. MIRROR and ROLE (04 R150, R151; 16 R539, R546,
R547): MIRROR reads the twin's status and digest or starts a full sync, ROLE reads the role, waits for a confirmed yield, or
withdraws. -/
def Obligations.CascadeAndTwinInstructions : Prop :=
  (∀ (who : Who) (c : Cond) (ws hi : Fin 16) (dest : Fin 8) (kind bar : BitVec 8) (latest : BitVec 16) (s : State),
     (Issues who c 0x90 .condOnly s → ws.val % 2 = 0 → hi.val = ws.val + 1 → 0x80 ≤ kind.toNat → dest.val ≠ ownPos s →
       s.cas.known.getLsbD dest.val = true →
       let d : Fin 16 := ⟨dest.val, by omega⟩
       (csendReady dest.val s = true → Answers (.csend who c ws d kind latest) who (fun u =>
         let x := csendNow kind.toNat dest.val (getW who ws s) (getW who hi s) u
         advance who (ret who 0x00 (w32 x.1) 0 x.2)) s) ∧
       (csendReady dest.val s = false → Answers (.csend who c ws d kind latest) who (fun u =>
         block who (.csend (getW who ws s) (getW who hi s) dest.val kind.toNat (s.time.elapsed + latest.toNat * 1000)) u) s)) ∧
     (Issues who c 0x90 .condOnly s → ws.val % 2 = 0 → 0x80 ≤ kind.toNat →
       (dest.val = ownPos s ∨ s.cas.known.getLsbD dest.val = false) →
       GivesRegs (.csend who c ws ⟨dest.val, by omega⟩ kind latest) who (withStatus who 0x04 0xC0 0 s) s) ∧
     (Issues who c 0x91 .condOnly s → hasMembers s = false →
       GivesRegs (.cbar who c bar latest) who (withStatus who 0x00 (w32 (2 ^ ownPos s)) 0 s) s) ∧
     (Issues who c 0x91 .condOnly s → hasMembers s = true → isMaster s = false →
       Answers (.cbar who c bar latest) who (fun u => sendMsg { kind := 1, dest := 0, src := ownPos s, m1 := w32 bar.toNat }
         (block who (.cbar bar.toNat (s.time.elapsed + latest.toNat * 1000)) u)) s)) ∧
  (∀ (who : Who) (c : Cond) (wd : Fin 16) (s : State),
     (Issues who c 0x92 .condOnly s →
       GivesRegs (.mirrorStatus who c wd) who
         ((withW who wd (w32 s.twin.mirror) s).status 0x00 (w32 s.twin.comparedAsn) (w32 s.twin.matched)) s ∧
       GivesRegs (.mirrorDigest who c wd) who
         ((withW who wd (s.twin.digest.extractLsb' 0 32) s).status 0x00 (s.twin.digest.extractLsb' 32 32) 0) s ∧
       (s.twin.role ≠ 1 → GivesRegs (.mirrorSync who c wd) who (withStatus who 0x04 0xC2 0 s) s) ∧
       (s.twin.role = 1 → pendFull who s = false → Answers (.mirrorSync who c wd) who (fun u =>
         let v := startPending who 0x92 u
         advance who (beginSync { v with twin := { v.twin with
           syncTicket := v.twin.syncTicket ++ [(worldOf who s, nextTicket who s)] } })) s)) ∧
     (Issues who c 0x93 .custodian s →
       GivesRegs (.roleRead who c wd) who ((withW who wd (w32 s.twin.role) s).status 0x00 0 0) s ∧
       (s.twin.role ≠ 1 → GivesRegs (.roleYield who c wd) who (withStatus who 0x04 0xC4 0 s) s) ∧
       (s.twin.role = 1 → (s.twin.mirror ≠ 2 ∨ s.twin.diverged = true) →
         GivesRegs (.roleYield who c wd) who (withStatus who 0x04 0xC3 0 s) s) ∧
       (s.twin.role = 1 → s.twin.mirror = 2 → s.twin.diverged = false →
         Answers (.roleYield who c wd) who (block who (.yield (s.time.elapsed + s.grid.len + 1000000))) s) ∧
       Answers (.roleWithdraw who c wd) who (fun u => advance who (ret who 0x00 0 0 (withdraw u))) s))

/-- Time on the links (16 R528-R530; 05 R165-R168): the delay of a link is measured by DREQ and DRESP, a TIME frame of the followed
link aligns the member or is offered to its servo, a frame outside its tolerance is counted, a missed frame holds the rate and the
third begins holdover. -/
def Obligations.LinkTime : Prop :=
  ∀ (l : Fin 6) (f : TimeFr) (dly : Int) (t1 t2 t3 t4 last : Nat) (s : State),
    linksRun s = true →
    ((link l s).st = 2 →
      let h := modVc l (if isMate l then 0 else 1) (fun x => { x with r := x.r + 1 }) (heardBlock l s)
      Becomes (.linkDelayMeasure l) s (modLink l (fun x => { x with dreqAt := some (tbNs s) }) s) ∧
      Becomes (.dreq l t2) s (modLink l (fun x => { x with drespOut := some (t2, tbNs s), lastBlock := s.time.elapsed }) s) ∧
      ((link l s).dreqAt = some t1 → Becomes (.dresp l t2 t3 t4) s (modLink l (fun x => { x with
        delay := some (roundDiv (((t4 : Int) - t1) - ((t3 : Int) - t2)) 2 + asym l s), dreqAt := none
        lastBlock := s.time.elapsed }) s)) ∧
      ((link l s).delay = none → BecomesThenRecord (.timeFrame l f) s h) ∧
      ((link l s).delay = some dly → followsTime l h = true →
        let e : Int := (f.tArr : Int) - f.tDep - dly
        (s.cas.aligned = true → timeAccepts f.tArr h = true →
          BecomesThenRecord (.timeFrame l f) s (followGrid f (timeServo f.tArr e h))) ∧
        (s.cas.aligned = true → timeAccepts f.tArr h = false → BecomesThenRecord (.timeFrame l f) s (bump 0x0B45 h)) ∧
        (s.cas.aligned = false →
          let u := alignTime e h
          BecomesThenRecord (.timeFrame l f) s (followGrid f { u with cas := { u.cas with
            tLast := some ((f.tArr : Int) - e).toNat, tFirst := false, tMissed := 0 } })))) ∧
    (s.cas.tLast = some last → (s.time.disc = 2 ∨ s.twin.role = 2) → s.cas.tFirst = false →
      let n := s.cas.tMissed + 1
      let d := last + n * timeCycle s + n * cpar 0x0B09 s
      tbCanReach d s = true →
      let u := reachTb d s
      let u := { u with cas := { s.cas with tMissed := n, tAfterMiss := true, tRecover := 0 } }
      (n < 3 → Becomes .timeFrameMissed s (setRate u.time.rFreq u)) ∧
      (n = 3 → Becomes .timeFrameMissed s (enterHoldover 2 u)) ∧
      (3 < n → Becomes .timeFrameMissed s u))

/-- The twin's own events (16 R535-R547; 04 R151): heartbeats are sent, taken and missed, ROLE_IN moves, a claim resolves, a standby
takes over, mirrored inputs arrive in order, the end marker is compared, a full sync starts and fails, a yield runs out. -/
def Obligations.TwinEvents : Prop :=
  ∀ (k : Fin 2) (h : Hb) (high : Bool) (order t d p : Nat) (m : MirIn) (e : EndMark) (reg : Regions) (s : State),
    (s.time.coreOn = true → ((link 4 s).trained = true ∨ (link 5 s).trained = true) →
      Becomes .heartbeatSend s { s with twin := { s.twin with hbOut := some {
        role := Fin.ofNat 4 s.twin.role, mirror := Fin.ofNat 8 s.twin.mirror, activeAsn := BitVec.ofNat 32 s.twin.activeAsn
        lastCycle := BitVec.ofNat 32 s.twin.comparedAsn, lastOk := s.twin.lastOk, fault := s.health.chipFault ≠ 0
        claim := s.twin.claim.map (BitVec.ofNat 32) } } }) ∧
    (linksRun s = true → (link (mate k) s).trained = true → s.twin.role = 2 → h.role = 2 → s.twin.yieldAt = none →
      let u := modVc (mate k) 0 (fun x => { x with r := x.r + 1 }) (heardBlock (mate k) s)
      BecomesThenRecord (.heartbeat k h) s { u with twin := { s.twin with
        hbAt := s.twin.hbAt.set k s.time.elapsed, hbSilent := false, peerRole := 2, peerMirror := h.mirror.val
        peerAsn := h.activeAsn.toNat, peerFault := h.fault, peerClaim := h.claim.map (·.toNat) } }) ∧
    (linksRun s = true → s.twin.hbSilent = false → s.twin.role = 1 →
      let u := reachElapsed (max s.twin.hbAt[0] s.twin.hbAt[1] + cpar 0x0B30 s * 1000) s
      Becomes .heartbeatTimeout s { u with twin := { s.twin with hbSilent := true, mirror := 4 } }) ∧
    (s.straps.twinen = true → bankOn 3 s = true → s.twin.roleIn ≠ high →
      Becomes (.roleInChange high) s { s with twin := { s.twin with
        roleIn := high, roleInAt := s.time.elapsed
        roleOut := !high && s.twin.role = 1 && s.twin.yieldAt.isNone && s.health.chipFault = 0 } }) ∧
    (linksRun s = true → s.twin.role = 2 → s.twin.claim = some d →
      let u := reachElapsed (s.twin.claimAt + 300000) s
      (s.twin.peerClaim = none → Becomes .claimResolution s (becomeActive s.twin.wasActive u)) ∧
      (s.twin.peerClaim = some p → p < d → Becomes .claimResolution s (becomeActive s.twin.wasActive u)) ∧
      (s.twin.peerClaim = some p → d < p →
        Becomes .claimResolution s (notify 0x0B08 2 0x00 (blkMate 0) { u with twin := { s.twin with claim := none } }))) ∧
    (linksRun s = true → s.twin.role = 2 → s.twin.roleIn = false →
      (s.twin.peerFault = true ∨ s.twin.peerRole = 3 ∨ s.twin.hbSilent = true) →
      let u := reachElapsed (s.twin.roleInAt + cpar 0x0B31 s * 1000) s
      (s.twin.mirror = 2 → BecomesThenRecord .takeover s (takeover true u)) ∧
      (s.twin.mirror ≠ 2 → BecomesThenRecord .takeover s (reportLost u))) ∧
    (linksRun s = true → s.twin.role = 2 → (s.twin.mirror = 1 ∨ s.twin.mirror = 2) →
      (order = s.twin.order →
        Becomes (.mirrorInput order m) s (mirrorEffect m { s with twin := { s.twin with order := order + 1 } })) ∧
      (order ≠ s.twin.order → Becomes (.mirrorInput order m) s s) ∧
      (s.twin.cycle = some reg →
        let u := { s with twin := { s.twin with comparedAsn := e.asn } }
        ((e.ledgerOk = false ∨ s.twin.ownLedger = false) → BecomesThenRecord (.endMarker e) s (diverge 3 u)) ∧
        (e.ledgerOk = true → s.twin.ownLedger = true → (e.lost = true ∨ e.digest ≠ s.twin.own) →
          BecomesThenRecord (.endMarker e) s (diverge 1 u)) ∧
        (e.ledgerOk = true → s.twin.ownLedger = true → e.lost = false → e.digest = s.twin.own → e.yielding = false →
          BecomesThenRecord (.endMarker e) s (compareMatched e.asn e.digest
            { s with twin := { s.twin with comparedAsn := e.asn, start := some reg, cycle := none, staged := 0 } })))) ∧
    (linksRun s = true → ((link 4 s).trained = true ∨ (link 5 s).trained = true) → s.twin.role = 1 → s.twin.peerRole = 2 →
      Becomes .fullSyncStart s (beginSync s)) ∧
    (linksRun s = true → s.twin.syncAt = some t →
      let u := reachElapsed (t + cpar 0x0B33 s * 1000000000) s
      BecomesThenRecord .fullSyncTimeout s (notify 0x0B09 0 0x03 (blkMate 0)
        (endSyncTickets 0x03 { u with twin := { s.twin with
          syncAt := none, mirror := if s.twin.mirror = 1 then 3 else s.twin.mirror
          cycle := if s.twin.mirror = 1 then none else s.twin.cycle } }))) ∧
    (linksRun s = true → s.cond.await = some (.yield d) →
      let u := reachElapsed d s
      BecomesThenRecord .yieldTimeout s (unblockCond 0x03 0 0 (unfreeze
        { u with twin := { s.twin with yieldAt := none, roleOut := s.twin.role = 1 && !s.twin.roleIn } })))

/-- Writes of the status window (15 R480, R481, R490-R493, R505): on the host link each reaches its register, HELLO negotiates and
starts the world afresh, producer doorbells and CONS move their index when they pass their checks and are counted and reported when
not, a write by the link that is not the host link is ignored and counted. -/
def Obligations.HostWrites : Prop :=
  ∀ (w : World) (l k : HostLink) (off : BitVec 13) (v p : Word) (n : Fin 8) (b : Fin 20) (wd : Fin 4) (sz ci : BitVec 16) (s : State),
    hostLinkUp l s = true →
    (s.host.link = none ∨ s.host.link = some l →
      Becomes (.statusWindowWrite w l off v) s (windowWrite w l off.toNat v s) ∧
      Becomes (.hello w l v) s (helloBell w l v s) ∧
      (bellOk (ring w blkCommand s) p s = true → Becomes (.commandProducer w l p) s (modRing w blkCommand (fun r => { r with lastP := p.toNat }) s)) ∧
      (bellOk (ring w blkCommand s) p s = false →
        Becomes (.commandProducer w l p) s (notify 0x0A01 0x1004 0x02 blkHost (bump 0x0A21 s))) ∧
      (bellOk (ring w (txBlk n) s) p s = true →
        Becomes (.transmitProducer w l n p) s (modRing w (txBlk n) (fun r => { r with lastP := p.toNat }) s)) ∧
      (bellOk (ring w (txBlk n) s) p s = false →
        Becomes (.transmitProducer w l n p) s (notify 0x0A01 (0x1008 + 4 * n.val) 0x02 blkHost (bump 0x0A21 s))) ∧
      Becomes (.ringStop w l b) s (stopRing w b s) ∧
      (let r := ring w b s
       (r.runs = false → sz.toNat ≠ 0 → sizeOk b sz.toNat = true → aligned b r = true → placed w l b r sz.toNat s = true →
          provided l b s = true → (b = blkCommand → (ring w blkCompletion s).runs = true) → txOf b = none →
          Becomes (.ringStart w l b sz) s (modRing w b (fun r => { base := r.base, bufbase := r.bufbase, size := sz.toNat }) s)) ∧
       (r.runs = false → sz.toNat ≠ 0 → sizeOk b sz.toNat = false →
          Becomes (.ringStart w l b sz) s (notify 0x0A02 b.val 0x02 blkHost s)) ∧
       (r.runs = true → sz.toNat ≠ 0 → Becomes (.ringStart w l b sz) s (bump 0x0A20 s)) ∧
       (r.runs = true → Becomes (.ringBaseWrite w l b wd v) s (bump 0x0A20 s)) ∧
       (r.runs = false → wd.val < 2 →
          Becomes (.ringBaseWrite w l b wd v) s (modRing w b (fun r => { r with base := setHalf (wd = 1) v r.base }) s)) ∧
       (r.runs = false → 2 ≤ wd.val → isRx b = true →
          Becomes (.ringBaseWrite w l b wd v) s (modRing w b (fun r => { r with bufbase := setHalf (wd = 3) v r.bufbase }) s)) ∧
       (1 ≤ b.val → b.val ≤ 10 → r.runs = true → s.host.hifNeg ≠ 0 → diff16 ci.toNat r.cons ≤ diff16 r.dev r.cons →
          Becomes (.consumerIndex w l b ci) s
            (modRing w b (fun r => { r with cons := ci.toNat, unread := r.unread.drop (diff16 ci.toNat r.cons) }) s)))) ∧
    (s.host.link = some k → k ≠ l →
      Becomes (.statusWindowWrite w l off v) s (bump 0x0A20 s) ∧ Becomes (.hello w l v) s (bump 0x0A20 s) ∧
      Becomes (.ringStart w l b sz) s (bump 0x0A20 s) ∧ Becomes (.ringStop w l b) s (bump 0x0A20 s) ∧
      Becomes (.ringBaseWrite w l b wd v) s (bump 0x0A20 s) ∧ Becomes (.consumerIndex w l b ci) s (bump 0x0A20 s) ∧
      Becomes (.commandProducer w l p) s (bump 0x0A20 s) ∧ Becomes (.transmitProducer w l n p) s (bump 0x0A20 s))

/-- What the host reads, and the links (05 R192; 07 R251; 08 R279; 14 R464; 15 R480, R482, R486-R488, R510; 19 R602): PSUM and
the latched windows, the PSUM mirror, a host that is silent too long, QSPI transfers in order, a sleeping chip's AON_STATUS,
PERST_N. -/
def Obligations.HostReads : Prop :=
  ∀ (w : World) (addr : BitVec 24) (len : Nat) (data : List Word) (b : Bool) (s : State),
    (s.time.coreOn = true →
      Becomes (.psumRead w) s (readPsum w s) ∧
      Becomes (.timeSnapshotRead w) s (readXovr (latchTime s)) ∧
      Becomes (.nfloorRead w) s { s with radio := { s.radio with nfLatch := nfWords s } } ∧
      (s.host.silent = false → Becomes .hostSilence s (showSilent (reachElapsed (s.host.lastPsum + cpar 0x0A40 s * 1000000) s)))) ∧
    (hostUp s = true → (ring w 19 s).runs = true → (whost w s).mirrorDue = true →
      let u := reachElapsed ((whost w s).mirrorAt + cpar 0x0A10 s * 1000) s
      Becomes (.psumMirrorWrite w) s
        (modWhost w (fun h => { h with mirrorDue := false, mirrorAt := u.time.elapsed, mirrorOut := psum w u }) u)) ∧
    (hostLinkUp .qspi s = true → s.pw.asleep = false →
      (transferOk addr.toNat len = true → strays w addr.toNat (len / 4) s = false →
        let x := readWords w (len / 4) addr.toNat s
        Becomes (.qspiRead w addr len) s { x.2 with host := { x.2.host with qspiOut := x.1 } }) ∧
      (transferOk addr.toNat len = false → Becomes (.qspiRead w addr len) s (bump 0x0A23 s))) ∧
    (hostLinkUp .qspi s = true →
      (transferOk addr.toNat (4 * data.length) = true → strays w addr.toNat data.length s = false →
        Becomes (.qspiWrite w addr data) s (writeWords w data addr.toNat s)) ∧
      (transferOk addr.toNat (4 * data.length) = true → strays w addr.toNat data.length s = true →
        Becomes (.qspiWrite w addr data) s (writeWords w data addr.toNat (bump 0x0A20 s))) ∧
      (transferOk addr.toNat (4 * data.length) = false → Becomes (.qspiWrite w addr data) s (bump 0x0A23 s)) ∧
      Becomes (.qspiBadTransfer w) s (bump 0x0A23 s)) ∧
    (s.pw.asleep = true → s.pw.mode ≠ 0 → bankOn 1 s = true →
      BecomesThenRecord (.asleepQspiRead w) s
        (wakeEvent 3 { s with host := { s.host with qspiOut := [w32 (aonStatus s)] } })) ∧
    (bankOn 3 s = true → Becomes (.perstN b) s { s with host := { s.host with pcieUp := !b } })

/-- Transmit and receive descriptors (11 R357-R362, R372; 15 R500-R504, R511): an item starts, grows and ends, a start waits for its
queue and is granted or runs out, an item that stays incomplete is dropped, a bound queue's item is delivered, a bad DMA end stops
its ring, a word of ring memory in error refuses its descriptor. -/
def Obligations.RingDescriptors : Prop :=
  ∀ (w : World) (r : Fin 8) (d : TxDesc) (q : Fin 1024) (v : Wait) (it : Item) (n : Nat) (b : Fin 20) (tag : BitVec 32) (k : Fin 2)
    (errs : List MemErr) (s : State),
    let p := port w s
    (txReady w r s = true →
      ((txRing w r s).open_ = false → d.fieldsOk = true → d.secured = false → d.route = false → 1 ≤ d.data.length →
        d.data.length ≤ d.decl → d.decl ≤ 2047 → s.qp.ledger.hold = false → (queue d.queue.val s).inc = none →
        s.qp.waits.any (fun v => v.q = d.queue.val) = false → startRefusal d s = none →
        Becomes (.txStartOfItem w r d) s (dataTaken w r true d.eoi d (grantStart w r d s))) ∧
      ((txRing w r s).refused = none → (txRing w r s).open_ = true → p.discard = false → d.fieldsOk = true →
        itemOf w p.job s = some it → lengthOk d.data.length it.data.length it.decl = true →
        Becomes (.txData w r d) s (dataTaken w r false false d (addData w p.job d.data s)) ∧
        Becomes (.txEndOfItem w r d []) s (dataTaken w r false true d (addData w p.job d.data s))) ∧
      ((txRing w r s).refused = none → (txRing w r s).open_ = false →
        Becomes (.txData w r d) s (refuseDesc w r false false d 0x02 s))) ∧
    (s.qp.waits.find? (fun v => v.q = q.val) = some v → (queue q.val s).inc = none → s.time.coreOn = true →
      let u := { s with qp := { s.qp with waits := dropFirst (fun v => v.q = q.val) s.qp.waits } }
      startRefusal v.desc u = none →
      Becomes (.startWaitGrant q) s (dataTaken v.world v.tx true v.desc.eoi v.desc (grantStart v.world v.tx v.desc u))) ∧
    (s.qp.waits.find? (fun v => v.cust == (w == .custodian)) = some v → s.time.coreOn = true →
      let u := reachElapsed (v.madeAt + cpar 0x0502 s * 1000) s
      Becomes (.startWaitTimeout w) s (refuseStart w v.tx v.desc 0x03
        { u with qp := { u.qp with waits := dropFirst (fun v => v.cust == (w == .custodian)) u.qp.waits } })) ∧
    ((queue q.val s).inc = some it →
      Becomes (.itemTimeout (.inl q)) s
        (txfsLost (dropRest q.val 0x03 (reachElapsed (it.lastData + cpar 0x0503 s * 1000000) s)))) ∧
    (p.held = some it →
      Becomes (.itemTimeout (.inr w)) s (dropHeldOpen w 0x03 (reachElapsed (it.lastData + cpar 0x0503 s * 1000000) s))) ∧
    (hostUp s = true → s.pw.frozen = false → s.pw.slotAwake = false → (ring w (rxBlk r) s).room = true → s.host.link = some .pcie →
      rxNext w r s = some (n, it) →
      let u := modWhost w (fun h => { h with rxTurn := h.rxTurn.set r n }) (popItem n it s)
      Becomes (.receiveDelivery w r) s (retireHeld it 4 0x00 (postDescData w (rxBlk r) (rxDesc it n u) it.data u))) ∧
    (s.host.link = some .pcie → hostUp s = true → (ring w b s).runs = true →
      let bad := fun (u : State) => bump 0x0A24
        (notify 0x0A03 (32 * (if w = .operator then 0 else 1) + b.val) 0x03 blkHost (stopRing w b u))
      Becomes (.dmaError w b none) s (bad s) ∧
      (b = blkCommand → s.cond.record = none →
        Becomes (.dmaError w b (some (k, tag))) s (bad (postCompletion w (2 + k.val) 0 tag 0x03 0 0 s))) ∧
      Becomes (.dmaTimeout w b none) s (bad (reachElapsed (s.time.elapsed + 50000000) s))) ∧
    (let u := meetErrors errs s
     txReady w r u = true → (txRing w r u).refused = none → (txRing w r u).open_ = true → (port w u).discard = false →
     ringFails errs = true → Becomes (.txEndOfItem w r d errs) s (refuseDesc w r false true { d with fieldsOk := false } 0x02 u))

/-- A step of the block takes the command at the front of its queue and runs it with the queue's rest; on an empty queue a clock
period passes, in which each sequencer that can run executes the instruction that the word at its program counter decodes to, or
halts on an illegal word (02 R42, R44; 03 R74; that this happens on the empty queue is the model's choice, log entry 11). -/
def Obligations.StepRunsTheFrontCommand : Prop :=
  ∀ (s : State),
    (∀ (c : Instr) (rest : List Instr), s.pending = c :: rest → step s = exec c { s with pending := rest }) ∧
    (s.pending = [] → step s = .next (clockPeriod s)) ∧
    (∀ (who : Who) (i : Instr) (t : State), canRun who s = true → decodeWord who (progWord (pcOf who s) s) = .instr i →
      exec i s = .next t → runFetched s who = t) ∧
    (∀ who : Who, canRun who s = true → decodeWord who (progWord (pcOf who s) s) = .illegal →
      exec (.illegalInstruction who (progWord (pcOf who s) s)) s = .next (runFetched s who)) ∧
    (∀ who : Who, canRun who s = false → runFetched s who = s)

/-- No command touches the queue of the commands that wait. -/
def Obligations.CommandsLeaveTheQueue : Prop := ∀ (c : Instr) (s t : State), exec c s = .next t → t.pending = s.pending

/-- Every command takes effect in every state, but for an I/O supply outside both its ranges, which faults: the spec gives the
device no behaviour outside the operating conditions (19 R584). -/
def Obligations.OnlyASupplyOutsideItsRangesStops : Prop :=
  ∀ (c : Instr) (s : State),
    ((∃ b mv, c = .vioRangeChange b mv ∧ ((1890 < mv ∧ mv < 3000) ∨ 3600 < mv)) → exec c s = .fault .outsideOperatingConditions) ∧
    ((∀ b mv, c = .vioRangeChange b mv → ¬ ((1890 < mv ∧ mv < 3000) ∨ 3600 < mv)) → Takes c s)

/-- An instruction that Table FM-1 does not let its sequencer or its world execute has no effect but its status: ST_REFUSED, the
permission detail in w1, the opcode in w2; the sequencer goes on (02 R34-R36). -/
def Obligations.BarredInstructionsAreRefused : Prop :=
  ∀ (i : Instr) (x : Issue) (d : Nat) (s : State), issueOf i = some x → Barred x.who x.cond x.op x.perm d s →
    GivesRegs i x.who (withStatus x.who 0x04 (w32 d) (w32 x.op) s) s ∧ (d = 0xFF01 ∨ d = 0xFF02)

/-- An instruction whose condition is false writes no register, reports no status and does not block (02 R40): on a slice
sequencer, between records, it only moves the program counter on. -/
def Obligations.FalseConditionsSkip : Prop :=
  ∀ (i : Instr) (x : Issue) (n : Fin 12) (s : State), issueOf i = some x → x.who = .slice n → canRun (.slice n) s = true →
    fetchOutside (.slice n) s = false → condHolds x.cond (ctx (.slice n) s).regs.p = false →
    s.cond.record = none → s.boot.restartDue = false → GivesRegs i (.slice n) (ctx (.slice n) s).regs s

/-- The addressed memories of the state after reset are in canonical form. -/
def Obligations.ResetMemoriesAreCanonical : Prop := MemCanonical State.reset

/-- Every step keeps the addressed memories, and the snapshots of them that a twin keeps, in canonical form. -/
def Obligations.StepsKeepMemoriesCanonical : Prop := ∀ (s t : State), MemCanonical s → step s = .next t → MemCanonical t

/-- No step unburns a fuse: the fused life cycle only moves on, the anti-rollback level never falls, a revoked vendor key stays
revoked (13 R413, R416; 17 R558). -/
def Obligations.FusesNeverUnburn : Prop :=
  ∀ (s t : State), step s = .next t →
    s.sec.fused ≤ t.sec.fused ∧ s.boot.arbFuse ≤ t.boot.arbFuse ∧ s.boot.vkRev &&& t.boot.vkRev = s.boot.vkRev

/-- A table in canonical form reads at the key written what was written and elsewhere what it held, and two tables in canonical
form that read alike are one list: equal memories are equal data. -/
def Obligations.TablesReadWhatWasWritten : Prop :=
  ∀ (d v : Word) (m m' : Tbl Word) (k j : Nat), Tbl.wf d m = true → Tbl.wf d m' = true →
    Tbl.get d (Tbl.set d m k v) j = (if j = k then v else Tbl.get d m j) ∧
    ((∀ i, Tbl.get d m i = Tbl.get d m' i) → m = m')

/-- A load record's words lie in program memory, and its words in schedule memory but for the STATE words, at their addresses, and
every other word of both memories reads as before (02 R43, R47; 06 R202). -/
def Obligations.LoadRecordsWriteTheirWords : Prop :=
  ∀ (w : World) (tag : BitVec 32) (start : BitVec 16) (addr : BitVec 18) (ws : List (BitVec 64)) (vs : List Word) (s : State),
    MemCanonical s → canTake w s = true →
    let m := s.twin.mirNext
    let u := tookRecord w s
    (1 ≤ ws.length → ws.length ≤ 4096 → start.toNat + ws.length ≤ 65536 → loadRefusal m u = none →
      touchesRunning start.toNat ws.length u = false →
      ∃ t, exec (.programLoadRecord w tag start ws) s = .next t ∧ (∀ a, schedWord a t = schedWord a s) ∧
        ∀ a, progWord a t = if start.toNat ≤ a ∧ a < start.toNat + ws.length then ws.getD (a - start.toNat) 0 else progWord a s) ∧
    (1 ≤ vs.length → vs.length ≤ 16384 → addr.toNat + vs.length ≤ 262144 → loadRefusal m u = none →
      ∃ t, exec (.scheduleLoadRecord w tag addr vs) s = .next t ∧ (∀ a, progWord a t = progWord a s) ∧
        ∀ a, schedWord a t = if addr.toNat ≤ a ∧ a < addr.toNat + vs.length ∧ isStateWord a = false
          then vs.getD (a - addr.toNat) 0 else schedWord a s)

/-- The words of Table FC-3, and one word of each other group, are the instructions they stand for; a word with an unassigned
opcode, a reserved condition or a reserved field that is not zero is illegal (02 R68; 03 R73-R77, Table FC-3). -/
def Obligations.WordsDecode : Prop :=
  ∀ (w : Who),
    decodeWord w 0x0104000000001000 = .instr (.movi w .always 4 0x1000) ∧
    decodeWord w 0x2403000000000000 = .instr (.slot w .always 3 0 0) ∧
    decodeWord w 0x1808700000000000 = .instr (.ldw w .always 8 7 0) ∧
    decodeWord w 0x090980800000001E = .instr (.shr w .always 9 8 (.imm 30)) ∧
    decodeWord w 0x0A00908000000001 = .instr (.cmp w .always 0 .eq 9 (.imm 1)) ∧
    decodeWord w 0x2301000000205940 = .instr (.tadd w .always 1 0 2120000 0) ∧
    decodeWord w 0x106000000000401B = .instr (.jmp w (.ifF 1) 0x401B) ∧
    decodeWord w 0x8230C00000008001 = .instr (.note w (.ifT 2) 0x8001 12) ∧
    decodeWord w 0x1900ED0000000000 = .instr (.stw w .always 14 13 0) ∧
    decodeWord w 0x8000011200000140 = .instr (.setp w .always 0x0012 1 0 0x140) ∧
    decodeWord w 0x1500000000000000 = .instr (.halt w .always) ∧
    decodeWord w 0x0C00000000000000 = .illegal ∧
    decodeWord w 0x0190000000000000 = .illegal ∧
    decodeWord w 0x1500000000000001 = .illegal

/-- QLEN's w2[1] says whether the queue's occupancy has reached HIGH when it is read (11 R376). -/
def Obligations.QlenReportsTheHighState : Prop :=
  ∀ (who : Who) (c : Cond) (wd : Fin 16) (q : QRef) (k : Nat) (s : State),
    Issues who c 0x45 .all s → NamesQueue who q k s →
    ∃ t, exec (.qlen who c wd q) s = .next t ∧ ((getW who 2 t).getLsbD 1 = true ↔ (queue k s).high ≤ (queue k s).occ)

/-- The timebase after power-up (05 R154): unqualified, not counting, at 0 s and 0 ns with the increment 0x08_0000_0000, no rate
offset, its step allowance unused, unsealed, with TIME.DISCIPLINE 0; it stands until the reference is first qualified and counts
on from the value it then holds. -/
def Obligations.TimebaseAtPowerUp : Prop :=
  let fresh := fun (t : TimeS) => t.qual = false ∧ t.counting = false ∧ t.tb = 0 ∧ t.incr = 0x0800000000 ∧ t.rate = 0 ∧
    t.stepUsed = false ∧ t.sealed_ = false ∧ t.disc = 0
  fresh State.reset.time ∧
  ∀ (st : Straps) (crc can : Bool) (s : State),
    (s.pw.entering = false → mainOn s = false → (inBackup s = false ∨ s.pw.pwron = true) →
      ∃ t, exec (.mainPowerUp st crc can) s = .next t ∧ fresh t.time) ∧
    (s.time.counting = false → (passTicks 1 s).time.tb = s.time.tb) ∧
    (s.time.counting = false → s.time.coreOn = true → s.time.refQual = false → s.time.refStarted = true →
      s.health.chipFault = 0 → s.pw.wake = none → s.pw.degraded = false → s.cond.record = none → s.boot.restartDue = false →
      ∃ t, exec .referenceQualified s = .next t ∧ t.time.counting = true ∧ t.time.qual = true ∧ t.time.tb = s.time.tb)

/-- Program memory after power-up (02 R42): every one of its 65,536 addresses holds the word 0x1500_0000_0000_0000 before the first
record is taken, page n is the addresses n × 256 to n × 256 + 255, and a load record that names an address beyond them writes nothing. -/
def Obligations.ProgramMemoryAtPowerUp : Prop :=
  (∀ a, progWord a State.reset = 0x1500000000000000) ∧
  (∀ n a, n < 256 → a < 65536 → (inWindow n 1 a = true ↔ n * 256 ≤ a ∧ a ≤ n * 256 + 255)) ∧
  ∀ (st : Straps) (crc can : Bool) (w : World) (tag : BitVec 32) (start : BitVec 16) (ws : List (BitVec 64)) (s : State),
    (s.pw.entering = false → mainOn s = false → (inBackup s = false ∨ s.pw.pwron = true) →
      ∃ t, exec (.mainPowerUp st crc can) s = .next t ∧ t.cond.record = none ∧ ∀ a, progWord a t = 0x1500000000000000) ∧
    (canTake w s = true → 65536 < start.toNat + ws.length →
      Becomes (.programLoadRecord w tag start ws) s (badRecord w s.twin.mirNext 2 tag 0x103 (tookRecord w s)))
end

