-- ==== Sys2Proof/Laws/State.lean ====
section
/-! SUPPORT. The small lemmas of the state's updates: what each named update leaves of the state, field by field. -/

namespace Sys2Proof.Machine

/-- What `passTicks` leaves. -/
@[simp] theorem passTicks_keeps (n : Nat) (s : State) :
    (passTicks n s).cond = s.cond ∧ (passTicks n s).seqs = s.seqs ∧ (passTicks n s).par = s.par ∧
    (passTicks n s).progMem = s.progMem ∧ (passTicks n s).schedMem = s.schedMem ∧ (passTicks n s).rtc = s.rtc ∧
    (passTicks n s).grid = s.grid ∧ (passTicks n s).qp = s.qp ∧ (passTicks n s).health = s.health ∧
    (passTicks n s).roster = s.roster ∧ (passTicks n s).modem = s.modem ∧ (passTicks n s).radio = s.radio ∧
    (passTicks n s).pw = s.pw ∧ (passTicks n s).straps = s.straps ∧ (passTicks n s).sec = s.sec ∧
    (passTicks n s).tables = s.tables ∧ (passTicks n s).twin = s.twin ∧ (passTicks n s).cas = s.cas ∧
    (passTicks n s).boot = s.boot ∧ (passTicks n s).host = s.host ∧ (passTicks n s).notices = s.notices ∧
    (passTicks n s).freeCount = s.freeCount ∧ (passTicks n s).pending = s.pending :=
  by and_intros <;> rfl

/-- What `reachElapsed` leaves. -/
@[simp] theorem reachElapsed_keeps (e : Nat) (s : State) :
    (reachElapsed e s).cond = s.cond ∧ (reachElapsed e s).seqs = s.seqs ∧ (reachElapsed e s).par = s.par ∧
    (reachElapsed e s).progMem = s.progMem ∧ (reachElapsed e s).schedMem = s.schedMem ∧ (reachElapsed e s).rtc = s.rtc ∧
    (reachElapsed e s).grid = s.grid ∧ (reachElapsed e s).qp = s.qp ∧ (reachElapsed e s).health = s.health ∧
    (reachElapsed e s).roster = s.roster ∧ (reachElapsed e s).modem = s.modem ∧ (reachElapsed e s).radio = s.radio ∧
    (reachElapsed e s).pw = s.pw ∧ (reachElapsed e s).straps = s.straps ∧ (reachElapsed e s).sec = s.sec ∧
    (reachElapsed e s).tables = s.tables ∧ (reachElapsed e s).twin = s.twin ∧ (reachElapsed e s).cas = s.cas ∧
    (reachElapsed e s).boot = s.boot ∧ (reachElapsed e s).host = s.host ∧ (reachElapsed e s).notices = s.notices ∧
    (reachElapsed e s).freeCount = s.freeCount ∧ (reachElapsed e s).pending = s.pending :=
  by and_intros <;> rfl

/-- What `reachCore` leaves. -/
@[simp] theorem reachCore_keeps (e : Nat) (s : State) :
    (reachCore e s).cond = s.cond ∧ (reachCore e s).seqs = s.seqs ∧ (reachCore e s).par = s.par ∧
    (reachCore e s).progMem = s.progMem ∧ (reachCore e s).schedMem = s.schedMem ∧ (reachCore e s).rtc = s.rtc ∧
    (reachCore e s).grid = s.grid ∧ (reachCore e s).qp = s.qp ∧ (reachCore e s).health = s.health ∧
    (reachCore e s).roster = s.roster ∧ (reachCore e s).modem = s.modem ∧ (reachCore e s).radio = s.radio ∧
    (reachCore e s).pw = s.pw ∧ (reachCore e s).straps = s.straps ∧ (reachCore e s).sec = s.sec ∧
    (reachCore e s).tables = s.tables ∧ (reachCore e s).twin = s.twin ∧ (reachCore e s).cas = s.cas ∧
    (reachCore e s).boot = s.boot ∧ (reachCore e s).host = s.host ∧ (reachCore e s).notices = s.notices ∧
    (reachCore e s).freeCount = s.freeCount ∧ (reachCore e s).pending = s.pending :=
  by and_intros <;> rfl

/-- What `reachTb` leaves. -/
@[simp] theorem reachTb_keeps (t : Nat) (s : State) :
    (reachTb t s).cond = s.cond ∧ (reachTb t s).seqs = s.seqs ∧ (reachTb t s).par = s.par ∧ (reachTb t s).progMem = s.progMem ∧
    (reachTb t s).schedMem = s.schedMem ∧ (reachTb t s).rtc = s.rtc ∧ (reachTb t s).grid = s.grid ∧ (reachTb t s).qp = s.qp ∧
    (reachTb t s).health = s.health ∧ (reachTb t s).roster = s.roster ∧ (reachTb t s).modem = s.modem ∧
    (reachTb t s).radio = s.radio ∧ (reachTb t s).pw = s.pw ∧ (reachTb t s).straps = s.straps ∧ (reachTb t s).sec = s.sec ∧
    (reachTb t s).tables = s.tables ∧ (reachTb t s).twin = s.twin ∧ (reachTb t s).cas = s.cas ∧ (reachTb t s).boot = s.boot ∧
    (reachTb t s).host = s.host ∧ (reachTb t s).notices = s.notices ∧ (reachTb t s).freeCount = s.freeCount ∧
    (reachTb t s).pending = s.pending :=
  by and_intros <;> rfl

/-- What `modWhost` leaves. -/
@[simp] theorem modWhost_keeps (w : World) (f : WHost → WHost) (s : State) :
    (modWhost w f s).cond = s.cond ∧ (modWhost w f s).seqs = s.seqs ∧ (modWhost w f s).par = s.par ∧
    (modWhost w f s).progMem = s.progMem ∧ (modWhost w f s).schedMem = s.schedMem ∧ (modWhost w f s).time = s.time ∧
    (modWhost w f s).rtc = s.rtc ∧ (modWhost w f s).grid = s.grid ∧ (modWhost w f s).qp = s.qp ∧
    (modWhost w f s).health = s.health ∧ (modWhost w f s).roster = s.roster ∧ (modWhost w f s).modem = s.modem ∧
    (modWhost w f s).radio = s.radio ∧ (modWhost w f s).pw = s.pw ∧ (modWhost w f s).straps = s.straps ∧
    (modWhost w f s).sec = s.sec ∧ (modWhost w f s).tables = s.tables ∧ (modWhost w f s).twin = s.twin ∧
    (modWhost w f s).cas = s.cas ∧ (modWhost w f s).boot = s.boot ∧ (modWhost w f s).notices = s.notices ∧
    (modWhost w f s).freeCount = s.freeCount ∧ (modWhost w f s).pending = s.pending :=
  by cases w <;> and_intros <;> rfl

/-- What `modRing` leaves. -/
@[simp] theorem modRing_keeps (w : World) (b : Fin 20) (f : Ring → Ring) (s : State) :
    (modRing w b f s).cond = s.cond ∧ (modRing w b f s).seqs = s.seqs ∧ (modRing w b f s).par = s.par ∧
    (modRing w b f s).progMem = s.progMem ∧ (modRing w b f s).schedMem = s.schedMem ∧ (modRing w b f s).time = s.time ∧
    (modRing w b f s).rtc = s.rtc ∧ (modRing w b f s).grid = s.grid ∧ (modRing w b f s).qp = s.qp ∧
    (modRing w b f s).health = s.health ∧ (modRing w b f s).roster = s.roster ∧ (modRing w b f s).modem = s.modem ∧
    (modRing w b f s).radio = s.radio ∧ (modRing w b f s).pw = s.pw ∧ (modRing w b f s).straps = s.straps ∧
    (modRing w b f s).sec = s.sec ∧ (modRing w b f s).tables = s.tables ∧ (modRing w b f s).twin = s.twin ∧
    (modRing w b f s).cas = s.cas ∧ (modRing w b f s).boot = s.boot ∧ (modRing w b f s).notices = s.notices ∧
    (modRing w b f s).freeCount = s.freeCount ∧ (modRing w b f s).pending = s.pending :=
  by cases w <;> and_intros <;> rfl

/-- What `modWorldCtx` leaves. -/
@[simp] theorem modWorldCtx_keeps (w : World) (f : Ctx → Ctx) (s : State) :
    (modWorldCtx w f s).seqs = s.seqs ∧ (modWorldCtx w f s).par = s.par ∧ (modWorldCtx w f s).progMem = s.progMem ∧
    (modWorldCtx w f s).schedMem = s.schedMem ∧ (modWorldCtx w f s).time = s.time ∧ (modWorldCtx w f s).rtc = s.rtc ∧
    (modWorldCtx w f s).grid = s.grid ∧ (modWorldCtx w f s).qp = s.qp ∧ (modWorldCtx w f s).health = s.health ∧
    (modWorldCtx w f s).roster = s.roster ∧ (modWorldCtx w f s).modem = s.modem ∧ (modWorldCtx w f s).radio = s.radio ∧
    (modWorldCtx w f s).pw = s.pw ∧ (modWorldCtx w f s).straps = s.straps ∧ (modWorldCtx w f s).sec = s.sec ∧
    (modWorldCtx w f s).tables = s.tables ∧ (modWorldCtx w f s).twin = s.twin ∧ (modWorldCtx w f s).cas = s.cas ∧
    (modWorldCtx w f s).boot = s.boot ∧ (modWorldCtx w f s).host = s.host ∧ (modWorldCtx w f s).notices = s.notices ∧
    (modWorldCtx w f s).freeCount = s.freeCount ∧ (modWorldCtx w f s).pending = s.pending :=
  by cases w <;> and_intros <;> rfl

/-- What `modCtx` leaves. -/
@[simp] theorem modCtx_keeps (who : Who) (f : Ctx → Ctx) (s : State) :
    (modCtx who f s).par = s.par ∧ (modCtx who f s).progMem = s.progMem ∧ (modCtx who f s).schedMem = s.schedMem ∧
    (modCtx who f s).time = s.time ∧ (modCtx who f s).rtc = s.rtc ∧ (modCtx who f s).grid = s.grid ∧
    (modCtx who f s).qp = s.qp ∧ (modCtx who f s).health = s.health ∧ (modCtx who f s).roster = s.roster ∧
    (modCtx who f s).modem = s.modem ∧ (modCtx who f s).radio = s.radio ∧ (modCtx who f s).pw = s.pw ∧
    (modCtx who f s).straps = s.straps ∧ (modCtx who f s).sec = s.sec ∧ (modCtx who f s).tables = s.tables ∧
    (modCtx who f s).twin = s.twin ∧ (modCtx who f s).cas = s.cas ∧ (modCtx who f s).boot = s.boot ∧
    (modCtx who f s).host = s.host ∧ (modCtx who f s).notices = s.notices ∧ (modCtx who f s).freeCount = s.freeCount ∧
    (modCtx who f s).pending = s.pending :=
  by cases who <;> simp [modCtx]

/-- What `modSeq` leaves. -/
@[simp] theorem modSeq_keeps (n : Fin 12) (f : SeqS → SeqS) (s : State) :
    (modSeq n f s).cond = s.cond ∧ (modSeq n f s).par = s.par ∧ (modSeq n f s).progMem = s.progMem ∧
    (modSeq n f s).schedMem = s.schedMem ∧ (modSeq n f s).time = s.time ∧ (modSeq n f s).rtc = s.rtc ∧
    (modSeq n f s).grid = s.grid ∧ (modSeq n f s).qp = s.qp ∧ (modSeq n f s).health = s.health ∧
    (modSeq n f s).roster = s.roster ∧ (modSeq n f s).modem = s.modem ∧ (modSeq n f s).radio = s.radio ∧
    (modSeq n f s).pw = s.pw ∧ (modSeq n f s).straps = s.straps ∧ (modSeq n f s).sec = s.sec ∧
    (modSeq n f s).tables = s.tables ∧ (modSeq n f s).twin = s.twin ∧ (modSeq n f s).cas = s.cas ∧
    (modSeq n f s).boot = s.boot ∧ (modSeq n f s).host = s.host ∧ (modSeq n f s).notices = s.notices ∧
    (modSeq n f s).freeCount = s.freeCount ∧ (modSeq n f s).pending = s.pending :=
  by and_intros <;> rfl

/-- What `modRecord` leaves. -/
@[simp] theorem modRecord_keeps (f : Record → Record) (s : State) :
    (modRecord f s).seqs = s.seqs ∧ (modRecord f s).par = s.par ∧ (modRecord f s).progMem = s.progMem ∧
    (modRecord f s).schedMem = s.schedMem ∧ (modRecord f s).time = s.time ∧ (modRecord f s).rtc = s.rtc ∧
    (modRecord f s).grid = s.grid ∧ (modRecord f s).qp = s.qp ∧ (modRecord f s).health = s.health ∧
    (modRecord f s).roster = s.roster ∧ (modRecord f s).modem = s.modem ∧ (modRecord f s).radio = s.radio ∧
    (modRecord f s).pw = s.pw ∧ (modRecord f s).straps = s.straps ∧ (modRecord f s).sec = s.sec ∧
    (modRecord f s).tables = s.tables ∧ (modRecord f s).twin = s.twin ∧ (modRecord f s).cas = s.cas ∧
    (modRecord f s).boot = s.boot ∧ (modRecord f s).host = s.host ∧ (modRecord f s).notices = s.notices ∧
    (modRecord f s).freeCount = s.freeCount ∧ (modRecord f s).pending = s.pending :=
  by and_intros <;> rfl

/-- What `setW` leaves. -/
@[simp] theorem setW_keeps (who : Who) (r : Fin 16) (v : Word) (s : State) :
    (setW who r v s).par = s.par ∧ (setW who r v s).progMem = s.progMem ∧ (setW who r v s).schedMem = s.schedMem ∧
    (setW who r v s).time = s.time ∧ (setW who r v s).rtc = s.rtc ∧ (setW who r v s).grid = s.grid ∧
    (setW who r v s).qp = s.qp ∧ (setW who r v s).health = s.health ∧ (setW who r v s).roster = s.roster ∧
    (setW who r v s).modem = s.modem ∧ (setW who r v s).radio = s.radio ∧ (setW who r v s).pw = s.pw ∧
    (setW who r v s).straps = s.straps ∧ (setW who r v s).sec = s.sec ∧ (setW who r v s).tables = s.tables ∧
    (setW who r v s).twin = s.twin ∧ (setW who r v s).cas = s.cas ∧ (setW who r v s).boot = s.boot ∧
    (setW who r v s).host = s.host ∧ (setW who r v s).notices = s.notices ∧ (setW who r v s).freeCount = s.freeCount ∧
    (setW who r v s).pending = s.pending :=
  by simp [setW]

/-- What `setT` leaves. -/
@[simp] theorem setT_keeps (who : Who) (r : Fin 4) (v : TVal) (s : State) :
    (setT who r v s).par = s.par ∧ (setT who r v s).progMem = s.progMem ∧ (setT who r v s).schedMem = s.schedMem ∧
    (setT who r v s).time = s.time ∧ (setT who r v s).rtc = s.rtc ∧ (setT who r v s).grid = s.grid ∧
    (setT who r v s).qp = s.qp ∧ (setT who r v s).health = s.health ∧ (setT who r v s).roster = s.roster ∧
    (setT who r v s).modem = s.modem ∧ (setT who r v s).radio = s.radio ∧ (setT who r v s).pw = s.pw ∧
    (setT who r v s).straps = s.straps ∧ (setT who r v s).sec = s.sec ∧ (setT who r v s).tables = s.tables ∧
    (setT who r v s).twin = s.twin ∧ (setT who r v s).cas = s.cas ∧ (setT who r v s).boot = s.boot ∧
    (setT who r v s).host = s.host ∧ (setT who r v s).notices = s.notices ∧ (setT who r v s).freeCount = s.freeCount ∧
    (setT who r v s).pending = s.pending :=
  by simp [setT]

/-- What `setP` leaves. -/
@[simp] theorem setP_keeps (who : Who) (p : Fin 4) (v : Bool) (s : State) :
    (setP who p v s).par = s.par ∧ (setP who p v s).progMem = s.progMem ∧ (setP who p v s).schedMem = s.schedMem ∧
    (setP who p v s).time = s.time ∧ (setP who p v s).rtc = s.rtc ∧ (setP who p v s).grid = s.grid ∧
    (setP who p v s).qp = s.qp ∧ (setP who p v s).health = s.health ∧ (setP who p v s).roster = s.roster ∧
    (setP who p v s).modem = s.modem ∧ (setP who p v s).radio = s.radio ∧ (setP who p v s).pw = s.pw ∧
    (setP who p v s).straps = s.straps ∧ (setP who p v s).sec = s.sec ∧ (setP who p v s).tables = s.tables ∧
    (setP who p v s).twin = s.twin ∧ (setP who p v s).cas = s.cas ∧ (setP who p v s).boot = s.boot ∧
    (setP who p v s).host = s.host ∧ (setP who p v s).notices = s.notices ∧ (setP who p v s).freeCount = s.freeCount ∧
    (setP who p v s).pending = s.pending :=
  by simp [setP]

/-- What `ret` leaves. -/
@[simp] theorem ret_keeps (who : Who) (st : Nat) (w1 w2 : Word) (s : State) :
    (ret who st w1 w2 s).par = s.par ∧ (ret who st w1 w2 s).progMem = s.progMem ∧ (ret who st w1 w2 s).schedMem = s.schedMem ∧
    (ret who st w1 w2 s).time = s.time ∧ (ret who st w1 w2 s).rtc = s.rtc ∧ (ret who st w1 w2 s).grid = s.grid ∧
    (ret who st w1 w2 s).qp = s.qp ∧ (ret who st w1 w2 s).health = s.health ∧ (ret who st w1 w2 s).roster = s.roster ∧
    (ret who st w1 w2 s).modem = s.modem ∧ (ret who st w1 w2 s).radio = s.radio ∧ (ret who st w1 w2 s).pw = s.pw ∧
    (ret who st w1 w2 s).straps = s.straps ∧ (ret who st w1 w2 s).sec = s.sec ∧ (ret who st w1 w2 s).tables = s.tables ∧
    (ret who st w1 w2 s).twin = s.twin ∧ (ret who st w1 w2 s).cas = s.cas ∧ (ret who st w1 w2 s).boot = s.boot ∧
    (ret who st w1 w2 s).host = s.host ∧ (ret who st w1 w2 s).notices = s.notices ∧
    (ret who st w1 w2 s).freeCount = s.freeCount ∧ (ret who st w1 w2 s).pending = s.pending :=
  by cases who <;> simp [ret]

/-- What `retOk` leaves. -/
@[simp] theorem retOk_keeps (who : Who) (w1 w2 : Word) (s : State) :
    (retOk who w1 w2 s).par = s.par ∧ (retOk who w1 w2 s).progMem = s.progMem ∧ (retOk who w1 w2 s).schedMem = s.schedMem ∧
    (retOk who w1 w2 s).time = s.time ∧ (retOk who w1 w2 s).rtc = s.rtc ∧ (retOk who w1 w2 s).grid = s.grid ∧
    (retOk who w1 w2 s).qp = s.qp ∧ (retOk who w1 w2 s).health = s.health ∧ (retOk who w1 w2 s).roster = s.roster ∧
    (retOk who w1 w2 s).modem = s.modem ∧ (retOk who w1 w2 s).radio = s.radio ∧ (retOk who w1 w2 s).pw = s.pw ∧
    (retOk who w1 w2 s).straps = s.straps ∧ (retOk who w1 w2 s).sec = s.sec ∧ (retOk who w1 w2 s).tables = s.tables ∧
    (retOk who w1 w2 s).twin = s.twin ∧ (retOk who w1 w2 s).cas = s.cas ∧ (retOk who w1 w2 s).boot = s.boot ∧
    (retOk who w1 w2 s).host = s.host ∧ (retOk who w1 w2 s).notices = s.notices ∧ (retOk who w1 w2 s).freeCount = s.freeCount ∧
    (retOk who w1 w2 s).pending = s.pending :=
  by simp [retOk]

/-- What `retRange` leaves. -/
@[simp] theorem retRange_keeps (who : Who) (pos x : Nat) (s : State) :
    (retRange who pos x s).par = s.par ∧ (retRange who pos x s).progMem = s.progMem ∧
    (retRange who pos x s).schedMem = s.schedMem ∧ (retRange who pos x s).time = s.time ∧ (retRange who pos x s).rtc = s.rtc ∧
    (retRange who pos x s).grid = s.grid ∧ (retRange who pos x s).qp = s.qp ∧ (retRange who pos x s).health = s.health ∧
    (retRange who pos x s).roster = s.roster ∧ (retRange who pos x s).modem = s.modem ∧
    (retRange who pos x s).radio = s.radio ∧ (retRange who pos x s).pw = s.pw ∧ (retRange who pos x s).straps = s.straps ∧
    (retRange who pos x s).sec = s.sec ∧ (retRange who pos x s).tables = s.tables ∧ (retRange who pos x s).twin = s.twin ∧
    (retRange who pos x s).cas = s.cas ∧ (retRange who pos x s).boot = s.boot ∧ (retRange who pos x s).host = s.host ∧
    (retRange who pos x s).notices = s.notices ∧ (retRange who pos x s).freeCount = s.freeCount ∧
    (retRange who pos x s).pending = s.pending :=
  by simp [retRange]

/-- What `retRefused` leaves. -/
@[simp] theorem retRefused_keeps (who : Who) (d : Nat) (s : State) :
    (retRefused who d s).par = s.par ∧ (retRefused who d s).progMem = s.progMem ∧ (retRefused who d s).schedMem = s.schedMem ∧
    (retRefused who d s).time = s.time ∧ (retRefused who d s).rtc = s.rtc ∧ (retRefused who d s).grid = s.grid ∧
    (retRefused who d s).qp = s.qp ∧ (retRefused who d s).health = s.health ∧ (retRefused who d s).roster = s.roster ∧
    (retRefused who d s).modem = s.modem ∧ (retRefused who d s).radio = s.radio ∧ (retRefused who d s).pw = s.pw ∧
    (retRefused who d s).straps = s.straps ∧ (retRefused who d s).sec = s.sec ∧ (retRefused who d s).tables = s.tables ∧
    (retRefused who d s).twin = s.twin ∧ (retRefused who d s).cas = s.cas ∧ (retRefused who d s).boot = s.boot ∧
    (retRefused who d s).host = s.host ∧ (retRefused who d s).notices = s.notices ∧
    (retRefused who d s).freeCount = s.freeCount ∧ (retRefused who d s).pending = s.pending :=
  by simp [retRefused]

/-- What `emit` leaves. -/
@[simp] theorem emit_keeps (r : List Byte) (s : State) :
    (emit r s).cond = s.cond ∧ (emit r s).seqs = s.seqs ∧ (emit r s).par = s.par ∧ (emit r s).progMem = s.progMem ∧
    (emit r s).schedMem = s.schedMem ∧ (emit r s).time = s.time ∧ (emit r s).rtc = s.rtc ∧ (emit r s).grid = s.grid ∧
    (emit r s).qp = s.qp ∧ (emit r s).health = s.health ∧ (emit r s).roster = s.roster ∧ (emit r s).modem = s.modem ∧
    (emit r s).radio = s.radio ∧ (emit r s).pw = s.pw ∧ (emit r s).straps = s.straps ∧ (emit r s).sec = s.sec ∧
    (emit r s).tables = s.tables ∧ (emit r s).cas = s.cas ∧ (emit r s).boot = s.boot ∧ (emit r s).host = s.host ∧
    (emit r s).notices = s.notices ∧ (emit r s).freeCount = s.freeCount ∧ (emit r s).pending = s.pending :=
  by unfold emit; split <;> and_intros <;> rfl

/-- What `emitPin` leaves. -/
@[simp] theorem emitPin_keeps (o : Nat) (l : Bool) (s : State) :
    (emitPin o l s).cond = s.cond ∧ (emitPin o l s).seqs = s.seqs ∧ (emitPin o l s).par = s.par ∧
    (emitPin o l s).progMem = s.progMem ∧ (emitPin o l s).schedMem = s.schedMem ∧ (emitPin o l s).time = s.time ∧
    (emitPin o l s).rtc = s.rtc ∧ (emitPin o l s).grid = s.grid ∧ (emitPin o l s).qp = s.qp ∧
    (emitPin o l s).health = s.health ∧ (emitPin o l s).roster = s.roster ∧ (emitPin o l s).modem = s.modem ∧
    (emitPin o l s).radio = s.radio ∧ (emitPin o l s).pw = s.pw ∧ (emitPin o l s).straps = s.straps ∧
    (emitPin o l s).sec = s.sec ∧ (emitPin o l s).tables = s.tables ∧ (emitPin o l s).cas = s.cas ∧
    (emitPin o l s).boot = s.boot ∧ (emitPin o l s).host = s.host ∧ (emitPin o l s).notices = s.notices ∧
    (emitPin o l s).freeCount = s.freeCount ∧ (emitPin o l s).pending = s.pending :=
  by simp [emitPin]

/-- What `bumpN` leaves. -/
@[simp] theorem bumpN_keeps (id scope n : Nat) (s : State) :
    (bumpN id scope n s).cond = s.cond ∧ (bumpN id scope n s).seqs = s.seqs ∧ (bumpN id scope n s).progMem = s.progMem ∧
    (bumpN id scope n s).schedMem = s.schedMem ∧ (bumpN id scope n s).time = s.time ∧ (bumpN id scope n s).rtc = s.rtc ∧
    (bumpN id scope n s).grid = s.grid ∧ (bumpN id scope n s).qp = s.qp ∧ (bumpN id scope n s).health = s.health ∧
    (bumpN id scope n s).roster = s.roster ∧ (bumpN id scope n s).modem = s.modem ∧ (bumpN id scope n s).radio = s.radio ∧
    (bumpN id scope n s).pw = s.pw ∧ (bumpN id scope n s).straps = s.straps ∧ (bumpN id scope n s).sec = s.sec ∧
    (bumpN id scope n s).tables = s.tables ∧ (bumpN id scope n s).twin = s.twin ∧ (bumpN id scope n s).cas = s.cas ∧
    (bumpN id scope n s).boot = s.boot ∧ (bumpN id scope n s).host = s.host ∧ (bumpN id scope n s).notices = s.notices ∧
    (bumpN id scope n s).freeCount = s.freeCount ∧ (bumpN id scope n s).pending = s.pending :=
  by and_intros <;> rfl

/-- What `bump` leaves. -/
@[simp] theorem bump_keeps (id : Nat) (s : State) :
    (bump id s).cond = s.cond ∧ (bump id s).seqs = s.seqs ∧ (bump id s).progMem = s.progMem ∧
    (bump id s).schedMem = s.schedMem ∧ (bump id s).time = s.time ∧ (bump id s).rtc = s.rtc ∧ (bump id s).grid = s.grid ∧
    (bump id s).qp = s.qp ∧ (bump id s).health = s.health ∧ (bump id s).roster = s.roster ∧ (bump id s).modem = s.modem ∧
    (bump id s).radio = s.radio ∧ (bump id s).pw = s.pw ∧ (bump id s).straps = s.straps ∧ (bump id s).sec = s.sec ∧
    (bump id s).tables = s.tables ∧ (bump id s).twin = s.twin ∧ (bump id s).cas = s.cas ∧ (bump id s).boot = s.boot ∧
    (bump id s).host = s.host ∧ (bump id s).notices = s.notices ∧ (bump id s).freeCount = s.freeCount ∧
    (bump id s).pending = s.pending :=
  by and_intros <;> rfl

/-- What `bumpSl` leaves. -/
@[simp] theorem bumpSl_keeps (id : Nat) (sl : Fin 12) (s : State) :
    (bumpSl id sl s).cond = s.cond ∧ (bumpSl id sl s).seqs = s.seqs ∧ (bumpSl id sl s).progMem = s.progMem ∧
    (bumpSl id sl s).schedMem = s.schedMem ∧ (bumpSl id sl s).time = s.time ∧ (bumpSl id sl s).rtc = s.rtc ∧
    (bumpSl id sl s).grid = s.grid ∧ (bumpSl id sl s).qp = s.qp ∧ (bumpSl id sl s).health = s.health ∧
    (bumpSl id sl s).roster = s.roster ∧ (bumpSl id sl s).modem = s.modem ∧ (bumpSl id sl s).radio = s.radio ∧
    (bumpSl id sl s).pw = s.pw ∧ (bumpSl id sl s).straps = s.straps ∧ (bumpSl id sl s).sec = s.sec ∧
    (bumpSl id sl s).tables = s.tables ∧ (bumpSl id sl s).twin = s.twin ∧ (bumpSl id sl s).cas = s.cas ∧
    (bumpSl id sl s).boot = s.boot ∧ (bumpSl id sl s).host = s.host ∧ (bumpSl id sl s).notices = s.notices ∧
    (bumpSl id sl s).freeCount = s.freeCount ∧ (bumpSl id sl s).pending = s.pending :=
  by and_intros <;> rfl

/-- What `setPar` leaves. -/
@[simp] theorem setPar_keeps (id scope : Nat) (v : Word) (s : State) :
    (setPar id scope v s).cond = s.cond ∧ (setPar id scope v s).seqs = s.seqs ∧ (setPar id scope v s).progMem = s.progMem ∧
    (setPar id scope v s).schedMem = s.schedMem ∧ (setPar id scope v s).time = s.time ∧ (setPar id scope v s).rtc = s.rtc ∧
    (setPar id scope v s).grid = s.grid ∧ (setPar id scope v s).qp = s.qp ∧ (setPar id scope v s).health = s.health ∧
    (setPar id scope v s).roster = s.roster ∧ (setPar id scope v s).modem = s.modem ∧ (setPar id scope v s).radio = s.radio ∧
    (setPar id scope v s).pw = s.pw ∧ (setPar id scope v s).straps = s.straps ∧ (setPar id scope v s).sec = s.sec ∧
    (setPar id scope v s).tables = s.tables ∧ (setPar id scope v s).twin = s.twin ∧ (setPar id scope v s).cas = s.cas ∧
    (setPar id scope v s).boot = s.boot ∧ (setPar id scope v s).host = s.host ∧ (setPar id scope v s).notices = s.notices ∧
    (setPar id scope v s).freeCount = s.freeCount ∧ (setPar id scope v s).pending = s.pending :=
  by and_intros <;> rfl

/-- What `modSlice` leaves. -/
@[simp] theorem modSlice_keeps (n : Fin 12) (f : SliceS → SliceS) (s : State) :
    (modSlice n f s).cond = s.cond ∧ (modSlice n f s).seqs = s.seqs ∧ (modSlice n f s).par = s.par ∧
    (modSlice n f s).progMem = s.progMem ∧ (modSlice n f s).schedMem = s.schedMem ∧ (modSlice n f s).time = s.time ∧
    (modSlice n f s).rtc = s.rtc ∧ (modSlice n f s).grid = s.grid ∧ (modSlice n f s).qp = s.qp ∧
    (modSlice n f s).health = s.health ∧ (modSlice n f s).roster = s.roster ∧ (modSlice n f s).modem = s.modem ∧
    (modSlice n f s).pw = s.pw ∧ (modSlice n f s).straps = s.straps ∧ (modSlice n f s).sec = s.sec ∧
    (modSlice n f s).tables = s.tables ∧ (modSlice n f s).twin = s.twin ∧ (modSlice n f s).cas = s.cas ∧
    (modSlice n f s).boot = s.boot ∧ (modSlice n f s).host = s.host ∧ (modSlice n f s).notices = s.notices ∧
    (modSlice n f s).freeCount = s.freeCount ∧ (modSlice n f s).pending = s.pending :=
  by and_intros <;> rfl

/-- What `setLane` leaves. -/
@[simp] theorem setLane_keeps (k : Fin 64) (l : Option Lane) (s : State) :
    (setLane k l s).cond = s.cond ∧ (setLane k l s).seqs = s.seqs ∧ (setLane k l s).par = s.par ∧
    (setLane k l s).progMem = s.progMem ∧ (setLane k l s).schedMem = s.schedMem ∧ (setLane k l s).time = s.time ∧
    (setLane k l s).rtc = s.rtc ∧ (setLane k l s).grid = s.grid ∧ (setLane k l s).qp = s.qp ∧
    (setLane k l s).health = s.health ∧ (setLane k l s).roster = s.roster ∧ (setLane k l s).modem = s.modem ∧
    (setLane k l s).pw = s.pw ∧ (setLane k l s).straps = s.straps ∧ (setLane k l s).sec = s.sec ∧
    (setLane k l s).tables = s.tables ∧ (setLane k l s).twin = s.twin ∧ (setLane k l s).cas = s.cas ∧
    (setLane k l s).boot = s.boot ∧ (setLane k l s).host = s.host ∧ (setLane k l s).notices = s.notices ∧
    (setLane k l s).freeCount = s.freeCount ∧ (setLane k l s).pending = s.pending :=
  by and_intros <;> rfl

/-- What `modLane` leaves. -/
@[simp] theorem modLane_keeps (k : Fin 64) (f : Lane → Lane) (s : State) :
    (modLane k f s).cond = s.cond ∧ (modLane k f s).seqs = s.seqs ∧ (modLane k f s).par = s.par ∧
    (modLane k f s).progMem = s.progMem ∧ (modLane k f s).schedMem = s.schedMem ∧ (modLane k f s).time = s.time ∧
    (modLane k f s).rtc = s.rtc ∧ (modLane k f s).grid = s.grid ∧ (modLane k f s).qp = s.qp ∧
    (modLane k f s).health = s.health ∧ (modLane k f s).roster = s.roster ∧ (modLane k f s).modem = s.modem ∧
    (modLane k f s).pw = s.pw ∧ (modLane k f s).straps = s.straps ∧ (modLane k f s).sec = s.sec ∧
    (modLane k f s).tables = s.tables ∧ (modLane k f s).twin = s.twin ∧ (modLane k f s).cas = s.cas ∧
    (modLane k f s).boot = s.boot ∧ (modLane k f s).host = s.host ∧ (modLane k f s).notices = s.notices ∧
    (modLane k f s).freeCount = s.freeCount ∧ (modLane k f s).pending = s.pending :=
  by and_intros <;> rfl

/-- What `modJob` leaves. -/
@[simp] theorem modJob_keeps (ref : Nat) (f : JobRec → JobRec) (s : State) :
    (modJob ref f s).cond = s.cond ∧ (modJob ref f s).seqs = s.seqs ∧ (modJob ref f s).par = s.par ∧
    (modJob ref f s).progMem = s.progMem ∧ (modJob ref f s).schedMem = s.schedMem ∧ (modJob ref f s).time = s.time ∧
    (modJob ref f s).rtc = s.rtc ∧ (modJob ref f s).grid = s.grid ∧ (modJob ref f s).health = s.health ∧
    (modJob ref f s).roster = s.roster ∧ (modJob ref f s).modem = s.modem ∧ (modJob ref f s).radio = s.radio ∧
    (modJob ref f s).pw = s.pw ∧ (modJob ref f s).straps = s.straps ∧ (modJob ref f s).sec = s.sec ∧
    (modJob ref f s).tables = s.tables ∧ (modJob ref f s).twin = s.twin ∧ (modJob ref f s).cas = s.cas ∧
    (modJob ref f s).boot = s.boot ∧ (modJob ref f s).host = s.host ∧ (modJob ref f s).notices = s.notices ∧
    (modJob ref f s).freeCount = s.freeCount ∧ (modJob ref f s).pending = s.pending :=
  by and_intros <;> rfl

/-- What `modRoster` leaves. -/
@[simp] theorem modRoster_keeps (i : Nat) (f : Roster → Roster) (s : State) :
    (modRoster i f s).cond = s.cond ∧ (modRoster i f s).seqs = s.seqs ∧ (modRoster i f s).par = s.par ∧
    (modRoster i f s).progMem = s.progMem ∧ (modRoster i f s).schedMem = s.schedMem ∧ (modRoster i f s).time = s.time ∧
    (modRoster i f s).rtc = s.rtc ∧ (modRoster i f s).grid = s.grid ∧ (modRoster i f s).qp = s.qp ∧
    (modRoster i f s).health = s.health ∧ (modRoster i f s).modem = s.modem ∧ (modRoster i f s).radio = s.radio ∧
    (modRoster i f s).pw = s.pw ∧ (modRoster i f s).straps = s.straps ∧ (modRoster i f s).sec = s.sec ∧
    (modRoster i f s).tables = s.tables ∧ (modRoster i f s).twin = s.twin ∧ (modRoster i f s).cas = s.cas ∧
    (modRoster i f s).boot = s.boot ∧ (modRoster i f s).host = s.host ∧ (modRoster i f s).notices = s.notices ∧
    (modRoster i f s).freeCount = s.freeCount ∧ (modRoster i f s).pending = s.pending :=
  by unfold modRoster; split <;> simp

/-- What `modLink` leaves. -/
@[simp] theorem modLink_keeps (l : Fin 6) (f : Link → Link) (s : State) :
    (modLink l f s).cond = s.cond ∧ (modLink l f s).seqs = s.seqs ∧ (modLink l f s).par = s.par ∧
    (modLink l f s).progMem = s.progMem ∧ (modLink l f s).schedMem = s.schedMem ∧ (modLink l f s).time = s.time ∧
    (modLink l f s).rtc = s.rtc ∧ (modLink l f s).grid = s.grid ∧ (modLink l f s).qp = s.qp ∧
    (modLink l f s).health = s.health ∧ (modLink l f s).roster = s.roster ∧ (modLink l f s).modem = s.modem ∧
    (modLink l f s).radio = s.radio ∧ (modLink l f s).pw = s.pw ∧ (modLink l f s).straps = s.straps ∧
    (modLink l f s).sec = s.sec ∧ (modLink l f s).tables = s.tables ∧ (modLink l f s).twin = s.twin ∧
    (modLink l f s).boot = s.boot ∧ (modLink l f s).host = s.host ∧ (modLink l f s).notices = s.notices ∧
    (modLink l f s).freeCount = s.freeCount ∧ (modLink l f s).pending = s.pending :=
  by and_intros <;> rfl

/-- What `modVc` leaves. -/
@[simp] theorem modVc_keeps (l : Fin 6) (v : Fin 4) (f : Vc → Vc) (s : State) :
    (modVc l v f s).cond = s.cond ∧ (modVc l v f s).seqs = s.seqs ∧ (modVc l v f s).par = s.par ∧
    (modVc l v f s).progMem = s.progMem ∧ (modVc l v f s).schedMem = s.schedMem ∧ (modVc l v f s).time = s.time ∧
    (modVc l v f s).rtc = s.rtc ∧ (modVc l v f s).grid = s.grid ∧ (modVc l v f s).qp = s.qp ∧
    (modVc l v f s).health = s.health ∧ (modVc l v f s).roster = s.roster ∧ (modVc l v f s).modem = s.modem ∧
    (modVc l v f s).radio = s.radio ∧ (modVc l v f s).pw = s.pw ∧ (modVc l v f s).straps = s.straps ∧
    (modVc l v f s).sec = s.sec ∧ (modVc l v f s).tables = s.tables ∧ (modVc l v f s).twin = s.twin ∧
    (modVc l v f s).boot = s.boot ∧ (modVc l v f s).host = s.host ∧ (modVc l v f s).notices = s.notices ∧
    (modVc l v f s).freeCount = s.freeCount ∧ (modVc l v f s).pending = s.pending :=
  by and_intros <;> rfl

/-- What `modTrig` leaves. -/
@[simp] theorem modTrig_keeps (n : Fin 2) (f : Trig → Trig) (s : State) :
    (modTrig n f s).cond = s.cond ∧ (modTrig n f s).seqs = s.seqs ∧ (modTrig n f s).par = s.par ∧
    (modTrig n f s).progMem = s.progMem ∧ (modTrig n f s).schedMem = s.schedMem ∧ (modTrig n f s).rtc = s.rtc ∧
    (modTrig n f s).grid = s.grid ∧ (modTrig n f s).qp = s.qp ∧ (modTrig n f s).health = s.health ∧
    (modTrig n f s).roster = s.roster ∧ (modTrig n f s).modem = s.modem ∧ (modTrig n f s).radio = s.radio ∧
    (modTrig n f s).pw = s.pw ∧ (modTrig n f s).straps = s.straps ∧ (modTrig n f s).sec = s.sec ∧
    (modTrig n f s).tables = s.tables ∧ (modTrig n f s).twin = s.twin ∧ (modTrig n f s).cas = s.cas ∧
    (modTrig n f s).boot = s.boot ∧ (modTrig n f s).host = s.host ∧ (modTrig n f s).notices = s.notices ∧
    (modTrig n f s).freeCount = s.freeCount ∧ (modTrig n f s).pending = s.pending :=
  by and_intros <;> rfl

/-- What `modStg` leaves. -/
@[simp] theorem modStg_keeps (e : Eng) (f : Stage → Stage) (s : State) :
    (modStg e f s).cond = s.cond ∧ (modStg e f s).seqs = s.seqs ∧ (modStg e f s).par = s.par ∧
    (modStg e f s).progMem = s.progMem ∧ (modStg e f s).schedMem = s.schedMem ∧ (modStg e f s).time = s.time ∧
    (modStg e f s).rtc = s.rtc ∧ (modStg e f s).grid = s.grid ∧ (modStg e f s).qp = s.qp ∧ (modStg e f s).roster = s.roster ∧
    (modStg e f s).modem = s.modem ∧ (modStg e f s).radio = s.radio ∧ (modStg e f s).pw = s.pw ∧
    (modStg e f s).straps = s.straps ∧ (modStg e f s).sec = s.sec ∧ (modStg e f s).tables = s.tables ∧
    (modStg e f s).twin = s.twin ∧ (modStg e f s).cas = s.cas ∧ (modStg e f s).boot = s.boot ∧ (modStg e f s).host = s.host ∧
    (modStg e f s).notices = s.notices ∧ (modStg e f s).freeCount = s.freeCount ∧ (modStg e f s).pending = s.pending :=
  by cases e <;> and_intros <;> rfl

/-- What `modSlot` leaves. -/
@[simp] theorem modSlot_keeps (k : Nat) (f : Slot → Slot) (s : State) :
    (modSlot k f s).cond = s.cond ∧ (modSlot k f s).seqs = s.seqs ∧ (modSlot k f s).par = s.par ∧
    (modSlot k f s).progMem = s.progMem ∧ (modSlot k f s).schedMem = s.schedMem ∧ (modSlot k f s).time = s.time ∧
    (modSlot k f s).rtc = s.rtc ∧ (modSlot k f s).grid = s.grid ∧ (modSlot k f s).qp = s.qp ∧
    (modSlot k f s).health = s.health ∧ (modSlot k f s).roster = s.roster ∧ (modSlot k f s).modem = s.modem ∧
    (modSlot k f s).radio = s.radio ∧ (modSlot k f s).pw = s.pw ∧ (modSlot k f s).straps = s.straps ∧
    (modSlot k f s).tables = s.tables ∧ (modSlot k f s).twin = s.twin ∧ (modSlot k f s).cas = s.cas ∧
    (modSlot k f s).boot = s.boot ∧ (modSlot k f s).host = s.host ∧ (modSlot k f s).notices = s.notices ∧
    (modSlot k f s).freeCount = s.freeCount ∧ (modSlot k f s).pending = s.pending :=
  by and_intros <;> rfl

/-- What `modProfile` leaves. -/
@[simp] theorem modProfile_keeps (k : Nat) (f : Profile → Profile) (s : State) :
    (modProfile k f s).cond = s.cond ∧ (modProfile k f s).seqs = s.seqs ∧ (modProfile k f s).par = s.par ∧
    (modProfile k f s).progMem = s.progMem ∧ (modProfile k f s).schedMem = s.schedMem ∧ (modProfile k f s).time = s.time ∧
    (modProfile k f s).rtc = s.rtc ∧ (modProfile k f s).grid = s.grid ∧ (modProfile k f s).qp = s.qp ∧
    (modProfile k f s).health = s.health ∧ (modProfile k f s).roster = s.roster ∧ (modProfile k f s).radio = s.radio ∧
    (modProfile k f s).pw = s.pw ∧ (modProfile k f s).straps = s.straps ∧ (modProfile k f s).sec = s.sec ∧
    (modProfile k f s).tables = s.tables ∧ (modProfile k f s).twin = s.twin ∧ (modProfile k f s).cas = s.cas ∧
    (modProfile k f s).boot = s.boot ∧ (modProfile k f s).host = s.host ∧ (modProfile k f s).notices = s.notices ∧
    (modProfile k f s).freeCount = s.freeCount ∧ (modProfile k f s).pending = s.pending :=
  by and_intros <;> rfl

/-- What `setPc` leaves. -/
@[simp] theorem setPc_keeps (who : Who) (pc : Nat) (s : State) :
    (setPc who pc s).par = s.par ∧ (setPc who pc s).progMem = s.progMem ∧ (setPc who pc s).schedMem = s.schedMem ∧
    (setPc who pc s).time = s.time ∧ (setPc who pc s).rtc = s.rtc ∧ (setPc who pc s).grid = s.grid ∧
    (setPc who pc s).qp = s.qp ∧ (setPc who pc s).health = s.health ∧ (setPc who pc s).roster = s.roster ∧
    (setPc who pc s).modem = s.modem ∧ (setPc who pc s).radio = s.radio ∧ (setPc who pc s).pw = s.pw ∧
    (setPc who pc s).straps = s.straps ∧ (setPc who pc s).sec = s.sec ∧ (setPc who pc s).tables = s.tables ∧
    (setPc who pc s).twin = s.twin ∧ (setPc who pc s).cas = s.cas ∧ (setPc who pc s).boot = s.boot ∧
    (setPc who pc s).host = s.host ∧ (setPc who pc s).notices = s.notices ∧ (setPc who pc s).freeCount = s.freeCount ∧
    (setPc who pc s).pending = s.pending :=
  by cases who <;> simp [setPc]

/-- What `advance` leaves. -/
@[simp] theorem advance_keeps (who : Who) (s : State) :
    (advance who s).par = s.par ∧ (advance who s).progMem = s.progMem ∧ (advance who s).schedMem = s.schedMem ∧
    (advance who s).time = s.time ∧ (advance who s).rtc = s.rtc ∧ (advance who s).grid = s.grid ∧ (advance who s).qp = s.qp ∧
    (advance who s).health = s.health ∧ (advance who s).roster = s.roster ∧ (advance who s).modem = s.modem ∧
    (advance who s).radio = s.radio ∧ (advance who s).pw = s.pw ∧ (advance who s).straps = s.straps ∧
    (advance who s).sec = s.sec ∧ (advance who s).tables = s.tables ∧ (advance who s).twin = s.twin ∧
    (advance who s).cas = s.cas ∧ (advance who s).boot = s.boot ∧ (advance who s).host = s.host ∧
    (advance who s).notices = s.notices ∧ (advance who s).freeCount = s.freeCount ∧ (advance who s).pending = s.pending :=
  by simp [advance]

/-- What `setStack` leaves. -/
@[simp] theorem setStack_keeps (who : Who) (st : List Nat) (s : State) :
    (setStack who st s).par = s.par ∧ (setStack who st s).progMem = s.progMem ∧ (setStack who st s).schedMem = s.schedMem ∧
    (setStack who st s).time = s.time ∧ (setStack who st s).rtc = s.rtc ∧ (setStack who st s).grid = s.grid ∧
    (setStack who st s).qp = s.qp ∧ (setStack who st s).health = s.health ∧ (setStack who st s).roster = s.roster ∧
    (setStack who st s).modem = s.modem ∧ (setStack who st s).radio = s.radio ∧ (setStack who st s).pw = s.pw ∧
    (setStack who st s).straps = s.straps ∧ (setStack who st s).sec = s.sec ∧ (setStack who st s).tables = s.tables ∧
    (setStack who st s).twin = s.twin ∧ (setStack who st s).cas = s.cas ∧ (setStack who st s).boot = s.boot ∧
    (setStack who st s).host = s.host ∧ (setStack who st s).notices = s.notices ∧ (setStack who st s).freeCount = s.freeCount ∧
    (setStack who st s).pending = s.pending :=
  by simp [setStack]

/-- What `block` leaves. -/
@[simp] theorem block_keeps (who : Who) (a : Await) (s : State) :
    (block who a s).par = s.par ∧ (block who a s).progMem = s.progMem ∧ (block who a s).schedMem = s.schedMem ∧
    (block who a s).time = s.time ∧ (block who a s).rtc = s.rtc ∧ (block who a s).grid = s.grid ∧ (block who a s).qp = s.qp ∧
    (block who a s).health = s.health ∧ (block who a s).roster = s.roster ∧ (block who a s).modem = s.modem ∧
    (block who a s).radio = s.radio ∧ (block who a s).pw = s.pw ∧ (block who a s).straps = s.straps ∧
    (block who a s).sec = s.sec ∧ (block who a s).tables = s.tables ∧ (block who a s).twin = s.twin ∧
    (block who a s).cas = s.cas ∧ (block who a s).boot = s.boot ∧ (block who a s).host = s.host ∧
    (block who a s).notices = s.notices ∧ (block who a s).freeCount = s.freeCount ∧ (block who a s).pending = s.pending :=
  by cases who <;> simp [block]

/-- What `psumSync1` leaves. -/
@[simp] theorem psumSync1_keeps (w : World) (s : State) :
    (psumSync1 w s).cond = s.cond ∧ (psumSync1 w s).seqs = s.seqs ∧ (psumSync1 w s).par = s.par ∧
    (psumSync1 w s).progMem = s.progMem ∧ (psumSync1 w s).schedMem = s.schedMem ∧ (psumSync1 w s).time = s.time ∧
    (psumSync1 w s).rtc = s.rtc ∧ (psumSync1 w s).grid = s.grid ∧ (psumSync1 w s).qp = s.qp ∧
    (psumSync1 w s).health = s.health ∧ (psumSync1 w s).roster = s.roster ∧ (psumSync1 w s).modem = s.modem ∧
    (psumSync1 w s).radio = s.radio ∧ (psumSync1 w s).pw = s.pw ∧ (psumSync1 w s).straps = s.straps ∧
    (psumSync1 w s).sec = s.sec ∧ (psumSync1 w s).tables = s.tables ∧ (psumSync1 w s).twin = s.twin ∧
    (psumSync1 w s).cas = s.cas ∧ (psumSync1 w s).boot = s.boot ∧ (psumSync1 w s).notices = s.notices ∧
    (psumSync1 w s).freeCount = s.freeCount ∧ (psumSync1 w s).pending = s.pending :=
  by unfold psumSync1; dsimp only; split <;> simp

/-- What `psumSync` leaves. -/
@[simp] theorem psumSync_keeps (s : State) :
    (psumSync s).cond = s.cond ∧ (psumSync s).seqs = s.seqs ∧ (psumSync s).par = s.par ∧ (psumSync s).progMem = s.progMem ∧
    (psumSync s).schedMem = s.schedMem ∧ (psumSync s).time = s.time ∧ (psumSync s).rtc = s.rtc ∧ (psumSync s).grid = s.grid ∧
    (psumSync s).qp = s.qp ∧ (psumSync s).health = s.health ∧ (psumSync s).roster = s.roster ∧ (psumSync s).modem = s.modem ∧
    (psumSync s).radio = s.radio ∧ (psumSync s).pw = s.pw ∧ (psumSync s).straps = s.straps ∧ (psumSync s).sec = s.sec ∧
    (psumSync s).tables = s.tables ∧ (psumSync s).twin = s.twin ∧ (psumSync s).cas = s.cas ∧ (psumSync s).boot = s.boot ∧
    (psumSync s).notices = s.notices ∧ (psumSync s).freeCount = s.freeCount ∧ (psumSync s).pending = s.pending :=
  by simp [psumSync]

/-- What `setEntries` leaves. -/
@[simp] theorem setEntries_keeps (es : List Notice) (s : State) :
    (setEntries es s).cond = s.cond ∧ (setEntries es s).seqs = s.seqs ∧ (setEntries es s).par = s.par ∧
    (setEntries es s).progMem = s.progMem ∧ (setEntries es s).schedMem = s.schedMem ∧ (setEntries es s).time = s.time ∧
    (setEntries es s).rtc = s.rtc ∧ (setEntries es s).grid = s.grid ∧ (setEntries es s).qp = s.qp ∧
    (setEntries es s).health = s.health ∧ (setEntries es s).roster = s.roster ∧ (setEntries es s).modem = s.modem ∧
    (setEntries es s).radio = s.radio ∧ (setEntries es s).pw = s.pw ∧ (setEntries es s).straps = s.straps ∧
    (setEntries es s).sec = s.sec ∧ (setEntries es s).tables = s.tables ∧ (setEntries es s).twin = s.twin ∧
    (setEntries es s).cas = s.cas ∧ (setEntries es s).boot = s.boot ∧ (setEntries es s).host = s.host ∧
    (setEntries es s).freeCount = s.freeCount ∧ (setEntries es s).pending = s.pending :=
  by and_intros <;> rfl

/-- A fold of steps that write only `pw` and `twin` writes only those. -/
theorem foldl_pw_twin {α : Type} (f : State → α → State) (h : ∀ t n, ∃ p w, f t n = { t with pw := p, twin := w }) :
    ∀ (l : List α) (t : State), ∃ p w, l.foldl f t = { t with pw := p, twin := w } := by
  intro l
  induction l with
  | nil => intro t; exact ⟨t.pw, t.twin, rfl⟩
  | cons n l ih =>
    intro t
    obtain ⟨p, w, e⟩ := h t n
    rw [List.foldl_cons, e]
    exact ih _

/-- The flow outputs' step writes the outputs it has shown and the record stream. -/
theorem flowSync_eq (s : State) : ∃ p w, flowSync s = { s with pw := p, twin := w } := by
  unfold flowSync
  split
  · apply foldl_pw_twin
    intro t n
    split
    · exact ⟨_, _, rfl⟩
    · unfold emitPin emit
      split <;> exact ⟨_, _, rfl⟩
  · exact ⟨_, _, rfl⟩

/-- What the flow outputs' step leaves. -/
@[simp] theorem flowSync_keeps (s : State) :
    (flowSync s).cond = s.cond ∧ (flowSync s).seqs = s.seqs ∧ (flowSync s).par = s.par ∧ (flowSync s).progMem = s.progMem ∧
    (flowSync s).schedMem = s.schedMem ∧ (flowSync s).time = s.time ∧ (flowSync s).rtc = s.rtc ∧ (flowSync s).grid = s.grid ∧
    (flowSync s).qp = s.qp ∧ (flowSync s).health = s.health ∧ (flowSync s).roster = s.roster ∧ (flowSync s).modem = s.modem ∧
    (flowSync s).radio = s.radio ∧ (flowSync s).straps = s.straps ∧ (flowSync s).sec = s.sec ∧
    (flowSync s).tables = s.tables ∧ (flowSync s).cas = s.cas ∧ (flowSync s).boot = s.boot ∧ (flowSync s).host = s.host ∧
    (flowSync s).notices = s.notices ∧ (flowSync s).freeCount = s.freeCount ∧ (flowSync s).pending = s.pending := by
  obtain ⟨p, w, h⟩ := flowSync_eq s
  rw [h]
  simp

/-- What `settle` leaves: it writes the shown poll summaries, the flow outputs and the record stream. -/
@[simp] theorem settle_keeps (s : State) :
    (settle s).cond = s.cond ∧ (settle s).seqs = s.seqs ∧ (settle s).par = s.par ∧ (settle s).progMem = s.progMem ∧
    (settle s).schedMem = s.schedMem ∧ (settle s).time = s.time ∧ (settle s).rtc = s.rtc ∧ (settle s).grid = s.grid ∧
    (settle s).qp = s.qp ∧ (settle s).health = s.health ∧ (settle s).roster = s.roster ∧ (settle s).modem = s.modem ∧
    (settle s).radio = s.radio ∧ (settle s).straps = s.straps ∧ (settle s).sec = s.sec ∧ (settle s).tables = s.tables ∧
    (settle s).cas = s.cas ∧ (settle s).boot = s.boot ∧ (settle s).notices = s.notices ∧
    (settle s).freeCount = s.freeCount ∧ (settle s).pending = s.pending := by
  simp [settle]

/-- A command that takes effect answers the settled state. -/
theorem ok_eq (s : State) : ok s = .next (settle s) := rfl

end Sys2Proof.Machine
end

