-- ==== Sys2Proof/Laws/Issue.lean ====
section
/-! SUPPORT. What an instruction that issues does, and what its register writes, statuses and program counter moves leave. -/

namespace Sys2Proof.Machine

/-! ## Issue -/

/-- What opening a record of its own leaves. -/
@[simp] theorem opened_keeps (who : Who) (s : State) :
    (opened who s).seqs = s.seqs ∧ (opened who s).par = s.par ∧ (opened who s).progMem = s.progMem ∧
    (opened who s).schedMem = s.schedMem ∧ (opened who s).time = s.time ∧ (opened who s).rtc = s.rtc ∧
    (opened who s).grid = s.grid ∧ (opened who s).qp = s.qp ∧ (opened who s).health = s.health ∧
    (opened who s).roster = s.roster ∧ (opened who s).modem = s.modem ∧ (opened who s).radio = s.radio ∧
    (opened who s).pw = s.pw ∧ (opened who s).straps = s.straps ∧ (opened who s).sec = s.sec ∧
    (opened who s).tables = s.tables ∧ (opened who s).cas = s.cas ∧ (opened who s).boot = s.boot ∧
    (opened who s).host = s.host ∧ (opened who s).notices = s.notices ∧ (opened who s).freeCount = s.freeCount ∧
    (opened who s).pending = s.pending ∧ (opened who s).twin.role = s.twin.role := by
  unfold opened
  split <;> (and_intros <;> rfl)

/-- The issuer's context is the same in the record it opens. -/
@[simp] theorem ctx_opened (who : Who) (s : State) : ctx who (opened who s) = ctx who s := by
  cases who with
  | slice n => rfl
  | ring w =>
    unfold opened
    cases s.cond.record with
    | none => cases w <;> rfl
    | some r => rfl
  | routine => rfl

@[simp] theorem getW_opened (who : Who) (r : Fin 16) (s : State) : getW who r (opened who s) = getW who r s := by simp [getW]
@[simp] theorem getT_opened (who : Who) (r : Fin 4) (s : State) : getT who r (opened who s) = getT who r s := by simp [getT]

@[simp] theorem op2Val_opened (who : Who) (o : Op2) (s : State) : op2Val who o (opened who s) = op2Val who o s := by
  cases o <;> simp [op2Val]

@[simp] theorem worldOf_opened (who : Who) (s : State) : worldOf who (opened who s) = worldOf who s := by
  cases who with
  | slice n => rfl
  | ring w => rfl
  | routine => rfl

/-- Two meanings that agree where the issuer's word runs agree. -/
theorem inContext_congr {who : Who} {f g : State → State} {s : State} (h : f (opened who s) = g (opened who s)) :
    inContext who f s = inContext who g s := by
  cases who with
  | slice n => exact h
  | routine => exact h
  | ring w =>
    unfold inContext
    unfold opened at h
    cases e : s.cond.record with
    | none => simp only [e] at h ⊢; rw [h]
    | some r => simp only [e] at h ⊢; exact h

/-- An instruction that issues has its effect. -/
theorem issueF_issues {who : Who} {c : Cond} {op : Nat} {p : Perm} {s : State} (h : Issues who c op p s) (body : State → State) :
    issueF who c op p body s = inContext who body s := by
  unfold issueF
  rw [h.can]
  apply inContext_congr
  have h1 : fetchOutside who (opened who s) = false := by
    rw [← h.inWin]; cases who <;> simp [fetchOutside, seq]
  have h2 : lockedOut op (opened who s) = false := by
    rw [← h.open_]; simp [lockedOut]
  have h3 : permFail p who (opened who s) = none := by
    rw [← h.permitted]; cases p <;> cases who <;> simp [permFail]
  simp [h1, h2, h3, h.holds, h.active]

/-- An instruction that issues and completes at once. -/
theorem issue_issues {who : Who} {c : Cond} {op : Nat} {p : Perm} {s : State} (h : Issues who c op p s) (body : State → State) :
    issue who c op p body s = inContext who (fun u => advance who (body u)) s := issueF_issues h _

/-- An instruction that issues and may wait. -/
theorem issueB_issues {who : Who} {c : Cond} {op : Nat} {p : Perm} {s : State} (h : Issues who c op p s) (body : State → State) :
    issueB who c op p body s = inContext who (fun u => if waits who (body u) then body u else advance who (body u)) s :=
  issueF_issues h _

/-- An instruction that Table FM-1 does not permit is refused (02 R35). -/
theorem issueF_barred {who : Who} {c : Cond} {op : Nat} {p : Perm} {d : Nat} {s : State} (h : Barred who c op p d s)
    (body : State → State) :
    issueF who c op p body s = inContext who (fun u => advance who (ret who stREFUSED (w32 d) (w32 op) u)) s := by
  unfold issueF
  rw [h.can]
  apply inContext_congr
  have h1 : fetchOutside who (opened who s) = false := by
    rw [← h.inWin]; cases who <;> simp [fetchOutside, seq]
  have h2 : lockedOut op (opened who s) = false := by
    rw [← h.open_]; simp [lockedOut]
  have h3 : permFail p who (opened who s) = some d := by
    rw [← h.barred]; cases p <;> cases who <;> simp [permFail]
  simp [h1, h2, h3, h.holds, h.active]

/-! ## Registers -/

/-- Changes to the issuer's context show in it. -/
@[simp] theorem ctx_modCtx (who : Who) (f : Ctx → Ctx) (s : State) : ctx who (modCtx who f s) = f (ctx who s) := by
  cases who with
  | slice n => simp [ctx, modCtx, upd]
  | ring w => cases w <;> rfl
  | routine =>
    have : ∀ w, recWorld (modWorldCtx w f s) = recWorld s := by intro w; cases w <;> rfl
    simp only [ctx, modCtx, worldOf]
    rw [this]
    cases recWorld s <;> rfl

/-- A record change that keeps the world keeps every issuer's context. -/
theorem ctx_modRecord (who : Who) (f : Record → Record) (s : State) (h : ∀ r, (f r).world = r.world) :
    ctx who (modRecord f s) = ctx who s := by
  cases who with
  | slice n => rfl
  | ring w => cases w <;> rfl
  | routine =>
    have : recWorld (modRecord f s) = recWorld s := by
      unfold recWorld modRecord
      cases s.cond.record with
      | none => rfl
      | some r => exact h r
    simp only [ctx, worldOf]
    rw [this]
    cases recWorld s <;> rfl

/-- Closing a command leaves every context. -/
@[simp] theorem ctx_settle (who : Who) (s : State) : ctx who (settle s) = ctx who s := by
  have hc : (settle s).cond = s.cond := by simp
  have hq : (settle s).seqs = s.seqs := by simp
  cases who with
  | slice n => simp only [ctx, hq]
  | ring w => cases w <;> simp only [ctx, worldOf, worldCtx, hc]
  | routine =>
    have : recWorld (settle s) = recWorld s := by simp only [recWorld, hc]
    simp only [ctx, worldOf, this]
    cases recWorld s <;> simp only [worldCtx, hc]

/-- Going on leaves the issuer's registers. -/
@[simp] theorem regs_advance (who : Who) (s : State) : (ctx who (advance who s)).regs = (ctx who s).regs := by
  cases who with
  | slice n => simp [advance, setPc, ctx, modSeq, upd]
  | ring w => rfl
  | routine =>
    exact congrArg Ctx.regs (ctx_modRecord .routine _ s (by intro r; rfl))

@[simp] theorem regs_setPc (who : Who) (pc : Nat) (s : State) : (ctx who (setPc who pc s)).regs = (ctx who s).regs := by
  cases who with
  | slice n => simp [setPc, ctx, modSeq, upd]
  | ring w => rfl
  | routine =>
    exact congrArg Ctx.regs (ctx_modRecord .routine _ s (by intro r; rfl))

/-- A status writes w0, w1 and w2 (02 R38). -/
@[simp] theorem regs_ret (who : Who) (st : Nat) (w1 w2 : Word) (s : State) :
    (ctx who (ret who st w1 w2 s)).regs =
      { (ctx who s).regs with w := (((ctx who s).regs.w.set 0 (w32 st)).set 1 w1).set 2 w2 } := by
  cases who with
  | slice n => simp only [ret, ctx_modCtx]
  | ring w =>
    simp only [ret]
    rw [ctx_modRecord _ (fun r => { r with status := some (w32 st) }) _ (fun _ => rfl), ctx_modCtx]
  | routine =>
    simp only [ret]
    rw [ctx_modRecord _ (fun r => { r with status := some (w32 st) }) _ (fun _ => rfl), ctx_modCtx]

@[simp] theorem getW_settle (who : Who) (r : Fin 16) (s : State) : getW who r (settle s) = getW who r s := by simp [getW]
@[simp] theorem getT_settle (who : Who) (r : Fin 4) (s : State) : getT who r (settle s) = getT who r s := by simp [getT]
@[simp] theorem getW_advance (who : Who) (r : Fin 16) (s : State) : getW who r (advance who s) = getW who r s := by simp [getW]
@[simp] theorem getT_advance (who : Who) (r : Fin 4) (s : State) : getT who r (advance who s) = getT who r s := by simp [getT]
@[simp] theorem getW_setPc (who : Who) (r : Fin 16) (pc : Nat) (s : State) : getW who r (setPc who pc s) = getW who r s := by
  simp [getW]

/-- A written working register reads back, and no other changes. -/
@[simp] theorem getW_setW (who : Who) (d r : Fin 16) (v : Word) (s : State) :
    getW who r (setW who d v s) = if r = d then v else getW who r s := by
  simp only [getW, setW, ctx_modCtx]
  by_cases h : r = d
  · subst h; simp
  · have h' : d.val ≠ r.val := fun e => h (Fin.ext e.symm)
    simp [h, h']

@[simp] theorem getT_setW (who : Who) (d : Fin 16) (r : Fin 4) (v : Word) (s : State) :
    getT who r (setW who d v s) = getT who r s := by
  simp [getT, setW]

@[simp] theorem getW_setT (who : Who) (d : Fin 4) (r : Fin 16) (v : TVal) (s : State) :
    getW who r (setT who d v s) = getW who r s := by
  simp [getW, setT]

@[simp] theorem getT_setT (who : Who) (d r : Fin 4) (v : TVal) (s : State) :
    getT who r (setT who d v s) = if r = d then v else getT who r s := by
  simp only [getT, setT, ctx_modCtx]
  by_cases h : r = d
  · subst h; simp
  · have h' : d.val ≠ r.val := fun e => h (Fin.ext e.symm)
    simp [h, h']

/-- What a status leaves in the working registers. -/
theorem getW_ret (who : Who) (r : Fin 16) (st : Nat) (w1 w2 : Word) (s : State) :
    getW who r (ret who st w1 w2 s) =
      if r = 0 then w32 st else if r = 1 then w1 else if r = 2 then w2 else getW who r s := by
  simp only [getW, regs_ret]
  by_cases h0 : r = 0
  · subst h0; simp
  by_cases h1 : r = 1
  · subst h1; simp
  by_cases h2 : r = 2
  · subst h2; simp
  have e0 : (0 : Nat) ≠ r.val := fun e => h0 (Fin.ext e.symm)
  have e1 : (1 : Nat) ≠ r.val := fun e => h1 (Fin.ext e.symm)
  have e2 : (2 : Nat) ≠ r.val := fun e => h2 (Fin.ext e.symm)
  simp [h0, h1, h2, e0, e1, e2]

@[simp] theorem getT_ret (who : Who) (r : Fin 4) (st : Nat) (w1 w2 : Word) (s : State) :
    getT who r (ret who st w1 w2 s) = getT who r s := by simp [getT]

/-- A status that an instruction reports stands in w0-w2 after it. -/
theorem reports_ret (who : Who) (st : Nat) (w1 w2 : Word) (s : State) :
    Reports who st w1 w2 (settle (advance who (ret who st w1 w2 s))) := by
  refine ⟨?_, ?_, ?_⟩ <;> simp [getW_ret]

/-! ## Effects on the issuer's registers alone -/

/-- A change of the issuer's context leaves the other sequencers and worlds. -/
theorem elsewhere_modCtx (who : Who) (f : Ctx → Ctx) (s : State) : Elsewhere who s (modCtx who f s) := by
  cases who with
  | slice m =>
    refine ⟨?_, fun w _ => by cases w <;> rfl⟩
    intro n h
    have hne : m ≠ n := fun e => h (by rw [e])
    have hne' : m.val ≠ n.val := fun e => hne (Fin.ext e)
    simp [seq, modCtx, upd, hne']
  | ring w =>
    refine ⟨fun n _ => by cases w <;> rfl, ?_⟩
    intro w' h
    rcases h with ⟨n, h⟩ | h
    · cases h
    · cases w <;> cases w' <;> first | rfl | exact absurd rfl h
  | routine =>
    simp only [modCtx]
    generalize hw : worldOf Who.routine s = w
    refine ⟨fun n _ => by cases w <;> rfl, ?_⟩
    intro w' h
    rw [hw] at h
    rcases h with ⟨n, h⟩ | h
    · cases h
    · cases w <;> cases w' <;> first | rfl | exact absurd rfl h

/-- What setting the program counter leaves elsewhere. -/
theorem elsewhere_setPc (who : Who) (pc : Nat) (s : State) : Elsewhere who s (setPc who pc s) := by
  cases who with
  | slice m =>
    refine ⟨?_, fun w _ => by cases w <;> rfl⟩
    intro n h
    have hne : m ≠ n := fun e => h (by rw [e])
    have hne' : m.val ≠ n.val := fun e => hne (Fin.ext e)
    simp [seq, setPc, modSeq, upd, hne']
  | ring w => exact ⟨fun _ _ => rfl, fun _ _ => rfl⟩
  | routine => exact ⟨fun _ _ => rfl, fun w _ => by cases w <;> rfl⟩

/-- Other effects add up when the issuer's world stands. -/
theorem Elsewhere.trans {who : Who} {s t u : State} (h : Elsewhere who s t) (hw : worldOf who t = worldOf who s)
    (h' : Elsewhere who t u) : Elsewhere who s u :=
  ⟨fun n hn => (h'.seqs n hn).trans (h.seqs n hn), fun w c => (h'.worlds w (by rw [hw]; exact c)).trans (h.worlds w c)⟩

theorem Untouched.trans {s t u : State} (h : Untouched s t) (h' : Untouched t u) : Untouched s u := by
  constructor
  all_goals first
    | exact h'.par.trans h.par | exact h'.progMem.trans h.progMem | exact h'.schedMem.trans h.schedMem
    | exact h'.time.trans h.time | exact h'.rtc.trans h.rtc | exact h'.grid.trans h.grid | exact h'.qp.trans h.qp
    | exact h'.health.trans h.health | exact h'.roster.trans h.roster | exact h'.modem.trans h.modem
    | exact h'.radio.trans h.radio | exact h'.straps.trans h.straps | exact h'.sec.trans h.sec
    | exact h'.tables.trans h.tables | exact h'.cas.trans h.cas | exact h'.boot.trans h.boot
    | exact h'.notices.trans h.notices | exact h'.ringMem.trans h.ringMem | exact h'.freeCount.trans h.freeCount
    | exact h'.pending.trans h.pending

theorem untouched_modCtx (who : Who) (f : Ctx → Ctx) (s : State) : Untouched s (modCtx who f s) := by
  constructor <;> simp

theorem untouched_setPc (who : Who) (pc : Nat) (s : State) : Untouched s (setPc who pc s) := by
  constructor <;> simp

/-- Closing a command leaves ring memory. -/
@[simp] theorem settle_ringMem (s : State) : (settle s).host.ringMem = s.host.ringMem := by
  have h : (settle s).host = (psumSync s).host := by simp [settle]
  rw [h]
  unfold psumSync psumSync1
  dsimp only
  split <;> split <;> rfl

theorem untouched_settle (s : State) : Untouched s (settle s) := by
  constructor <;> simp

theorem elsewhere_settle (who : Who) (s : State) : Elsewhere who s (settle s) := by
  have hc : (settle s).cond = s.cond := by simp
  have hq : (settle s).seqs = s.seqs := by simp
  exact ⟨fun n _ => by simp only [seq, hq], fun w _ => by cases w <;> simp only [worldCtx, hc]⟩

@[simp] theorem worldOf_modCtx (who : Who) (f : Ctx → Ctx) (s : State) : worldOf who (modCtx who f s) = worldOf who s := by
  cases who with
  | slice m => rfl
  | ring w => rfl
  | routine =>
    have : ∀ w, recWorld (modWorldCtx w f s) = recWorld s := by intro w; cases w <;> rfl
    simp only [modCtx, worldOf, this]

@[simp] theorem worldOf_setPc (who : Who) (pc : Nat) (s : State) : worldOf who (setPc who pc s) = worldOf who s := by
  cases who with
  | slice m => rfl
  | ring w => rfl
  | routine =>
    simp only [setPc, worldOf, recWorld, modRecord]
    cases s.cond.record <;> rfl

@[simp] theorem pcOf_modCtx (who who' : Who) (f : Ctx → Ctx) (s : State) : pcOf who (modCtx who' f s) = pcOf who s := by
  have hs : ∀ w (t : State), (modWorldCtx w f t).seqs = t.seqs := by simp
  have hr : ∀ w (t : State), (modWorldCtx w f t).cond.record = t.cond.record := by intro w t; cases w <;> rfl
  cases who with
  | slice n =>
    cases who' with
    | slice m =>
      by_cases e : m.val = n.val
      · have : m = n := Fin.ext e
        subst this
        simp [pcOf, seq, modCtx, upd]
      · simp [pcOf, seq, modCtx, upd, e]
    | ring w => simp only [pcOf, seq, modCtx, hs]
    | routine => simp only [pcOf, seq, modCtx, hs]
  | ring w => rfl
  | routine =>
    cases who' with
    | slice m => rfl
    | ring w => simp only [pcOf, modCtx, hr]
    | routine => simp only [pcOf, modCtx, hr]

@[simp] theorem pcOf_settle (who : Who) (s : State) : pcOf who (settle s) = pcOf who s := by
  have hc : (settle s).cond = s.cond := by simp
  have hq : (settle s).seqs = s.seqs := by simp
  cases who <;> simp only [pcOf, seq, hc, hq]

/-- Going on moves the program counter by one, modulo 2^16 (02 R52). -/
theorem pcOf_advance (who : Who) (s : State) (h : inRing who = false) (hr : who = .routine → s.cond.record.isSome = true) :
    pcOf who (advance who s) = (pcOf who s + 1) % 65536 := by
  cases who with
  | slice n => simp [advance, setPc, pcOf, seq, modSeq, upd]
  | ring w => simp [inRing] at h
  | routine =>
    have := hr rfl
    obtain ⟨r, e⟩ := Option.isSome_iff_exists.mp this
    simp [advance, setPc, pcOf, modRecord, e]

/-- An instruction issued in a routine has an open record. -/
theorem Issues.routine {c : Cond} {op : Nat} {p : Perm} {s : State} (h : Issues .routine c op p s) :
    s.cond.record.isSome = true := by
  have := h.can
  unfold canRun at this
  cases e : s.cond.record with
  | none => simp [e] at this
  | some r => rfl

/-- Up to here only the issuer's registers have changed, to g. -/
structure RegStep (who : Who) (g : RegSet) (s t : State) : Prop where
  regs : ctx who t = { ctx who s with regs := g }
  pc : pcOf who t = pcOf who s
  world : worldOf who t = worldOf who s
  await : t.cond.await = s.cond.await
  record : t.cond.record.map Record.routine = s.cond.record.map Record.routine
  elsewhere : Elsewhere who s t
  untouched : Untouched s t

theorem RegStep.refl (who : Who) (s : State) : RegStep who (ctx who s).regs s s :=
  ⟨rfl, rfl, rfl, rfl, rfl, ⟨fun _ _ => rfl, fun _ _ => rfl⟩, by constructor <;> rfl⟩

/-- A change of the issuer's registers. -/
theorem RegStep.modCtx {who : Who} {g : RegSet} {s t : State} (h : RegStep who g s t) (f : RegSet → RegSet) :
    RegStep who (f g) s (modCtx who (fun c => { c with regs := f c.regs }) t) := by
  refine ⟨?_, ?_, ?_, ?_, ?_, ?_, ?_⟩
  · rw [ctx_modCtx, h.regs]
  · rw [pcOf_modCtx, h.pc]
  · rw [worldOf_modCtx, h.world]
  · rw [← h.await]
    cases who with
    | slice n => rfl
    | ring w => cases w <;> rfl
    | routine => simp only [Sys2Proof.Machine.modCtx]; cases worldOf Who.routine t <;> rfl
  · rw [← h.record]
    cases who with
    | slice n => rfl
    | ring w => cases w <;> rfl
    | routine => simp only [Sys2Proof.Machine.modCtx]; cases worldOf Who.routine t <;> rfl
  · exact h.elsewhere.trans h.world (elsewhere_modCtx _ _ _)
  · exact h.untouched.trans (untouched_modCtx _ _ _)

theorem RegStep.setW {who : Who} {g : RegSet} {s t : State} (h : RegStep who g s t) (r : Fin 16) (v : Word) :
    RegStep who { g with w := g.w.set r v } s (setW who r v t) := h.modCtx (fun g => { g with w := g.w.set r v })

theorem RegStep.setT {who : Who} {g : RegSet} {s t : State} (h : RegStep who g s t) (r : Fin 4) (v : TVal) :
    RegStep who { g with t := g.t.set r v } s (setT who r v t) := h.modCtx (fun g => { g with t := g.t.set r v })

theorem RegStep.setP {who : Who} {g : RegSet} {s t : State} (h : RegStep who g s t) (r : Fin 4) (v : Bool) :
    RegStep who { g with p := g.p.set r v } s (setP who r v t) := h.modCtx (fun g => { g with p := g.p.set r v })

/-- A status. -/
theorem RegStep.ret {who : Who} {g : RegSet} {s t : State} (h : RegStep who g s t) (st : Nat) (w1 w2 : Word) :
    RegStep who (g.status st w1 w2) s (ret who st w1 w2 t) := by
  have h1 := h.modCtx (fun g => g.status st w1 w2)
  have hrec : ∀ (u : State), RegStep who (g.status st w1 w2) s u →
      RegStep who (g.status st w1 w2) s (modRecord (fun r => { r with status := some (w32 st) }) u) := by
    intro u hu
    refine ⟨?_, ?_, ?_, ?_, ?_, ⟨?_, ?_⟩, ?_⟩
    · rw [ctx_modRecord who (fun r => { r with status := some (w32 st) }) u (fun _ => rfl)]; exact hu.regs
    · rw [← hu.pc]
      cases who with
      | slice n => rfl
      | ring w => rfl
      | routine => simp only [pcOf, modRecord]; cases u.cond.record <;> rfl
    · rw [← hu.world]
      cases who with
      | slice n => rfl
      | ring w => rfl
      | routine => simp only [worldOf, recWorld, modRecord]; cases u.cond.record <;> rfl
    · exact hu.await
    · rw [← hu.record]; simp only [modRecord]; cases u.cond.record <;> rfl
    · exact fun n hn => hu.elsewhere.seqs n hn
    · intro w hw; rw [← hu.elsewhere.worlds w hw]; cases w <;> rfl
    · exact hu.untouched.trans (by constructor <;> simp)
  cases who with
  | slice n => exact h1
  | ring w => exact hrec _ h1
  | routine => exact hrec _ h1

/-- An instruction that has only changed its issuer's registers goes on. -/
theorem RegStep.done {who : Who} {g : RegSet} {s : State} {body : State → State} (h : RegStep who g (opened who s) (body (opened who s)))
    {c : Cond} {op : Nat} {p : Perm} (hi : Issues who c op p s) :
    OnlyRegs who g s (settle (inContext who (fun u => advance who (body u)) s)) := by
  have plain : ∀ (t : State), RegStep who g s t → (who = .routine → t.cond.record.isSome = true) →
      OnlyRegs who g s (settle (advance who t)) := by
    intro t h hrec
    refine ⟨?_, ?_, ?_, ?_⟩
    · rw [ctx_settle, ← h.regs]
      cases who with
      | slice n => simp [advance, Sys2Proof.Machine.setPc, ctx, modSeq, upd]
      | ring w => rfl
      | routine => exact ctx_modRecord .routine _ t (by intro r; rfl)
    · intro hr
      rw [pcOf_settle, pcOf_advance _ _ hr hrec, h.pc]
    · exact (h.elsewhere.trans h.world (elsewhere_setPc who _ _)).trans ((worldOf_setPc who _ _).trans h.world)
        (elsewhere_settle who _)
    · exact (h.untouched.trans (untouched_setPc who _ _)).trans (untouched_settle _)
  cases who with
  | slice n => exact plain _ h (by intro e; cases e)
  | routine =>
    refine plain _ h ?_
    intro _
    have h1 := hi.routine
    have h2 := h.record
    change (body s).cond.record.map _ = s.cond.record.map _ at h2
    cases e : (body s).cond.record with
    | some r => rfl
    | none =>
      rw [e] at h2
      cases e' : s.cond.record with
      | none => rw [e'] at h1; cases h1
      | some r => rw [e'] at h2; cases h2
  | ring w =>
    cases e : s.cond.record with
    | some r =>
      have ho : opened (.ring w) s = s := by unfold opened; simp [e]
      have hc : inContext (.ring w) (fun u => advance (.ring w) (body u)) s = body s := by
        unfold inContext; simp [e, advance, Sys2Proof.Machine.setPc]
      rw [hc]
      rw [ho] at h
      exact plain _ h (by intro e; cases e)
    | none =>
      have hr := h.record
      have ha := h.await
      have ho : (opened (.ring w) s).cond.record.map Record.routine = some false := by unfold opened; simp [e]
      have hoa : (opened (.ring w) s).cond.await = s.cond.await := by unfold opened; simp [e]
      have hsa : s.cond.await = none := by
        have := hi.can
        unfold canRun at this
        simp [e] at this
        exact this.2
      rw [ho] at hr
      rw [hoa, hsa] at ha
      have hc : inContext (.ring w) (fun u => advance (.ring w) (body u)) s =
          { body (opened (.ring w) s) with cond := { (body (opened (.ring w) s)).cond with record := none } } := by
        unfold inContext
        simp only [e, advance, Sys2Proof.Machine.setPc]
        have hb : opened (.ring w) s = { s with
            cond := { s.cond with record := some { world := w, posts := false, live := true, startedAt := s.time.elapsed,
                                                   mirrored := s.twin.mirNext } }
            twin := { s.twin with mirNext := false } } := by
          unfold opened
          simp [e]
        rw [← hb]
        cases e2 : (body (opened (.ring w) s)).cond.record with
        | none => rw [e2] at hr; cases hr
        | some r =>
          rw [e2] at hr
          have : r.routine = false := by simpa using hr
          simp [ha, this]
      rw [hc]
      have hw : ∀ w', worldCtx w' (opened (.ring w) s) = worldCtx w' s := by
        intro w'; unfold opened; cases w' <;> simp [e, worldCtx]
      refine ⟨?_, by simp [inRing], ⟨?_, ?_⟩, ?_⟩
      · rw [ctx_settle]
        have := h.regs
        rw [ctx_opened] at this
        rw [← this]
        cases w <;> rfl
      · intro n hn
        have := h.elsewhere.seqs n hn
        have h2 : seq n (opened (.ring w) s) = seq n s := by simp [seq]
        rw [h2] at this
        rw [← this]
        simp [seq]
      · intro w' hw'
        have := h.elsewhere.worlds w' hw'
        rw [hw w'] at this
        rw [← this]
        have hcond : ∀ u : State, (settle u).cond = u.cond := by simp
        cases w' <;> simp only [worldCtx, hcond]
      · have ho : Untouched s (opened (.ring w) s) := by constructor <;> simp
        refine (ho.trans h.untouched).trans (Untouched.trans ?_ (untouched_settle _))
        constructor <;> rfl

/-- An instruction that issues and only writes its issuer's registers. -/
theorem givesRegs {who : Who} {g : RegSet} {s : State} {body : State → State} {i : Instr} {c : Cond} {op : Nat} {p : Perm}
    (hi : Issues who c op p s) (he : exec i s = ok (issue who c op p body s))
    (h : RegStep who g (opened who s) (body (opened who s))) : GivesRegs i who g s := by
  have := h.done hi
  rw [← issue_issues hi] at this
  exact ⟨_, he, this⟩

/-- An instruction that issues, its effect rewritten where it runs. -/
theorem answers {who : Who} {s : State} {body e : State → State} {i : Instr} {c : Cond} {op : Nat} {p : Perm}
    (hi : Issues who c op p s) (he : exec i s = ok (issueF who c op p body s)) (h : body (opened who s) = e (opened who s)) :
    Answers i who e s := by
  show exec i s = ok _
  rw [he, issueF_issues hi, inContext_congr h]

theorem answersThenRecord {who : Who} {s : State} {body e : State → State} {i : Instr} {c : Cond} {op : Nat} {p : Perm}
    (hi : Issues who c op p s) (he : exec i s = ok (resume (issueF who c op p body s)))
    (h : body (opened who s) = e (opened who s)) : AnswersThenRecord i who e s := by
  show exec i s = ok _
  rw [he, issueF_issues hi, inContext_congr h]

end Sys2Proof.Machine
end

