-- ==== Sys2Proof/Laws/Memory.lean ====
section
/-! SUPPORT. The addressed memories: every operation on them keeps their canonical form. -/

namespace Sys2Proof.Machine

/-- In a table in canonical form the first key is below every key that follows, and what follows is in canonical form. -/
theorem Tbl.wf_cons {α : Type} [DecidableEq α] {d : α} {k : Nat} {v : α} {t : Tbl α} :
    Tbl.wf d ((k, v) :: t) = true ↔ v ≠ d ∧ (∀ p ∈ t.head?, k < p.1) ∧ Tbl.wf d t = true := by
  cases t with
  | nil => simp [Tbl.wf]
  | cons p t => obtain ⟨k', v'⟩ := p; simp [Tbl.wf, and_assoc]

/-- A write puts first the key written or what stood first. -/
theorem Tbl.head_set {α : Type} [DecidableEq α] {d : α} {b k : Nat} {v : α} {t : Tbl α} (hb : b < k)
    (ht : ∀ p ∈ t.head?, b < p.1) (hw : Tbl.wf d t = true) : ∀ p ∈ (Tbl.set d t k v).head?, b < p.1 := by
  cases t with
  | nil => unfold Tbl.set; split <;> simp [hb]
  | cons q t =>
    obtain ⟨k', v'⟩ := q
    have h' : b < k' := by simpa using ht
    unfold Tbl.set
    split
    · split <;> simp [hb, h']
    · split
      · split
        · intro p hp
          exact Nat.lt_trans h' ((Tbl.wf_cons.mp hw).2.1 p hp)
        · simp [hb]
      · simp [h']

/-- A write keeps the canonical form. -/
theorem Tbl.set_wf {α : Type} [DecidableEq α] (d : α) (t : Tbl α) (k : Nat) (v : α) (h : Tbl.wf d t = true) :
    Tbl.wf d (Tbl.set d t k v) = true := by
  induction t with
  | nil =>
    unfold Tbl.set
    split
    · rfl
    · simp [Tbl.wf, *]
  | cons q t ih =>
    obtain ⟨k', v'⟩ := q
    obtain ⟨h1, h2, h3⟩ := Tbl.wf_cons.mp h
    unfold Tbl.set
    split
    · split
      · exact h
      · exact Tbl.wf_cons.mpr ⟨by assumption, by simpa, h⟩
    · split
      · split
        · exact h3
        · rename_i e _
          exact Tbl.wf_cons.mpr ⟨by assumption, by subst e; exact h2, h3⟩
      · exact Tbl.wf_cons.mpr ⟨h1, Tbl.head_set (by omega) h2 h3, ih h3⟩

/-- A change of one entry keeps the canonical form. -/
theorem Tbl.upd_wf {α : Type} [DecidableEq α] (d : α) (t : Tbl α) (k : Nat) (f : α → α) (h : Tbl.wf d t = true) :
    Tbl.wf d (Tbl.upd d t k f) = true := Tbl.set_wf d t k _ h

/-- What the canonical form of the three memories says. -/
theorem Memory.wf_iff (s : State) : Memory.wf s = true ↔
    Tbl.wf (0x1500000000000000 : BitVec 64) s.progMem = true ∧ Tbl.wf (0 : Word) s.schedMem = true ∧
    Tbl.wf (0 : Word) s.host.ringMem = true := by
  simp [Memory.wf, and_assoc]

/-- Memories that stand as they were are in canonical form as they were. -/
theorem Memory.wf_congr {s t : State} (h1 : t.progMem = s.progMem) (h2 : t.schedMem = s.schedMem)
    (h3 : t.host.ringMem = s.host.ringMem) : Memory.wf t = Memory.wf s := by simp [Memory.wf, h1, h2, h3]

/-- The write of a schedule word keeps the form. -/
theorem setSchedWord_wf (a : Nat) (v : Word) (s : State) (h : Memory.wf s = true) : Memory.wf (setSchedWord a v s) = true := by
  unfold setSchedWord
  split
  · exact h
  · obtain ⟨h1, h2, h3⟩ := (Memory.wf_iff s).mp h
    exact (Memory.wf_iff _).mpr ⟨h1, Tbl.set_wf _ _ _ _ h2, h3⟩

/-- A load of schedule words keeps the form. -/
theorem setSchedWords_wf (a : Nat) (ws : List (Word × Nat)) (s : State) (h : Memory.wf s = true) :
    Memory.wf (ws.foldl (fun u wk => setSchedWord (a + wk.2) wk.1 u) s) = true := by
  induction ws generalizing s with
  | nil => exact h
  | cons w ws ih => exact ih _ (setSchedWord_wf _ _ _ h)

/-- A load of instructions keeps the form. -/
theorem loadProgram_wf (a : Nat) (ws : List (BitVec 64)) (s : State) (h : Memory.wf s = true) :
    Memory.wf (loadProgram a ws s) = true := by
  unfold loadProgram
  generalize ws.zipIdx = l
  induction l generalizing s with
  | nil => exact h
  | cons w l ih =>
    obtain ⟨h1, h2, h3⟩ := (Memory.wf_iff s).mp h
    exact ih _ ((Memory.wf_iff _).mpr ⟨Tbl.set_wf _ _ _ _ h1, h2, h3⟩)

/-- A write of ring memory keeps the form. -/
theorem ringMemWrite_wf (a : Nat) (ws : List Word) (s : State) (h : Memory.wf s = true) : Memory.wf (ringMemWrite a ws s) = true := by
  induction ws generalizing a s with
  | nil => exact h
  | cons w ws ih =>
    obtain ⟨h1, h2, h3⟩ := (Memory.wf_iff s).mp h
    exact ih _ _ ((Memory.wf_iff _).mpr ⟨h1, h2, Tbl.set_wf _ _ _ _ h3⟩)


/-- A descriptor posted on a ring keeps the form: it may write ring memory and nothing else of the memories. -/
theorem postDescData_wf (w : World) (b : Fin 20) (d : List Word) (data : List Byte) (s : State) (h : Memory.wf s = true) :
    Memory.wf (postDescData w b d data s) = true := by
  have moved : ∀ (f : Ring → Ring) (u : State), Memory.wf u = true → Memory.wf (modRing w b f u) = true := by
    intro f u hu
    rw [← hu]
    cases w <;> rfl
  have out : ∀ (r : List Byte) (u : State), Memory.wf u = true → Memory.wf (emit r u) = true := by
    intro r u hu
    unfold emit
    split <;> exact hu
  unfold postDescData
  dsimp only
  have first : ∀ r, Memory.wf (if b = 2 then s else emit r s) = true := by
    intro r
    split
    · exact h
    · exact out r s h
  generalize hu : (if b = 2 then s else emit _ s) = u
  have h0 : Memory.wf u = true := by rw [← hu]; exact first _
  split
  · exact moved _ _ h0
  · split <;> split
    · exact ringMemWrite_wf _ _ _ (moved _ _ (moved _ _ h0))
    · exact moved _ _ (moved _ _ h0)
    · exact ringMemWrite_wf _ _ _ (moved _ _ (moved _ _ h0))
    · exact moved _ _ (moved _ _ h0)

/-- A notice that posts keeps the form. -/
theorem Notice.post_wf (n : Notice) (s : State) (h : Memory.wf s = true) : Memory.wf (n.post s).2 = true := by
  unfold Notice.post
  dsimp only
  split
  · exact h
  · split
    · exact h
    · have h1 := postDescData_wf (noticeWorld n.kind s) blkNotice (by assumption) [] s h
      split
      · split
        · exact h1
        · split
          · exact postDescData_wf _ _ _ _ _ h1
          · exact h1
      · exact h1

/-- A report to the coalescing table keeps the form. -/
theorem report_wf (kind : Nat) (subject : Word) (st : Nat) (reporter : Word) (s : State) (h : Memory.wf s = true) :
    Memory.wf (report kind subject st reporter s) = true := by
  have h1 : ∀ k r, Memory.wf ((Notice.open_ k r st reporter s).post s).2 = true := fun k r => Notice.post_wf _ s h
  have h2 : ∀ k r, Memory.wf ((Notice.open_ k r stOVERRUN reporter s).post s).2 = true := fun k r => Notice.post_wf _ s h
  unfold report
  split
  · exact h
  · split
    · split
      · rename_i e
        have := h1 kind subject
        rw [e] at this
        exact this
      · rename_i e
        have := h1 kind subject
        rw [e] at this
        exact this
    · split
      · exact h
      · exact h2 0x0C00 (w32 kind)

/-- A notice of the time block keeps the form, posted or held until the core runs. -/
theorem laterNotice_wf (kind subject st : Nat) (s : State) (h : Memory.wf s = true) :
    Memory.wf (laterNotice kind subject st s) = true := by
  unfold laterNotice
  split
  · exact report_wf _ _ _ _ _ h
  · exact h

/-- A slotframe's switch of its bank keeps the form: it writes the slotframe's STATE word. -/
theorem switchBank_wf (asn : Nat) (s : State) (sf : Nat) (h : Memory.wf s = true) : Memory.wf (switchBank asn s sf) = true := by
  have put : ∀ v : Nat, Memory.wf { s with schedMem := Tbl.set 0 s.schedMem (8 * sf) (w32 v) } = true := by
    intro v
    obtain ⟨h1, h2, h3⟩ := (Memory.wf_iff s).mp h
    exact (Memory.wf_iff _).mpr ⟨h1, Tbl.set_wf _ _ _ _ h2, h3⟩
  unfold switchBank
  dsimp only
  split
  · exact h
  · split
    · exact put _
    · exact laterNotice_wf _ _ _ _ (put _)

end Sys2Proof.Machine
end

