-- ==== Sys2Proof/Laws/Opened.lean ====
section
/-! SUPPORT. The record an issuer opens (02 R51): what reads the same in it, and the operand forms and parameter writes of an
instruction that reaches its effect. -/

namespace Sys2Proof.Machine

/-- Opening a record of its own changes the conductor and the twin's mark alone. -/
theorem opened_eq (who : Who) (s : State) : ∃ c t, opened who s = { s with cond := c, twin := t } := by
  unfold opened; split
  · exact ⟨_, _, rfl⟩
  · exact ⟨s.cond, s.twin, rfl⟩

/-- What is read of the rest of the state reads the same in the record an issuer opens. -/
@[simp] theorem tbNs_opened (who : Who) (s : State) : tbNs (opened who s) = tbNs s := by
  obtain ⟨c, t, e⟩ := opened_eq who s; rw [e]; rfl

@[simp] theorem nowT_opened (who : Who) (s : State) : nowT (opened who s) = nowT s := by
  obtain ⟨c, t, e⟩ := opened_eq who s; rw [e]; rfl

@[simp] theorem tnowFlags_opened (who : Who) (s : State) : tnowFlags (opened who s) = tnowFlags s := by
  obtain ⟨c, t, e⟩ := opened_eq who s; rw [e]; rfl

@[simp] theorem par_opened (who : Who) (id scope : Nat) (s : State) : par id scope (opened who s) = par id scope s := by
  obtain ⟨c, t, e⟩ := opened_eq who s; rw [e]; rfl

@[simp] theorem cpar_opened (who : Who) (id : Nat) (s : State) : cpar id (opened who s) = cpar id s := by
  obtain ⟨c, t, e⟩ := opened_eq who s; rw [e]; rfl

@[simp] theorem slice_opened (who : Who) (n : Fin 12) (s : State) : slice n (opened who s) = slice n s := by
  obtain ⟨c, t, e⟩ := opened_eq who s; rw [e]; rfl

@[simp] theorem seq_opened (who : Who) (n : Fin 12) (s : State) : seq n (opened who s) = seq n s := by
  obtain ⟨c, t, e⟩ := opened_eq who s; rw [e]; rfl

@[simp] theorem queue_opened (who : Who) (q : Nat) (s : State) : queue q (opened who s) = queue q s := by
  obtain ⟨c, t, e⟩ := opened_eq who s; rw [e]; rfl

@[simp] theorem schedWord_opened (who : Who) (a : Nat) (s : State) : schedWord a (opened who s) = schedWord a s := by
  obtain ⟨c, t, e⟩ := opened_eq who s; rw [e]; rfl

@[simp] theorem progWord_opened (who : Who) (a : Nat) (s : State) : progWord a (opened who s) = progWord a s := by
  obtain ⟨c, t, e⟩ := opened_eq who s; rw [e]; rfl

@[simp] theorem sfDefined_opened (who : Who) (sf : Nat) (s : State) : sfDefined sf (opened who s) = sfDefined sf s := by
  obtain ⟨c, t, e⟩ := opened_eq who s; rw [e]; rfl

@[simp] theorem trig_opened (who : Who) (n : Fin 2) (s : State) : trig n (opened who s) = trig n s := by
  obtain ⟨c, t, e⟩ := opened_eq who s; rw [e]; rfl

@[simp] theorem alive_opened (who : Who) (s : State) : alive (opened who s) = alive s := by
  obtain ⟨c, t, e⟩ := opened_eq who s; rw [e]; rfl

@[simp] theorem tbCanReach_opened (who : Who) (t : Nat) (s : State) : tbCanReach t (opened who s) = tbCanReach t s := by
  obtain ⟨c, t, e⟩ := opened_eq who s; rw [e]; rfl

@[simp] theorem asnTimeNs_opened (who : Who) (a : Nat) (s : State) : asnTimeNs a (opened who s) = asnTimeNs a s := by
  obtain ⟨c, t, e⟩ := opened_eq who s; rw [e]; rfl

@[simp] theorem popHead_opened (who : Who) (q : Nat) (s : State) : popHead q (opened who s) = popHead q s := by
  obtain ⟨c, t, e⟩ := opened_eq who s; rw [e]; rfl

@[simp] theorem jobAt_opened (who : Who) (r : Nat) (s : State) : jobAt r (opened who s) = jobAt r s := by
  obtain ⟨c, t, e⟩ := opened_eq who s; rw [e]; rfl

@[simp] theorem findKey_opened (who : Who) (k : BitVec 64) (d : Bool) (s : State) : findKey k d (opened who s) = findKey k d s := by
  obtain ⟨c, t, e⟩ := opened_eq who s; rw [e]; rfl

@[simp] theorem tEntry_opened (who : Who) (p : Nat) (s : State) : tEntry p (opened who s) = tEntry p s := by
  obtain ⟨c, t, e⟩ := opened_eq who s; rw [e]; rfl

@[simp] theorem lcOpen_opened (who : Who) (s : State) : lcOpen (opened who s) = lcOpen s := by
  obtain ⟨c, t, e⟩ := opened_eq who s; rw [e]; rfl

@[simp] theorem lcState_opened (who : Who) (s : State) : lcState (opened who s) = lcState s := by
  obtain ⟨c, t, e⟩ := opened_eq who s; rw [e]; rfl

@[simp] theorem slot_opened (who : Who) (k : Nat) (s : State) : slot k (opened who s) = slot k s := by
  obtain ⟨c, t, e⟩ := opened_eq who s; rw [e]; rfl

@[simp] theorem roster_opened (who : Who) (i : Nat) (s : State) : roster i (opened who s) = roster i s := by
  obtain ⟨c, t, e⟩ := opened_eq who s; rw [e]; rfl

@[simp] theorem regOrNone_opened (who : Who) (r : Fin 16) (s : State) : regOrNone who r (opened who s) = regOrNone who r s := by
  simp [regOrNone]

@[simp] theorem pairVal_opened (who : Who) (r h : Fin 16) (s : State) : pairVal who r h (opened who s) = pairVal who r h s := by
  simp [pairVal]

/-- Before anything is written the issuer's registers are as they stood. -/
theorem rs0 (who : Who) (s : State) : RegStep who (ctx who s).regs (opened who s) (opened who s) := by
  have := RegStep.refl who (opened who s); rw [ctx_opened] at this; exact this

/-- An instruction whose body is a register step gives that register set. -/
theorem regsOf {who : Who} {s : State} {body : State → State} {i : Instr} {c : Cond} {op : Nat} {p : Perm} {g : RegSet} {t : State}
    (hi : Issues who c op p s) (he : exec i s = ok (issue who c op p body s)) (hb : body (opened who s) = t) (h : RegStep who g (opened who s) t) :
    GivesRegs i who g s := givesRegs hi he (hb ▸ h)

/-- The same for an instruction that may wait, where it does not. -/
theorem regsOfB {who : Who} {s : State} {body : State → State} {i : Instr} {c : Cond} {op : Nat} {p : Perm} {g : RegSet} {t : State}
    (hi : Issues who c op p s) (he : exec i s = ok (issueB who c op p body s)) (hb : body (opened who s) = t) (hw : waits who t = false) (h : RegStep who g (opened who s) t) :
    GivesRegs i who g s := by
  refine givesRegs (body := body) hi ?_ (hb ▸ h)
  rw [he, issueB_issues hi, issue_issues hi, inContext_congr]
  simp [hb, hw]

/-- An instruction that issues finds its issuer waiting for nothing. -/
theorem waits_opened {who c op p s} (h : Issues who c op p s) : waits who (opened who s) = false := by
  have := h.can
  unfold canRun at this
  cases who with
  | slice n => simp at this; simp [waits, opened, this.2]
  | ring w =>
    unfold opened
    cases e : s.cond.record with
    | none => simp [e] at this; simp [waits, this.2]
    | some r => simp [e] at this; simp [waits, this.2.2]
  | routine =>
    cases e : s.cond.record with
    | none => simp [e] at this
    | some r => simp [e] at this; simp [waits, opened, this.2.2]

/-- A change of registers makes no issuer wait. -/
@[simp] theorem waits_modCtx (who : Who) (f : Ctx → Ctx) (s : State) : waits who (modCtx who f s) = waits who s := by
  cases who with
  | slice n => simp [waits, seq, modCtx, upd]; by_cases h : s.seqs[n.val].state = .running <;> simp [h]
  | ring w => cases w <;> rfl
  | routine => simp only [waits, modCtx]; cases worldOf Who.routine s <;> rfl

@[simp] theorem waits_ret (who : Who) (st : Nat) (w1 w2 : Word) (s : State) : waits who (ret who st w1 w2 s) = waits who s := by
  cases who with
  | slice n => exact waits_modCtx (.slice n) _ s
  | ring w => exact waits_modCtx (.ring w) _ s
  | routine => exact waits_modCtx .routine _ s

/-- A blocking instruction leaves its issuer waiting. -/
@[simp] theorem waits_block (who : Who) (a : Await) (u : State) : waits who (block who a u) = true := by
  cases who with
  | slice n => simp [waits, block, seq, modSeq, upd]
  | ring w => rfl
  | routine => rfl

/-- The slice field names its slice (04 R121). -/
theorem withSlice_names {who sl n} (h : Names who sl n) (pos op : Nat) (body : Fin 12 → State → State) (s : State) :
    withSlice who sl pos op body s = body n s := by
  have aux : ∀ (hv : sl.val = n.val), (if h : sl.val < 12 then body ⟨sl.val, h⟩ s else retRange who pos sl.val s) = body n s := by
    intro hv
    have : sl.val < 12 := by omega
    have e : (⟨sl.val, this⟩ : Fin 12) = n := Fin.ext hv
    rw [dif_pos this, e]
  cases who with
  | slice k =>
    obtain ⟨e, h⟩ := h
    subst e
    unfold withSlice
    rcases h with h | h
    · simp [h]
    · have h15 : sl ≠ 15 := by intro e; rw [e] at h; have := k.isLt; simp at h; omega
      have : sl.val < 12 := by omega
      have e : (⟨sl.val, this⟩ : Fin 12) = k := Fin.ext h
      simp [h15, this, e]
  | ring w => exact aux h
  | routine => exact aux h

/-- A slice that is ready takes the instruction (04 R121, R122). -/
theorem radioReady_ready {who n s} (h : RadioReady who n s) (body : State → State) : radioReady who n body (opened who s) = body (opened who s) := by
  have h1 : xiqDown n (opened who s) = false := by rw [← h.lane]; simp [xiqDown]
  unfold radioReady; simp [h.online, h1, h.idle]

/-- A slice that is ready is not held by its sequencer (02 R35). -/
theorem condHeld_ready {who n s} (h : RadioReady who n s) : condHeld who n (opened who s) = false := by
  rw [← h.free]; cases who <;> simp [condHeld]

/-- The queue operand names its queue (03 R77). -/
theorem withQueue_names {who q k s} (h : NamesQueue who q k s) (pos : Nat) (body : Nat → State → State) :
    withQueue who q pos body (opened who s) = body k (opened who s) := by
  cases q with
  | imm n => have e : n.val = k := h; simp [withQueue, e]
  | reg r => have e : (getW who r s).toNat = k := h.1; simp [withQueue, e, h.2]

/-- The attribute checks read the same in the record an issuer opens. -/
theorem masterBit_opened (who s) : masterBit who (opened who s) = masterBit who s := by
  cases who with
  | ring w => unfold opened; cases e : s.cond.record <;> simp [masterBit, e]
  | slice n => rfl
  | routine => rfl

theorem worldBit_opened (who s) : worldBit who (opened who s) = worldBit who s := by simp [worldBit]

theorem attrFail_opened (a m w u who s) : attrFail a m w u (opened who s) = attrFail a m w u s := by
  obtain ⟨c, t, e⟩ := opened_eq who s; rw [e]; rfl

/-- A slot that is open is handed to the instruction (13 R416, R418, R421). -/
theorem withSlot_open {who k use s} (h : SlotOpen who k use s) (body : State → State) :
    withSlot who k use body (opened who s) = body (opened who s) := by
  have h1 := h.stored
  have : ¬ k < 8 := by omega
  unfold withSlot
  simp [h.open_, this, masterBit_opened, worldBit_opened, attrFail_opened, h.allowed]

/-- An even register and the next one hold a pair. -/
theorem withPair_even (who : Who) (r hi : Fin 16) (pos : Nat) (body : Fin 16 → State → State) (s : State) (h : r.val % 2 = 0) (hh : hi.val = r.val + 1) :
    withPair who r pos body s = body hi s := by
  have : (⟨r.val + 1, by omega⟩ : Fin 16) = hi := Fin.ext hh.symm
  unfold withPair; rw [dif_pos h, this]

/-- A SETP that reaches its rule answers it (02 R62). -/
theorem sets_as {who c id scope v s i} {rule : State → PRes} (h : Writes who c id scope v s) (hs : paramDef id = some d)
  (vf : State → Word) (hv : vf (opened who s) = v)
  (he : exec i s = ok (setpOp who c id scope vf s)) (hr : setpEffect who d id scope v (opened who s) = rule (opened who s)) : SetsAs i who rule s := by
  show exec i s = ok _
  rw [he]
  unfold setpOp
  rw [issue_issues h.issues]
  congr 2
  apply inContext_congr
  obtain ⟨d', h1, h2, h3, h4⟩ := h.accepted
  rw [hs] at h1; injection h1 with h1; subst h1
  have d1 : setpDenied who d id scope (opened who s) = none := by
    rw [← h3]; unfold setpDenied; simp
  have d2 : rangeOk d id scope v (opened who s) = true := by
    rw [← h4]; obtain ⟨c, t, e⟩ := opened_eq who s; rw [e]; rfl
  have u : ((opened who s).boot.phase = 4 && !lockedWritable id) = false := by
    have := h.unlocked
    simp; exact this
  have a : (standbyOut who 0 (opened who s) && decide (id ≠ 0x0B35)) = false := by
    have := h.active
    cases hh : standbyOut who 0 (opened who s) with
    | false => rfl
    | true => simp [this hh]
  simp only [setpCore, hv]
  rw [u, a]
  simp only [setpChecked, hs, h2, d1, d2]
  simp [hr, w32]

/-- The same for a rule that only takes effect. -/
theorem sets_of {who c id scope v s i d} {f : State → State} (h : Writes who c id scope v s) (hs : paramDef id = some d)
  (he : exec i s = ok (setpOp who c id scope (fun _ => v) s)) (hr : setpEffect who d id scope v (opened who s) = pOk (f (opened who s))) : Sets i who f s :=
  sets_as (rule := fun u => (0, 0, f u)) h hs _ rfl he hr

end Sys2Proof.Machine
end

