-- ==== Sys2Proof/Laws/Run.lean ====
section
/-! SUPPORT. What a sequencer's fetch and a clock period can do. -/

namespace Sys2Proof.Machine

/-- A fetch leaves the state, or is the outcome of an instruction, of an illegal word or of a mode out of range. -/
theorem runFetched_cases (s : State) (who : Who) :
    runFetched s who = s ∨ (∃ i, exec i s = .next (runFetched s who)) ∨
      ∃ c op mode pos, ok (badModeWord who c op mode pos s) = .next (runFetched s who) := by
  unfold runFetched
  split
  · exact .inl rfl
  · simp only []
    split
    · rename_i i _
      cases h : exec i s with
      | next t => exact .inr (.inl ⟨i, h⟩)
      | fault f => exact .inl rfl
      | refused r => exact .inl rfl
    · have e : exec (.illegalInstruction who (progWord (pcOf who s) s)) s =
          execIllegalInstruction who (progWord (pcOf who s) s) s := rfl
      cases h : execIllegalInstruction who (progWord (pcOf who s) s) s with
      | next t => exact .inr (.inl ⟨_, e.trans h⟩)
      | fault f => exact .inl rfl
      | refused r => exact .inl rfl
    · rename_i c op mode pos _
      cases h : ok (badModeWord who c op mode pos s) with
      | next t => exact .inr (.inr ⟨c, op, mode, pos, h⟩)
      | fault f => exact .inl rfl
      | refused r => exact .inl rfl

/-- A sequencer that cannot run fetches nothing. -/
theorem runFetched_idle {s : State} {who : Who} (h : canRun who s = false) : runFetched s who = s := by
  simp [runFetched, h]

/-- A grant is a fetch, after which only the record of the last grant may differ. -/
theorem grant_keeps {P : State → Prop} (hTime : ∀ t m, P t → P { t with time := m })
    (h : ∀ who t, P t → P (runFetched t who)) (t : State) (who : Who) (h0 : P t) : P (grant t who) := by
  cases who with
  | slice n =>
    unfold grant
    dsimp only
    split
    · exact h _ _ (hTime _ _ h0)
    · exact h0
  | ring w => exact h _ _ h0
  | routine => exact h _ _ h0

/-- What the tick gives, time's own registers do not touch and every fetch keeps, a clock period gives. -/
theorem clockPeriod_keeps {P : State → Prop} {s : State} (h0 : P (passTicks 1 s))
    (hTime : ∀ t m, P t → P { t with time := m }) (h : ∀ who t, P t → P (runFetched t who)) : P (clockPeriod s) := by
  have all : ∀ (l : List Who) (t : State), P t → P (l.foldl grant t) := by
    intro l
    induction l with
    | nil => exact fun _ ht => ht
    | cons w l ih => exact fun t ht => ih _ (grant_keeps hTime h t w ht)
  exact hTime _ _ (all _ _ (hTime _ _ h0))

end Sys2Proof.Machine
end

