-- ==== Sys2Proof/WellFormed.lean ====
section
/-! DEFINITION. What a command can bring: operands that the hardware's own fields can hold and that agree with each other. An
ill-formed command still has a meaning; the statements that need well-formed ones say so. -/

namespace Sys2Proof

/-- An instant that the timebase can show: 64 bits of seconds and the nanoseconds below one (05 R153). -/
def isInstant (t : Nat) : Bool := t < 18446744073709551616 * 1000000000

/-- An ASN has 40 bits (06 R199). -/
def isAsn (n : Nat) : Bool := n < 1099511627776

/-- An instruction record holds one to three words (15 R495). -/
def recordWords (ws : List (BitVec 64)) : Bool := 1 ≤ ws.length && ws.length ≤ 3

/-- The fields of a parsed frame fit the frame's own: the type and the security level have three bits, the key mode two; a
synchronisation IE has a place exactly when it has an ASN. -/
def FrameInfo.wf (f : FrameInfo) : Bool :=
  f.ftype < 8 && f.level < 8 && f.keyMode < 4 && f.syncAsn.isSome == f.syncAt.isSome && f.syncAsn.all isAsn

/-- A PHR's frame length has eleven bits and its Rate five (08 R273). -/
def Phr.wf (p : Phr) : Bool := p.len < 2048 && p.rate < 32 && isInstant p.sync

/-- A symbol has at most 96 data subcarriers and 8 pilots (08 Table OM-1). -/
def RxSym.wf (x : RxSym) : Bool :=
  match x with
  | .data y pilots => y.length ≤ 96 && pilots.length ≤ 8
  | .midamble h => h.length ≤ 96

/-- Lengths of a transmit descriptor have sixteen bits (15 R502). -/
def TxDesc.wf (d : TxDesc) : Bool := d.data.length < 65536 && d.decl < 65536 && d.info.wf

/-- A cascade item holds at most 2,047 octets and declares two octets' worth (16 R526, 11 R362). -/
def CasItemF.wf (i : CasItemF) : Bool := i.data.length ≤ 2047 && i.decl < 65536 && i.info.wf

/-- A TIME frame's ASN and instants (16 R528). -/
def TimeFr.wf (f : TimeFr) : Bool := isAsn f.asn && isInstant f.boundary && isInstant f.tDep && isInstant f.tArr

/-- An image header has 256 octets and a 32-bit BODY_LEN (17 R554). -/
def ImgHdr.wf (h : ImgHdr) : Bool := h.octets.length = 256 && h.bodyLen < 4294967296

/-- A mirrored table write names a place of the table or of the overflow store (12 R390). -/
def MirIn.wf (m : MirIn) : Bool :=
  match m with
  | .entryWrite p _ _ _ _ => p < 262144 + 4096
  | .entryClear p => p < 262144 + 4096
  | .radio | .host | .cascade | .lane | .draw _ | .fault | .krevoke _ | .kzero _ | .kzeroAll | .cntset _ _ _ => true

/-- Places of a region of Table AR-7 that an error can stand in; one where the region has no places of its own (01 R24). -/
def regionPlaces : List (Nat × Nat) :=
  [(0, 131072), (0, 262144), (262144, 4096), (0, 49152), (0, 262144), (0, 65536), (0, 262144), (0, 32768), (0, 576), (0, 1),
   (0, 4096), (0, 1), (0, 32768)]

/-- An error stands in a place of its region; only roster and table entries have a CHECK (01 R24, 07 R236, 12 R403). -/
def MemErr.wf (e : MemErr) : Bool :=
  let (first, n) := regionPlaces.getD e.region.val (0, 0)
  first ≤ e.place && e.place < first + n && (e.kind ≠ .check || e.region.val < 3)

/-- Regions whose uncorrectable error is a chip fault (01 Table AR-7). -/
def fatalRegions : List Nat := [4, 5, 9]

/-- Engines of a kind, its spare included (01 R10, Table AR-3). -/
def Eng.units (e : Eng) : Nat :=
  match e with
  | .s1 | .s2 => 12
  | .s3watch => 193
  | .s3acq | .s4 | .s5 => 65
  | .s6 | .s8 => 5
  | .s7 => 9
  | .s9 => 3
  | .s10 | .s11 | .s12 => 13

/-- The command's operands are ones that the hardware can bring. -/
def Instr.wf (i : Instr) : Bool :=
  match i with
  | .nop _ _ => true
  | .movi _ _ _ _ => true
  | .mov _ _ _ => true
  | .add _ _ _ _ _ => true
  | .sub _ _ _ _ _ => true
  | .and_ _ _ _ _ _ => true
  | .or_ _ _ _ _ _ => true
  | .xor_ _ _ _ _ _ => true
  | .shl _ _ _ _ _ => true
  | .shr _ _ _ _ _ => true
  | .cmp _ _ _ _ _ _ => true
  | .test _ _ _ _ _ => true
  | .jmp _ _ _ => true
  | .br _ _ _ _ => true
  | .call _ _ _ => true
  | .ret _ _ => true
  | .loop _ _ _ _ => true
  | .halt _ _ => true
  | .trap _ _ _ => true
  | .fence _ _ => true
  | .ldw _ _ _ _ _ => true
  | .stw _ _ _ _ _ => true
  | .illegalInstruction _ _ => true
  | .at_ _ _ _ _ => true
  | .atTargetReached _ => true
  | .after _ _ _ _ => true
  | .afterIntervalEnd _ => true
  | .tnow _ _ _ => true
  | .tadd _ _ _ _ _ _ => true
  | .slot _ _ _ _ _ => true
  | .asnCur _ _ _ => true
  | .asnTime _ _ _ _ => true
  | .tstepAbs _ _ _ => true
  | .tstepRel _ _ _ => true
  | .tstepEpoch _ _ _ => true
  | .trateSet _ _ _ => true
  | .trateAdd _ _ _ => true
  | .tseal _ _ => true
  | .tcap _ _ _ _ _ => true
  | .tune _ _ _ _ => true
  | .cal _ _ _ _ => true
  | .rxwin _ _ _ _ _ _ => true
  | .txf _ _ _ _ _ => true
  | .txfHeld _ _ _ _ _ => true
  | .rstate _ _ _ _ => true
  | .aerial _ _ _ _ _ _ => true
  | .rqualLast _ _ _ _ => true
  | .rqualFloor _ _ _ _ _ => true
  | .feoutTuningWord _ _ _ _ => true
  | .feoutStaticControls _ _ _ _ => true
  | .feoutRegisterWrite _ _ _ _ => true
  | .kload _ _ _ _ => true
  | .kderive _ _ _ _ _ => true
  | .krevoke _ _ _ => true
  | .kquery _ _ _ _ => true
  | .cntsetOut _ _ _ _ => true
  | .cntsetIn _ _ _ _ => true
  | .cntexp _ _ _ _ _ => true
  | .kzero _ _ _ => true
  | .kzeroAll _ _ => true
  | .clksel _ _ _ => true
  | .pmode _ _ _ => true
  | .rest _ _ => true
  | .wakeon _ _ _ _ => true
  | .setp _ _ _ _ _ _ => true
  | .getp _ _ _ _ _ => true
  | .note _ _ _ _ => true
  | .setup _ _ _ => true
  | .queryJob _ _ _ _ => true
  | .querySlice _ _ _ _ => true
  | .health _ _ _ _ => true
  | .confirmImage _ _ _ => true
  | .confirmReject _ _ _ => true
  | .confirmRead _ _ _ => true
  | .qpush _ _ _ _ => true
  | .qpop _ _ _ _ => true
  | .qpeek _ _ _ _ => true
  | .qdropHead _ _ _ => true
  | .qdropHeld _ _ _ => true
  | .qdropRest _ _ _ => true
  | .qflush _ _ _ => true
  | .qlen _ _ _ _ => true
  | .qattr _ _ _ _ _ => true
  | .ledger _ _ _ _ _ _ => true
  | .lookup _ _ _ _ _ => true
  | .insert _ _ _ _ _ _ => true
  | .delete _ _ _ _ _ => true
  | .learnack _ _ _ _ _ => true
  | .pin _ _ _ _ => true
  | .unpin _ _ _ _ => true
  | .tload _ _ _ _ => true
  | .tscrub _ _ _ => true
  | .csend _ _ _ _ _ _ => true
  | .cbar _ _ _ _ => true
  | .mirrorStatus _ _ _ => true
  | .mirrorSync _ _ _ => true
  | .mirrorDigest _ _ _ => true
  | .roleRead _ _ _ => true
  | .roleYield _ _ _ => true
  | .roleWithdraw _ _ _ => true
  | .seqStart _ _ _ => true
  | .seqHalt _ _ _ => true
  | .seqRestart _ _ _ => true
  | .seqHandover _ _ _ _ => true
  | .gridStop _ _ => true
  | .gridStart _ _ => true
  | .gridAcquire _ _ => true
  | .timeDisciplineChange _ _ _ => true
  | .ppsInEnable _ _ _ => true
  | .rtcCommitTime _ _ => true
  | .rtcCommitDate _ _ => true
  | .rtcCommitBoth _ _ => true
  | .rtcCommitAck => true
  | .rtcAlarmArm _ _ => true
  | .rtcAlarmDisarm _ _ => true
  | .trigArm _ _ _ _ => true
  | .trigDisarm _ _ _ _ => true
  | .profCommitWrite _ _ _ _ => true
  | .profCommitInvalidate _ _ _ _ => true
  | .profCommitRead _ _ _ _ => true
  | .segCommitWrite _ _ _ _ => true
  | .segCommitClear _ _ _ _ => true
  | .segCommitRead _ _ _ _ => true
  | .xiqEnable _ _ _ _ => true
  | .xiqDisable _ _ _ _ => true
  | .lcAdvanceDeploy _ _ => true
  | .lcAdvanceReturn _ _ => true
  | .lockAck _ _ _ => true
  | .tampCtrlWrite _ _ _ => true
  | .tampClear _ _ => true
  | .grpFloorRaise _ _ _ _ => true
  | .bkpStatusClear _ _ => true
  | .silentTimeoutChange _ _ _ => true
  | .activate _ _ => true
  | .relayGo _ _ _ _ => true
  | .bootRestart _ _ => true
  | .instructionRecord _ _ words errs => recordWords words && errs.all (·.wf)
  | .programLoadRecord _ _ start words => 1 ≤ words.length && words.length ≤ 4096 && start.toNat + words.length ≤ 65536
  | .scheduleLoadRecord _ _ addr words => 1 ≤ words.length && words.length ≤ 16384 && addr.toNat + words.length ≤ 262144
  | .malformedRecord _ _ _ _ => true
  | .relayedRecord _ words => recordWords words
  | .recordTimeout => true
  | .seqWatchdog _ => true
  | .tloadComplete => true
  | .tscrubComplete errs => errs.all (·.wf)
  | .setupComplete => true
  | .cntexpComplete => true
  | .calComplete _ _ => true
  | .confirmComplete => true
  | .pmodeComplete _ => true
  | .heldNoticePost _ => true
  | .slotBoundary => true
  | .stoppedGridTick => true
  | .timebaseEnd => true
  | .referenceQualified => true
  | .referenceCount _ => true
  | .referenceEdgeLost => true
  | .refRetry _ => true
  | .ppsInEdge capture _ => isInstant capture
  | .ppsMissed => true
  | .ppsOutEdge => true
  | .triggerEdge _ => true
  | .rtcSecond => true
  | .rtcTrimWindow => true
  | .crystalStop => true
  | .rxwinOpen _ => true
  | .rxwinClose _ => true
  | .txfSelection _ => true
  | .txfDeadline _ => true
  | .blankingStart _ => true
  | .launch _ => true
  | .frameAired _ => true
  | .txRampDownEnd _ => true
  | .blankingEnd _ => true
  | .ackWaitExpiry _ => true
  | .txMismatchMeasure _ _ => true
  | .ctCellDeadline _ => true
  | .enhAckLaunch _ => true
  | .watcherDetection _ _ d more => isInstant d.at_ && more.all (fun e => isInstant e.at_)
  | .watcherRearm _ _ => true
  | .phrCheck _ phr => phr.wf
  | .fcsCheck _ f e ss => f.octets.length ≤ 2047 && e.h.length ≤ 96 && ss.all RxSym.wf
  | .frameAdmission _ info errs => info.wf && errs.all (·.wf)
  | .parentBeaconMiss => true
  | .noiseFloorWindow _ _ blocks => blocks.length ≤ 10000
  | .synthLock _ => true
  | .lockLoss _ => true
  | .relockTimeout _ => true
  | .deferredRetuneStart _ => true
  | .sliceTempMeasure _ _ => true
  | .tempCalStart _ => true
  | .tempCalEnd _ => true
  | .tcalDeferTimeout _ => true
  | .agcStepDown _ => true
  | .agcStepUp _ => true
  | .forcedGainStep _ => true
  | .diversitySwitch _ => true
  | .fectlTransfer _ _ => true
  | .extSettleElapsed _ => true
  | .extCalTimeElapsed _ => true
  | .xiqBlock _ _ => true
  | .xiqSlip _ _ => true
  | .xiqTrainingTimeout _ => true
  | .xiqLaneLoss _ => true
  | .engineFault e unit => unit < e.units
  | .selfTestStep _ => true
  | .selfTestEnd _ _ => true
  | .sliceFault _ _ => true
  | .chipFault cause region => cause.val ≠ 1 || fatalRegions.contains region.val
  | .startWaitGrant _ => true
  | .startWaitTimeout _ => true
  | .itemTimeout _ => true
  | .noticeQuietExpiry _ _ => true
  | .noticeMaxAgeExpiry _ _ => true
  | .noticeDescriptorPost _ => true
  | .declineHoldExpiry _ => true
  | .agingPass => true
  | .agingResume => true
  | .cacheSweep => true
  | .tamperEvent _ => true
  | .hostSilence => true
  | .statusWindowWrite _ _ _ _ => true
  | .psumRead _ => true
  | .psumMirrorWrite _ => true
  | .timeSnapshotRead _ => true
  | .ledgerWindowRead _ => true
  | .healthWindowRead _ => true
  | .nfloorRead _ => true
  | .hello _ _ _ => true
  | .commandProducer _ _ _ => true
  | .transmitProducer _ _ _ _ => true
  | .ringStart _ _ _ _ => true
  | .ringStop _ _ _ => true
  | .consumerIndex _ _ _ _ => true
  | .qspiRead _ addr len => addr.toNat + len ≤ 16777216
  | .qspiWrite _ addr data => addr.toNat + 4 * data.length ≤ 16777216
  | .qspiBadTransfer _ => true
  | .asleepQspiRead _ => true
  | .txStartOfItem _ _ d => d.wf
  | .txData _ _ d => d.wf && !d.eoi
  | .txEndOfItem _ _ d errs => d.wf && d.eoi && errs.all (·.wf)
  | .receiveDelivery _ _ => true
  | .dmaError _ _ _ => true
  | .dmaTimeout _ _ _ => true
  | .perstN _ => true
  | .wakeSource _ => true
  | .dozeWakeTimer => true
  | .regulatorReady => true
  | .regulatorTimeout => true
  | .referenceTimeout => true
  | .returnToSleep => true
  | .dieTempMeasure _ => true
  | .lpOverload => true
  | .coreBrownOut => true
  | .mainBrownOut => true
  | .nvInhibitEnter _ => true
  | .nvInhibitRelease _ => true
  | .vinMeasure _ => true
  | .backupSwitchToVbat => true
  | .backupSwitchToVin _ _ => true
  | .pwronDelay => true
  | .vbatMeasure _ => true
  | .backupDomainPowerUp => true
  | .mainPowerUp _ _ _ => true
  | .coreResetRelease _ _ _ _ => true
  | .recoveryListenTimeout => true
  | .recordInhibitWait => true
  | .trialWindowExpiry => true
  | .svcHello _ _ _ _ => true
  | .svcInfo _ => true
  | .svcBegin _ h => h.wf
  | .svcData _ off body => off < 4294967296 && body.length ≤ 65531
  | .svcEnd _ _ => true
  | .svcAbort _ => true
  | .svcStatus _ => true
  | .svcOctetGapTimeout => true
  | .svcSessionIdle => true
  | .svcRateSwitch => true
  | .svcRateSwitchTimeout => true
  | .train _ _ => true
  | .casTrainingTimeout _ => true
  | .casTrainingRetry _ => true
  | .casLinkDown _ => true
  | .status _ _ => true
  | .statusSend _ => true
  | .credit _ _ _ _ => true
  | .creditSend _ _ => true
  | .creditTimeout _ _ => true
  | .resyncRequest _ _ => true
  | .resyncReply _ _ _ _ => true
  | .resyncReplyTimeout _ _ => true
  | .linkFrameError _ _ => true
  | .casItemSend _ _ => true
  | .casItem _ vc it => 2 ≤ vc.val && it.wf
  | .casMessage _ m => m.more.length ≤ 6
  | .barrierArrival _ _ => true
  | .barrierAnnounce _ _ => true
  | .barrierForget _ => true
  | .relayResult _ _ _ _ => true
  | .relayTimeout => true
  | .positionAbsent _ => true
  | .timeFrame _ f => f.wf
  | .linkDelayMeasure _ => true
  | .dreq _ t2 => isInstant t2
  | .dresp _ t2 t3 t4 => isInstant t2 && isInstant t3 && isInstant t4
  | .heartbeatSend => true
  | .heartbeat _ _ => true
  | .heartbeatTimeout => true
  | .roleInChange _ => true
  | .claimResolution => true
  | .takeover => true
  | .mirrorInput _ m => m.wf
  | .endMarker m => isAsn m.asn
  | .fullSyncStart => true
  | .fullSyncTimeout => true
  | .latestDeadline _ => true
  | .yieldTimeout => true
  | .timeFrameMissed => true
  | .pulseWidthEnd _ => true
  | .tamperInputInactive _ => true
  | .crystalRestart => true
  | .vioRangeChange _ _ => true
  | .svcCtsChange _ => true
  | .svcBadFrame => true
  | .ringBaseWrite _ _ _ _ _ => true

end Sys2Proof
end

