-- ==== Sys2Proof/Tests/Slice0.lean ====
section
/-! SUPPORT. The model's own tests: what the checks of WellFormed refuse, words written out from the spec's encodings, single
commands on small states, and for every statement with hypotheses a witness that meets them. -/

namespace Sys2Proof.Tests

open Sys2Proof Sys2Proof.Machine

set_option Elab.async false

/-! ## The checks of WellFormed, each on a command that it refuses -/

theorem test_wf_accepts : Instr.wf (.instructionRecord .operator 1 [0, 0, 0] []) = true := by decide
theorem test_wf_record_words : Instr.wf (.instructionRecord .operator 1 [0, 0, 0, 0] []) = false := by decide
theorem test_wf_record_empty : Instr.wf (.relayedRecord .custodian []) = false := by decide
theorem test_wf_program_load : Instr.wf (.programLoadRecord .operator 1 0xFFFF [0, 0]) = false := by decide
theorem test_wf_schedule_load : Instr.wf (.scheduleLoadRecord .operator 1 0x3FFFF [0, 0]) = false := by decide
theorem test_wf_instant : Instr.wf (.ppsInEdge (18446744073709551616 * 1000000000) {}) = false := by decide
theorem test_wf_detection : Instr.wf (.watcherDetection 0 0 {} [{ at_ := 18446744073709551616 * 1000000000 }]) = false := by decide
theorem test_wf_phr : Instr.wf (.phrCheck 0 { rate := 32 }) = false := by decide
theorem test_wf_fcs : Instr.wf (.fcsCheck 0 { octets := List.replicate 2048 0 } {} []) = false := by decide +kernel
theorem test_wf_symbol : Instr.wf (.fcsCheck 0 {} {} [.data [] (List.replicate 9 {})]) = false := by decide +kernel
theorem test_wf_floor : Instr.wf (.noiseFloorWindow 0 0 (List.replicate 10001 0)) = false := by decide +kernel
theorem test_wf_info_type : Instr.wf (.frameAdmission 0 { ftype := 8 } []) = false := by decide
theorem test_wf_info_sync : Instr.wf (.frameAdmission 0 { syncAsn := some 1 } []) = false := by decide
theorem test_wf_info_asn : Instr.wf (.frameAdmission 0 { syncAsn := some 1099511627776, syncAt := some 9 } []) = false := by decide
theorem test_wf_engine : Instr.wf (.engineFault .s9 3) = false := by decide
theorem test_wf_qspi_read : Instr.wf (.qspiRead .operator 0xFFFFFC 8) = false := by decide
theorem test_wf_qspi_write : Instr.wf (.qspiWrite .operator 0xFFFFFC [0, 0]) = false := by decide
theorem test_wf_tx_desc : Instr.wf (.txStartOfItem .operator 0 { decl := 65536 }) = false := by decide
theorem test_wf_tx_data : Instr.wf (.txData .operator 0 { eoi := true }) = false := by decide
theorem test_wf_tx_end : Instr.wf (.txEndOfItem .operator 0 {} []) = false := by decide
theorem test_wf_error_place : Instr.wf (.tscrubComplete [{ region := 3, place := 49152 }]) = false := by decide
theorem test_wf_error_check : Instr.wf (.tscrubComplete [{ region := 3, kind := .check }]) = false := by decide
theorem test_wf_chip_fault : Instr.wf (.chipFault 1 3) = false := by decide
theorem test_wf_image : Instr.wf (.svcBegin 0 { octets := [0] }) = false := by decide
theorem test_wf_svc_data : Instr.wf (.svcData 0 4294967296 []) = false := by decide
theorem test_wf_cas_item : Instr.wf (.casItem 0 1 {}) = false := by decide
theorem test_wf_cas_length : Instr.wf (.casItem 0 2 { decl := 65536 }) = false := by decide
theorem test_wf_cas_message : Instr.wf (.casMessage 0 { more := [0, 0, 0, 0, 0, 0, 0] }) = false := by decide
theorem test_wf_time : Instr.wf (.timeFrame 0 { asn := 1099511627776 }) = false := by decide
theorem test_wf_mirror : Instr.wf (.mirrorInput 0 (.entryClear 266240)) = false := by decide
theorem test_wf_end_marker : Instr.wf (.endMarker { asn := 1099511627776 }) = false := by decide

/-! ## Words -/

/-- TNOW to t2: opcode 0x22, condition always, td in [51:48] (03 R86). -/
theorem test_word_tnow : decodeWord .routine 0x2202000000000000 = .instr (.tnow .routine .always 2) := by decide +kernel
/-- Condition 15 is reserved, so the word is illegal (03 R73, R74). -/
theorem test_word_reserved_condition : decodeWord .routine 0x00F0000000000000 = .illegal := by decide +kernel
/-- HALT with a reserved bit set is illegal (03 R74). -/
theorem test_word_reserved_field : decodeWord .routine 0x1500000100000000 = .illegal := by decide +kernel

/-! ## Small states -/

/-- A chip in Listen with its image running, the reference qualified, the grid stopped and QSPI as its host link. -/
def live : State :=
  { State.reset with
    time := { State.reset.time with
      tb := 1000000000 * tbFrac, coreOn := true, counting := true, qual := true, refStarted := true, refQual := true
      refKind := some 0, tbPll := true }
    pw := { State.reset.pw with mode := 4 }
    boot := { State.reset.boot with phase := 6, flash := true }
    sec := { State.reset.sec with fused := 1 }
    host := { State.reset.host with hifMin := 2, hifMax := 3, hifNeg := 3, link := some .qspi } }

/-- A custodian's record with a routine running. -/
def recR : Record := { world := .custodian, live := true, routine := true }

/-- `live` with slice SE's sequencer running at the start of a window of one page. -/
def liveSeq : State := modSeq 4 (fun q => { q with state := .running, winCount := 1 }) live

/-- `live` with slice SA's sequencer running. -/
def liveSeq0 : State := modSeq 0 (fun q => { q with state := .running, winCount := 1 }) live

/-- `live` with a routine running. -/
def liveRou : State := { live with cond := { live.cond with record := some recR } }

/-- An item of queue 0 that can be taken. -/
def it1 : Item := { job := 1, written := true, len := 4, decl := 4, data := [1, 2, 3, 4], chain := [0] }

/-- `live` with one item in queue 0. -/
def liveQ : State := modQ 0 (fun x => { x with items := [it1], poppable := 1, bc := 1 }) live

/-- `liveSeq` with a word at address 0 of program memory. -/
def liveProg (w : BitVec 64) : State := { liveSeq with progMem := [(0, w)] }

/-- What is asked of the state a command leads to. -/
def leads (o : Host.Outcome State Fault Refusal) (p : State → Bool) : Bool :=
  match o with
  | .next t => p t
  | _ => false

/-! ## Single commands -/

/-- The custodian's ring. -/
def cust : Who := .ring .custodian

/-- Addition wraps at 32 bits (02 R41). -/
theorem test_add_wraps :
    leads (exec (.add cust .always 3 4 (.imm 1)) (setW cust 4 0xFFFFFFFF live)) (fun t => getW cust 3 t = 0) = true := by decide +kernel
/-- A shift of 32 places gives 0 (03 R79). -/
theorem test_shl_all :
    leads (exec (.shl cust .always 3 4 (.imm 32)) (setW cust 4 1 live)) (fun t => getW cust 3 t = 0) = true := by decide +kernel
/-- LTS compares two's complement numbers (03 Table FC-6). -/
theorem test_cmp_signed :
    leads (exec (.cmp cust .always 2 .lts 4 (.imm 0)) (setW cust 4 0xFFFFFFFF live)) (fun t => (ctx cust t).regs.p[2]) = true := by
  decide +kernel
/-- A sum below zero is ST_RANGE with position 3, and td is not written (03 R87). -/
theorem test_tadd_below_zero :
    leads (exec (.tadd cust .always 1 0 (-1) 0) live) (fun t => getW cust 0 t = 2 && getW cust 1 t = 3 && getT cust 1 t = {}) = true := by
  decide +kernel
/-- Only the custodian may seal the timebase (02 Table FM-1, FM-2). -/
theorem test_tseal_operator :
    leads (exec (.tseal (.ring .operator) .always) live)
      (fun t => getW (.ring .operator) 0 t = 4 && getW (.ring .operator) 1 t = 0xFF02 && !t.time.sealed_) = true := by decide +kernel
/-- A rate of 500,001 ppb is out of range (05 R157). -/
theorem test_trate_range :
    leads (exec (.trateSet cust .always 4) (setW cust 4 500001 live)) (fun t => getW cust 0 t = 2 && t.time.rate = 0) = true := by
  decide +kernel
/-- STW leaves a STATE word (06 R202). -/
theorem test_stw_state_word :
    leads (exec (.stw cust .always 4 5 8) (setW cust 4 7 live)) (fun t => t.schedMem = []) = true := by decide +kernel
/-- STW of the value an unlisted word reads as lists nothing; of another, one word. -/
theorem test_stw_word :
    leads (exec (.stw cust .always 4 5 9) (setW cust 4 7 live)) (fun t => t.schedMem = [(9, 7)]) = true := by decide +kernel
/-- QPOP of an empty queue is ST_Q_EMPTY (03 R97). -/
theorem test_qpop_empty : leads (exec (.qpop cust .always 3 (.imm 5)) live) (fun t => getW cust 0 t = 0x11) = true := by decide +kernel
/-- QPOP holds the item it takes (03 R97). -/
theorem test_qpop_holds :
    leads (exec (.qpop cust .always 3 (.imm 0)) liveQ) (fun t => getW cust 3 t = 1 && (ctx cust t).held.length = 1) = true := by
  decide +kernel
/-- A false condition writes no register (02 R40). -/
theorem test_false_condition :
    leads (exec (.movi cust (.ifT 0) 3 9) live) (fun t => getW cust 3 t = 0) = true := by decide +kernel
/-- INSERT places a key and LOOKUP finds it (03 R105, R106). -/
theorem test_insert_places :
    leads (exec (.insert cust .always 4 6 false true) (setW cust 6 5 live)) (fun t => (findKey 0 false t).isSome) = true := by
  decide +kernel
/-- 1.891 V on an I/O bank lies in neither range (19 R584). -/
theorem test_vio_between : exec (.vioRangeChange 0 1891) live = .fault .outsideOperatingConditions := rfl
/-- The CRC-32C of the nine digits, its published check value. -/
theorem test_crc32c : crc32c 0xFFFFFFFF [0x31, 0x32, 0x33, 0x34, 0x35, 0x36, 0x37, 0x38, 0x39] = 0xE3069283 := by decide +kernel
/-- The spec's map in slot 17 (08, the worked example): 16 subcarriers off, 16 BPSK, 32 QPSK, 32 64-QAM. -/
def map17 : List Word :=
  [0x00CC0028, 0, 0x92490000, 0x24924924, 0x92492492, 0x24924924, 0x49249249, 0x24924924, 0x49249249, 0x92492492]
/-- Its bit placement: b0 of 17, 34, 51, 68, 85 and 23 first; bits 0-79, 80-143, then 32 a round, to bit 271 (08 R266). -/
theorem test_placement :
    let p := placements map17
    p.take 6 = [(17, 0), (34, 0), (51, 0), (68, 0), (85, 0), (23, 0)] ∧ p.length = 272 ∧
      ((p.drop 80).take 64).all (fun x => x.2 = 1) = true ∧ ((p.drop 240).take 32).all (fun x => x.2 = 5) = true := by
  decide +kernel
/-- On an empty queue a running sequencer executes the word at its program counter, MOVI w3, 9 (02 R42, 03 R80). -/
theorem test_program_runs :
    leads (step (liveProg 0x0103000000000009)) (fun t => getW (.slice 4) 3 t = 9 && (seq 4 t).pc = 1) = true := by decide +kernel
/-- An illegal word halts it with reason 3 (03 R74). -/
theorem test_program_illegal :
    leads (step (liveProg 0x00F0000000000000)) (fun t => (seq 4 t).state = .halted) = true := by decide +kernel
/-- The last program address holds HALT (02 R42). -/
theorem test_program_memory : progWord 0xFFFF State.reset = 0x1500000000000000 := by decide +kernel

/-! ## Witnesses: for every statement with hypotheses, and for each of its clauses, a state and operands that meet them -/

/-- The memories of `liveQ` and the states made from `live` list nothing, and no twin snapshot stands. -/
theorem memCanonical_of {s : State} (h : Memory.wf s = true) (h1 : s.twin.start = none) (h2 : s.twin.cycle = none) : MemCanonical s :=
  ⟨h, (fun r hr => by rw [h1] at hr; cases hr), (fun r hr => by rw [h2] at hr; cases hr)⟩

/-- An instruction issues when each of the checks passes. -/
theorem issues_of {who : Who} {c : Cond} {op : Nat} {p : Perm} {s : State}
    (h : (canRun who s && !fetchOutside who s && condHolds c (ctx who s).regs.p && !lockedOut op s &&
      !standbyOut who op (opened who s) && (permFail p who s).isNone) = true) : Issues who c op p s := by
  simp only [Bool.and_eq_true, Bool.not_eq_true', Option.isNone_iff_eq_none] at h
  obtain ⟨⟨⟨⟨⟨h1, h2⟩, h3⟩, h4⟩, h5⟩, h6⟩ := h
  exact ⟨h1, h2, h3, h4, h5, h6⟩

/-- A SETP reaches its rule when each of its checks passes. -/
theorem writes_of {who : Who} {c : Cond} {id scope : Nat} {v : Word} {s : State}
    (h : (canRun who s && !fetchOutside who s && condHolds c (ctx who s).regs.p && !lockedOut 0x80 s &&
      !standbyOut who 0x80 (opened who s) && (permFail .all who s).isNone) = true)
    (h2 : ((decide (s.boot.phase ≠ 4) || lockedWritable id) && (!standbyOut who 0 (opened who s) || decide (id = 0x0B35))) = true)
    (h3 : ((paramDef id).any fun d => (scopeFail d id scope).isNone && (setpDenied who d id scope s).isNone && rangeOk d id scope v s) = true) :
    Writes who c id scope v s := by
  refine ⟨issues_of h, ?_, ?_, ?_⟩
  · intro h4; simp [h4] at h2; exact h2.1
  · intro h5; simp [h5] at h2; exact h2.2
  · cases e : paramDef id with
    | none => simp [e] at h3
    | some d =>
      simp [e] at h3
      exact ⟨d, rfl, h3.1.1, h3.1.2, h3.2⟩

/-- A vault slot is open when each of the checks passes. -/
theorem slotOpen_of {who : Who} {k : Nat} {use : Option Nat} {s : State}
    (h : (lcOpen s && decide (8 ≤ k) && (attrFail (slot k s).attr (masterBit who s) (some (worldBit who s)) use s).isNone) = true) :
    SlotOpen who k use s := by
  simp only [Bool.and_eq_true, decide_eq_true_eq, Option.isNone_iff_eq_none] at h
  exact ⟨h.1.1, h.1.2, h.2⟩

/-- A slice is ready when each of the checks passes. -/
theorem ready_of {who : Who} {n : Fin 12} {s : State}
    (h : ((slice n s).offline = false ∧ xiqDown n s = false) ∧ calBusy (slice n s) = false ∧ condHeld who n s = false) :
    RadioReady who n s := ⟨h.1.1, h.1.2, h.2.1, h.2.2⟩

theorem witness_ArithmeticWritesOneRegister :
    (∃ (who : Who) (c : Cond) (s : State), Issues who c 0x00 .all s) ∧
    (∃ (who : Who) (c : Cond) (s : State), Issues who c 0x01 .all s) ∧
    (∃ (who : Who) (c : Cond) (s : State), Issues who c 0x03 .all s) ∧
    (∃ (who : Who) (c : Cond) (s : State), Issues who c 0x04 .all s) ∧
    (∃ (who : Who) (c : Cond) (s : State), Issues who c 0x05 .all s) ∧
    (∃ (who : Who) (c : Cond) (s : State), Issues who c 0x06 .all s) ∧
    (∃ (who : Who) (c : Cond) (s : State), Issues who c 0x07 .all s) ∧
    (∃ (who : Who) (c : Cond) (s : State), Issues who c 0x08 .all s) ∧
    (∃ (who : Who) (c : Cond) (s : State), Issues who c 0x09 .all s) := by
  and_intros
  · refine ⟨(.ring .custodian), .always, live, issues_of (by decide +kernel)⟩
  · refine ⟨(.ring .custodian), .always, live, issues_of (by decide +kernel)⟩
  · refine ⟨(.ring .custodian), .always, live, issues_of (by decide +kernel)⟩
  · refine ⟨(.ring .custodian), .always, live, issues_of (by decide +kernel)⟩
  · refine ⟨(.ring .custodian), .always, live, issues_of (by decide +kernel)⟩
  · refine ⟨(.ring .custodian), .always, live, issues_of (by decide +kernel)⟩
  · refine ⟨(.ring .custodian), .always, live, issues_of (by decide +kernel)⟩
  · refine ⟨(.ring .custodian), .always, live, issues_of (by decide +kernel)⟩
  · refine ⟨(.ring .custodian), .always, live, issues_of (by decide +kernel)⟩

theorem witness_MovMovesRegistersAndTimes :
    ∃ (who : Who) (c : Cond) (s : State), Issues who c 0x02 .all s := by
  refine ⟨(.ring .custodian), .always, live, issues_of (by decide +kernel)⟩

theorem witness_CompareWritesOnePredicate :
    (∃ (who : Who) (c : Cond) (s : State), Issues who c 0x0A .all s) ∧
    (∃ (who : Who) (c : Cond) (s : State), Issues who c 0x0B .all s) := by
  and_intros
  · refine ⟨(.ring .custodian), .always, live, issues_of (by decide +kernel)⟩
  · refine ⟨(.ring .custodian), .always, live, issues_of (by decide +kernel)⟩

theorem witness_TransfersMoveThePc :
    (∃ (who : Who) (c : Cond) (s : State), Issues who c 0x10 .all s ∧ inRing who = false) ∧
    (∃ (who : Who) (c : Cond) (s : State), Issues who c 0x11 .all s ∧ inRing who = false) ∧
    (∃ (who : Who) (c : Cond) (s : State), Issues who c 0x12 .all s ∧ inRing who = false ∧ (ctx who s).regs.stack.length < 8) ∧
    (∃ (who : Who) (c : Cond) (s : State), Issues who c 0x12 .all s ∧ inRing who = true ∧ (ctx who s).regs.stack.length < 8) ∧
    (∃ (c : Cond) (n : Fin 12) (a : Nat) (st : List Nat) (s : State), Issues (.slice n) c 0x13 .all s ∧
      (ctx (.slice n) s).regs.stack = a :: st) ∧
    (∃ (c : Cond) (a : Nat) (st : List Nat) (r : Record) (s : State), Issues .routine c 0x13 .all s ∧
      (ctx .routine s).regs.stack = a :: st ∧ s.cond.record = some r ∧ r.depth < st.length) ∧
    (∃ (c : Cond) (a : Nat) (st : List Nat) (r : Record) (s : State), Issues .routine c 0x13 .all s ∧
      (ctx .routine s).regs.stack = a :: st ∧ s.cond.record = some r ∧ st.length ≤ r.depth) ∧
    (∃ (who : Who) (c : Cond) (wd : Fin 16) (s : State), Issues who c 0x14 .all s ∧ inRing who = false ∧ getW who wd s = 0) ∧
    (∃ (who : Who) (c : Cond) (wd : Fin 16) (s : State), Issues who c 0x14 .all s ∧ inRing who = false ∧ getW who wd s = 1) ∧
    (∃ (who : Who) (c : Cond) (wd : Fin 16) (s : State), Issues who c 0x14 .all s ∧ inRing who = false ∧ 1 < (getW who wd s).toNat) := by
  and_intros
  · refine ⟨(.slice 4), .always, liveSeq, issues_of (by decide +kernel), ?_⟩; decide +kernel
  · refine ⟨(.slice 4), .always, liveSeq, issues_of (by decide +kernel), ?_⟩; decide +kernel
  · refine ⟨(.slice 4), .always, liveSeq, issues_of (by decide +kernel), ?_⟩; and_intros <;> decide +kernel
  · refine ⟨(.ring .custodian), .always, live, issues_of (by decide +kernel), ?_⟩; and_intros <;> decide +kernel
  · refine ⟨.always, 4, 7, [], (modCtx (.slice 4) (fun c => { c with regs := { c.regs with stack := [7] } }) liveSeq),
    issues_of (by decide +kernel), ?_⟩; decide +kernel
  · refine ⟨.always, 7, [0], recR, (modCtx .routine (fun c => { c with regs := { c.regs with stack := [7, 0] } }) liveRou),
    issues_of (by decide +kernel), ?_⟩; and_intros <;> decide +kernel
  · refine ⟨.always, 0, [], recR, (modCtx .routine (fun c => { c with regs := { c.regs with stack := [0] } }) liveRou),
    issues_of (by decide +kernel), ?_⟩; and_intros <;> decide +kernel
  · refine ⟨(.slice 4), .always, 0, liveSeq, issues_of (by decide +kernel), ?_⟩; and_intros <;> decide +kernel
  · refine ⟨(.slice 4), .always, 0, (setW (.slice 4) 0 1 liveSeq), issues_of (by decide +kernel), ?_⟩; and_intros <;> decide +kernel
  · refine ⟨(.slice 4), .always, 0, (setW (.slice 4) 0 2 liveSeq), issues_of (by decide +kernel), ?_⟩; and_intros <;> decide +kernel

theorem witness_RingRefusesTransfers :
    (∃ (w : World) (c : Cond) (s : State), Issues (.ring w) c 0x10 .all s) ∧
    (∃ (w : World) (c : Cond) (s : State), Issues (.ring w) c 0x11 .all s) ∧
    (∃ (w : World) (c : Cond) (s : State), Issues (.ring w) c 0x14 .all s) ∧
    (∃ (w : World) (c : Cond) (s : State), Issues (.ring w) c 0x13 .all s) ∧
    (∃ (w : World) (c : Cond) (s : State), Issues (.ring w) c 0x15 .all s) := by
  and_intros
  · refine ⟨.custodian, .always, live, issues_of (by decide +kernel)⟩
  · refine ⟨.custodian, .always, live, issues_of (by decide +kernel)⟩
  · refine ⟨.custodian, .always, live, issues_of (by decide +kernel)⟩
  · refine ⟨.custodian, .always, live, issues_of (by decide +kernel)⟩
  · refine ⟨.custodian, .always, live, issues_of (by decide +kernel)⟩

theorem witness_HaltsByReason :
    (∃ (n : Fin 12) (c : Cond) (s : State), Issues (.slice n) c 0x15 .all s) ∧
    (∃ (c : Cond) (r : Record) (s : State), Issues .routine c 0x15 .all s ∧ s.cond.record = some r) ∧
    (∃ (who : Who) (c : Cond) (s : State), Issues who c 0x16 .all s) ∧
    (∃ (who : Who) (s : State), canRun who s = true ∧ fetchOutside who s = false ∧ lockedOut 0xFF s = false) := by
  and_intros
  · refine ⟨4, .always, liveSeq, issues_of (by decide +kernel)⟩
  · refine ⟨.always, recR, liveRou, issues_of (by decide +kernel), ?_⟩; decide +kernel
  · refine ⟨(.ring .custodian), .always, live, issues_of (by decide +kernel)⟩
  · refine ⟨(.ring .custodian), live, ?_⟩; and_intros <;> decide +kernel

theorem witness_FenceAndScheduleWords :
    (∃ (who : Who) (c : Cond) (s : State),
      (let pend := match who with | .slice n => (seq n s).ctx.pend | _ => s.cond.op.pend ++ s.cond.cust.pend; Issues who c 0x17 .all s ∧
      pend = [])) ∧
    (∃ (who : Who) (c : Cond) (s : State),
      (let pend := match who with | .slice n => (seq n s).ctx.pend | _ => s.cond.op.pend ++ s.cond.cust.pend; Issues who c 0x17 .all s ∧
      pend ≠ [])) ∧
    (∃ (who : Who) (c : Cond) (ws1 : Fin 16) (off : BitVec 18) (s : State),
      (let a := (getW who ws1 s).toNat + off.toNat; Issues who c 0x18 .all s ∧ a < 262144)) ∧
    (∃ (who : Who) (c : Cond) (ws1 : Fin 16) (off : BitVec 18) (s : State),
      (let a := (getW who ws1 s).toNat + off.toNat; Issues who c 0x18 .all s ∧ 262144 ≤ a)) ∧
    (∃ (who : Who) (c : Cond) (ws2 : Fin 16) (off : BitVec 18) (s : State),
      (let b := (getW who ws2 s).toNat + off.toNat; Issues who c 0x19 .all s ∧ b < 262144 ∧ isStateWord b = false)) ∧
    (∃ (who : Who) (c : Cond) (ws2 : Fin 16) (off : BitVec 18) (s : State),
      (let b := (getW who ws2 s).toNat + off.toNat; Issues who c 0x19 .all s ∧ b < 262144 ∧ isStateWord b = true)) ∧
    (∃ (who : Who) (c : Cond) (ws2 : Fin 16) (off : BitVec 18) (s : State),
      (let b := (getW who ws2 s).toNat + off.toNat; Issues who c 0x19 .all s ∧ 262144 ≤ b)) := by
  and_intros
  · refine ⟨(.ring .custodian), .always, live, issues_of (by decide +kernel), ?_⟩; decide +kernel
  · refine ⟨(.ring .custodian), .always, (modCtx (.ring .custodian) (fun c => { c with pend := [{ ticket := 1, op := 0x31 }] }) live),
    issues_of (by decide +kernel), ?_⟩; decide +kernel
  · refine ⟨(.ring .custodian), .always, 0, 262143, live, issues_of (by decide +kernel), ?_⟩; decide +kernel
  · refine ⟨(.ring .custodian), .always, 4, 262143, (setW (.ring .custodian) 4 1 live), issues_of (by decide +kernel), ?_⟩; decide +kernel
  · refine ⟨(.ring .custodian), .always, 0, 1, live, issues_of (by decide +kernel), ?_⟩; and_intros <;> decide +kernel
  · refine ⟨(.ring .custodian), .always, 0, 0, live, issues_of (by decide +kernel), ?_⟩; and_intros <;> decide +kernel
  · refine ⟨(.ring .custodian), .always, 4, 262143, (setW (.ring .custodian) 4 1 live), issues_of (by decide +kernel), ?_⟩; decide +kernel

theorem witness_TimeReadsGiveRegisters :
    (∃ (who : Who) (c : Cond) (s : State), Issues who c 0x22 .all s) ∧
    (∃ (who : Who) (c : Cond) (ts : Fin 4) (delta : BitVec 40) (ws : Fin 16) (s : State),
      (let v := getT who ts s; (let sum : Int := (v.sec.toNat * 1000000000 + v.ns.toNat : Nat) + delta.toInt + (if ws = 0 then 0 else (getW who ws s).toInt); Issues who c 0x23 .all s ∧
      v.ns.toNat ≤ 999999999 ∧ 0 ≤ sum ∧ sum ≤ tbMaxNs))) ∧
    (∃ (who : Who) (c : Cond) (ts : Fin 4) (delta : BitVec 40) (ws : Fin 16) (s : State),
      (let v := getT who ts s; (let sum : Int := (v.sec.toNat * 1000000000 + v.ns.toNat : Nat) + delta.toInt + (if ws = 0 then 0 else (getW who ws s).toInt); Issues who c 0x23 .all s ∧
      v.ns.toNat ≤ 999999999 ∧ (sum < 0 ∨ tbMaxNs < sum)))) ∧
    (∃ (who : Who) (c : Cond) (ts : Fin 4) (s : State), (let v := getT who ts s; Issues who c 0x23 .all s ∧ 1000000000 ≤ v.ns.toNat)) ∧
    (∃ (who : Who) (c : Cond) (lo : Fin 16) (hi : Fin 16) (s : State),
      (let a := (getW who hi s).toNat * 4294967296 + (getW who lo s).toNat; (let bnd : Int := s.grid.bound + ((a : Int) - s.grid.asn) * s.grid.len; Issues who c 0x25 .all s ∧
      lo.val % 2 = 0 ∧ hi.val = lo.val + 1 ∧ a < 1099511627776 ∧ 0 ≤ bnd ∧ bnd ≤ tbMaxNs))) ∧
    (∃ (who : Who) (c : Cond) (lo : Fin 16) (s : State), Issues who c 0x25 .all s ∧ lo.val % 2 = 1) := by
  and_intros
  · refine ⟨(.ring .custodian), .always, live, issues_of (by decide +kernel)⟩
  · refine ⟨(.ring .custodian), .always, 0, 999999999, 0, live, issues_of (by decide +kernel), ?_⟩; and_intros <;> decide +kernel
  · refine ⟨(.ring .custodian), .always, 0, (-1), 0, live, issues_of (by decide +kernel), ?_⟩; and_intros <;> decide +kernel
  · refine ⟨(.ring .custodian), .always, 0, (setT (.ring .custodian) 0 { ns := 1000000000 } live), issues_of (by decide +kernel),
    ?_⟩; decide +kernel
  · refine ⟨(.ring .custodian), .always, 0, 1, live, issues_of (by decide +kernel), ?_⟩; and_intros <;> decide +kernel
  · refine ⟨(.ring .custodian), .always, 1, live, issues_of (by decide +kernel), ?_⟩; decide +kernel

theorem witness_WaitsUntilATime :
    (∃ (who : Who) (c : Cond) (ts : Fin 4) (off : BitVec 40) (s : State),
      (let target := (getT who ts s).toNs + off.toNat; Issues who c 0x20 .all s ∧ (getT who ts s).ns.toNat ≤ 999999999 ∧ target ≤ tbMaxNs ∧
      tbNs s < target)) ∧
    (∃ (who : Who) (c : Cond) (ts : Fin 4) (off : BitVec 40) (s : State),
      (let target := (getT who ts s).toNs + off.toNat; Issues who c 0x20 .all s ∧ (getT who ts s).ns.toNat ≤ 999999999 ∧ target ≤ tbMaxNs ∧
      target ≤ tbNs s)) ∧
    (∃ (who : Who) (c : Cond) (ts : Fin 4) (off : BitVec 40) (s : State),
      (let target := (getT who ts s).toNs + off.toNat; Issues who c 0x20 .all s ∧ (getT who ts s).ns.toNat ≤ 999999999 ∧ tbMaxNs < target)) ∧
    (∃ (who : Who) (c : Cond) (ts : Fin 4) (s : State), Issues who c 0x20 .all s ∧ 1000000000 ≤ (getT who ts s).ns.toNat) ∧
    (∃ (who : Who) (c : Cond) (ws : Fin 16) (interval : BitVec 40) (s : State),
      (let len := interval.toNat + (if ws = 0 then 0 else (getW who ws s).toNat); Issues who c 0x21 .all s ∧ 0 < len ∧ len < 1099511627776)) ∧
    (∃ (who : Who) (c : Cond) (ws : Fin 16) (interval : BitVec 40) (s : State),
      (let len := interval.toNat + (if ws = 0 then 0 else (getW who ws s).toNat); Issues who c 0x21 .all s ∧ len = 0)) ∧
    (∃ (who : Who) (c : Cond) (ws : Fin 16) (interval : BitVec 40) (s : State),
      (let len := interval.toNat + (if ws = 0 then 0 else (getW who ws s).toNat); Issues who c 0x21 .all s ∧ 1099511627776 ≤ len)) ∧
    (∃ (who : Who) (c : Cond) (sf : Fin 8) (s : State), Issues who c 0x24 .all s ∧ sfDefined sf.val s = true) ∧
    (∃ (who : Who) (c : Cond) (sf : Fin 8) (s : State), Issues who c 0x24 .all s ∧ sfDefined sf.val s = false) := by
  and_intros
  · refine ⟨(.ring .custodian), .always, 0, 0, (setT (.ring .custodian) 0 { sec := 2 } live), issues_of (by decide +kernel),
    ?_⟩; and_intros <;> decide +kernel
  · refine ⟨(.ring .custodian), .always, 0, 0, live, issues_of (by decide +kernel), ?_⟩; and_intros <;> decide +kernel
  · refine ⟨(.ring .custodian), .always, 0, 0xFFFFFFFFFF, (setT (.ring .custodian) 0 { sec := -1, ns := 999999999 } live),
    issues_of (by decide +kernel), ?_⟩; and_intros <;> decide +kernel
  · refine ⟨(.ring .custodian), .always, 0, (setT (.ring .custodian) 0 { ns := 1000000000 } live), issues_of (by decide +kernel),
    ?_⟩; decide +kernel
  · refine ⟨(.ring .custodian), .always, 0, 1, live, issues_of (by decide +kernel), ?_⟩; and_intros <;> decide +kernel
  · refine ⟨(.ring .custodian), .always, 0, 0, live, issues_of (by decide +kernel), ?_⟩; decide +kernel
  · refine ⟨(.ring .custodian), .always, 4, 0xFFFFFFFFFF, (setW (.ring .custodian) 4 1 live), issues_of (by decide +kernel),
    ?_⟩; decide +kernel
  · refine ⟨(.ring .custodian), .always, 0, { live with grid := { live.grid with mode := 1 }, schedMem := [(1, 0x2000A)] },
    issues_of (by decide +kernel), ?_⟩; decide +kernel
  · refine ⟨(.ring .custodian), .always, 0, live, issues_of (by decide +kernel), ?_⟩; decide +kernel

theorem witness_TimebaseControl :
    (∃ (who : Who) (c : Cond) (ws : Fin 16) (s : State), (let r := (getW who ws s).toInt; Issues who c 0x27 .condOnly s ∧ -500000 ≤ r ∧
      r ≤ 500000 ∧ s.time.disc = 0)) ∧
    (∃ (who : Who) (c : Cond) (ws : Fin 16) (s : State), (let r := (getW who ws s).toInt; Issues who c 0x27 .condOnly s ∧
      -500000 ≤ s.time.rate + r ∧ s.time.rate + r ≤ 500000 ∧ s.time.disc = 0)) ∧
    (∃ (who : Who) (c : Cond) (ws : Fin 16) (s : State), (let r := (getW who ws s).toInt; Issues who c 0x27 .condOnly s ∧ -500000 ≤ r ∧
      r ≤ 500000 ∧ s.time.disc ≠ 0)) ∧
    (∃ (who : Who) (c : Cond) (s : State), Issues who c 0x28 .custodian s) ∧
    (∃ (who : Who) (c : Cond) (ts : Fin 4) (s : State), (let v := getT who ts s; Issues who c 0x26 .custodian s ∧ v.ns.toNat ≤ 999999999 ∧
      s.time.sealed_ = false ∧ s.time.stepUsed = false)) ∧
    (∃ (who : Who) (c : Cond) (delta : BitVec 40) (s : State),
      (let t : Int := (tbNs s : Int) + delta.toInt; Issues who c 0x26 .custodian s ∧ delta ≠ 0 ∧ 0 ≤ t ∧ t ≤ tbMaxNs ∧
      s.time.sealed_ = false ∧ s.time.stepUsed = false)) ∧
    (∃ (who : Who) (c : Cond) (ts : Fin 4) (s : State), (let v := getT who ts s; Issues who c 0x26 .custodian s ∧ v.ns.toNat ≤ 999999999 ∧
      anyRunning s = false ∧ airArmed s = false)) ∧
    (∃ (who : Who) (c : Cond) (ts : Fin 4) (s : State), (let v := getT who ts s; Issues who c 0x26 .custodian s ∧ v.ns.toNat ≤ 999999999 ∧
      s.time.sealed_ = true)) ∧
    (∃ (who : Who) (c : Cond) (ts : Fin 4) (s : State), (let v := getT who ts s; Issues who c 0x26 .custodian s ∧ v.ns.toNat ≤ 999999999 ∧
      s.time.sealed_ = false ∧ s.time.stepUsed = true)) := by
  and_intros
  · refine ⟨(.ring .custodian), .always, 0, live, issues_of (by decide +kernel), ?_⟩; and_intros <;> decide +kernel
  · refine ⟨(.ring .custodian), .always, 0, live, issues_of (by decide +kernel), ?_⟩; and_intros <;> decide +kernel
  · refine ⟨(.ring .custodian), .always, 0, { live with time := { live.time with disc := 1 } }, issues_of (by decide +kernel),
    ?_⟩; and_intros <;> decide +kernel
  · refine ⟨(.ring .custodian), .always, live, issues_of (by decide +kernel)⟩
  · refine ⟨(.ring .custodian), .always, 0, live, issues_of (by decide +kernel), ?_⟩; and_intros <;> decide +kernel
  · refine ⟨(.ring .custodian), .always, 1, live, issues_of (by decide +kernel), ?_⟩; and_intros <;> decide +kernel
  · refine ⟨(.ring .custodian), .always, 0, live, issues_of (by decide +kernel), ?_⟩; and_intros <;> decide +kernel
  · refine ⟨(.ring .custodian), .always, 0, { live with time := { live.time with sealed_ := true } }, issues_of (by decide +kernel),
    ?_⟩; and_intros <;> decide +kernel
  · refine ⟨(.ring .custodian), .always, 0, { live with time := { live.time with stepUsed := true } }, issues_of (by decide +kernel),
    ?_⟩; and_intros <;> decide +kernel

theorem witness_CaptureReads :
    (∃ (who : Who) (n : Fin 12) (c : Cond) (sl : Fin 16) (s : State), Issues who c 0x29 .all s ∧ sl.val = n.val) ∧
    (∃ (who : Who) (n : Fin 12) (c : Cond) (s : State), Issues who c 0x29 .all s ∧ who = .slice n) := by
  and_intros
  · refine ⟨(.ring .custodian), 0, .always, 0, live, issues_of (by decide +kernel), ?_⟩; decide +kernel
  · refine ⟨(.slice 4), 4, .always, liveSeq, issues_of (by decide +kernel), ?_⟩; decide +kernel

theorem witness_TimebaseEvents :
    (∃ (q : Seqr) (target : Nat) (s : State), alive s = true ∧ awaitOf q s = some (.at_ target) ∧ tbCanReach target s = true) ∧
    (∃ (q : Seqr) (done : Nat) (cap : Nat) (s : State), (let t := reachTb cap s; alive s = true ∧ awaitOf q s = some (.after done) ∧
      s.time.counting = true ∧ (let t := passTicks ((done - s.time.incSum + tbIncr s - 1) / max 1 (tbIncr s)) s; done ≤ t.time.incSum))) ∧
    (∃ (rising : Bool) (s : State), rising = (cpar 0x0804 s).testBit 0) ∧
    (∃ (cap : Nat) (width : Nat) (rising : Bool) (s : State), ppsEnabled s = true ∧ rising ≠ (cpar 0x0804 s).testBit 0 ∧
      s.pw.asleep = false ∧ bankOn 3 s = true ∧ tbCanReach cap s = true ∧ width < 100) ∧
    (∃ (cap : Nat) (width : Nat) (rising : Bool) (s : State),
      (let t := reachTb cap s; (let c := ((cap : Int) - (par 0x0805 chip s).toInt).toNat; ppsEnabled s = true ∧
      rising ≠ (cpar 0x0804 s).testBit 0 ∧ s.pw.asleep = false ∧ bankOn 3 s = true ∧ tbCanReach cap s = true ∧ 100 ≤ width ∧
      ppsAccepts c t = true))) ∧
    (∃ (cap : Nat) (width : Nat) (rising : Bool) (s : State),
      (let t := reachTb cap s; (let c := ((cap : Int) - (par 0x0805 chip s).toInt).toNat; ppsEnabled s = true ∧
      rising ≠ (cpar 0x0804 s).testBit 0 ∧ s.pw.asleep = false ∧ bankOn 3 s = true ∧ tbCanReach cap s = true ∧ 100 ≤ width ∧
      ppsAccepts c t = false))) ∧
    (∃ (l : Nat) (s : State), s.time.ppsL = some l ∧ ppsEnabled s = true ∧ s.pw.asleep = false ∧ s.time.ppsFirst = false ∧
      (let d := l + (s.time.ppsMissed + 1) * 1000000000 + (s.time.ppsMissed + 1) * (cpar 0x0802 s * 1000); tbCanReach d s = true)) ∧
    (∃ (s : State), (let whole := (tbNs s / 1000000000 + 1) * 1000000000; s.time.counting = true ∧ s.pw.asleep = false ∧
      tbCanReach whole s = true ∧ (cpar 0x0808 s).testBit 0 = true ∧ s.time.qual = true)) ∧
    (∃ (n : Fin 2) (s : State), (trig n s).armed = true ∧ s.pw.asleep = false ∧ tbCanReach (trig n s).target s = true) ∧
    (∃ (s : State), s.time.ppsOut = true ∧ tbCanReach s.time.ppsOutEnd s = true) ∧
    (∃ (s : State), (trig 0 s).active = true ∧ tbCanReach (trig 0 s).activeEnd s = true) ∧
    (∃ (s : State), (trig 1 s).active = true ∧ tbCanReach (trig 1 s).activeEnd s = true) := by
  and_intros
  · refine ⟨(.sl 4), 2000000000, (modSeq 4 (fun x => { x with state := .blocked, await := some (.at_ 2000000000) }) (live)),
    ?_⟩; and_intros <;> decide +kernel
  · refine ⟨(.sl 4), 0, 0, (modSeq 4 (fun x => { x with state := .blocked, await := some (.after 0) }) (live)),
    ?_⟩; and_intros <;> decide +kernel
  · refine ⟨false, live, ?_⟩; decide +kernel
  · refine ⟨1000000001, 99, true, { live with time := { live.time with disc := 1 } }, ?_⟩; and_intros <;> decide +kernel
  · refine ⟨1000000001, 100, true, { live with time := { live.time with disc := 1 } }, ?_⟩; and_intros <;> decide +kernel
  · refine ⟨1500000000, 100, true, { live with time := { live.time with disc := 1, ppsFirst := false, ppsL := some 1000000000 } },
    ?_⟩; and_intros <;> decide +kernel
  · refine ⟨1000000000, { live with time := { live.time with disc := 1, ppsFirst := false, ppsL := some 1000000000 } },
    ?_⟩; and_intros <;> decide +kernel
  · refine ⟨(setPar 0x808 15 0x1 (live)), ?_⟩; and_intros <;> decide +kernel
  · refine ⟨0, (modTrig 0 (fun t => { t with armed := true }) live), ?_⟩; and_intros <;> decide +kernel
  · refine ⟨{ live with time := { live.time with ppsOut := true } }, ?_⟩; and_intros <;> decide +kernel
  · refine ⟨(modTrig 0 (fun t => { t with active := true }) live), ?_⟩; and_intros <;> decide +kernel
  · refine ⟨(modTrig 1 (fun t => { t with active := true }) live), ?_⟩; and_intros <;> decide +kernel

theorem witness_GridEvents :
    (∃ (s : State), s.grid.mode = 1 ∧ s.time.coreOn = true ∧ tbCanReach s.grid.nextAt s = true ∧ s.grid.nextAsn ≤ 1099511627775 ∧
      s.health.chipFault = 0) ∧
    (∃ (s : State), s.grid.mode = 1 ∧ s.time.coreOn = true ∧ tbCanReach s.grid.nextAt s = true ∧ s.grid.nextAsn ≤ 1099511627775 ∧
      s.health.chipFault ≠ 0) ∧
    (∃ (s : State), s.grid.mode = 0 ∧ s.time.coreOn = true ∧ s.health.chipFault = 0 ∧ s.time.counting = false) ∧
    (∃ (s : State), s.time.disc = 3 ∧ s.grid.mode = 1 ∧ s.grid.fallen = true ∧ 0 < cpar 0x0242 s ∧
      s.grid.asn % cpar 0x0242 s = cpar 0x0243 s % cpar 0x0242 s ∧ s.grid.parSeen ≠ some s.grid.asn ∧ tbCanReach s.grid.nextAt s = true) := by
  and_intros
  · refine ⟨{ live with grid := { live.grid with mode := 1 } }, ?_⟩; and_intros <;> decide +kernel
  · refine ⟨{ live with grid := { live.grid with mode := 1 }, health := { live.health with chipFault := 1 } },
    ?_⟩; and_intros <;> decide +kernel
  · refine ⟨{ live with time := { live.time with counting := false } }, ?_⟩; and_intros <;> decide +kernel
  · refine ⟨{ live with grid := { live.grid with mode := 1, fallen := true }, time := { live.time with disc := 3 } },
    ?_⟩; and_intros <;> decide +kernel

theorem witness_LedgerReads :
    (∃ (who : Who) (c : Cond) (s : State), Issues who c 0x47 .condOnly s) ∧
    (∃ (s : State), s.time.coreOn = true) := by
  and_intros
  · refine ⟨(.ring .custodian), .always, live, issues_of (by decide +kernel)⟩
  · refine ⟨live, ?_⟩; decide +kernel

theorem witness_SliceSettingsAndReads :
    (∃ (who : Who) (c : Cond) (n : Fin 12) (sl : Fin 16) (ws : Fin 16) (g : Fin 4) (t : Fin 16) (s : State), Names who sl n ∧
      (let x := slice n s; Issues who c 0x30 .all s ∧ RadioReady who n s ∧ n.val ≠ 3 ∧ findChannel x (getW who ws s).toNat = some (g, t) ∧
      isExt n = false ∧ x.tuned = some g ∧ x.off = false)) ∧
    (∃ (who : Who) (c : Cond) (n : Fin 12) (sl : Fin 16) (ws : Fin 16) (s : State), Names who sl n ∧
      (let x := slice n s; Issues who c 0x30 .all s ∧ condHeld who n s = false ∧ findChannel x (getW who ws s).toNat = none)) ∧
    (∃ (who : Who) (c : Cond) (n : Fin 12) (sl : Fin 16) (port : Fin 4) (s : State), Names who sl n ∧ Issues who c 0x35 .all s ∧
      RadioReady who n s ∧ isExt n = false ∧ n.val ≠ 3 ∧ port.val < 3 ∧ quietNow n s = true) ∧
    (∃ (who : Who) (c : Cond) (n : Fin 12) (sl : Fin 16) (g : Fin 4) (t : Fin 16) (s : State), Names who sl n ∧
      (let x := slice n s; Issues who c 0x34 .all s ∧ calRunning x = false ∧ x.tuned = some g ∧ x.tap = some t)) ∧
    (∃ (who : Who) (c : Cond) (n : Fin 12) (sl : Fin 16) (s : State), Names who sl n ∧ (let x := slice n s; Issues who c 0x36 .all s ∧
      x.lastQ = none)) ∧
    (∃ (who : Who) (c : Cond) (n : Fin 12) (sl : Fin 16) (q : LastQ) (s : State), Names who sl n ∧
      (let x := slice n s; Issues who c 0x36 .all s ∧ x.lastQ = some q)) := by
  and_intros
  · refine ⟨(.ring .custodian), .always, 0, 0, 0, 0, 0,
    (setW (.ring .custodian) 0 7 (modSlice 0 (fun x => { x with off := false, tuned := some 0, tap := some 0, locked := true, plan := x.plan.set 0 { taps := Vector.replicate 16 { chan := 7, family := 1 } } }) (live))),
    by unfold Names; decide +kernel, issues_of (by decide +kernel), ready_of (by decide +kernel), ?_⟩; and_intros <;> decide +kernel
  · refine ⟨(.ring .custodian), .always, 0, 0, 0, live, by unfold Names; decide +kernel, issues_of (by decide +kernel),
    ?_⟩; and_intros <;> decide +kernel
  · refine ⟨(.ring .custodian), .always, 0, 0, 2, live, by unfold Names; decide +kernel, issues_of (by decide +kernel),
    ready_of (by decide +kernel), ?_⟩; and_intros <;> decide +kernel
  · refine ⟨(.ring .custodian), .always, 0, 0, 0, 0,
    (modSlice 0 (fun x => { x with off := false, tuned := some 0, tap := some 0, locked := true, plan := x.plan.set 0 { taps := Vector.replicate 16 { chan := 7, family := 1 } } }) (live)),
    by unfold Names; decide +kernel, issues_of (by decide +kernel), ?_⟩; and_intros <;> decide +kernel
  · refine ⟨(.ring .custodian), .always, 0, 0, live, by unfold Names; decide +kernel, issues_of (by decide +kernel), ?_⟩; decide +kernel
  · refine ⟨(.ring .custodian), .always, 0, 0, {}, (modSlice 0 (fun x => { x with lastQ := some {} }) (live)),
    by unfold Names; decide +kernel, issues_of (by decide +kernel), ?_⟩; decide +kernel

theorem witness_RadioActionsArm :
    (∃ (c : Cond) (n : Fin 12) (sl : Fin 16) (mask : BitVec 4) (s : State),
      (let me := Who.slice n; (let x := slice n s; Issues me c 0x31 .all s ∧ Names me sl n ∧ mask ≠ 0 ∧
      (isExt n = true → mask.toNat % 4 = 0) ∧ xiqDown n s = false ∧ x.cal = none))) ∧
    (∃ (who : Who) (c : Cond) (n : Fin 12) (sl : Fin 16) (mask : BitVec 4) (s : State), (let x := slice n s; Issues who c 0x31 .all s ∧
      Names who sl n ∧ (∀ k, who ≠ .slice k) ∧ condHeld who n s = false ∧ mask ≠ 0 ∧ (isExt n = true → mask.toNat % 4 = 0) ∧
      xiqDown n s = false ∧ x.cal = none ∧ pendFull who s = false)) ∧
    (∃ (c : Cond) (n : Fin 12) (ts : Fin 4) (half : BitVec 24) (s : State),
      (let me := Who.slice n; (let x := slice n s; (let t := (getT me ts s).toNs; Issues me c 0x32 .sliceOnly s ∧ RadioReady me n s ∧
      (getT me ts s).ns.toNat ≤ 999999999 ∧ half ≠ 0 ∧ x.tap.isSome = true ∧ tbNs s ≤ t + half.toNat)))) ∧
    (∃ (c : Cond) (n : Fin 12) (ws : Fin 16) (ts : Fin 4) (half : BitVec 24) (s : State),
      (let me := Who.slice n; (let x := slice n s; (let t := (getT me ts s).toNs; Issues me c 0x32 .sliceOnly s ∧ RadioReady me n s ∧
      (getT me ts s).ns.toNat ≤ 999999999 ∧ ws ≠ 0 ∧ (getW me ws s).toNat < 131072 ∧ rosterVoid (getW me ws s).toNat = false ∧
      (roster (getW me ws s).toNat s).use_ ≠ 0 ∧ x.tap.isSome = true ∧
      (let w := nodeWindow (roster (getW me ws s).toNat s) t half.toNat s; tbNs s ≤ w.2.1))))) ∧
    (∃ (c : Cond) (n : Fin 12) (ws : Fin 16) (ts : Fin 4) (latest : BitVec 16) (s : State),
      (let me := Who.slice n; (let x := slice n s; (let t := (getT me ts s).toNs; Issues me c 0x33 .sliceOnly s ∧ RadioReady me n s ∧
      (getT me ts s).ns.toNat ≤ 999999999 ∧ x.tap.isSome = true ∧ x.inhibit = false ∧ x.mismatch = false ∧
      tbNs s + leadNs n ≤ t + latest.toNat * 1000 ∧ (((ctx me s).held.any (fun h => h.item.job = (getW me ws s).toNat)) = true))))) ∧
    (∃ (who : Who) (c : Cond) (n : Fin 12) (sl : Fin 16) (ws : Fin 16) (s : State), Issues who c 0x37 .all s ∧ Names who sl n ∧
      RadioReady who n s ∧ isExt n = true ∧ (let v := (getW who ws s).toNat; v < 16777216)) ∧
    (∃ (who : Who) (c : Cond) (n : Fin 12) (sl : Fin 16) (ws : Fin 16) (s : State), Issues who c 0x37 .all s ∧ Names who sl n ∧
      RadioReady who n s ∧ isExt n = true ∧ (let v := (getW who ws s).toNat; v < 16)) := by
  and_intros
  · refine ⟨.always, 4, 4, 4, (modSlice 4 (fun x => { x with xiq := 2 }) liveSeq), issues_of (by decide +kernel),
    by unfold Names; decide +kernel, ?_⟩; and_intros <;> decide +kernel
  · refine ⟨(.ring .custodian), .always, 0, 0, 1, live, issues_of (by decide +kernel), by unfold Names; decide +kernel,
    ?_⟩; and_intros <;> decide +kernel
  · refine ⟨.always, 0, 0, 1,
    (setT (.slice 0) 0 { sec := 5 } (modSlice 0 (fun x => { x with off := false, tuned := some 0, tap := some 0, locked := true, plan := x.plan.set 0 { taps := Vector.replicate 16 { chan := 7, family := 1 } } }) (liveSeq0))),
    issues_of (by decide +kernel), ready_of (by decide +kernel), ?_⟩; and_intros <;> decide +kernel
  · refine ⟨.always, 0, 4, 0, 1,
    (setW (.slice 0) 4 3 (modRoster 3 (fun r => { r with use_ := 1 }) (setT (.slice 0) 0 { sec := 5 } (modSlice 0 (fun x => { x with off := false, tuned := some 0, tap := some 0, locked := true, plan := x.plan.set 0 { taps := Vector.replicate 16 { chan := 7, family := 1 } } }) (liveSeq0))))),
    issues_of (by decide +kernel), ready_of (by decide +kernel), ?_⟩; and_intros <;> decide +kernel
  · refine ⟨.always, 0, 4, 0, 0xFFFF,
    (setW (.slice 0) 4 1 (modCtx (.slice 0) (fun c => { c with held := [{ item := it1 }] }) (setT (.slice 0) 0 { sec := 5 } (modSlice 0 (fun x => { x with off := false, tuned := some 0, tap := some 0, locked := true, plan := x.plan.set 0 { taps := Vector.replicate 16 { chan := 7, family := 1 } } }) (liveSeq0))))),
    issues_of (by decide +kernel), ready_of (by decide +kernel), ?_⟩; and_intros <;> decide +kernel
  · refine ⟨(.ring .custodian), .always, 4, 4, 0, (modSlice 4 (fun x => { x with xiq := 2 }) live), issues_of (by decide +kernel),
    by unfold Names; decide +kernel, ready_of (by decide +kernel), ?_⟩; and_intros <;> decide +kernel
  · refine ⟨(.ring .custodian), .always, 4, 4, 0, (modSlice 4 (fun x => { x with xiq := 2 }) live), issues_of (by decide +kernel),
    by unfold Names; decide +kernel, ready_of (by decide +kernel), ?_⟩; and_intros <;> decide +kernel

theorem witness_WindowAndSelectionEvents :
    (∃ (n : Fin 12) (w : Win) (s : State), (let x := slice n s; x.win = some w ∧ w.opened = false ∧ tbCanReach w.openAt s = true ∧
      x.locked = true ∧ calRunning x = false ∧ tbNs (reachTb w.openAt s) < w.closeAt)) ∧
    (∃ (n : Fin 12) (w : Win) (s : State), (let x := slice n s; x.win = some w ∧ w.closed = false ∧ tbCanReach w.closeAt s = true ∧
      (let u := openWaits (reachTb w.closeAt s); w.opened = false ∧ (slice n u).locked = false))) ∧
    (∃ (n : Fin 12) (w : Win) (s : State), (let x := slice n s; x.win = some w ∧ w.closed = false ∧ tbCanReach w.closeAt s = true ∧
      (let u := openWaits (reachTb w.closeAt s); w.opened = false ∧ (slice n u).locked = true))) ∧
    (∃ (n : Fin 12) (w : Win) (s : State), (let x := slice n s; x.win = some w ∧ w.closed = false ∧ tbCanReach w.closeAt s = true ∧
      w.opened = true ∧ w.passed = false ∧ w.lane = none)) ∧
    (∃ (n : Fin 12) (w : Win) (s : State), (let x := slice n s; x.win = some w ∧ w.closed = false ∧ tbCanReach w.closeAt s = true ∧
      w.opened = true ∧ (w.passed = true ∨ w.lane.isSome = true))) ∧
    (∃ (n : Fin 12) (a : TxfArm) (q : Nat) (s : State), (let x := slice n s; x.txf = some a ∧ a.sel = none ∧
      tbCanReach (a.ts - leadNs n) s = true ∧ a.q = some q)) ∧
    (∃ (n : Fin 12) (a : TxfArm) (h : HeldItem) (s : State), (let x := slice n s; (let me := Who.slice n; x.txf = some a ∧ a.sel = none ∧
      tbCanReach (a.ts - leadNs n) s = true ∧ a.q = none ∧ ((ctx me s).held.find? (fun h => h.item.job = a.heldRef) = some h)))) ∧
    (∃ (n : Fin 12) (a : TxfArm) (it : Item) (s : State),
      (let x := slice n s; (let due := reachTb (a.ts + a.latest - leadNs n) s; x.txf = some a ∧ selected n a s = some it ∧
      tbCanReach (a.ts + a.latest - leadNs n) s = true ∧ (slice n (tryLaunch n due)).txf.isSome = true ∧
      (let u := unselect a (tryLaunch n due); (let ready := ((slice n u).locked = true ∧ calRunning (slice n u) = false); ¬ ready))))) ∧
    (∃ (n : Fin 12) (a : TxfArm) (it : Item) (s : State),
      (let x := slice n s; (let due := reachTb (a.ts + a.latest - leadNs n) s; x.txf = some a ∧ selected n a s = some it ∧
      tbCanReach (a.ts + a.latest - leadNs n) s = true ∧ (slice n (tryLaunch n due)).txf.isSome = true ∧
      (let u := unselect a (tryLaunch n due); (let ready := ((slice n u).locked = true ∧ calRunning (slice n u) = false); ready ∧
      ctLeadMet it u = false))))) ∧
    (∃ (n : Fin 12) (a : TxfArm) (d : Nat) (it : Item) (s : State),
      (let x := slice n s; (let due := reachTb (a.ts + a.latest - leadNs n) s; x.txf = some a ∧ selected n a s = some it ∧
      tbCanReach (a.ts + a.latest - leadNs n) s = true ∧ (slice n (tryLaunch n due)).txf.isSome = true ∧
      (let u := unselect a (tryLaunch n due); (let ready := ((slice n u).locked = true ∧ calRunning (slice n u) = false); ready ∧
      ctLeadMet it u = true ∧ noTxEngine u = some d))))) ∧
    (∃ (n : Fin 12) (a : TxfArm) (it : Item) (s : State),
      (let x := slice n s; (let due := reachTb (a.ts + a.latest - leadNs n) s; x.txf = some a ∧ selected n a s = some it ∧
      tbCanReach (a.ts + a.latest - leadNs n) s = true ∧ (slice n (tryLaunch n due)).txf = none))) := by
  and_intros
  · refine ⟨0, { openAt := 1000000000, closeAt := 1000000001 },
    (modSlice 0 (fun x => { x with win := some { openAt := 1000000000, closeAt := 1000000001 }, locked := true }) (live)),
    ?_⟩; and_intros <;> decide +kernel
  · refine ⟨0, { openAt := 1000000000, closeAt := 1000000001 },
    (modSlice 0 (fun x => { x with win := some { openAt := 1000000000, closeAt := 1000000001 } }) (live)),
    ?_⟩; and_intros <;> decide +kernel
  · refine ⟨0, { openAt := 1000000000, closeAt := 1000000001 },
    (modSlice 0 (fun x => { x with win := some { openAt := 1000000000, closeAt := 1000000001 }, locked := true }) (live)),
    ?_⟩; and_intros <;> decide +kernel
  · refine ⟨0, { openAt := 1000000000, closeAt := 1000000001, opened := true },
    (modSlice 0 (fun x => { x with win := some { openAt := 1000000000, closeAt := 1000000001, opened := true } }) (live)),
    ?_⟩; and_intros <;> decide +kernel
  · refine ⟨0, { openAt := 1000000000, closeAt := 1000000001, opened := true, passed := true },
    (modSlice 0 (fun x => { x with win := some { openAt := 1000000000, closeAt := 1000000001, opened := true, passed := true } }) (live)),
    ?_⟩; and_intros <;> decide +kernel
  · refine ⟨0, { ts := 2000000000, q := some 0 }, 0,
    (modSlice 0 (fun x => { x with txf := some { ts := 2000000000, q := some 0 } }) (live)), ?_⟩; and_intros <;> decide +kernel
  · refine ⟨0, { ts := 2000000000, heldRef := 1 }, { item := it1 },
    (modSlice 0 (fun x => { x with txf := some { ts := 2000000000, heldRef := 1 } }) (modCtx (.slice 0) (fun c => { c with held := [{ item := it1 }] }) live)),
    ?_⟩; and_intros <;> decide +kernel
  · refine ⟨0, { ts := 2000000000, q := some 0, sel := some 1 }, it1,
    (modSlice 0 (fun x => { x with txf := some { ts := 2000000000, q := some 0, sel := some 1 } }) (liveQ)),
    ?_⟩; and_intros <;> decide +kernel
  · refine ⟨0, { ts := 2000000000, q := some 0, sel := some 1 }, { it1 with ct := true, written := false, decl := 400 },
    (modSlice 0 (fun x => { x with txf := some { ts := 2000000000, q := some 0, sel := some 1 }, locked := true }) (modQ 0 (fun x => { x with items := [{ it1 with ct := true, written := false, decl := 400 }] }) liveQ)),
    ?_⟩; and_intros <;> decide +kernel
  · refine ⟨0, { ts := 2000000000, q := some 0, sel := some 1 }, 10, it1,
    (modSlice 0 (fun x => { x with txf := some { ts := 2000000000, q := some 0, sel := some 1 }, locked := true }) ({ liveQ with health := { liveQ.health with s10 := { usable := 0 } } })),
    ?_⟩; and_intros <;> decide +kernel
  · refine ⟨0, { ts := 2000000000, q := some 0, sel := some 1 }, it1,
    (modSlice 0 (fun x => { x with txf := some { ts := 2000000000, q := some 0, sel := some 1 }, locked := true }) (liveQ)),
    ?_⟩; and_intros <;> decide +kernel

theorem witness_AirEvents :
    (∃ (n : Fin 12) (l : Nat) (e : Nat) (s : State), nextAir n s = some (l, e) ∧ tbCanReach (l - 20000) s = true) ∧
    (∃ (n : Fin 12) (t : TxRun) (s : State), (let x := slice n s; x.tx = some t ∧ t.airing = false ∧ tbCanReach t.launch s = true ∧
      calRunning x = false ∧ x.txOn = true)) ∧
    (∃ (n : Fin 12) (t : TxRun) (s : State), (let x := slice n s; x.tx = some t ∧ t.airing = true ∧ t.aired = false ∧
      tbCanReach t.endAt s = true)) ∧
    (∃ (n : Fin 12) (t : TxRun) (s : State), (let x := slice n s; x.tx = some t ∧ t.airing = true ∧ t.aired = false ∧ t.item.ct = true ∧
      t.item.written = false ∧
      (let d := t.launch + octetNs t.mode t.map (spar 0x0303 n s) (120 * ((t.item.data.length + 16) / 120) - 16) - 20000; tbCanReach d s = true))) ∧
    (∃ (n : Fin 12) (t : TxRun) (c : CalRun) (s : State), (let x := slice n s; x.txOn = true ∧
      (x.tx.any (fun t => t.airing && !t.aired) = false) ∧ x.enhAcks.any (·.airing) = false ∧ tbCanReach x.rampEnd s = true ∧
      (x.cal = none ∨ x.cal = some c ∧ c.waiting = false))) ∧
    (∃ (n : Fin 12) (t : TxRun) (c : CalRun) (s : State), (let x := slice n s; x.txOn = true ∧
      (x.tx.any (fun t => t.airing && !t.aired) = false) ∧ x.enhAcks.any (·.airing) = false ∧ tbCanReach x.rampEnd s = true ∧
      x.cal = some c ∧ c.waiting = true)) ∧
    (∃ (n : Fin 12) (s : State), (let x := slice n s; x.blank = true ∧ tbCanReach x.blankEnd s = true)) := by
  and_intros
  · refine ⟨0, 2000000000, 2001000000,
    (modSlice 0 (fun x => { x with tx := some { item := it1, launch := 2000000000, endAt := 2001000000 } }) (live)),
    ?_⟩; and_intros <;> decide +kernel
  · refine ⟨0, { item := it1, launch := 2000000000, endAt := 2001000000 },
    (modSlice 0 (fun x => { x with tx := some { item := it1, launch := 2000000000, endAt := 2001000000 }, txOn := true }) (live)),
    ?_⟩; and_intros <;> decide +kernel
  · refine ⟨0, { item := it1, launch := 2000000000, endAt := 2001000000, airing := true },
    (modSlice 0 (fun x => { x with tx := some { item := it1, launch := 2000000000, endAt := 2001000000, airing := true } }) (live)),
    ?_⟩; and_intros <;> decide +kernel
  · refine ⟨0, { item := { ct := true }, launch := 2000000000, endAt := 2001000000, airing := true },
    (modSlice 0 (fun x => { x with tx := some { item := { ct := true }, launch := 2000000000, endAt := 2001000000, airing := true } }) (live)),
    ?_⟩; and_intros <;> decide +kernel
  · refine ⟨0, {}, {}, (modSlice 0 (fun x => { x with txOn := true }) (live)), ?_⟩; and_intros <;> decide +kernel
  · refine ⟨0, {}, { waiting := true }, (modSlice 0 (fun x => { x with txOn := true, cal := some { waiting := true } }) (live)),
    ?_⟩; and_intros <;> decide +kernel
  · refine ⟨0, (modSlice 0 (fun x => { x with blank := true }) (live)), ?_⟩; and_intros <;> decide +kernel

theorem witness_AcknowledgementEvents :
    (∃ (n : Fin 12) (k : AckWait) (s : State), (let x := slice n s; x.ackWait = some k ∧ tbCanReach k.closeAt s = true ∧ k.lane = none)) ∧
    (∃ (n : Fin 12) (k : AckWait) (s : State), (let x := slice n s; x.ackWait = some k ∧ tbCanReach k.closeAt s = true ∧
      k.lane.isSome = true)) ∧
    (∃ (n : Fin 12) (ea : EnhAck) (s : State), (let x := slice n s; x.enhAcks = [ea] ∧ ea.airing = false ∧ ea.built = true ∧
      tbCanReach ea.launch s = true ∧ x.txOn = true)) ∧
    (∃ (n : Fin 12) (ea : EnhAck) (s : State), (let x := slice n s; x.enhAcks = [ea] ∧ ea.airing = false ∧ ea.built = false ∧
      tbCanReach ea.launch s = true)) ∧
    (∃ (n : Fin 12) (ea : EnhAck) (s : State), (let x := slice n s; x.tx = none ∧ x.enhAcks = [ea] ∧ ea.airing = true ∧
      tbCanReach ea.endAt s = true)) ∧
    (∃ (n : Fin 12) (t : TxRun) (loss : BitVec 8) (s : State), (let x := slice n s; isExt n = false ∧ x.tx = some t ∧ t.airing = true ∧
      t.aired = false ∧ loss.toNat < spar 0x0104 n s)) := by
  and_intros
  · refine ⟨0, {}, (modSlice 0 (fun x => { x with ackWait := some {} }) (live)), ?_⟩; and_intros <;> decide +kernel
  · refine ⟨0, { lane := some 0 }, (modSlice 0 (fun x => { x with ackWait := some { lane := some 0 } }) (live)),
    ?_⟩; and_intros <;> decide +kernel
  · refine ⟨0, { built := true }, (modSlice 0 (fun x => { x with enhAcks := [{ built := true }], txOn := true }) (live)),
    ?_⟩; and_intros <;> decide +kernel
  · refine ⟨0, {}, (modSlice 0 (fun x => { x with enhAcks := [{}], txOn := true }) (live)), ?_⟩; and_intros <;> decide +kernel
  · refine ⟨0, { airing := true }, (modSlice 0 (fun x => { x with enhAcks := [{ airing := true }], txOn := true }) (live)),
    ?_⟩; and_intros <;> decide +kernel
  · refine ⟨0, { item := it1, launch := 2000000000, endAt := 2001000000, airing := true }, 0,
    (setPar 0x105 0 0x0 (setPar 0x104 0 0xff (modSlice 0 (fun x => { x with tx := some { item := it1, launch := 2000000000, endAt := 2001000000, airing := true } }) (live)))),
    ?_⟩; and_intros <;> decide +kernel

theorem witness_LockAndCalibrationEvents :
    (∃ (n : Fin 12) (c : CalRun) (s : State), (let x := slice n s; alive s = true ∧ x.cal = some c ∧ c.temp = false ∧ c.waiting = false ∧
      isExt n = false ∧ c.wordFail = false ∧ c.ticket = none)) ∧
    (∃ (n : Fin 12) (s : State), (let x := slice n s; x.tcalPend = true ∧ x.cal = none ∧ isExt n = false ∧ x.off = false ∧
      x.offline = false ∧ x.win = none ∧ x.txf = none ∧ x.tx = none ∧ x.txOn = false ∧ x.enhAcks = [] ∧ x.ackWait = none ∧
      (∀ l ∈ s.radio.lanes.toList, l = none))) ∧
    (∃ (n : Fin 12) (c : CalRun) (s : State), (let x := slice n s; x.cal = some c ∧ c.temp = true)) ∧
    (∃ (n : Fin 12) (s : State), (let x := slice n s; x.tcalPend = true ∧ x.tcalTold = false)) ∧
    (∃ (n : Fin 12) (t : Int) (s : State), (let x := slice n s; isExt n = false ∧ t ≤ 1080 ∧ x.tcalPend = true)) ∧
    (∃ (n : Fin 12) (t : Int) (s : State), (let x := slice n s; isExt n = false ∧ t ≤ 1080 ∧ x.tcalPend = false ∧ x.cal = none ∧
      (spar 0x0106 n s : Int) * 8 ≤ |t - x.tempRef|)) ∧
    (∃ (n : Fin 12) (t : Int) (s : State), (let x := slice n s; isExt n = false ∧ 1080 < t ∧ x.tcalPend = true)) ∧
    (∃ (n : Fin 12) (s : State), (let x := slice n s; isExt n = false ∧ x.moving = true ∧ x.retune = false ∧ calRunning x = false ∧
      x.offline = false ∧ x.tuned.isSome = true)) ∧
    (∃ (n : Fin 12) (s : State), (let x := slice n s; isExt n = false ∧ (x.locked = true ∨ x.oldSeg.isSome = true) ∧
      (let u := abandonAll n (bumpSl 0x0122 n (modSlice n (fun x => { x with locked := false, oldSeg := none, moving := true, lostAt := some s.time.elapsed, lossTold := false }) s)); (slice n u).tx = none))) ∧
    (∃ (n : Fin 12) (r : TxRun) (s : State), (let x := slice n s; isExt n = false ∧ (x.locked = true ∨ x.oldSeg.isSome = true) ∧
      (let u := abandonAll n (bumpSl 0x0122 n (modSlice n (fun x => { x with locked := false, oldSeg := none, moving := true, lostAt := some s.time.elapsed, lossTold := false }) s)); (slice n u).tx = some r ∧
      r.aired = false ∧ r.airing = true))) ∧
    (∃ (n : Fin 12) (e : Nat) (s : State), (let x := slice n s; x.lostAt = some e ∧ x.lossTold = false ∧ x.locked = false)) ∧
    (∃ (n : Fin 12) (s : State), (let x := slice n s; x.retune = true ∧ retuneHeld x = false ∧ calRunning x = false ∧ x.offline = false)) := by
  and_intros
  · refine ⟨0, {},
    (modSeq 0 (fun x => { x with state := .blocked, await := some (.cal 0) }) (modSlice 0 (fun x => { x with cal := some {} }) (live))),
    ?_⟩; and_intros <;> decide +kernel
  · refine ⟨0, (modSlice 0 (fun x => { x with tcalPend := true, off := false }) (live)), ?_⟩; and_intros <;> decide +kernel
  · refine ⟨0, { temp := true }, (modSlice 0 (fun x => { x with cal := some { temp := true } }) (live)), ?_⟩; and_intros <;> decide +kernel
  · refine ⟨0, (modSlice 0 (fun x => { x with tcalPend := true }) (live)), ?_⟩; and_intros <;> decide +kernel
  · refine ⟨0, 1080, (modSlice 0 (fun x => { x with tcalPend := true }) (live)), ?_⟩; and_intros <;> decide +kernel
  · refine ⟨0, 1080, (modSlice 0 (fun x => { x with tempRef := 0 }) (live)), ?_⟩; and_intros <;> decide +kernel
  · refine ⟨0, 1081, (modSlice 0 (fun x => { x with tcalPend := true }) (live)), ?_⟩; and_intros <;> decide +kernel
  · refine ⟨0, (modSlice 0 (fun x => { x with moving := true, tuned := some 0 }) (live)), ?_⟩; and_intros <;> decide +kernel
  · refine ⟨0, (modSlice 0 (fun x => { x with locked := true }) (live)), ?_⟩; and_intros <;> decide +kernel
  · refine ⟨0, { item := it1, launch := 2000000000, endAt := 2001000000, airing := true },
    (modSlice 0 (fun x => { x with locked := true, tx := some { item := it1, launch := 2000000000, endAt := 2001000000, airing := true } }) (live)),
    ?_⟩; and_intros <;> decide +kernel
  · refine ⟨0, 0, (modSlice 0 (fun x => { x with lostAt := some 0 }) (live)), ?_⟩; and_intros <;> decide +kernel
  · refine ⟨0, (modSlice 0 (fun x => { x with retune := true }) (live)), ?_⟩; and_intros <;> decide +kernel

theorem witness_FrontEndEvents :
    (∃ (w : FeWord) (rest : List FeWord) (ack : BitVec 8) (s : State), s.radio.fe0 = w :: rest ∧ w.fromTune = true ∧ w.typ = 0 ∧
      ack = 0xA0 ||| s.radio.feSeq0.setWidth 8) ∧
    (∃ (w : FeWord) (rest : List FeWord) (ack : BitVec 8) (s : State), s.radio.fe1 = w :: rest ∧ w.fromTune = false ∧ w.typ = 1 ∧
      ack = 0xA0 ||| s.radio.feSeq1.setWidth 8 ∧ (seq w.sl s).await = some (.feout w.sl)) ∧
    (∃ (n : Fin 12) (e : Nat) (s : State), (let x := slice n s; x.settleFrom = some e ∧ isExt n = true ∧ x.moving = true ∧
      x.offline = false ∧ calRunning x = false)) ∧
    (∃ (n : Fin 12) (e : Nat) (s : State), (let x := slice n s; x.settleFrom = some e ∧ isExt n = true ∧ x.moving = true ∧
      x.offline = false ∧ calRunning x = true)) ∧
    (∃ (n : Fin 12) (c : CalRun) (s : State), (let x := slice n s; x.cal = some c ∧ isExt n = true ∧ c.temp = false ∧ c.waiting = false ∧
      c.mask.testBit 2 = true ∧ c.wordFail = false ∧ c.extDone = false ∧ s.radio.fe0 = [] ∧ s.radio.fe1 = [])) ∧
    (∃ (n : Fin 12) (p : Int) (clip : Bool) (s : State), (let x := slice n s; isExt n = false ∧ receiving n s = false ∧ x.off = false ∧
      (clip = true ∨ (par 0x0102 n.val s).toInt < p))) ∧
    (∃ (n : Fin 12) (p : Int) (s : State), (let x := slice n s; isExt n = false ∧ receiving n s = false ∧ x.off = false ∧
      p < (par 0x0103 n.val s).toInt)) ∧
    (∃ (n : Fin 12) (s : State), (let x := slice n s; isExt n = false ∧ receiving n s = true ∧ x.gain < 15)) ∧
    (∃ (n : Fin 12) (s : State), (let x := slice n s; isExt n = false ∧ x.sel = 2 ∧ quietNow n s = true)) := by
  and_intros
  · refine ⟨{ fromTune := true }, [], 0xA0, { live with radio := { live.radio with fe0 := [{ fromTune := true }] } },
    ?_⟩; and_intros <;> decide +kernel
  · refine ⟨{ typ := 1, sl := 4 }, [], 0xA0,
    (modSeq 4 (fun x => { x with state := .blocked, await := some (.feout 4) }) ({ live with radio := { live.radio with fe1 := [{ typ := 1, sl := 4 }] } })),
    ?_⟩; and_intros <;> decide +kernel
  · refine ⟨4, 0, (modSlice 4 (fun x => { x with settleFrom := some 0, moving := true }) (live)), ?_⟩; and_intros <;> decide +kernel
  · refine ⟨4, 0, (modSlice 4 (fun x => { x with settleFrom := some 0, moving := true, cal := some {} }) (live)),
    ?_⟩; and_intros <;> decide +kernel
  · refine ⟨4, { mask := 4 }, (modSlice 4 (fun x => { x with cal := some { mask := 4 } }) (live)), ?_⟩; and_intros <;> decide +kernel
  · refine ⟨0, 0, true, (modSlice 0 (fun x => { x with off := false }) (live)), ?_⟩; and_intros <;> decide +kernel
  · refine ⟨0, (-1000), (modSlice 0 (fun x => { x with off := false }) (live)), ?_⟩; and_intros <;> decide +kernel
  · refine ⟨0, (setLane 0 (some { sl := 0, passed := true }) live), ?_⟩; and_intros <;> decide +kernel
  · refine ⟨0, (modSlice 0 (fun x => { x with sel := 2 }) (live)), ?_⟩; and_intros <;> decide +kernel

theorem witness_LaneEvents :
    (∃ (n : Fin 12) (b : XiqBlk) (s : State), (let x := slice n s; isExt n = true ∧ x.xiq = 2 ∧ b.ok = true ∧ b.ovl = false)) ∧
    (∃ (n : Fin 12) (b : XiqBlk) (s : State), (let x := slice n s; isExt n = true ∧ x.xiq = 2 ∧ b.ok = false)) ∧
    (∃ (n : Fin 12) (b : XiqBlk) (s : State), (let x := slice n s; isExt n = true ∧ x.xiq = 1 ∧ b.ok = true ∧ b.ovl = false ∧
      255 ≤ x.xiqGood)) ∧
    (∃ (n : Fin 12) (s : State), (let x := slice n s; isExt n = true ∧ x.xiq = 2 ∧ 32 ≤ (x.xiqBad.filter id).length)) := by
  and_intros
  · refine ⟨4, {}, (modSlice 4 (fun x => { x with xiq := 2 }) (live)), ?_⟩; and_intros <;> decide +kernel
  · refine ⟨4, { ok := false }, (modSlice 4 (fun x => { x with xiq := 2 }) (live)), ?_⟩; and_intros <;> decide +kernel
  · refine ⟨4, {}, (modSlice 4 (fun x => { x with xiq := 1, xiqGood := 255 }) (live)), ?_⟩; and_intros <;> decide +kernel
  · refine ⟨4, (modSlice 4 (fun x => { x with xiq := 2, xiqBad := List.replicate 32 true }) (live)), ?_⟩; and_intros <;> decide +kernel

theorem witness_QueueInstructions :
    (∃ (who : Who) (c : Cond) (q : QRef) (k : Nat) (ws : Fin 16) (h : HeldItem) (s : State), NamesQueue who q k s ∧
      (let ref := getW who ws s; Issues who c 0x40 .all s ∧ heldItem who ref s = some h)) ∧
    (∃ (who : Who) (c : Cond) (q : QRef) (k : Nat) (it : Item) (s : State), NamesQueue who q k s ∧ Issues who c 0x41 .all s ∧
      (ctx who s).held.length < 8 ∧ popHead k s = some it) ∧
    (∃ (who : Who) (c : Cond) (q : QRef) (k : Nat) (s : State), NamesQueue who q k s ∧ Issues who c 0x41 .all s ∧
      (ctx who s).held.length < 8 ∧ popHead k s = none) ∧
    (∃ (who : Who) (c : Cond) (q : QRef) (k : Nat) (it : Item) (s : State), NamesQueue who q k s ∧ Issues who c 0x42 .all s ∧
      popHead k s = some it) ∧
    (∃ (who : Who) (c : Cond) (q : QRef) (k : Nat) (s : State), NamesQueue who q k s ∧ Issues who c 0x42 .all s ∧ popHead k s = none) ∧
    (∃ (who : Who) (c : Cond) (q : QRef) (k : Nat) (it : Item) (s : State), NamesQueue who q k s ∧ Issues who c 0x43 .all s ∧
      popHead k s = some it) ∧
    (∃ (who : Who) (c : Cond) (q : QRef) (k : Nat) (ws : Fin 16) (h : HeldItem) (s : State), NamesQueue who q k s ∧
      (let ref := getW who ws s; Issues who c 0x43 .all s ∧ heldItem who ref s = some h)) ∧
    (∃ (who : Who) (c : Cond) (q : QRef) (k : Nat) (it : Item) (s : State), NamesQueue who q k s ∧
      (let x := queue k s; Issues who c 0x43 .all s ∧ x.dropMode = true ∧ x.inc = some it)) ∧
    (∃ (who : Who) (c : Cond) (q : QRef) (k : Nat) (s : State), NamesQueue who q k s ∧ (let x := queue k s; Issues who c 0x44 .condOnly s ∧
      x.dropMode = false)) ∧
    (∃ (who : Who) (c : Cond) (q : QRef) (k : Nat) (s : State), NamesQueue who q k s ∧ Issues who c 0x45 .all s) ∧
    (∃ (who : Who) (c : Cond) (q : QRef) (k : Nat) (ws : Fin 16) (attr : BitVec 8) (y : Queue) (s : State), NamesQueue who q k s ∧
      (let x := queue k s; (let ref := getW who ws s; Issues who c 0x46 .condOnly s ∧ attr.toNat ≤ 6 ∧
      setAttr x attr.toNat ref.toNat = some y ∧ (x.dropMode = y.dropMode ∨ x.inc = none)))) := by
  and_intros
  · refine ⟨(.ring .custodian), .always, (.imm 0), 0, 4, { item := it1 },
    (modCtx (.ring .custodian) (fun c => { c with held := [{ item := it1 }] }) (setW (.ring .custodian) 4 1 live)),
    by unfold NamesQueue; decide +kernel, issues_of (by decide +kernel), ?_⟩; decide +kernel
  · refine ⟨(.ring .custodian), .always, (.imm 0), 0, it1, liveQ, by unfold NamesQueue; decide +kernel, issues_of (by decide +kernel),
    ?_⟩; and_intros <;> decide +kernel
  · refine ⟨(.ring .custodian), .always, (.imm 0), 0, live, by unfold NamesQueue; decide +kernel, issues_of (by decide +kernel),
    ?_⟩; and_intros <;> decide +kernel
  · refine ⟨(.ring .custodian), .always, (.imm 0), 0, it1, liveQ, by unfold NamesQueue; decide +kernel, issues_of (by decide +kernel),
    ?_⟩; decide +kernel
  · refine ⟨(.ring .custodian), .always, (.imm 0), 0, live, by unfold NamesQueue; decide +kernel, issues_of (by decide +kernel),
    ?_⟩; decide +kernel
  · refine ⟨(.ring .custodian), .always, (.imm 0), 0, it1, liveQ, by unfold NamesQueue; decide +kernel, issues_of (by decide +kernel),
    ?_⟩; decide +kernel
  · refine ⟨(.ring .custodian), .always, (.imm 0), 0, 4, { item := it1 },
    (modCtx (.ring .custodian) (fun c => { c with held := [{ item := it1 }] }) (setW (.ring .custodian) 4 1 live)),
    by unfold NamesQueue; decide +kernel, issues_of (by decide +kernel), ?_⟩; decide +kernel
  · refine ⟨(.ring .custodian), .always, (.imm 0), 0, {}, (modQ 0 (fun x => { x with dropMode := true, inc := some {} }) live),
    by unfold NamesQueue; decide +kernel, issues_of (by decide +kernel), ?_⟩; and_intros <;> decide +kernel
  · refine ⟨(.ring .custodian), .always, (.imm 0), 0, live, by unfold NamesQueue; decide +kernel, issues_of (by decide +kernel),
    ?_⟩; decide +kernel
  · refine ⟨(.ring .custodian), .always, (.imm 0), 0, live, by unfold NamesQueue; decide +kernel, issues_of (by decide +kernel)⟩
  · refine ⟨(.ring .custodian), .always, (.imm 0), 0, 0, 6, {}, live, by unfold NamesQueue; decide +kernel, issues_of (by decide +kernel),
    ?_⟩; and_intros <;> decide +kernel

theorem witness_ReceptionEvents :
    (∃ (d : Det) (more : List Det) (e : Nat) (m : PhrMode) (s : State),
      (let last := more.foldl (fun m e => max m e.at_) d.at_; tbCanReach last s = true)) ∧
    (∃ (d : Det) (s : State), (let v := openWaits (reachTb d.at_ s); tbCanReach d.at_ s = true ∧ armed d.sl d.tap d.at_ v = true ∧
      fires d v = true)) ∧
    (∃ (n : Fin 12) (tp : Fin 16) (e : Nat) (s : State), (slice n s).holdOff[tp] = some e ∧ tbCanReach e s = true) ∧
    (∃ (ln : Fin 64) (phr : Phr) (l : Lane) (s : State), (let u := openWaits s; lane ln s = some l ∧ l.passed = false ∧ l.out = none ∧
      phrMode l phr u = none)) ∧
    (∃ (ln : Fin 64) (phr : Phr) (l : Lane) (m : PhrMode) (s : State), (let u := openWaits s; lane ln s = some l ∧ l.passed = false ∧
      l.out = none ∧ phrMode l phr u = some m ∧ phr.len < fcsOctets l.sl l phr u + 2)) ∧
    (∃ (ln : Fin 64) (phr : Phr) (l : Lane) (m : PhrMode) (s : State), (let u := openWaits s; lane ln s = some l ∧ l.passed = false ∧
      l.out = none ∧ phrMode l phr u = some m ∧ fcsOctets l.sl l phr u + 2 ≤ phr.len ∧ spar 0x0300 l.sl u < phr.len)) ∧
    (∃ (ln : Fin 64) (phr : Phr) (l : Lane) (m : PhrMode) (s : State), (let u := openWaits s; lane ln s = some l ∧ l.passed = false ∧
      l.out = none ∧ phrMode l phr u = some m ∧ fcsOctets l.sl l phr u + 2 ≤ phr.len ∧ phr.len ≤ spar 0x0300 l.sl u)) ∧
    (∃ (ln : Fin 64) (l : Lane) (p : RxPay) (s : State), lane ln s = some l ∧ l.passed = true ∧ l.out = none ∧
      tbCanReach l.endAt s = true ∧ (let t := openWaits (reachTb l.endAt s); (let psdu := lanePsdu l p t; fcsRight l.fcs psdu = true))) ∧
    (∃ (ln : Fin 64) (l : Lane) (p : RxPay) (s : State), lane ln s = some l ∧ l.passed = true ∧ l.out = none ∧
      tbCanReach l.endAt s = true ∧ (let t := openWaits (reachTb l.endAt s); (let psdu := lanePsdu l p t; fcsRight l.fcs psdu = false))) ∧
    (∃ (ln : Fin 64) (l : Lane) (f : RxFrame) (errs : List MemErr) (s : State), (let v := meetErrors errs s; lane ln v = some l ∧
      l.out = some f ∧ firstPassed l v = true)) := by
  and_intros
  · refine ⟨{}, {}, 0, {}, live, ?_⟩; decide +kernel
  · refine ⟨{ at_ := 1000000000 },
    (setPar 0x220 0 0x1 (modSlice 0 (fun x => { x with locked := true, tap := some 0, tuned := some 0, plan := x.plan.set 0 { taps := Vector.replicate 16 { chan := 7, family := 1 } } }) (live))),
    ?_⟩; and_intros <;> decide +kernel
  · refine ⟨0, 0, 0, (modSlice 0 (fun x => { x with holdOff := x.holdOff.set 0 (some 0) }) (live)), ?_⟩; and_intros <;> decide +kernel
  · refine ⟨0, { hcsOk := false }, { sl := 4, fam := 5 }, (setLane 0 (some { sl := 4, fam := 5 }) live), ?_⟩; and_intros <;> decide +kernel
  · refine ⟨0, { len := 2 }, { sl := 4, fam := 5 }, { mode := 0x51 }, (setLane 0 (some { sl := 4, fam := 5 }) live),
    ?_⟩; and_intros <;> decide +kernel
  · refine ⟨0, { len := 60000 }, { sl := 4, fam := 5 }, { mode := 0x51 }, (setLane 0 (some { sl := 4, fam := 5 }) live),
    ?_⟩; and_intros <;> decide +kernel
  · refine ⟨0, { len := 8 }, { sl := 4, fam := 5 }, { mode := 0x51 }, (setLane 0 (some { sl := 4, fam := 5 }) live),
    ?_⟩; and_intros <;> decide +kernel
  · refine ⟨0, { sl := 4, fam := 5, passed := true, fcs := 4, len := 6 }, { octets := [1, 2] ++ leOctets 4 (Config.fcs 4 [1, 2]) },
    (setLane 0 (some { sl := 4, fam := 5, passed := true, fcs := 4, len := 6 }) live), by decide +kernel, by decide +kernel,
    by decide +kernel, by decide +kernel, decide_eq_true rfl⟩
  · refine ⟨0, { sl := 4, fam := 5, passed := true, fcs := 4 }, {},
    (setLane 0 (some { sl := 4, fam := 5, passed := true, fcs := 4 }) live), ?_⟩; and_intros <;> decide +kernel
  · refine ⟨0, { sl := 4, out := some {} }, {}, [], (setLane 0 (some { sl := 4, out := some {} }) live), ?_⟩; and_intros <;> decide +kernel

theorem witness_NoticeCommands :
    (∃ (who : Who) (c : Cond) (kind : BitVec 16) (s : State), Issues who c 0x82 .all s ∧ 0x8000 ≤ kind.toNat) ∧
    (∃ (who : Who) (c : Cond) (kind : BitVec 16) (s : State), Issues who c 0x82 .all s ∧ kind.toNat < 0x8000) ∧
    (∃ (who : Who) (c : Cond) (ws : Fin 16) (hi : Fin 16) (dist : Bool) (s : State), Issues who c 0x53 .condOnly s ∧ ws.val % 2 = 0 ∧
      hi.val = ws.val + 1 ∧ (let h := w32 (keyHash (pairVal who ws hi s) dist s); s.notices.entries.any (openEntry 0x0601 h) = false)) ∧
    (∃ (who : Who) (c : Cond) (ws : Fin 16) (hi : Fin 16) (dist : Bool) (s : State), Issues who c 0x53 .condOnly s ∧ ws.val % 2 = 0 ∧
      hi.val = ws.val + 1 ∧ (let h := w32 (keyHash (pairVal who ws hi s) dist s); s.notices.entries.any (openEntry 0x0601 h) = true)) ∧
    (∃ (w : World) (s : State), (ring w blkNotice s).room = true) := by
  and_intros
  · refine ⟨(.ring .custodian), .always, 0x8000, live, issues_of (by decide +kernel), ?_⟩; decide +kernel
  · refine ⟨(.ring .custodian), .always, 0x7FFF, live, issues_of (by decide +kernel), ?_⟩; decide +kernel
  · refine ⟨(.ring .custodian), .always, 0, 1, false, live, issues_of (by decide +kernel), ?_⟩; and_intros <;> decide +kernel
  · refine ⟨(.ring .custodian), .always, 0, 1, false,
    { live with notices := { live.notices with entries := [{ kind := 0x0601, subject := w32 (keyHash 0 false live) }] } },
    issues_of (by decide +kernel), ?_⟩; and_intros <;> decide +kernel
  · refine ⟨.custodian, (modRing .custodian blkNotice (fun r => { r with size := 16 }) live), ?_⟩; decide +kernel

theorem witness_TableCommands :
    (∃ (who : Who) (c : Cond) (ws : Fin 16) (hi : Fin 16) (dist : Bool) (s : State),
      (let key := pairVal who ws hi s; (let clean := s.health.errs = []; (let even := (ws.val % 2 = 0 ∧
      hi.val = ws.val + 1); Issues who c 0x50 .all s ∧ even ∧ clean ∧ findKey key dist s = none)))) ∧
    (∃ (who : Who) (c : Cond) (ws : Fin 16) (hi : Fin 16) (dist : Bool) (p : Nat) (s : State),
      (let key := pairVal who ws hi s; (let e := tEntry p s; (let clean := s.health.errs = []; (let even := (ws.val % 2 = 0 ∧
      hi.val = ws.val + 1); Issues who c 0x50 .all s ∧ even ∧ clean ∧ findKey key dist s = some p ∧ p < ovfBase ∧
      resPos e.result = myPos s))))) ∧
    (∃ (who : Who) (c : Cond) (ws : Fin 16) (hi : Fin 16) (dist : Bool) (p : Nat) (s : State),
      (let key := pairVal who ws hi s; (let e := tEntry p s; (let clean := s.health.errs = []; (let even := (ws.val % 2 = 0 ∧
      hi.val = ws.val + 1); Issues who c 0x50 .all s ∧ even ∧ clean ∧ findKey key dist s = some p ∧ ovfBase ≤ p ∧
      resPos e.result ≠ myPos s))))) ∧
    (∃ (who : Who) (c : Cond) (ws : Fin 16) (wr : Fin 16) (hi : Fin 16) (s : State),
      (let r := getW who wr s; (let even := (ws.val % 2 = 0 ∧ hi.val = ws.val + 1); Issues who c 0x51 .condOnly s ∧ even ∧
      resultBad r s = false))) ∧
    (∃ (who : Who) (c : Cond) (ws : Fin 16) (hi : Fin 16) (s : State), (let even := (ws.val % 2 = 0 ∧
      hi.val = ws.val + 1); Issues who c 0x52 .condOnly s ∧ even)) ∧
    (∃ (who : Who) (c : Cond) (ws : Fin 16) (hi : Fin 16) (dist : Bool) (p : Nat) (s : State),
      (let key := pairVal who ws hi s; (let e := tEntry p s; (let clean := s.health.errs = []; (let even := (ws.val % 2 = 0 ∧
      hi.val = ws.val + 1); Issues who c 0x54 .condOnly s ∧ even ∧ clean ∧ findKey key dist s = some p ∧ e.static = false))))) ∧
    (∃ (who : Who) (c : Cond) (ws : Fin 16) (hi : Fin 16) (dist : Bool) (p : Nat) (s : State),
      (let key := pairVal who ws hi s; (let e := tEntry p s; (let clean := s.health.errs = []; (let even := (ws.val % 2 = 0 ∧
      hi.val = ws.val + 1); Issues who c 0x55 .condOnly s ∧ even ∧ clean ∧ findKey key dist s = some p ∧ e.static = true))))) ∧
    (∃ (who : Who) (c : Cond) (ws : Fin 16) (s : State), ws.val % 2 = 1 ∧ Issues who c 0x50 .all s) ∧
    (∃ (who : Who) (c : Cond) (ws : Fin 16) (s : State), ws.val % 2 = 1 ∧ Issues who c 0x51 .condOnly s) ∧
    (∃ (who : Who) (c : Cond) (ws : Fin 16) (s : State), ws.val % 2 = 1 ∧ Issues who c 0x52 .condOnly s) ∧
    (∃ (who : Who) (c : Cond) (q : QRef) (k : Nat) (region : Fin 4) (s : State), Issues who c 0x56 .condOnly s ∧ NamesQueue who q k s ∧
      region.val < 2 ∧ s.tables.job = none ∧ pendFull who s = false ∧ (popHead k s).isSome = true) ∧
    (∃ (who : Who) (c : Cond) (s : State), Issues who c 0x57 .condOnly s ∧ s.tables.job = none ∧ pendFull who s = false) ∧
    (∃ (j : TblJob) (s : State), alive s = true ∧ s.tables.job = some j ∧ j.scrub = false) ∧
    (∃ (errs : List MemErr) (j : TblJob) (s : State), (let u := meetErrors errs s; alive u = true ∧ u.tables.job = some j ∧ j.scrub = true)) ∧
    (∃ (s : State), cpar 0x0605 s ≠ 0 ∧ s.twin.standby = false ∧ s.tables.agingAt = none) ∧
    (∃ (p : Nat) (s : State), cpar 0x0605 s ≠ 0 ∧ s.twin.standby = false ∧ s.tables.agingAt = some p) ∧
    (∃ (p : Nat) (s : State), s.tables.agingAt = some p ∧ s.tables.agingDue = false) ∧
    (∃ (who : Who) (c : Cond) (ws : Fin 16) (hi : Fin 16) (dist : Bool) (s : State),
      (let key := pairVal who ws hi s; (let even := (ws.val % 2 = 0 ∧ hi.val = ws.val + 1); Issues who c 0x50 .all s ∧ even ∧
      (readTables key dist (opened who s)).1 = true ∧ findKey key dist (readTables key dist (opened who s)).2 = none))) := by
  and_intros
  · refine ⟨(.ring .custodian), .always, 0, 1, false, live, issues_of (by decide +kernel), ?_⟩; and_intros <;> decide +kernel
  · refine ⟨(.ring .custodian), .always, 0, 1, false, (4 * bucket0 (keyHash 0 false live)),
    (setEntry (4 * bucket0 (keyHash 0 false live)) { valid := true } live), issues_of (by decide +kernel),
    ?_⟩; and_intros <;> decide +kernel
  · refine ⟨(.ring .custodian), .always, 0, 1, false, 262144, (setEntry 262144 { valid := true, result := 0x20000 } live),
    issues_of (by decide +kernel), ?_⟩; and_intros <;> decide +kernel
  · refine ⟨(.ring .custodian), .always, 0, 0, 1, live, issues_of (by decide +kernel), ?_⟩; and_intros <;> decide +kernel
  · refine ⟨(.ring .custodian), .always, 0, 1, live, issues_of (by decide +kernel), ?_⟩; decide +kernel
  · refine ⟨(.ring .custodian), .always, 0, 1, false, (4 * bucket0 (keyHash 0 false live)),
    (setEntry (4 * bucket0 (keyHash 0 false live)) { valid := true } live), issues_of (by decide +kernel),
    ?_⟩; and_intros <;> decide +kernel
  · refine ⟨(.ring .custodian), .always, 0, 1, false, (4 * bucket0 (keyHash 0 false live)),
    (setEntry (4 * bucket0 (keyHash 0 false live)) { valid := true, static := true } live), issues_of (by decide +kernel),
    ?_⟩; and_intros <;> decide +kernel
  · refine ⟨(.ring .custodian), .always, 1, live, by decide +kernel, issues_of (by decide +kernel)⟩
  · refine ⟨(.ring .custodian), .always, 1, live, by decide +kernel, issues_of (by decide +kernel)⟩
  · refine ⟨(.ring .custodian), .always, 1, live, by decide +kernel, issues_of (by decide +kernel)⟩
  · refine ⟨(.ring .custodian), .always, (.imm 0), 0, 1, liveQ, issues_of (by decide +kernel), by unfold NamesQueue; decide +kernel,
    ?_⟩; and_intros <;> decide +kernel
  · refine ⟨(.ring .custodian), .always, live, issues_of (by decide +kernel), ?_⟩; and_intros <;> decide +kernel
  · refine ⟨{}, { live with tables := { live.tables with job := some {} } }, ?_⟩; and_intros <;> decide +kernel
  · refine ⟨[], { scrub := true }, { live with tables := { live.tables with job := some { scrub := true } } },
    ?_⟩; and_intros <;> decide +kernel
  · refine ⟨(setPar 0x605 15 0x1 (live)), ?_⟩; and_intros <;> decide +kernel
  · refine ⟨0, (setPar 0x605 15 0x1 ({ live with tables := { live.tables with agingAt := some 0 } })), ?_⟩; and_intros <;> decide +kernel
  · refine ⟨0, { live with tables := { live.tables with agingAt := some 0 } }, ?_⟩; and_intros <;> decide +kernel
  · refine ⟨(.ring .custodian), .always, 0, 1, false,
    { live with health := { live.health with errs := [{ region := 1, place := 4 * bucket0 (keyHash 0 false live), kind := .double }] } },
    issues_of (by decide +kernel), ?_⟩; and_intros <;> decide +kernel

theorem witness_HealthCommands :
    (∃ (who : Who) (c : Cond) (sel : BitVec 16) (v : Nat) (s : State), Issues who c 0x85 .all s ∧ healthSel who sel.toNat s = some v) ∧
    (∃ (who : Who) (c : Cond) (sel : BitVec 16) (s : State), Issues who c 0x85 .all s ∧ healthSel who sel.toNat s = none) ∧
    (∃ (who : Who) (c : Cond) (ws : Fin 16) (s : State), (let ref := (getW who ws s).toNat; Issues who c 0x84 .all s ∧
      (jobAt ref s).stage ≠ 0 ∧ (jobAt ref s).gen = ref / 32768)) ∧
    (∃ (who : Who) (c : Cond) (ws : Fin 16) (s : State), (let ref := (getW who ws s).toNat; Issues who c 0x84 .all s ∧
      (jobAt ref s).stage = 0 ∧ s.qp.journal = [])) ∧
    (∃ (who : Who) (c : Cond) (sl : Fin 16) (n : Fin 12) (s : State), Issues who c 0x84 .all s ∧ sl.val = n.val) ∧
    (∃ (s : State), s.time.coreOn = true) ∧
    (∃ (cause : Fin 3) (s : State), (cause ≠ 1 ∨ s.health.chipFault ≠ 0)) ∧
    (∃ (s : State), s.health.chipFault = 0 ∧ exhausted .s6 s = false) ∧
    (∃ (s : State), s.health.chipFault = 0 ∧ exhausted .s10 s = false) ∧
    (∃ (s : State) (e : Eng), e ≠ .s1 ∧ e ≠ .s2 ∧ (stg e s.health).spare = true ∧ (stg e s.health).testing = false ∧ idleUnit e s = true) ∧
    (∃ (s : State) (e : Eng), (stg e s.health).testing = true) := by
  and_intros
  · refine ⟨(.ring .custodian), .always, 0x0C04, 0, live, issues_of (by decide +kernel), ?_⟩; decide +kernel
  · refine ⟨(.ring .custodian), .always, 0, live, issues_of (by decide +kernel), ?_⟩; decide +kernel
  · refine ⟨(.ring .custodian), .always, 0, (modJob 0 (fun j => { j with stage := 5 }) live), issues_of (by decide +kernel),
    ?_⟩; and_intros <;> decide +kernel
  · refine ⟨(.ring .custodian), .always, 0, live, issues_of (by decide +kernel), ?_⟩; and_intros <;> decide +kernel
  · refine ⟨(.ring .custodian), .always, 0, 0, live, issues_of (by decide +kernel), ?_⟩; decide +kernel
  · refine ⟨live, ?_⟩; decide +kernel
  · refine ⟨0, live, ?_⟩; decide +kernel
  · refine ⟨live, ?_⟩; and_intros <;> decide +kernel
  · refine ⟨live, ?_⟩; and_intros <;> decide +kernel
  · refine ⟨live, .s4, ?_⟩; and_intros <;> decide +kernel
  · refine ⟨(modStg .s4 (fun g => { g with testing := true }) live), .s4, ?_⟩; decide +kernel

theorem witness_MemoryErrors :
    (∃ (r : Fin 13) (s : State), alive s = true ∧ s.tables.job = none ∧ r.val < 3) ∧
    (∃ (r : Fin 13) (s : State), alive s = true ∧ s.tables.job = none ∧ 3 ≤ r.val) ∧
    (∃ (r : Fin 13) (p : Nat) (s : State),
      (let lost := notify 0x0013 r.val 0x18 blkHousekeeper { s with health := { s.health with uncorr := upd s.health.uncorr r (fun c => sat32 (c + 1)) } }; (let u := if r = 3 then cellFails p lost else if r = 4 ∨ r = 5 ∨ r = 9 then chipFaultOp 2 lost else if r = 7 then journalFails p lost else if r = 8 then profileFails p lost else if r = 10 then cacheFails p lost else if r = 11 then stagingFails lost else if r = 12 then jobsFail lost else lost; 3 ≤ r.val ∧
      alive u = true ∧ u.tables.job = none))) := by
  and_intros
  · refine ⟨0, live, ?_⟩; and_intros <;> decide +kernel
  · refine ⟨3, live, ?_⟩; and_intros <;> decide +kernel
  · refine ⟨6, 0, live, ?_⟩; and_intros <;> decide +kernel

theorem witness_KeyInstructions :
    (∃ (who : Who) (c : Cond) (k : Fin 8192) (q : QRef) (n : Nat) (it : Item) (s : State),
      (let x := slot k.val s; Issues who c 0x60 .custodian s ∧ lcOpen s = true ∧ 8 ≤ k.val ∧ NamesQueue who q n s ∧ x.occ = false ∧
      popHead n s = some it)) ∧
    (∃ (who : Who) (c : Cond) (ws : Fin 16) (k : Fin 8192) (s : State), (let idx := (getW who ws s).toNat; Issues who c 0x61 .condOnly s ∧
      SlotOpen who k.val (some 11) s ∧ idx < 131072 ∧ (roster idx s).use_ = 1)) ∧
    (∃ (who : Who) (c : Cond) (k : Fin 8192) (s : State), (let x := slot k.val s; Issues who c 0x62 .custodian s ∧
      SlotOpen who k.val none s ∧ x.occ = true)) ∧
    (∃ (who : Who) (c : Cond) (k : Fin 8192) (s : State), (let x := slot k.val s; Issues who c 0x62 .custodian s ∧
      SlotOpen who k.val none s ∧ x.occ = false)) ∧
    (∃ (who : Who) (c : Cond) (k : Fin 8192) (s : State), Issues who c 0x63 .condOnly s ∧ SlotOpen who k.val none s) ∧
    (∃ (who : Who) (c : Cond) (k : Fin 8192) (s : State), Issues who c 0x66 .custodian s ∧ SlotOpen who k.val none s) ∧
    (∃ (who : Who) (c : Cond) (s : State), Issues who c 0x66 .custodian s ∧ lcOpen s = true) ∧
    (∃ (who : Who) (c : Cond) (s : State), lcOpen s = false ∧ Issues who c 0x60 .custodian s) ∧
    (∃ (who : Who) (c : Cond) (s : State), lcOpen s = false ∧ Issues who c 0x61 .condOnly s) ∧
    (∃ (who : Who) (c : Cond) (s : State), lcOpen s = false ∧ Issues who c 0x62 .custodian s) ∧
    (∃ (who : Who) (c : Cond) (s : State), lcOpen s = false ∧ Issues who c 0x63 .condOnly s) ∧
    (∃ (who : Who) (c : Cond) (s : State), lcOpen s = false ∧ Issues who c 0x66 .custodian s) := by
  and_intros
  · refine ⟨(.ring .custodian), .always, 8, (.imm 0), 0, it1, liveQ, issues_of (by decide +kernel), by decide +kernel, by decide +kernel,
    by unfold NamesQueue; decide +kernel, ?_⟩; and_intros <;> decide +kernel
  · refine ⟨(.ring .custodian), .always, 4, 8,
    (setW (.ring .custodian) 4 3 (modRoster 3 (fun r => { r with use_ := 1 }) (modSlot 8 (fun k => { k with attr := 0xFFFFFFFF, occ := true }) (live)))),
    issues_of (by decide +kernel), slotOpen_of (by decide +kernel), ?_⟩; and_intros <;> decide +kernel
  · refine ⟨(.ring .custodian), .always, 8, (modSlot 8 (fun k => { k with attr := 0xFFFFFFFF, occ := true }) (live)),
    issues_of (by decide +kernel), slotOpen_of (by decide +kernel), ?_⟩; decide +kernel
  · refine ⟨(.ring .custodian), .always, 8, (modSlot 8 (fun k => { k with attr := 0xFFFFFFFF, occ := false }) (live)),
    issues_of (by decide +kernel), slotOpen_of (by decide +kernel), ?_⟩; decide +kernel
  · refine ⟨(.ring .custodian), .always, 8, (modSlot 8 (fun k => { k with attr := 0xFFFFFFFF, occ := false }) (live)),
    issues_of (by decide +kernel), slotOpen_of (by decide +kernel)⟩
  · refine ⟨(.ring .custodian), .always, 8, (modSlot 8 (fun k => { k with attr := 0xFFFFFFFF, occ := false }) (live)),
    issues_of (by decide +kernel), slotOpen_of (by decide +kernel)⟩
  · refine ⟨(.ring .custodian), .always, live, issues_of (by decide +kernel), ?_⟩; decide +kernel
  · refine ⟨(.ring .custodian), .always, { live with sec := { live.sec with fused := 0 } }, by decide +kernel,
    issues_of (by decide +kernel)⟩
  · refine ⟨(.ring .custodian), .always, { live with sec := { live.sec with fused := 0 } }, by decide +kernel,
    issues_of (by decide +kernel)⟩
  · refine ⟨(.ring .custodian), .always, { live with sec := { live.sec with fused := 0 } }, by decide +kernel,
    issues_of (by decide +kernel)⟩
  · refine ⟨(.ring .custodian), .always, { live with sec := { live.sec with fused := 0 } }, by decide +kernel,
    issues_of (by decide +kernel)⟩
  · refine ⟨(.ring .custodian), .always, { live with sec := { live.sec with fused := 0 } }, by decide +kernel,
    issues_of (by decide +kernel)⟩

theorem witness_CounterCommands :
    (∃ (who : Who) (c : Cond) (ws : Fin 16) (s : State), (let idx := (getW who ws s).toNat; Issues who c 0x64 .custodian s ∧
      lcOpen s = true ∧ idx < 131072 ∧ (roster idx s).use_ = 1)) ∧
    (∃ (who : Who) (c : Cond) (ws : Fin 16) (s : State), (let idx := (getW who ws s).toNat; Issues who c 0x64 .custodian s ∧
      lcOpen s = true ∧ (131072 ≤ idx ∨ (roster idx s).use_ ≠ 1))) ∧
    (∃ (who : Who) (c : Cond) (ws : Fin 16) (q : QRef) (k : Nat) (count : BitVec 13) (s : State),
      (let idx := (getW who ws s).toNat; Issues who c 0x65 .condOnly s ∧ lcOpen s = true ∧ NamesQueue who q k s ∧ idx < 131072 ∧
      0 < count.toNat ∧ count.toNat ≤ 4096 ∧ idx + count.toNat ≤ 131072 ∧ pendFull who s = false)) ∧
    (∃ (s : State), alive s = true) := by
  and_intros
  · refine ⟨(.ring .custodian), .always, 4, (setW (.ring .custodian) 4 3 (modRoster 3 (fun r => { r with use_ := 1 }) (live))),
    issues_of (by decide +kernel), ?_⟩; and_intros <;> decide +kernel
  · refine ⟨(.ring .custodian), .always, 0, live, issues_of (by decide +kernel), ?_⟩; and_intros <;> decide +kernel
  · refine ⟨(.ring .custodian), .always, 0, (.imm 0), 0, 4096, live, issues_of (by decide +kernel), by decide +kernel,
    by unfold NamesQueue; decide +kernel, ?_⟩; and_intros <;> decide +kernel
  · refine ⟨live, ?_⟩; decide +kernel

theorem witness_ParameterAccess :
    (∃ (who : Who) (c : Cond) (id : BitVec 12) (scope : Fin 16) (ws : Fin 16) (imm : Word) (d : ParamDef) (s : State),
      (let v := if ws = 0 then imm else getW who ws s; (let k := id.toNat; Writes who c k scope.val v s ∧ paramDef k = some d))) ∧
    (∃ (who : Who) (c : Cond) (id : BitVec 12) (scope : Fin 16) (ws : Fin 16) (imm : Word) (s : State),
      (let v := if ws = 0 then imm else getW who ws s; (let k := id.toNat; Writes who c k scope.val v s ∧ k = 0x0001))) ∧
    (∃ (who : Who) (c : Cond) (id : BitVec 12) (scope : Fin 16) (ws : Fin 16) (imm : Word) (s : State),
      (let v := if ws = 0 then imm else getW who ws s; (let k := id.toNat; Writes who c k scope.val v s ∧ k = 0x0011))) ∧
    (∃ (who : Who) (c : Cond) (id : BitVec 12) (scope : Fin 16) (ws : Fin 16) (imm : Word) (s : State),
      (let v := if ws = 0 then imm else getW who ws s; (let k := id.toNat; Writes who c k scope.val v s ∧ k = 0x0101))) ∧
    (∃ (who : Who) (c : Cond) (id : BitVec 12) (scope : Fin 16) (ws : Fin 16) (imm : Word) (s : State),
      (let v := if ws = 0 then imm else getW who ws s; (let k := id.toNat; Writes who c k scope.val v s ∧ k = 0x0830))) ∧
    (∃ (who : Who) (c : Cond) (id : BitVec 12) (scope : Fin 16) (d : ParamDef) (s : State), (let k := id.toNat; Issues who c 0x81 .all s ∧
      paramDef k = some d ∧ scopeFail d k scope.val = none ∧ getpDenied who scope.val = false)) ∧
    (∃ (who : Who) (c : Cond) (id : BitVec 12) (s : State), (let k := id.toNat; Issues who c 0x81 .all s ∧ paramDef k = none)) ∧
    (∃ (who : Who) (c : Cond) (id : BitVec 12) (scope : Fin 16) (d : ParamDef) (s : State), (let k := id.toNat; Issues who c 0x81 .all s ∧
      paramDef k = some d ∧ scopeFail d k scope.val = none ∧ getpDenied who scope.val = true)) := by
  and_intros
  · refine ⟨(.ring .custodian), .always, 0x0001, 15, 0, 10000, (⟨0x0001, 0x0001, .chip, .imm, .nat 100 1000000, i32 10000, false, false⟩),
    live, writes_of (by decide +kernel) (by decide +kernel) (by decide +kernel), ?_⟩; decide +kernel
  · refine ⟨(.ring .custodian), .always, 1, 15, 0, 100, live, writes_of (by decide +kernel) (by decide +kernel) (by decide +kernel),
    ?_⟩; decide +kernel
  · refine ⟨(.ring .custodian), .always, 0x11, 0, 0, 100, live, writes_of (by decide +kernel) (by decide +kernel) (by decide +kernel),
    ?_⟩; decide +kernel
  · refine ⟨(.ring .custodian), .always, 0x101, 0, 0, 2, live, writes_of (by decide +kernel) (by decide +kernel) (by decide +kernel),
    ?_⟩; decide +kernel
  · refine ⟨(.ring .custodian), .always, 0x830, 15, 0, 0, live, writes_of (by decide +kernel) (by decide +kernel) (by decide +kernel),
    ?_⟩; decide +kernel
  · refine ⟨(.ring .custodian), .always, 1, 15, (⟨0x0001, 0x0001, .chip, .imm, .nat 100 1000000, i32 10000, false, false⟩), live,
    issues_of (by decide +kernel), ?_⟩; and_intros <;> decide +kernel
  · refine ⟨(.ring .custodian), .always, 0, live, issues_of (by decide +kernel), ?_⟩; decide +kernel
  · refine ⟨(.slice 4), .always, 0x11, 0, (⟨0x0011, 0x0011, .slice, .next, .special, i32 0, false, false⟩), liveSeq,
    issues_of (by decide +kernel), ?_⟩; and_intros <;> decide +kernel

theorem witness_SequencerControl :
    (∃ (who : Who) (c : Cond) (n : Fin 12) (s : State),
      (let q := seq n s; (let window := par 0x0012 n.val s; (let entry := par 0x0011 n.val s; Writes who c 0x0010 n.val 1 s ∧
      q.state ≠ .running ∧ q.state ≠ .blocked ∧ (slice n s).offline = false ∧ startable_ window.toNat entry.toNat = true)))) ∧
    (∃ (who : Who) (c : Cond) (n : Fin 12) (s : State), (let q := seq n s; Writes who c 0x0010 n.val 1 s ∧
      (q.state = .running ∨ q.state = .blocked))) ∧
    (∃ (who : Who) (c : Cond) (n : Fin 12) (s : State), (let q := seq n s; Writes who c 0x0010 n.val 2 s ∧
      (q.state = .running ∨ q.state = .blocked) ∧ inFeout n s = false)) ∧
    (∃ (who : Who) (c : Cond) (n : Fin 12) (s : State), (let q := seq n s; Writes who c 0x0010 n.val 2 s ∧
      (q.state = .running ∨ q.state = .blocked) ∧ inFeout n s = true)) ∧
    (∃ (who : Who) (c : Cond) (n : Fin 12) (s : State), (let q := seq n s; Writes who c 0x0010 n.val 2 s ∧ q.state ≠ .running ∧
      q.state ≠ .blocked)) ∧
    (∃ (who : Who) (c : Cond) (n : Fin 12) (s : State),
      (let q := seq n s; (let window := par 0x0012 n.val s; (let entry := par 0x0011 n.val s; Writes who c 0x0010 n.val 3 s ∧
      q.state ≠ .running ∧ q.state ≠ .blocked ∧ (slice n s).offline = false ∧ startable_ window.toNat entry.toNat = true)))) ∧
    (∃ (who : Who) (c : Cond) (n : Fin 12) (s : State),
      (let q := seq n s; (let window := par 0x0012 n.val s; (let entry := par 0x0011 n.val s; Writes who c 0x0010 n.val 3 s ∧
      (q.state = .running ∨ q.state = .blocked) ∧ (slice n s).offline = false ∧ startable_ window.toNat entry.toNat = true ∧
      inFeout n s = false)))) ∧
    (∃ (who : Who) (c : Cond) (n : Fin 12) (s : State),
      (let q := seq n s; (let window := par 0x0012 n.val s; (let entry := par 0x0011 n.val s; Writes who c 0x0010 n.val 3 s ∧
      (q.state = .running ∨ q.state = .blocked) ∧ (slice n s).offline = false ∧ startable_ window.toNat entry.toNat = true ∧
      inFeout n s = true)))) ∧
    (∃ (who : Who) (c : Cond) (n : Fin 12) (s : State),
      (let window := par 0x0012 n.val s; (let entry := par 0x0011 n.val s; Writes who c 0x0010 n.val 3 s ∧ (slice n s).offline = false ∧
      startable_ window.toNat entry.toNat = false))) ∧
    (∃ (who : Who) (c : Cond) (n : Fin 12) (s : State), Writes who c 0x0015 n.val 1 s ∧
      startable_ (par 0x0014 n.val s).toNat (par 0x0013 n.val s).toNat = true) ∧
    (∃ (who : Who) (c : Cond) (n : Fin 12) (s : State), Writes who c 0x0015 n.val 0 s) := by
  and_intros
  · refine ⟨(.ring .custodian), .always, 0, (setPar 0x12 0 0x100 (live)),
    writes_of (by decide +kernel) (by decide +kernel) (by decide +kernel), ?_⟩; and_intros <;> decide +kernel
  · refine ⟨(.ring .custodian), .always, 0, liveSeq0, writes_of (by decide +kernel) (by decide +kernel) (by decide +kernel),
    ?_⟩; decide +kernel
  · refine ⟨(.ring .custodian), .always, 0, liveSeq0, writes_of (by decide +kernel) (by decide +kernel) (by decide +kernel),
    ?_⟩; and_intros <;> decide +kernel
  · refine ⟨(.ring .custodian), .always, 0, (modSeq 0 (fun x => { x with state := .blocked, await := some (.feout 0) }) (live)),
    writes_of (by decide +kernel) (by decide +kernel) (by decide +kernel), ?_⟩; and_intros <;> decide +kernel
  · refine ⟨(.ring .custodian), .always, 0, live, writes_of (by decide +kernel) (by decide +kernel) (by decide +kernel),
    ?_⟩; and_intros <;> decide +kernel
  · refine ⟨(.ring .custodian), .always, 0, (setPar 0x12 0 0x100 (live)),
    writes_of (by decide +kernel) (by decide +kernel) (by decide +kernel), ?_⟩; and_intros <;> decide +kernel
  · refine ⟨(.ring .custodian), .always, 0, (setPar 0x12 0 0x100 (liveSeq0)),
    writes_of (by decide +kernel) (by decide +kernel) (by decide +kernel), ?_⟩; and_intros <;> decide +kernel
  · refine ⟨(.ring .custodian), .always, 0,
    (modSeq 0 (fun x => { x with state := .blocked, await := some (.feout 0) }) (setPar 0x12 0 0x100 (live))),
    writes_of (by decide +kernel) (by decide +kernel) (by decide +kernel), ?_⟩; and_intros <;> decide +kernel
  · refine ⟨(.ring .custodian), .always, 0, live, writes_of (by decide +kernel) (by decide +kernel) (by decide +kernel),
    ?_⟩; and_intros <;> decide +kernel
  · refine ⟨(.ring .custodian), .always, 0, (setPar 0x14 0 0x100 (live)),
    writes_of (by decide +kernel) (by decide +kernel) (by decide +kernel), ?_⟩; decide +kernel
  · refine ⟨(.ring .custodian), .always, 0, live, writes_of (by decide +kernel) (by decide +kernel) (by decide +kernel)⟩

theorem witness_GridAndTimeControl :
    (∃ (who : Who) (c : Cond) (s : State), (let idle := (∀ k : Fin 12, (seq k s).state ≠ .running ∧
      (seq k s).state ≠ .blocked); Writes who c 0x0200 15 0 s ∧ idle)) ∧
    (∃ (who : Who) (c : Cond) (s : State), Writes who c 0x0200 15 0 s ∧ (∃ k : Fin 12,
      (seq k s).state = .running ∨ (seq k s).state = .blocked)) ∧
    (∃ (who : Who) (c : Cond) (s : State), (let ready := (s.grid.mode = 0 ∧ s.time.qual = true ∧ templateFits s = true ∧
      ownPos s = 0); Writes who c 0x0200 15 1 s ∧ ready)) ∧
    (∃ (who : Who) (c : Cond) (s : State), (let ready := (s.grid.mode = 0 ∧ s.time.qual = true ∧ templateFits s = true ∧
      ownPos s = 0); Writes who c 0x0200 15 2 s ∧ ready ∧ cpar 0x0240 s ≠ 0)) ∧
    (∃ (who : Who) (c : Cond) (v : Word) (s : State), Writes who c 0x0800 15 v s ∧ (v ≠ 2 ∨ ownPos s ≠ 0) ∧ v ≠ s.time.disc ∧
      ppsEnabled s = true) ∧
    (∃ (who : Who) (c : Cond) (v : Word) (s : State), Writes who c 0x0800 15 v s ∧ (v ≠ 2 ∨ ownPos s ≠ 0) ∧ v = s.time.disc) ∧
    (∃ (who : Who) (c : Cond) (v : Word) (s : State), Writes who c 0x0804 15 v s ∧ ppsEnabled s = true) ∧
    (∃ (who : Who) (c : Cond) (n : Fin 2) (inv : Bool) (s : State),
      (let period := trigPar n 3 s; Writes who c (0x0815 + 8 * n.val) 15 (w32 (1 + (if inv then 2 else 0))) s ∧
      (period = 0 ∨ trigPar n 4 s < period) ∧
      (let start := (trigPar n 0 s + trigPar n 1 s * 4294967296) * 1000000000 + trigPar n 2 s; tbNs s ≤ start))) ∧
    (∃ (who : Who) (c : Cond) (n : Fin 2) (inv : Bool) (s : State), Writes who c (0x0815 + 8 * n.val) 15 (w32 (if inv then 2 else 0)) s ∧
      (trig n s).active = false) := by
  and_intros
  · refine ⟨(.ring .custodian), .always, live, writes_of (by decide +kernel) (by decide +kernel) (by decide +kernel), ?_⟩; decide +kernel
  · refine ⟨(.ring .custodian), .always, liveSeq0, writes_of (by decide +kernel) (by decide +kernel) (by decide +kernel),
    ?_⟩; decide +kernel
  · refine ⟨(.ring .custodian), .always, live, writes_of (by decide +kernel) (by decide +kernel) (by decide +kernel), ?_⟩; decide +kernel
  · refine ⟨(.ring .custodian), .always, (setPar 0x240 15 0x1 (live)),
    writes_of (by decide +kernel) (by decide +kernel) (by decide +kernel), ?_⟩; and_intros <;> decide +kernel
  · refine ⟨(.ring .custodian), .always, 1, (setPar 0x804 15 0x2 (live)),
    writes_of (by decide +kernel) (by decide +kernel) (by decide +kernel), ?_⟩; and_intros <;> decide +kernel
  · refine ⟨(.ring .custodian), .always, 0, live, writes_of (by decide +kernel) (by decide +kernel) (by decide +kernel),
    ?_⟩; and_intros <;> decide +kernel
  · refine ⟨(.ring .custodian), .always, 3, (setPar 0x804 15 0x2 (live)),
    writes_of (by decide +kernel) (by decide +kernel) (by decide +kernel), ?_⟩; decide +kernel
  · refine ⟨(.ring .custodian), .always, 0, false, (setPar 0x810 15 0x2 (live)),
    writes_of (by decide +kernel) (by decide +kernel) (by decide +kernel), ?_⟩; and_intros <;> decide +kernel
  · refine ⟨(.ring .custodian), .always, 0, false, live, writes_of (by decide +kernel) (by decide +kernel) (by decide +kernel),
    ?_⟩; decide +kernel

theorem witness_ProfileAndPlanCommits :
    (∃ (who : Who) (c : Cond) (idx : Fin 256) (dist : Bool) (s : State),
      (let k := idx.val + (if dist then 256 else 0); Writes who c 0x034F 15 (w32 k) s ∧ profileOk (stagedProfile s) = true)) ∧
    (∃ (who : Who) (c : Cond) (idx : Fin 256) (dist : Bool) (s : State),
      (let k := idx.val + (if dist then 256 else 0); Writes who c 0x034F 15 (w32 k) s ∧ profileOk (stagedProfile s) = false)) ∧
    (∃ (who : Who) (c : Cond) (idx : Fin 256) (dist : Bool) (s : State),
      (let k := idx.val + (if dist then 256 else 0); Writes who c 0x034F 15 (w32 (k + 4096)) s)) ∧
    (∃ (who : Who) (c : Cond) (idx : Fin 256) (dist : Bool) (s : State),
      (let k := idx.val + (if dist then 256 else 0); Writes who c 0x034F 15 (w32 (k + 8192)) s)) ∧
    (∃ (who : Who) (c : Cond) (n : Fin 12) (g : Fin 4) (s : State), (let x := slice n s; Writes who c 0x045F n.val (w32 g.val) s ∧
      segOk n g (stagedSeg n s) s = true ∧ x.tuned ≠ some g)) ∧
    (∃ (who : Who) (c : Cond) (n : Fin 12) (g : Fin 4) (s : State), Writes who c 0x045F n.val (w32 g.val) s ∧
      segOk n g (stagedSeg n s) s = false) ∧
    (∃ (who : Who) (c : Cond) (n : Fin 12) (g : Fin 4) (s : State), (let x := slice n s; Writes who c 0x045F n.val (w32 (g.val + 256)) s ∧
      x.tuned ≠ some g)) ∧
    (∃ (who : Who) (c : Cond) (n : Fin 12) (g : Fin 4) (s : State), Writes who c 0x045F n.val (w32 (g.val + 512)) s) ∧
    (∃ (who : Who) (c : Cond) (n : Fin 12) (bits : BitVec 3) (s : State),
      (let o := par 0x0403 n.val s; Writes who c 0x0403 n.val (w32 (1 + 2 * bits.toNat)) s ∧ o.getLsbD 0 = false ∧
      (o.toNat / 2 % 8 = bits.toNat))) ∧
    (∃ (who : Who) (c : Cond) (n : Fin 12) (bits : BitVec 3) (s : State),
      (let o := par 0x0403 n.val s; Writes who c 0x0403 n.val (w32 (2 * bits.toNat)) s ∧ o.getLsbD 0 = true ∧
      (o.toNat / 2 % 8 = bits.toNat))) := by
  and_intros
  · refine ⟨(.ring .custodian), .always, 0, false,
    (setPar 0x349 15 0x24924924 (setPar 0x348 15 0x92492492 (setPar 0x347 15 0x49249249 (setPar 0x346 15 0x24924924 (setPar 0x345 15 0x92492492 (setPar 0x344 15 0x49249249 (setPar 0x343 15 0x24924924 (setPar 0x342 15 0x92492492 (setPar 0x341 15 0x49249249 (setPar 0x340 15 0x300000 (live))))))))))),
    writes_of (by decide +kernel) (by decide +kernel) (by decide +kernel), ?_⟩; decide +kernel
  · refine ⟨(.ring .custodian), .always, 0, false, live, writes_of (by decide +kernel) (by decide +kernel) (by decide +kernel),
    ?_⟩; decide +kernel
  · refine ⟨(.ring .custodian), .always, 0, false, live, writes_of (by decide +kernel) (by decide +kernel) (by decide +kernel)⟩
  · refine ⟨(.ring .custodian), .always, 0, false, live, writes_of (by decide +kernel) (by decide +kernel) (by decide +kernel)⟩
  · refine ⟨(.ring .custodian), .always, 0, 0, (setPar 0x440 0 0xc3500 (live)),
    writes_of (by decide +kernel) (by decide +kernel) (by decide +kernel), ?_⟩; and_intros <;> decide +kernel
  · refine ⟨(.ring .custodian), .always, 0, 0, live, writes_of (by decide +kernel) (by decide +kernel) (by decide +kernel),
    ?_⟩; decide +kernel
  · refine ⟨(.ring .custodian), .always, 0, 0, live, writes_of (by decide +kernel) (by decide +kernel) (by decide +kernel),
    ?_⟩; decide +kernel
  · refine ⟨(.ring .custodian), .always, 0, 0, live, writes_of (by decide +kernel) (by decide +kernel) (by decide +kernel)⟩
  · refine ⟨(.ring .custodian), .always, 4, 7, (setPar 0x403 4 0xe (live)),
    writes_of (by decide +kernel) (by decide +kernel) (by decide +kernel), ?_⟩; and_intros <;> decide +kernel
  · refine ⟨(.ring .custodian), .always, 4, 0, (setPar 0x403 4 0x1 (live)),
    writes_of (by decide +kernel) (by decide +kernel) (by decide +kernel), ?_⟩; and_intros <;> decide +kernel

theorem witness_SystemParameters :
    (∃ (who : Who) (c : Cond) (s : State), Writes who c 0x0701 15 2 s ∧ s.sec.locked = false ∧ s.sec.fused = 1 ∧ burnLow s = false) ∧
    (∃ (who : Who) (c : Cond) (s : State), Writes who c 0x0701 15 4 s ∧ s.sec.locked = false ∧ (s.sec.fused = 1 ∨ s.sec.fused = 2) ∧
      burnLow s = false) ∧
    (∃ (who : Who) (c : Cond) (v : Word) (s : State), Writes who c 0x0703 15 v s ∧ s.sec.locked = true ∧ v.toNat = s.sec.lockId) ∧
    (∃ (who : Who) (c : Cond) (v : Word) (s : State), Writes who c 0x0703 15 v s ∧ (s.sec.locked = false ∨ v.toNat ≠ s.sec.lockId)) ∧
    (∃ (who : Who) (c : Cond) (v : Word) (s : State), Writes who c 0x0704 15 v s ∧ lcState s ≠ 2) ∧
    (∃ (who : Who) (c : Cond) (s : State), Writes who c 0x0709 15 1 s) ∧
    (∃ (who : Who) (c : Cond) (v : Word) (dist : Bool) (s : State), Writes who c (if dist then 0x0736 else 0x0735) 15 v s) ∧
    (∃ (who : Who) (c : Cond) (s : State), Writes who c 0x0909 15 1 s) ∧
    (∃ (who : Who) (c : Cond) (v : Word) (s : State), Writes who c 0x0A40 15 v s ∧ s.host.silent = true) ∧
    (∃ (who : Who) (c : Cond) (s : State), Writes who c 0x0B35 15 1 s ∧ s.twin.role = 2 ∧ s.twin.roleIn = false ∧
      s.twin.roleInAt + cpar 0x0B31 s * 1000 ≤ s.time.elapsed ∧ peerActive s = false) ∧
    (∃ (who : Who) (c : Cond) (p : Fin 8) (cnt : Fin 4) (l : Fin 6) (s : State), Writes who c 0x0B1F 15 (w32 (p.val + 16 * cnt.val)) s ∧
      cnt ≠ 0 ∧ p.val ≠ ownPos s ∧ s.cas.known.getLsbD p.val = true ∧ s.cas.relay = none ∧ route p.val s = some l ∧ (link l s).ver ≠ 1) ∧
    (∃ (who : Who) (c : Cond) (s : State), Writes who c 0x0036 15 1 s) := by
  and_intros
  · refine ⟨(.ring .custodian), .always, live, writes_of (by decide +kernel) (by decide +kernel) (by decide +kernel),
    ?_⟩; and_intros <;> decide +kernel
  · refine ⟨(.ring .custodian), .always, live, writes_of (by decide +kernel) (by decide +kernel) (by decide +kernel),
    ?_⟩; and_intros <;> decide +kernel
  · refine ⟨(.ring .custodian), .always, 1,
    { live with sec := { live.sec with locked := true, lockId := 1 }, boot := { live.boot with phase := 4 } },
    writes_of (by decide +kernel) (by decide +kernel) (by decide +kernel), ?_⟩; and_intros <;> decide +kernel
  · refine ⟨(.ring .custodian), .always, 2, live, writes_of (by decide +kernel) (by decide +kernel) (by decide +kernel), ?_⟩; decide +kernel
  · refine ⟨(.ring .custodian), .always, 0x4F, live, writes_of (by decide +kernel) (by decide +kernel) (by decide +kernel),
    ?_⟩; decide +kernel
  · refine ⟨(.ring .custodian), .always, live, writes_of (by decide +kernel) (by decide +kernel) (by decide +kernel)⟩
  · refine ⟨(.ring .custodian), .always, 0, false, live, writes_of (by decide +kernel) (by decide +kernel) (by decide +kernel)⟩
  · refine ⟨(.ring .custodian), .always, live, writes_of (by decide +kernel) (by decide +kernel) (by decide +kernel)⟩
  · refine ⟨(.ring .custodian), .always, 1000, { live with host := { live.host with silent := true } },
    writes_of (by decide +kernel) (by decide +kernel) (by decide +kernel), ?_⟩; decide +kernel
  · refine ⟨(.ring .custodian), .always,
    { live with twin := { live.twin with role := 2 }, time := { live.time with elapsed := 1000000000 } },
    writes_of (by decide +kernel) (by decide +kernel) (by decide +kernel), ?_⟩; and_intros <;> decide +kernel
  · refine ⟨(.ring .custodian), .always, 1, 1, 0, { live with cas := { live.cas with known := 3, up := some 0 } },
    writes_of (by decide +kernel) (by decide +kernel) (by decide +kernel), ?_⟩; and_intros <;> decide +kernel
  · refine ⟨(.ring .custodian), .always, live, writes_of (by decide +kernel) (by decide +kernel) (by decide +kernel)⟩

theorem witness_CalendarCommands :
    (∃ (who : Who) (c : Cond) (s : State),
      (let tw := par 0x0820 15 s; (let dw := par 0x0821 15 s; (let n := rtcOf tw dw; Writes who c 0x0822 15 1 s ∧ n.timeOk = true ∧
      s.rtc.inflight = false)))) ∧
    (∃ (who : Who) (c : Cond) (s : State),
      (let tw := par 0x0820 15 s; (let dw := par 0x0821 15 s; (let n := rtcOf tw dw; Writes who c 0x0822 15 2 s ∧ n.dateOk = true ∧
      wdayOf dw ≤ 6 ∧ s.rtc.inflight = false)))) ∧
    (∃ (who : Who) (c : Cond) (s : State),
      (let tw := par 0x0820 15 s; (let dw := par 0x0821 15 s; (let n := rtcOf tw dw; Writes who c 0x0822 15 3 s ∧ n.timeOk = true ∧
      n.dateOk = true ∧ wdayOf dw ≤ 6 ∧ s.rtc.inflight = false)))) ∧
    (∃ (who : Who) (c : Cond) (s : State),
      (let tw := par 0x0820 15 s; (let dw := par 0x0821 15 s; (let n := rtcOf tw dw; Writes who c 0x0822 15 1 s ∧ n.timeOk = false)))) ∧
    (∃ (who : Who) (c : Cond) (s : State),
      (let tw := par 0x0820 15 s; (let dw := par 0x0821 15 s; (let n := rtcOf tw dw; Writes who c 0x0822 15 1 s ∧ n.timeOk = true ∧
      s.rtc.inflight = true)))) ∧
    (∃ (who : Who) (c : Cond) (s : State), (let al := s.rtc.alarmSet; (let a := rtcOf al.time al.date; Writes who c 0x0828 15 1 s ∧
      a.timeOk = true ∧ a.dateOk = true ∧ s.rtc.set_ = true ∧ s.rtc.alarmBusy = false))) ∧
    (∃ (who : Who) (c : Cond) (s : State), (let al := s.rtc.alarmSet; (let a := rtcOf al.time al.date; Writes who c 0x0828 15 1 s ∧
      a.timeOk = true ∧ a.dateOk = true ∧ s.rtc.set_ = true ∧ s.rtc.alarmBusy = true))) ∧
    (∃ (who : Who) (c : Cond) (s : State), (let al := s.rtc.alarmSet; (let a := rtcOf al.time al.date; Writes who c 0x0828 15 1 s ∧
      (a.timeOk = false ∨ a.dateOk = false)))) ∧
    (∃ (who : Who) (c : Cond) (s : State), (let al := s.rtc.alarmSet; (let a := rtcOf al.time al.date; Writes who c 0x0828 15 1 s ∧
      a.timeOk = true ∧ a.dateOk = true ∧ s.rtc.set_ = false))) ∧
    (∃ (who : Who) (c : Cond) (s : State), Writes who c 0x0828 15 0 s ∧ s.rtc.alarmBusy = false) := by
  and_intros
  · refine ⟨(.ring .custodian), .always, live, writes_of (by decide +kernel) (by decide +kernel) (by decide +kernel),
    ?_⟩; and_intros <;> decide +kernel
  · refine ⟨(.ring .custodian), .always, (setPar 0x821 15 0x7d00101 (live)),
    writes_of (by decide +kernel) (by decide +kernel) (by decide +kernel), ?_⟩; and_intros <;> decide +kernel
  · refine ⟨(.ring .custodian), .always, (setPar 0x821 15 0x7d00101 (live)),
    writes_of (by decide +kernel) (by decide +kernel) (by decide +kernel), ?_⟩; and_intros <;> decide +kernel
  · refine ⟨(.ring .custodian), .always, (setPar 0x820 15 0x3f (live)),
    writes_of (by decide +kernel) (by decide +kernel) (by decide +kernel), ?_⟩; decide +kernel
  · refine ⟨(.ring .custodian), .always, { live with rtc := { live.rtc with inflight := true } },
    writes_of (by decide +kernel) (by decide +kernel) (by decide +kernel), ?_⟩; and_intros <;> decide +kernel
  · refine ⟨(.ring .custodian), .always, { live with rtc := { live.rtc with set_ := true, alarmDate := 0x07D00101 } },
    writes_of (by decide +kernel) (by decide +kernel) (by decide +kernel), ?_⟩; and_intros <;> decide +kernel
  · refine ⟨(.ring .custodian), .always, { live with rtc := { live.rtc with set_ := true, alarmDate := 0x07D00101, alarmBusy := true } },
    writes_of (by decide +kernel) (by decide +kernel) (by decide +kernel), ?_⟩; and_intros <;> decide +kernel
  · refine ⟨(.ring .custodian), .always, live, writes_of (by decide +kernel) (by decide +kernel) (by decide +kernel), ?_⟩; decide +kernel
  · refine ⟨(.ring .custodian), .always, { live with rtc := { live.rtc with alarmDate := 0x07D00101 } },
    writes_of (by decide +kernel) (by decide +kernel) (by decide +kernel), ?_⟩; and_intros <;> decide +kernel
  · refine ⟨(.ring .custodian), .always, live, writes_of (by decide +kernel) (by decide +kernel) (by decide +kernel), ?_⟩; decide +kernel

theorem witness_CalendarEvents :
    (∃ (s : State), s.rtc.crystalOff = false ∧ s.rtc.armed = false) ∧
    (∃ (s : State), (let nx := s.rtc.t.succ; s.rtc.crystalOff = false ∧ s.rtc.armed = true ∧ s.rtc.alarm.key ≤ nx.1.key)) ∧
    (∃ (s : State), s.rtc.trimStaged = none ∧ s.rtc.alarmStaged = none ∧ s.rtc.staged = none) ∧
    (∃ (tw : Word) (dw : Word) (s : State), s.rtc.trimStaged = none ∧ s.rtc.alarmStaged = none ∧ s.rtc.staged = some (true, false, tw, dw)) ∧
    (∃ (t : Int) (a : AlarmSet) (s : State), s.rtc.trimStaged = some t ∧ s.rtc.alarmStaged = some a ∧ s.rtc.staged = none) ∧
    (∃ (s : State), s.rtc.crystalOff = true) := by
  and_intros
  · refine ⟨live, ?_⟩; and_intros <;> decide +kernel
  · refine ⟨{ live with rtc := { live.rtc with armed := true } }, ?_⟩; and_intros <;> decide +kernel
  · refine ⟨{ live with rtc := { live.rtc with inflight := true } }, ?_⟩; and_intros <;> decide +kernel
  · refine ⟨0, 0, { live with rtc := { live.rtc with inflight := true, staged := some (true, false, 0, 0) } },
    ?_⟩; and_intros <;> decide +kernel
  · refine ⟨0, {}, { live with rtc := { live.rtc with trimStaged := some 0, alarmStaged := some {} } }, ?_⟩; and_intros <;> decide +kernel
  · refine ⟨{ live with rtc := { live.rtc with crystalOff := true } }, ?_⟩; decide +kernel

theorem witness_PowerInstructions :
    (∃ (who : Who) (c : Cond) (s : State), Issues who c 0x70 .condOnly s ∧ anyRunning s = false ∧ airArmed s = false) ∧
    (∃ (who : Who) (c : Cond) (s : State), Issues who c 0x70 .condOnly s ∧ s.time.refQual = true) ∧
    (∃ (who : Who) (c : Cond) (m : Fin 8) (s : State), Issues who c 0x71 .condOnly s ∧ m.val ≤ 5 ∧ m.val = s.pw.mode ∧
      s.pw.degraded = false) ∧
    (∃ (who : Who) (c : Cond) (m : Fin 8) (s : State), Issues who c 0x71 .condOnly s ∧ m.val ≤ 2 ∧ m.val ≠ s.pw.mode ∧
      pmodeAllowed m.val s = true) ∧
    (∃ (who : Who) (c : Cond) (m : Fin 8) (s : State), Issues who c 0x71 .condOnly s ∧ 3 ≤ m.val ∧ m.val ≤ 5 ∧ m.val ≠ s.pw.mode ∧
      pmodeAllowed m.val s = true ∧ s.pw.pmodeTo = none ∧ pendFull who s = false) ∧
    (∃ (who : Who) (c : Cond) (s : State), Issues who c 0x72 .condOnly s ∧ s.pw.armedMode ≠ 7 ∧ anyPending s = false ∧
      (s.pw.armedMode = 0 ∨ s.pw.wakeMask &&& 0x7F ≠ 0) ∧ firstRefusal s = none) ∧
    (∃ (who : Who) (c : Cond) (id : Nat) (reason : Nat) (s : State), Issues who c 0x72 .condOnly s ∧ s.pw.armedMode ≠ 7 ∧
      anyPending s = false ∧ (s.pw.armedMode = 0 ∨ s.pw.wakeMask &&& 0x7F ≠ 0) ∧ firstRefusal s = some (id, reason)) ∧
    (∃ (who : Who) (c : Cond) (ws : Fin 16) (mask : BitVec 16) (s : State),
      (let v := if ws = 0 then mask.toNat else (getW who ws s).toNat; Issues who c 0x73 .condOnly s ∧ v < 256)) := by
  and_intros
  · refine ⟨(.ring .custodian), .always, live, issues_of (by decide +kernel), ?_⟩; and_intros <;> decide +kernel
  · refine ⟨(.ring .custodian), .always, live, issues_of (by decide +kernel), ?_⟩; decide +kernel
  · refine ⟨(.ring .custodian), .always, 4, live, issues_of (by decide +kernel), ?_⟩; and_intros <;> decide +kernel
  · refine ⟨(.ring .custodian), .always, 0, live, issues_of (by decide +kernel), ?_⟩; and_intros <;> decide +kernel
  · refine ⟨(.ring .custodian), .always, 5, live, issues_of (by decide +kernel), ?_⟩; and_intros <;> decide +kernel
  · refine ⟨(.ring .custodian), .always, { live with pw := { live.pw with armedMode := 0 } }, issues_of (by decide +kernel),
    ?_⟩; and_intros <;> decide +kernel
  · refine ⟨(.ring .custodian), .always, 0, 1,
    { (modSlice 0 (fun x => { x with off := false, tx := some {} }) (live)) with pw := { (modSlice 0 (fun x => { x with off := false, tx := some {} }) (live)).pw with armedMode := 0 } },
    issues_of (by decide +kernel), ?_⟩; and_intros <;> decide +kernel
  · refine ⟨(.ring .custodian), .always, 0, 0, live, issues_of (by decide +kernel), ?_⟩; decide +kernel

theorem witness_ReferenceEvents :
    (∃ (w : World) (t : Nat) (s : State), alive s = true ∧ s.pw.pmodeTo = some (5, w, t)) ∧
    (∃ (m : Nat) (w : World) (t : Nat) (s : State), alive s = true ∧ s.pw.pmodeTo = some (m, w, t) ∧ m ≠ 5 ∧ s.time.refQual = false) ∧
    (∃ (x : WakeRun) (s : State), s.time.coreOn = true ∧ s.time.refQual = false ∧ s.time.refStarted = true ∧ refKindRight s = true ∧
      s.health.chipFault = 0 ∧ s.pw.wake = some x ∧ x.step = 4) ∧
    (∃ (s : State), s.time.coreOn = true ∧ s.time.refQual = false ∧ s.time.refStarted = true ∧ refKindRight s = true ∧
      s.health.chipFault = 0 ∧ s.pw.wake = none ∧ s.pw.pmodeTo = none) ∧
    (∃ (n : Nat) (s : State), s.time.coreOn = true ∧ s.time.refQual = true ∧ s.rtc.set_ = true ∧ s.rtc.crystalOff = false ∧ 78109 ≤ n ∧
      n ≤ 78141) ∧
    (∃ (n : Nat) (s : State), s.time.coreOn = true ∧ s.time.refQual = true ∧ s.rtc.set_ = true ∧ s.rtc.crystalOff = false ∧
      (n < 78109 ∨ 78141 < n)) ∧
    (∃ (s : State), s.pw.degraded = true ∧ cpar 0x0904 s ≠ 0 ∧ s.pw.wake = none ∧ s.pw.pmodeTo = none ∧ s.time.coreOn = true ∧
      refKindRight (startRef s) = true) := by
  and_intros
  · refine ⟨.custodian, 1, { live with pw := { live.pw with pmodeTo := some (5, .custodian, 1) } }, ?_⟩; and_intros <;> decide +kernel
  · refine ⟨4, .custodian, 1,
    { live with pw := { live.pw with pmodeTo := some (4, .custodian, 1) }, time := { live.time with refQual := false } },
    ?_⟩; and_intros <;> decide +kernel
  · refine ⟨{ step := 4 }, { live with pw := { live.pw with wake := some { step := 4 } }, time := { live.time with refQual := false } },
    ?_⟩; and_intros <;> decide +kernel
  · refine ⟨{ live with time := { live.time with refQual := false } }, ?_⟩; and_intros <;> decide +kernel
  · refine ⟨78141, { live with rtc := { live.rtc with set_ := true } }, ?_⟩; and_intros <;> decide +kernel
  · refine ⟨78142, { live with rtc := { live.rtc with set_ := true } }, ?_⟩; and_intros <;> decide +kernel
  · refine ⟨{ live with pw := { live.pw with degraded := true } }, ?_⟩; and_intros <;> decide +kernel

theorem witness_WakeEvents :
    (∃ (src : Fin 8) (s : State), (s.pw.wakeMask.getLsbD src.val = true ∨ src = 7) ∧ src ≠ 1 ∧ s.pw.restWaits = true ∧
      s.pw.entering = false ∧ s.pw.slotAwake = false ∧ s.pw.wake = none ∧ s.pw.asleep = true ∧ s.pw.mode ≠ 0 ∧ sourceHeld src.val s = false) ∧
    (∃ (t : Nat) (s : State), s.pw.entering = false ∧ s.pw.timerAt = some t ∧ s.pw.asleep = true ∧ s.pw.mode = 2 ∧ s.pw.wake = none ∧
      tbCanReach t s = true ∧ s.pw.timerSlot = none) ∧
    (∃ (a : Nat) (b : Nat) (t : Nat) (s : State), s.pw.entering = false ∧ s.pw.timerAt = some t ∧ s.pw.asleep = true ∧ s.pw.mode = 2 ∧
      s.pw.wake = none ∧ tbCanReach t s = true ∧ s.pw.timerSlot = some (a, b) ∧ s.pw.wakeMask.getLsbD 1 = true ∧ s.pw.fails < 3) ∧
    (∃ (x : WakeRun) (s : State), s.pw.wake = some x ∧ x.step = 2 ∧ x.retried = false) ∧
    (∃ (x : WakeRun) (s : State), s.pw.wake = some x ∧ x.step = 2 ∧ x.retried = true) ∧
    (∃ (x : WakeRun) (s : State), s.pw.wake = some x ∧ x.step = 4 ∧ x.retried = false) ∧
    (∃ (x : WakeRun) (s : State), s.pw.wake = some x ∧ x.step = 4 ∧ x.retried = true) ∧
    (∃ (t : Nat) (s : State), mayReturn s = true ∧ (setTimer s.grid.nextAsn s).pw.timerAt = some t ∧ tbNs s + cpar 0x0903 s * 1000 ≤ t) := by
  and_intros
  · refine ⟨7, { live with pw := { live.pw with restWaits := true, asleep := true } }, ?_⟩; and_intros <;> decide +kernel
  · refine ⟨1000000000, { live with pw := { live.pw with timerAt := some 1000000000, asleep := true, mode := 2 } },
    ?_⟩; and_intros <;> decide +kernel
  · refine ⟨0, 0, 1000000000,
    { live with pw := { live.pw with timerAt := some 1000000000, asleep := true, mode := 2, timerSlot := some (0, 0), wakeMask := 0x82 } },
    ?_⟩; and_intros <;> decide +kernel
  · refine ⟨{}, { live with pw := { live.pw with wake := some {} } }, ?_⟩; and_intros <;> decide +kernel
  · refine ⟨{ retried := true }, { live with pw := { live.pw with wake := some { retried := true } } }, ?_⟩; and_intros <;> decide +kernel
  · refine ⟨{ step := 4 }, { live with pw := { live.pw with wake := some { step := 4 } } }, ?_⟩; and_intros <;> decide +kernel
  · refine ⟨{ step := 4, retried := true }, { live with pw := { live.pw with wake := some { step := 4, retried := true } } },
    ?_⟩; and_intros <;> decide +kernel
  · refine ⟨(10000000000 - cpar 0x0902 live * 1000),
    { live with pw := { live.pw with slotAwake := true }, grid := { live.grid with mode := 1, nextAt := 10000000000 }, schedMem := [(1, 0x2000A), (3, 0x100), (256, 1)] },
    ?_⟩; and_intros <;> decide +kernel

theorem witness_SupplyEvents :
    (∃ (s : State), s.pw.entering = false ∧ s.pw.lowPower = true ∧ s.pw.asleep = true ∧ s.pw.mode ≠ 0) ∧
    (∃ (s : State), inBackup s = false ∧ s.pw.entering = false) ∧
    (∃ (mv : Nat) (s : State), s.pw.nvInhibit = false ∧ mv < 3050 ∧ mainOn s = true ∧ s.time.coreOn = true) ∧
    (∃ (mv : Nat) (s : State), s.pw.nvInhibit = true ∧ 3100 < mv ∧ s.boot.phase ≠ 1) ∧
    (∃ (mv : Nat) (s : State), s.pw.nvInhibit = true ∧ 3100 < mv ∧ s.boot.phase = 1) ∧
    (∃ (s : State), s.pw.onVin = false) ∧
    (∃ (s : State), s.pw.entering = false ∧ inBackup s = true ∧ s.pw.asserted = 0) ∧
    (∃ (s : State), s.pw.entering = false ∧ mainOn s = false ∧ (inBackup s = false ∨ s.pw.pwron = true)) ∧
    (∃ (mv : Nat), (mv ≤ 1890 ∨ (3000 ≤ mv ∧ mv ≤ 3600))) ∧
    (∃ (inp : Fin 2) (s : State), s.sec.tampCtrl.getLsbD inp.val = true ∧ s.sec.tampActive[inp] = false) := by
  and_intros
  · refine ⟨{ live with pw := { live.pw with lowPower := true, asleep := true } }, ?_⟩; and_intros <;> decide +kernel
  · refine ⟨live, ?_⟩; and_intros <;> decide +kernel
  · refine ⟨3049, live, ?_⟩; and_intros <;> decide +kernel
  · refine ⟨3101, { live with pw := { live.pw with nvInhibit := true } }, ?_⟩; and_intros <;> decide +kernel
  · refine ⟨3101, { live with pw := { live.pw with nvInhibit := true }, boot := { live.boot with phase := 1 } },
    ?_⟩; and_intros <;> decide +kernel
  · refine ⟨live, ?_⟩; decide +kernel
  · refine ⟨{ live with pw := { live.pw with asleep := true, mode := 0 } }, ?_⟩; and_intros <;> decide +kernel
  · refine ⟨{ live with time := { live.time with coreOn := false } }, ?_⟩; and_intros <;> decide +kernel
  · refine ⟨0, ?_⟩; decide +kernel
  · refine ⟨0, live, ?_⟩; and_intros <;> decide +kernel

theorem witness_CommandRecords :
    (∃ (w : World) (words : List (BitVec 64)) (errs : List MemErr) (s : State),
      (let n := words.length; (let v := meetErrors errs s; canTake w v = true ∧ 1 ≤ n ∧ n ≤ 3 ∧ ringFails errs = false))) ∧
    (∃ (w : World) (words : List (BitVec 64)) (start : BitVec 16) (s : State),
      (let m := s.twin.mirNext; (let u := tookRecord w s; (let n := words.length; canTake w s = true ∧ 1 ≤ n ∧ n ≤ 4096 ∧
      start.toNat + n ≤ 65536 ∧ loadRefusal m u = none ∧ touchesRunning start.toNat n u = false)))) ∧
    (∃ (w : World) (words : List (BitVec 64)) (start : BitVec 16) (s : State),
      (let m := s.twin.mirNext; (let u := tookRecord w s; (let n := words.length; canTake w s = true ∧ 1 ≤ n ∧ n ≤ 4096 ∧
      start.toNat + n ≤ 65536 ∧ loadRefusal m u = none ∧ touchesRunning start.toNat n u = true)))) ∧
    (∃ (w : World) (ws : List Word) (addr : BitVec 18) (s : State),
      (let m := s.twin.mirNext; (let u := tookRecord w s; canTake w s = true ∧ 1 ≤ ws.length ∧ ws.length ≤ 16384 ∧
      addr.toNat + ws.length ≤ 262144 ∧ loadRefusal m u = none))) ∧
    (∃ (words : List (BitVec 64)) (s : State), (let n := words.length; alive s = true ∧ s.cond.record = none ∧ s.cond.await = none ∧
      1 ≤ n ∧ n ≤ 3 ∧ cpar 0x0B18 s ≠ 0)) ∧
    (∃ (r : Record) (s : State), s.cond.record = some r ∧ limitRuns s = true ∧ recordBusy r s = true ∧ (∀ d,
      s.cond.await ≠ some (.yield d))) ∧
    (∃ (sl : Fin 12) (s : State), spar 0x0016 sl s ≠ 0 ∧ alive s = true ∧ seqLive sl s = true) ∧
    (∃ (w : World) (errs : List MemErr) (s : State), (let v := meetErrors errs s; canTake w v = true ∧ ringFails errs = true)) := by
  and_intros
  · refine ⟨.custodian, [0], [], { live with twin := { live.twin with mirNext := true } }, ?_⟩; and_intros <;> decide +kernel
  · refine ⟨.custodian, [0], 65535, { live with twin := { live.twin with mirNext := true } }, ?_⟩; and_intros <;> decide +kernel
  · refine ⟨.custodian, [0], 0, { liveSeq with twin := { liveSeq.twin with mirNext := true } }, ?_⟩; and_intros <;> decide +kernel
  · refine ⟨.custodian, [0], 262143, { live with twin := { live.twin with mirNext := true } }, ?_⟩; and_intros <;> decide +kernel
  · refine ⟨[0, 0, 0], (setPar 0xb18 15 0x1 (live)), ?_⟩; and_intros <;> decide +kernel
  · refine ⟨recR, ({ liveRou with cond := { liveRou.cond with await := some .fence } }), by decide +kernel, by decide +kernel,
    by decide +kernel, fun d h => by injection h with h; injection h⟩
  · refine ⟨4, (setPar 0x16 4 0xa (liveSeq)), ?_⟩; and_intros <;> decide +kernel
  · refine ⟨.custodian, [{ region := 6, kind := .double }], { live with twin := { live.twin with mirNext := true } },
    ?_⟩; and_intros <;> decide +kernel

theorem witness_StartAndTrial :
    (∃ (s : State), s.boot.phase = 0 ∧ s.time.coreOn = true ∧ bankOn 3 s = true ∧ s.straps.test = false) ∧
    (∃ (s : State), s.boot.phase = 2 ∧ s.boot.svcOpen = false) ∧
    (∃ (s : State), s.boot.phase = 1) ∧
    (∃ (s : State), s.boot.trial = true ∧ s.boot.phase = 6 ∧ s.time.coreOn = true ∧
      (let u := confirmDone (reachElapsed (s.boot.trialFrom + trialNs s) s); (u.boot.trial = false ∨ u.boot.phase ≠ 6))) ∧
    (∃ (s : State), s.boot.trial = true ∧ s.boot.phase = 6 ∧ s.time.coreOn = true ∧
      (let u := confirmDone (reachElapsed (s.boot.trialFrom + trialNs s) s); u.boot.trial = true ∧ u.boot.phase = 6)) ∧
    (∃ (who : Who) (c : Cond) (s : State), Issues who c 0x86 .condOnly s ∧ s.boot.trial = true ∧ pendFull who s = false ∧
      s.host.setupDone = true) ∧
    (∃ (who : Who) (c : Cond) (s : State), Issues who c 0x86 .condOnly s ∧ s.boot.trial = true ∧ pendFull who s = false ∧
      s.host.setupDone = false) ∧
    (∃ (who : Who) (c : Cond) (s : State), Issues who c 0x86 .condOnly s ∧ s.boot.trial = false) ∧
    (∃ (s : State), alive s = true ∧ s.boot.confirming ≠ []) := by
  and_intros
  · refine ⟨{ live with boot := { live.boot with phase := 0 } }, ?_⟩; and_intros <;> decide +kernel
  · refine ⟨{ live with boot := { live.boot with phase := 2 } }, ?_⟩; and_intros <;> decide +kernel
  · refine ⟨{ live with boot := { live.boot with phase := 1 } }, ?_⟩; decide +kernel
  · refine ⟨{ ({ live with host := { live.host with setupDone := true } }) with boot := { ({ live with host := { live.host with setupDone := true } }).boot with trial := true, confirming := [(.custodian, 1)] } },
    ?_⟩; and_intros <;> decide +kernel
  · refine ⟨{ live with boot := { live.boot with trial := true } }, ?_⟩; and_intros <;> decide +kernel
  · refine ⟨(.ring .custodian), .always,
    { ({ live with host := { live.host with setupDone := true } }) with boot := { ({ live with host := { live.host with setupDone := true } }).boot with trial := true } },
    issues_of (by decide +kernel), ?_⟩; and_intros <;> decide +kernel
  · refine ⟨(.ring .custodian), .always, { live with boot := { live.boot with trial := true } }, issues_of (by decide +kernel),
    ?_⟩; and_intros <;> decide +kernel
  · refine ⟨(.ring .custodian), .always, live, issues_of (by decide +kernel), ?_⟩; decide +kernel
  · refine ⟨{ live with boot := { live.boot with confirming := [(.custodian, 1)] } }, ?_⟩; and_intros <;> decide +kernel

theorem witness_ServicePort :
    (∃ (lo : BitVec 8) (hi : BitVec 8) (baud : BitVec 8) (s : State), bankOn 1 s = true ∧ s.pw.entering = false ∧ s.pw.asleep = false ∧
      svcServed s = true ∧ s.boot.svcAbort = false ∧ lo.toNat ≤ 2 ∧ 2 ≤ hi.toNat ∧ baud.toNat ≤ 3) ∧
    (∃ (lo : BitVec 8) (hi : BitVec 8) (s : State), bankOn 1 s = true ∧ s.pw.entering = false ∧ s.pw.asleep = false ∧ svcServed s = true ∧
      s.boot.svcAbort = false ∧ (1 < lo.toNat ∨ hi.toNat < 1) ∧ (2 < lo.toNat ∨ hi.toNat < 2)) ∧
    (∃ (h : ImgHdr) (s : State), bankOn 1 s = true ∧ s.pw.entering = false ∧ s.pw.asleep = false ∧ svcServed s = true ∧
      s.boot.svcAbort = false ∧ svcFull s = true ∧ lcState s ≠ 0 ∧ lcState s ≠ 3 ∧ s.boot.trial = false ∧ headerCheck h s = (0x00, 0) ∧
      s.pw.nvInhibit = false) ∧
    (∃ (off : Nat) (body : List Byte) (s : State), bankOn 1 s = true ∧ s.pw.entering = false ∧ s.pw.asleep = false ∧ svcServed s = true ∧
      s.boot.svcAbort = false ∧ svcFull s = true ∧ body.length ≤ 1024 ∧ s.pw.nvInhibit = false ∧ s.boot.svcStage = true ∧
      off = s.boot.svcBody.length ∧ off + body.length ≤ s.boot.svcHdr.bodyLen) ∧
    (∃ (s : State), bankOn 1 s = true ∧ s.pw.entering = false ∧ s.pw.asleep = false ∧ svcServed s = true ∧ s.boot.svcAbort = false ∧
      svcFull s = true ∧ s.pw.nvInhibit = false ∧ s.boot.svcStage = true ∧ s.boot.svcBody.length = s.boot.svcHdr.bodyLen) ∧
    (∃ (s : State), bankOn 1 s = true ∧ s.pw.entering = false ∧ s.pw.asleep = false ∧ svcServed s = true ∧ s.boot.svcAbort = false ∧
      svcFull s = true ∧ s.pw.nvInhibit = false ∧ (s.boot.svcStage = false ∨ s.boot.svcBody.length ≠ s.boot.svcHdr.bodyLen)) ∧
    (∃ (s : State), s.boot.svcOpen = true) ∧
    (∃ (b : Nat) (s : State), s.boot.svcSwitch = some b ∧ s.boot.svcOut = []) ∧
    (∃ (s : State), s.boot.svcSwitched = true) ∧
    (∃ (s : State), bankOn 1 s = true ∧ s.boot.svcRestart = false) := by
  and_intros
  · refine ⟨2, 2, 3, live, ?_⟩; and_intros <;> decide +kernel
  · refine ⟨3, 4, live, ?_⟩; and_intros <;> decide +kernel
  · refine ⟨{}, { live with boot := { live.boot with phase := 2 } }, ?_⟩; and_intros <;> decide +kernel
  · refine ⟨0, [], { live with boot := { live.boot with phase := 2, svcStage := true } }, ?_⟩; and_intros <;> decide +kernel
  · refine ⟨{ live with boot := { live.boot with phase := 2, svcStage := true, svcHdr := { bodyLen := 0 } } },
    ?_⟩; and_intros <;> decide +kernel
  · refine ⟨{ live with boot := { live.boot with phase := 2 } }, ?_⟩; and_intros <;> decide +kernel
  · refine ⟨{ live with boot := { live.boot with svcOpen := true } }, ?_⟩; decide +kernel
  · refine ⟨3, { live with boot := { live.boot with svcSwitch := some 3 } }, ?_⟩; and_intros <;> decide +kernel
  · refine ⟨{ live with boot := { live.boot with svcSwitched := true } }, ?_⟩; decide +kernel
  · refine ⟨live, ?_⟩; and_intros <;> decide +kernel

theorem witness_LinkEvents :
    (∃ (l : Fin 6) (b : TrainBlk) (why : Nat) (s : State), linksRun s = true ∧ (let h := heardBlock l s; linkEnabled l s = true ∧
      (link l s).st = 1 ∧ trainRefused l b h = some why)) ∧
    (∃ (l : Fin 6) (v : Fin 4) (b : TrainBlk) (s : State), linksRun s = true ∧
      (let h := heardBlock l s; (let x := vc l v s; linkEnabled l s = true ∧ (link l s).st = 1 ∧ trainRefused l b h = none ∧
      (let u := modLink l (fun x => { x with good := x.good + 1, ackSeen := x.ackSeen || b.ack, pos := b.pos.val, master := b.master, twin := b.twinen, role := b.role.val }) h; ((link l u).good < 16 ∨ (link l u).ackSeen = false))))) ∧
    (∃ (l : Fin 6) (v : Fin 4) (b : TrainBlk) (s : State), linksRun s = true ∧
      (let h := heardBlock l s; (let x := vc l v s; linkEnabled l s = true ∧ (link l s).st = 1 ∧ trainRefused l b h = none ∧
      (let u := modLink l (fun x => { x with good := x.good + 1, ackSeen := x.ackSeen || b.ack, pos := b.pos.val, master := b.master, twin := b.twinen, role := b.role.val }) h; 16 ≤ (link l u).good ∧
      (link l u).ackSeen = true)))) ∧
    (∃ (l : Fin 6) (s : State), linksRun s = true ∧ (link l s).st = 5 ∧ linkEnabled l s = true) ∧
    (∃ (l : Fin 6) (sb : StatusBlk) (s : State), linksRun s = true ∧ (link l s).trained = true ∧
      (isMate l = true ∨ (link l s).twin = false ∨ (link l s).role = 1 ∨ sb.role ≠ 1)) ∧
    (∃ (l : Fin 6) (v : Fin 4) (s : State), linksRun s = true ∧ (let x := vc l v s; (link l s).trained = true ∧ 0 < x.sent ∧
      x.resync = false)) ∧
    (∃ (l : Fin 6) (v : Fin 4) (s : State), linksRun s = true ∧ (let x := vc l v s; x.resync = true ∧ x.tries < 3)) ∧
    (∃ (l : Fin 6) (v : Fin 4) (s : State), linksRun s = true ∧ (let x := vc l v s; x.resync = true ∧ 3 ≤ x.tries)) ∧
    (∃ (l : Fin 6) (v : Fin 4) (s : State), linksRun s = true ∧ (link l s).st = 2 ∧ v = 1) ∧
    (∃ (l : Fin 6) (v : Fin 4) (s : State), linksRun s = true ∧ (link l s).st = 2 ∧ v ≠ 1) := by
  and_intros
  · refine ⟨0, { verHi := 0 }, 0x38,
    (modLink 0 (fun x => { x with st := 1 }) (setPar 0xb00 15 0x1 ({ live with straps := { live.straps with caspos := 1 } }))),
    ?_⟩; and_intros <;> decide +kernel
  · refine ⟨0, 0, {},
    (modLink 0 (fun x => { x with st := 1 }) (setPar 0xb00 15 0x1 ({ live with straps := { live.straps with caspos := 1 } }))),
    ?_⟩; and_intros <;> decide +kernel
  · refine ⟨0, 0, { ack := true },
    (modLink 0 (fun x => { x with st := 1, good := 15 }) (setPar 0xb00 15 0x1 ({ live with straps := { live.straps with caspos := 1 } }))),
    ?_⟩; and_intros <;> decide +kernel
  · refine ⟨0, (modLink 0 (fun x => { x with st := 5 }) (setPar 0xb00 15 0x1 ({ live with straps := { live.straps with caspos := 1 } }))),
    ?_⟩; and_intros <;> decide +kernel
  · refine ⟨0, {}, (modLink 0 (fun x => { x with st := 2 }) (live)), ?_⟩; and_intros <;> decide +kernel
  · refine ⟨0, 3, (modLink 0 (fun x => { x with st := 2 }) (modVc 0 3 (fun x => { x with sent := 1 }) (live))),
    ?_⟩; and_intros <;> decide +kernel
  · refine ⟨0, 3, (modVc 0 3 (fun x => { x with resync := true }) (live)), ?_⟩; and_intros <;> decide +kernel
  · refine ⟨0, 3, (modVc 0 3 (fun x => { x with resync := true, tries := 3 }) (live)), ?_⟩; and_intros <;> decide +kernel
  · refine ⟨0, 1, (modLink 0 (fun x => { x with st := 2 }) (live)), ?_⟩; and_intros <;> decide +kernel
  · refine ⟨0, 0, (modLink 0 (fun x => { x with st := 2 }) (live)), ?_⟩; and_intros <;> decide +kernel

theorem witness_CascadeTraffic :
    (∃ (l : Fin 6) (p : Fin 8) (q : Nat) (dq : Nat) (it : Item) (s : State), linksRun s = true ∧ (let dv := dataVc l s; isMate l = false ∧
      (link l s).st = 2 ∧ s.twin.role ≠ 2 ∧ (vc l dv s).resync = false ∧ (vc l dv s).a ≠ 0 ∧ (vc l dv s).retained = [] ∧
      fwdTurn l s = some p.val ∧ fwd p.val s = some (q, dq) ∧ popHead q s = some it)) ∧
    (∃ (l : Fin 6) (v : Fin 4) (f : CasItemF) (s : State), linksRun s = true ∧ (let h := heardBlock l s; isMate l = false ∧
      (link l s).st = 2 ∧ 2 ≤ v.val ∧ covered f.num.toNat (vc l v h).delivered = true)) ∧
    (∃ (l : Fin 6) (v : Fin 4) (f : CasItemF) (s : State), linksRun s = true ∧ (let h := heardBlock l s; isMate l = false ∧
      (link l s).st = 2 ∧ 2 ≤ v.val ∧ covered f.num.toNat (vc l v h).delivered = false ∧ f.dest.val = ownPos s)) ∧
    (∃ (l : Fin 6) (v : Fin 4) (q : Nat) (dq : Nat) (f : CasItemF) (s : State), linksRun s = true ∧
      (let h := heardBlock l s; isMate l = false ∧ (link l s).st = 2 ∧ 2 ≤ v.val ∧ covered f.num.toNat (vc l v h).delivered = false ∧
      f.dest.val ≠ ownPos s ∧ fwd f.dest.val s = some (q, dq))) ∧
    (∃ (l : Fin 6) (v : Fin 4) (f : CasItemF) (s : State), linksRun s = true ∧ (let h := heardBlock l s; isMate l = false ∧
      (link l s).st = 2 ∧ 2 ≤ v.val ∧ covered f.num.toNat (vc l v h).delivered = false ∧ f.dest.val ≠ ownPos s ∧ fwd f.dest.val s = none)) ∧
    (∃ (l : Fin 6) (m : CasMsg) (s : State), linksRun s = true ∧ (let h := heardBlock l s; isMate l = false ∧ (link l s).st = 2 ∧
      covered m.num.toNat (vc l 0 h).delivered = true)) ∧
    (∃ (l : Fin 6) (m : CasMsg) (s : State), linksRun s = true ∧ (let h := heardBlock l s; isMate l = false ∧ (link l s).st = 2 ∧
      covered m.num.toNat (vc l 0 h).delivered = false ∧ m.dest.val = ownPos s)) ∧
    (∃ (bar : BitVec 8) (b : Barrier) (s : State), linksRun s = true ∧ (s.cas.barriers.find? (fun b => b.bar = bar.toNat) = some b)) ∧
    (∃ (r : Relay) (s : State), linksRun s = true ∧ s.cas.relay = some r) ∧
    (∃ (p : Fin 8) (t : Nat) (s : State), linksRun s = true ∧ s.cas.lostAt[p] = some t ∧ s.cas.known.getLsbD p.val = true ∧
      isMaster s = false) ∧
    (∃ (l : Fin 6) (d : Nat) (dest : Nat) (kind : Nat) (m1 : Word) (m2 : Word) (s : State), linksRun s = true ∧
      s.cond.await = some (.csend m1 m2 dest kind d) ∧ (let u := reachElapsed d s; lacksCredit dest u = some l)) ∧
    (∃ (d : Nat) (bar : BitVec 8) (s : State), linksRun s = true ∧ s.cond.await = some (.cbar bar.toNat d) ∧ isMaster s = true) := by
  and_intros
  · refine ⟨0, 0, 0, 5, it1,
    (setPar 0xb10 15 0x80001400 (modLink 0 (fun x => { x with st := 2 }) (modVc 0 2 (fun x => { x with a := 1 }) ({ liveQ with straps := { liveQ.straps with caspos := 1 }, cas := { liveQ.cas with known := 3, present := 3, up := some 0, hop := 2 } })))),
    ?_⟩; and_intros <;> decide +kernel
  · refine ⟨0, 2, {}, (modLink 0 (fun x => { x with st := 2 }) (live)), ?_⟩; and_intros <;> decide +kernel
  · refine ⟨0, 3, { num := 1 }, (modLink 0 (fun x => { x with st := 2 }) (live)), ?_⟩; and_intros <;> decide +kernel
  · refine ⟨0, 2, 0, 0, { num := 1, dest := 1 }, (setPar 0xb11 15 0x80000000 (modLink 0 (fun x => { x with st := 2 }) (live))),
    ?_⟩; and_intros <;> decide +kernel
  · refine ⟨0, 2, { num := 1, dest := 1 }, (modLink 0 (fun x => { x with st := 2 }) (live)), ?_⟩; and_intros <;> decide +kernel
  · refine ⟨0, {}, (modLink 0 (fun x => { x with st := 2 }) (live)), ?_⟩; and_intros <;> decide +kernel
  · refine ⟨0, { num := 1, kind := 0x80 }, (modLink 0 (fun x => { x with st := 2 }) (live)), ?_⟩; and_intros <;> decide +kernel
  · refine ⟨0, {}, { live with cas := { live.cas with barriers := [{}] } }, ?_⟩; and_intros <;> decide +kernel
  · refine ⟨{}, { live with cas := { live.cas with relay := some {} } }, ?_⟩; and_intros <;> decide +kernel
  · refine ⟨0, 0,
    { live with straps := { live.straps with caspos := 1 }, cas := { live.cas with known := 3, lostAt := live.cas.lostAt.set 0 (some 0) } },
    ?_⟩; and_intros <;> decide +kernel
  · refine ⟨0, 0, 0, 0x80, 0, 0,
    { live with cond := { live.cond with await := some (.csend 0 0 0 0x80 0) }, straps := { live.straps with caspos := 1 }, cas := { live.cas with known := 3, present := 3, up := some 0, hop := 2 } },
    ?_⟩; and_intros <;> decide +kernel
  · refine ⟨0, 0, { live with straps := { live.straps with master := true }, cond := { live.cond with await := some (.cbar 0 0) } },
    ?_⟩; and_intros <;> decide +kernel

theorem witness_CascadeInstructions :
    (∃ (who : Who) (c : Cond) (ws : Fin 16) (hi : Fin 16) (dest : Fin 8) (kind : BitVec 8) (s : State), Issues who c 0x90 .condOnly s ∧
      ws.val % 2 = 0 ∧ hi.val = ws.val + 1 ∧ 0x80 ≤ kind.toNat ∧ dest.val ≠ ownPos s ∧ s.cas.known.getLsbD dest.val = true ∧
      csendReady dest.val s = true) ∧
    (∃ (who : Who) (c : Cond) (ws : Fin 16) (hi : Fin 16) (dest : Fin 8) (kind : BitVec 8) (s : State), Issues who c 0x90 .condOnly s ∧
      ws.val % 2 = 0 ∧ hi.val = ws.val + 1 ∧ 0x80 ≤ kind.toNat ∧ dest.val ≠ ownPos s ∧ s.cas.known.getLsbD dest.val = true ∧
      csendReady dest.val s = false) ∧
    (∃ (who : Who) (c : Cond) (ws : Fin 16) (dest : Fin 8) (kind : BitVec 8) (s : State), Issues who c 0x90 .condOnly s ∧ ws.val % 2 = 0 ∧
      0x80 ≤ kind.toNat ∧ (dest.val = ownPos s ∨ s.cas.known.getLsbD dest.val = false)) ∧
    (∃ (who : Who) (c : Cond) (s : State), Issues who c 0x91 .condOnly s ∧ hasMembers s = false) ∧
    (∃ (who : Who) (c : Cond) (s : State), Issues who c 0x91 .condOnly s ∧ hasMembers s = true ∧ isMaster s = false) := by
  and_intros
  · refine ⟨(.ring .custodian), .always, 0, 1, 0, 0x80,
    (modLink 0 (fun x => { x with st := 2 }) (modVc 0 0 (fun x => { x with a := 1 }) ({ live with straps := { live.straps with caspos := 1 }, cas := { live.cas with known := 3, present := 3, up := some 0, hop := 2 } }))),
    issues_of (by decide +kernel), ?_⟩; and_intros <;> decide +kernel
  · refine ⟨(.ring .custodian), .always, 0, 1, 0, 0x80,
    { live with straps := { live.straps with caspos := 1 }, cas := { live.cas with known := 3, present := 3, up := some 0, hop := 2 } },
    issues_of (by decide +kernel), ?_⟩; and_intros <;> decide +kernel
  · refine ⟨(.ring .custodian), .always, 0, 0, 0xFF, live, issues_of (by decide +kernel), ?_⟩; and_intros <;> decide +kernel
  · refine ⟨(.ring .custodian), .always, live, issues_of (by decide +kernel), ?_⟩; decide +kernel
  · refine ⟨(.ring .custodian), .always,
    { live with straps := { live.straps with caspos := 1 }, cas := { live.cas with known := 3, present := 3, up := some 0, hop := 2 } },
    issues_of (by decide +kernel), ?_⟩; and_intros <;> decide +kernel

theorem witness_LinkTime :
    (∃ (l : Fin 6) (t1 : Nat) (s : State), linksRun s = true ∧ (link l s).st = 2 ∧ (link l s).dreqAt = some t1) ∧
    (∃ (l : Fin 6) (s : State), linksRun s = true ∧ (link l s).st = 2 ∧ (link l s).delay = none) ∧
    (∃ (l : Fin 6) (f : TimeFr) (dly : Int) (s : State), linksRun s = true ∧ (link l s).st = 2 ∧
      (let h := modVc l (if isMate l then 0 else 1) (fun x => { x with r := x.r + 1 }) (heardBlock l s); (link l s).delay = some dly ∧
      followsTime l h = true ∧ s.cas.aligned = true ∧ timeAccepts f.tArr h = true)) ∧
    (∃ (l : Fin 6) (f : TimeFr) (dly : Int) (s : State), linksRun s = true ∧ (link l s).st = 2 ∧
      (let h := modVc l (if isMate l then 0 else 1) (fun x => { x with r := x.r + 1 }) (heardBlock l s); (link l s).delay = some dly ∧
      followsTime l h = true ∧ s.cas.aligned = true ∧ timeAccepts f.tArr h = false)) ∧
    (∃ (l : Fin 6) (dly : Int) (s : State), linksRun s = true ∧ (link l s).st = 2 ∧
      (let h := modVc l (if isMate l then 0 else 1) (fun x => { x with r := x.r + 1 }) (heardBlock l s); (link l s).delay = some dly ∧
      followsTime l h = true ∧ s.cas.aligned = false)) ∧
    (∃ (last : Nat) (s : State), linksRun s = true ∧ s.cas.tLast = some last ∧ (s.time.disc = 2 ∨ s.twin.role = 2) ∧ s.cas.tFirst = false ∧
      (let n := s.cas.tMissed + 1; (let d := last + n * timeCycle s + n * cpar 0x0B09 s; tbCanReach d s = true ∧ n < 3))) ∧
    (∃ (last : Nat) (s : State), linksRun s = true ∧ s.cas.tLast = some last ∧ (s.time.disc = 2 ∨ s.twin.role = 2) ∧ s.cas.tFirst = false ∧
      (let n := s.cas.tMissed + 1; (let d := last + n * timeCycle s + n * cpar 0x0B09 s; tbCanReach d s = true ∧ n = 3))) ∧
    (∃ (last : Nat) (s : State), linksRun s = true ∧ s.cas.tLast = some last ∧ (s.time.disc = 2 ∨ s.twin.role = 2) ∧ s.cas.tFirst = false ∧
      (let n := s.cas.tMissed + 1; (let d := last + n * timeCycle s + n * cpar 0x0B09 s; tbCanReach d s = true ∧ 3 < n))) := by
  and_intros
  · refine ⟨0, 0, (modLink 0 (fun x => { x with st := 2, dreqAt := some 0 }) (live)), ?_⟩; and_intros <;> decide +kernel
  · refine ⟨0, (modLink 0 (fun x => { x with st := 2 }) (live)), ?_⟩; and_intros <;> decide +kernel
  · refine ⟨0, { tArr := 1020000000 }, 0,
    (modLink 0 (fun x => { x with st := 2, delay := some 0 }) ({ live with time := { live.time with disc := 2 }, cas := { live.cas with up := some 0, aligned := true, tFirst := true, tLast := some 1000000000 } })),
    ?_⟩; and_intros <;> decide +kernel
  · refine ⟨0, { tArr := 1000500000 }, 0,
    (modLink 0 (fun x => { x with st := 2, delay := some 0 }) ({ live with time := { live.time with disc := 2 }, cas := { live.cas with up := some 0, aligned := true, tFirst := false, tLast := some 1000000000 } })),
    ?_⟩; and_intros <;> decide +kernel
  · refine ⟨0, 0,
    (modLink 0 (fun x => { x with st := 2, delay := some 0 }) ({ live with time := { live.time with disc := 2 }, cas := { live.cas with up := some 0, aligned := false, tFirst := false, tLast := some 1000000000 } })),
    ?_⟩; and_intros <;> decide +kernel
  · refine ⟨1000000000,
    { live with time := { live.time with disc := 2 }, cas := { live.cas with up := some 0, aligned := true, tMissed := 0, tFirst := false, tLast := some 1000000000 } },
    ?_⟩; and_intros <;> decide +kernel
  · refine ⟨1000000000,
    { live with time := { live.time with disc := 2 }, cas := { live.cas with up := some 0, aligned := true, tMissed := 2, tFirst := false, tLast := some 1000000000 } },
    ?_⟩; and_intros <;> decide +kernel
  · refine ⟨1000000000,
    { live with time := { live.time with disc := 2 }, cas := { live.cas with up := some 0, aligned := true, tMissed := 3, tFirst := false, tLast := some 1000000000 } },
    ?_⟩; and_intros <;> decide +kernel

theorem witness_TwinInstructions :
    (∃ (who : Who) (c : Cond) (s : State), Issues who c 0x92 .condOnly s ∧ s.twin.role ≠ 1) ∧
    (∃ (who : Who) (c : Cond) (s : State), Issues who c 0x92 .condOnly s ∧ s.twin.role = 1 ∧ pendFull who s = false) ∧
    (∃ (who : Who) (c : Cond) (s : State), Issues who c 0x93 .custodian s ∧ s.twin.role ≠ 1) ∧
    (∃ (who : Who) (c : Cond) (s : State), Issues who c 0x93 .custodian s ∧ s.twin.role = 1 ∧ (s.twin.mirror ≠ 2 ∨ s.twin.diverged = true)) ∧
    (∃ (who : Who) (c : Cond) (s : State), Issues who c 0x93 .custodian s ∧ s.twin.role = 1 ∧ s.twin.mirror = 2 ∧ s.twin.diverged = false) := by
  and_intros
  · refine ⟨(.ring .custodian), .always, live, issues_of (by decide +kernel), ?_⟩; decide +kernel
  · refine ⟨(.ring .custodian), .always, { live with twin := { live.twin with role := 1 } }, issues_of (by decide +kernel),
    ?_⟩; and_intros <;> decide +kernel
  · refine ⟨(.ring .custodian), .always, live, issues_of (by decide +kernel), ?_⟩; decide +kernel
  · refine ⟨(.ring .custodian), .always, { live with twin := { live.twin with role := 1 } }, issues_of (by decide +kernel),
    ?_⟩; and_intros <;> decide +kernel
  · refine ⟨(.ring .custodian), .always, { live with twin := { live.twin with role := 1, mirror := 2 } }, issues_of (by decide +kernel),
    ?_⟩; and_intros <;> decide +kernel

theorem witness_TwinEvents :
    (∃ (s : State), s.time.coreOn = true ∧ ((link 4 s).trained = true ∨ (link 5 s).trained = true)) ∧
    (∃ (k : Fin 2) (h : Hb) (s : State), linksRun s = true ∧ (link (mate k) s).trained = true ∧ s.twin.role = 2 ∧ h.role = 2 ∧
      s.twin.yieldAt = none) ∧
    (∃ (s : State), linksRun s = true ∧ s.twin.hbSilent = false ∧ s.twin.role = 1) ∧
    (∃ (high : Bool) (s : State), s.straps.twinen = true ∧ bankOn 3 s = true ∧ s.twin.roleIn ≠ high) ∧
    (∃ (d : Nat) (s : State), linksRun s = true ∧ s.twin.role = 2 ∧ s.twin.claim = some d ∧ s.twin.peerClaim = none) ∧
    (∃ (d : Nat) (p : Nat) (s : State), linksRun s = true ∧ s.twin.role = 2 ∧ s.twin.claim = some d ∧ s.twin.peerClaim = some p ∧ p < d) ∧
    (∃ (d : Nat) (p : Nat) (s : State), linksRun s = true ∧ s.twin.role = 2 ∧ s.twin.claim = some d ∧ s.twin.peerClaim = some p ∧ d < p) ∧
    (∃ (s : State), linksRun s = true ∧ s.twin.role = 2 ∧ s.twin.roleIn = false ∧
      (s.twin.peerFault = true ∨ s.twin.peerRole = 3 ∨ s.twin.hbSilent = true) ∧ s.twin.mirror = 2) ∧
    (∃ (s : State), linksRun s = true ∧ s.twin.role = 2 ∧ s.twin.roleIn = false ∧
      (s.twin.peerFault = true ∨ s.twin.peerRole = 3 ∨ s.twin.hbSilent = true) ∧ s.twin.mirror ≠ 2) ∧
    (∃ (order : Nat) (s : State), linksRun s = true ∧ s.twin.role = 2 ∧ (s.twin.mirror = 1 ∨ s.twin.mirror = 2) ∧ order = s.twin.order) ∧
    (∃ (order : Nat) (s : State), linksRun s = true ∧ s.twin.role = 2 ∧ (s.twin.mirror = 1 ∨ s.twin.mirror = 2) ∧ order ≠ s.twin.order) ∧
    (∃ (e : EndMark) (reg : Regions) (s : State), linksRun s = true ∧ s.twin.role = 2 ∧ (s.twin.mirror = 1 ∨ s.twin.mirror = 2) ∧
      s.twin.cycle = some reg ∧ (e.ledgerOk = false ∨ s.twin.ownLedger = false)) ∧
    (∃ (e : EndMark) (reg : Regions) (s : State), linksRun s = true ∧ s.twin.role = 2 ∧ (s.twin.mirror = 1 ∨ s.twin.mirror = 2) ∧
      s.twin.cycle = some reg ∧ e.ledgerOk = true ∧ s.twin.ownLedger = true ∧ (e.lost = true ∨ e.digest ≠ s.twin.own)) ∧
    (∃ (e : EndMark) (reg : Regions) (s : State), linksRun s = true ∧ s.twin.role = 2 ∧ (s.twin.mirror = 1 ∨ s.twin.mirror = 2) ∧
      s.twin.cycle = some reg ∧ e.ledgerOk = true ∧ s.twin.ownLedger = true ∧ e.lost = false ∧ e.digest = s.twin.own ∧ e.yielding = false) ∧
    (∃ (s : State), linksRun s = true ∧ ((link 4 s).trained = true ∨ (link 5 s).trained = true) ∧ s.twin.role = 1 ∧ s.twin.peerRole = 2) ∧
    (∃ (t : Nat) (s : State), linksRun s = true ∧ s.twin.syncAt = some t) ∧
    (∃ (d : Nat) (s : State), linksRun s = true ∧ s.cond.await = some (.yield d)) := by
  and_intros
  · refine ⟨(modLink 4 (fun x => { x with st := 2 }) (live)), ?_⟩; and_intros <;> decide +kernel
  · refine ⟨0, { role := 2 }, (modLink 4 (fun x => { x with st := 2 }) ({ live with twin := { live.twin with role := 2 } })),
    ?_⟩; and_intros <;> decide +kernel
  · refine ⟨{ live with twin := { live.twin with role := 1 } }, ?_⟩; and_intros <;> decide +kernel
  · refine ⟨true, { live with straps := { live.straps with twinen := true } }, ?_⟩; and_intros <;> decide +kernel
  · refine ⟨5, { live with twin := { live.twin with role := 2, claim := some 5 } }, ?_⟩; and_intros <;> decide +kernel
  · refine ⟨5, 4, { live with twin := { live.twin with role := 2, claim := some 5, peerClaim := some 4 } },
    ?_⟩; and_intros <;> decide +kernel
  · refine ⟨5, 6, { live with twin := { live.twin with role := 2, claim := some 5, peerClaim := some 6 } },
    ?_⟩; and_intros <;> decide +kernel
  · refine ⟨{ live with twin := { live.twin with role := 2, mirror := 2, peerRole := 3 } }, ?_⟩; and_intros <;> decide +kernel
  · refine ⟨{ live with twin := { live.twin with role := 2, peerRole := 3 } }, ?_⟩; and_intros <;> decide +kernel
  · refine ⟨0, { live with twin := { live.twin with role := 2, mirror := 2 } }, ?_⟩; and_intros <;> decide +kernel
  · refine ⟨1, { live with twin := { live.twin with role := 2, mirror := 1 } }, ?_⟩; and_intros <;> decide +kernel
  · refine ⟨{ ledgerOk := false }, {}, { live with twin := { live.twin with role := 2, mirror := 2, cycle := some {} } },
    ?_⟩; and_intros <;> decide +kernel
  · refine ⟨{ lost := true }, {}, { live with twin := { live.twin with role := 2, mirror := 2, cycle := some {} } },
    ?_⟩; and_intros <;> decide +kernel
  · refine ⟨{}, {}, { live with twin := { live.twin with role := 2, mirror := 2, cycle := some {} } }, ?_⟩; and_intros <;> decide +kernel
  · refine ⟨(modLink 4 (fun x => { x with st := 2 }) ({ live with twin := { live.twin with role := 1, peerRole := 2 } })),
    ?_⟩; and_intros <;> decide +kernel
  · refine ⟨0, { live with twin := { live.twin with syncAt := some 0, mirror := 1 } }, ?_⟩; and_intros <;> decide +kernel
  · refine ⟨0, { live with cond := { live.cond with await := some (.yield 0) } }, ?_⟩; and_intros <;> decide +kernel

theorem witness_SettingsBlocks :
    (∃ (who : Who) (c : Cond) (q : QRef) (k : Nat) (it : Item) (s : State), Issues who c 0x83 .condOnly s ∧ NamesQueue who q k s ∧
      s.host.setup = none ∧ pendFull who s = false ∧ popHead k s = some it) ∧
    (∃ (who : Who) (c : Cond) (q : QRef) (k : Nat) (s : State), Issues who c 0x83 .condOnly s ∧ NamesQueue who q k s ∧
      s.host.setup = none ∧ pendFull who s = false ∧ popHead k s = none) ∧
    (∃ (who : Who) (c : Cond) (q : QRef) (k : Nat) (s : State), Issues who c 0x83 .condOnly s ∧ NamesQueue who q k s ∧
      s.host.setup.isSome = true) ∧
    (∃ (t : Nat) (off : Nat) (w : World) (it : Item) (s : State), alive s = true ∧ s.host.setup = some (w, t, it) ∧
      s.host.setupBad = some off) ∧
    (∃ (t : Nat) (w : World) (it : Item) (s : State), alive s = true ∧ s.host.setup = some (w, t, it) ∧ s.host.setupBad = none) := by
  and_intros
  · refine ⟨(.ring .custodian), .always, (.imm 0), 0, it1, liveQ, issues_of (by decide +kernel), by unfold NamesQueue; decide +kernel,
    ?_⟩; and_intros <;> decide +kernel
  · refine ⟨(.ring .custodian), .always, (.imm 0), 0, live, issues_of (by decide +kernel), by unfold NamesQueue; decide +kernel,
    ?_⟩; and_intros <;> decide +kernel
  · refine ⟨(.ring .custodian), .always, (.imm 0), 0, { live with host := { live.host with setup := some (.custodian, 1, it1) } },
    issues_of (by decide +kernel), by unfold NamesQueue; decide +kernel, ?_⟩; decide +kernel
  · refine ⟨1, 0, .custodian, it1, { live with host := { live.host with setup := some (.custodian, 1, it1), setupBad := some 0 } },
    ?_⟩; and_intros <;> decide +kernel
  · refine ⟨1, .custodian, it1, { live with host := { live.host with setup := some (.custodian, 1, it1) } },
    ?_⟩; and_intros <;> decide +kernel

theorem witness_HostWrites :
    (∃ (w : World) (l : HostLink) (p : Word) (s : State), hostLinkUp l s = true ∧ (s.host.link = none ∨ s.host.link = some l) ∧
      bellOk (ring w blkCommand s) p s = true) ∧
    (∃ (w : World) (l : HostLink) (p : Word) (s : State), hostLinkUp l s = true ∧ (s.host.link = none ∨ s.host.link = some l) ∧
      bellOk (ring w blkCommand s) p s = false) ∧
    (∃ (w : World) (l : HostLink) (p : Word) (n : Fin 8) (s : State), hostLinkUp l s = true ∧ (s.host.link = none ∨ s.host.link = some l) ∧
      bellOk (ring w (txBlk n) s) p s = true) ∧
    (∃ (w : World) (l : HostLink) (p : Word) (n : Fin 8) (s : State), hostLinkUp l s = true ∧ (s.host.link = none ∨ s.host.link = some l) ∧
      bellOk (ring w (txBlk n) s) p s = false) ∧
    (∃ (w : World) (l : HostLink) (b : Fin 20) (sz : BitVec 16) (s : State), hostLinkUp l s = true ∧
      (s.host.link = none ∨ s.host.link = some l) ∧ (let r := ring w b s; r.runs = false ∧ sz.toNat ≠ 0 ∧ sizeOk b sz.toNat = true ∧
      aligned b r = true ∧ placed w l b r sz.toNat s = true ∧ provided l b s = true ∧
      (b = blkCommand → (ring w blkCompletion s).runs = true) ∧ txOf b = none)) ∧
    (∃ (w : World) (l : HostLink) (b : Fin 20) (sz : BitVec 16) (s : State), hostLinkUp l s = true ∧
      (s.host.link = none ∨ s.host.link = some l) ∧ (let r := ring w b s; r.runs = false ∧ sz.toNat ≠ 0 ∧ sizeOk b sz.toNat = false)) ∧
    (∃ (w : World) (l : HostLink) (b : Fin 20) (sz : BitVec 16) (s : State), hostLinkUp l s = true ∧
      (s.host.link = none ∨ s.host.link = some l) ∧ (let r := ring w b s; r.runs = true ∧ sz.toNat ≠ 0)) ∧
    (∃ (w : World) (l : HostLink) (b : Fin 20) (wd : Fin 4) (s : State), hostLinkUp l s = true ∧
      (s.host.link = none ∨ s.host.link = some l) ∧ (let r := ring w b s; r.runs = false ∧ wd.val < 2)) ∧
    (∃ (w : World) (l : HostLink) (b : Fin 20) (wd : Fin 4) (s : State), hostLinkUp l s = true ∧
      (s.host.link = none ∨ s.host.link = some l) ∧ (let r := ring w b s; r.runs = false ∧ 2 ≤ wd.val ∧ isRx b = true)) ∧
    (∃ (w : World) (l : HostLink) (b : Fin 20) (ci : BitVec 16) (s : State), hostLinkUp l s = true ∧
      (s.host.link = none ∨ s.host.link = some l) ∧ (let r := ring w b s; 1 ≤ b.val ∧ b.val ≤ 10 ∧ r.runs = true ∧ s.host.hifNeg ≠ 0 ∧
      diff16 ci.toNat r.cons ≤ diff16 r.dev r.cons)) ∧
    (∃ (l : HostLink) (k : HostLink) (s : State), hostLinkUp l s = true ∧ s.host.link = some k ∧ k ≠ l) := by
  and_intros
  · refine ⟨.custodian, .qspi, 1, (modRing .custodian blkCommand (fun r => { r with size := 16 }) (live)),
    ?_⟩; and_intros <;> decide +kernel
  · refine ⟨.custodian, .qspi, 0, live, ?_⟩; and_intros <;> decide +kernel
  · refine ⟨.custodian, .qspi, 16, 7, (modRing .custodian (txBlk 7) (fun r => { r with size := 16 }) (live)),
    ?_⟩; and_intros <;> decide +kernel
  · refine ⟨.custodian, .qspi, 0, 0, live, ?_⟩; and_intros <;> decide +kernel
  · refine ⟨.custodian, .pcie, 10, 4096, { live with host := { live.host with link := some .pcie, pcieUp := true } },
    ?_⟩; and_intros <;> decide +kernel
  · refine ⟨.custodian, .qspi, 2, 17, live, ?_⟩; and_intros <;> decide +kernel
  · refine ⟨.custodian, .qspi, 2, 1, (modRing .custodian 2 (fun r => { r with size := 16 }) (live)), ?_⟩; and_intros <;> decide +kernel
  · refine ⟨.custodian, .qspi, 0, 0, live, ?_⟩; and_intros <;> decide +kernel
  · refine ⟨.custodian, .qspi, 3, 2, live, ?_⟩; and_intros <;> decide +kernel
  · refine ⟨.custodian, .qspi, 10, 1, (modRing .custodian 10 (fun r => { r with size := 16, dev := 1 }) (live)),
    ?_⟩; and_intros <;> decide +kernel
  · refine ⟨.pcie, .qspi, { live with host := { live.host with pcieUp := true } }, ?_⟩; and_intros <;> decide +kernel

theorem witness_HostReads :
    (∃ (s : State), s.time.coreOn = true ∧ s.host.silent = false) ∧
    (∃ (w : World) (s : State), hostUp s = true ∧ (ring w 19 s).runs = true ∧ (whost w s).mirrorDue = true) ∧
    (∃ (w : World) (addr : BitVec 24) (len : Nat) (s : State), hostLinkUp .qspi s = true ∧ s.pw.asleep = false ∧
      transferOk addr.toNat len = true ∧ strays w addr.toNat (len / 4) s = false) ∧
    (∃ (addr : BitVec 24) (len : Nat) (s : State), hostLinkUp .qspi s = true ∧ s.pw.asleep = false ∧ transferOk addr.toNat len = false) ∧
    (∃ (w : World) (addr : BitVec 24) (data : List Word) (s : State), hostLinkUp .qspi s = true ∧
      transferOk addr.toNat (4 * data.length) = true ∧ strays w addr.toNat data.length s = false) ∧
    (∃ (w : World) (addr : BitVec 24) (data : List Word) (s : State), hostLinkUp .qspi s = true ∧
      transferOk addr.toNat (4 * data.length) = true ∧ strays w addr.toNat data.length s = true) ∧
    (∃ (addr : BitVec 24) (data : List Word) (s : State), hostLinkUp .qspi s = true ∧ transferOk addr.toNat (4 * data.length) = false) ∧
    (∃ (s : State), s.pw.asleep = true ∧ s.pw.mode ≠ 0 ∧ bankOn 1 s = true) ∧
    (∃ (s : State), bankOn 3 s = true) := by
  and_intros
  · refine ⟨live, ?_⟩; and_intros <;> decide +kernel
  · refine ⟨.custodian,
    (modRing .custodian 19 (fun r => { r with size := 1 }) (modWhost .custodian (fun h => { h with mirrorDue := true }) live)),
    ?_⟩; and_intros <;> decide +kernel
  · refine ⟨.custodian, 0, 4096, live, ?_⟩; and_intros <;> decide +kernel
  · refine ⟨0, 4100, live, ?_⟩; and_intros <;> decide +kernel
  · refine ⟨.custodian, 0, [0], live, ?_⟩; and_intros <;> decide +kernel
  · refine ⟨.custodian, 0x100000, [0], (setPar 0xa08 15 0x1000 (live)), ?_⟩; and_intros <;> decide +kernel
  · refine ⟨0, [], live, ?_⟩; and_intros <;> decide +kernel
  · refine ⟨{ live with pw := { live.pw with asleep := true, mode := 2 } }, ?_⟩; and_intros <;> decide +kernel
  · refine ⟨live, ?_⟩; decide +kernel

theorem witness_RingDescriptors :
    (∃ (w : World) (r : Fin 8) (d : TxDesc) (v : Wait) (s : State), txReady w r s = true ∧ (txRing w r s).open_ = false ∧
      d.fieldsOk = true ∧ d.secured = false ∧ d.route = false ∧ 1 ≤ d.data.length ∧ d.data.length ≤ d.decl ∧ d.decl ≤ 2047 ∧
      s.qp.ledger.hold = false ∧ (queue d.queue.val s).inc = none ∧ (s.qp.waits.any (fun v => v.q = d.queue.val) = false) ∧
      startRefusal d s = none) ∧
    (∃ (w : World) (r : Fin 8) (d : TxDesc) (it : Item) (s : State), (let p := port w s; txReady w r s = true ∧
      (txRing w r s).refused = none ∧ (txRing w r s).open_ = true ∧ p.discard = false ∧ d.fieldsOk = true ∧ itemOf w p.job s = some it ∧
      lengthOk d.data.length it.data.length it.decl = true)) ∧
    (∃ (w : World) (r : Fin 8) (s : State), txReady w r s = true ∧ (txRing w r s).refused = none ∧ (txRing w r s).open_ = false) ∧
    (∃ (q : Fin 1024) (v : Wait) (s : State), (s.qp.waits.find? (fun v => v.q = q.val) = some v) ∧ (queue q.val s).inc = none ∧
      s.time.coreOn = true ∧
      (let u := { s with qp := { s.qp with waits := dropFirst (fun v => v.q = q.val) s.qp.waits } }; startRefusal v.desc u = none)) ∧
    (∃ (w : World) (v : Wait) (s : State), (s.qp.waits.find? (fun v => v.cust == (w == .custodian)) = some v) ∧ s.time.coreOn = true) ∧
    (∃ (q : Fin 1024) (it : Item) (s : State), (queue q.val s).inc = some it) ∧
    (∃ (w : World) (it : Item) (s : State), (let p := port w s; p.held = some it)) ∧
    (∃ (w : World) (r : Fin 8) (it : Item) (n : Nat) (s : State), hostUp s = true ∧ s.pw.frozen = false ∧ s.pw.slotAwake = false ∧
      (ring w (rxBlk r) s).room = true ∧ s.host.link = some .pcie ∧ rxNext w r s = some (n, it)) ∧
    (∃ (w : World) (b : Fin 20) (s : State), s.host.link = some .pcie ∧ hostUp s = true ∧ (ring w b s).runs = true ∧ b = blkCommand ∧
      s.cond.record = none) ∧
    (∃ (w : World) (r : Fin 8) (errs : List MemErr) (s : State), (let u := meetErrors errs s; txReady w r u = true ∧
      (txRing w r u).refused = none ∧ (txRing w r u).open_ = true ∧ (port w u).discard = false ∧ ringFails errs = true)) := by
  and_intros
  · refine ⟨.custodian, 0, { data := [1], decl := 1 }, {},
    (modRing .custodian (txBlk 0) (fun r => { r with size := 16, lastP := 1 }) (live)), ?_⟩; and_intros <;> decide +kernel
  · refine ⟨.custodian, 0, { data := [1, 2] }, { job := 1, decl := 8, data := [1] },
    (modPort .custodian (fun _ => { held := some { job := 1, decl := 8, data := [1] }, job := 1 }) (modTx .custodian 0 (fun t => { t with open_ := true }) (modRing .custodian (txBlk 0) (fun r => { r with size := 16, lastP := 1 }) (live)))),
    ?_⟩; and_intros <;> decide +kernel
  · refine ⟨.custodian, 0, (modRing .custodian (txBlk 0) (fun r => { r with size := 16, lastP := 1 }) (live)),
    ?_⟩; and_intros <;> decide +kernel
  · refine ⟨0, { q := 0, cust := true, desc := { data := [1], decl := 1 } },
    { live with qp := { live.qp with waits := [{ q := 0, cust := true, desc := { data := [1], decl := 1 } }] } },
    ?_⟩; and_intros <;> decide +kernel
  · refine ⟨.custodian, { q := 0, cust := true, desc := { data := [1], decl := 1 } },
    { live with qp := { live.qp with waits := [{ q := 0, cust := true, desc := { data := [1], decl := 1 } }] } },
    ?_⟩; and_intros <;> decide +kernel
  · refine ⟨0, {}, (modQ 0 (fun x => { x with inc := some {} }) live), ?_⟩; decide +kernel
  · refine ⟨.custodian, {}, (modPort .custodian (fun p => { p with held := some {} }) live), ?_⟩; decide +kernel
  · refine ⟨.custodian, 0, it1, 0,
    (setPar 0xa08 15 0x400 (modRing .custodian (rxBlk 0) (fun r => { r with size := 16 }) ({ liveQ with host := { liveQ.host with link := some .pcie, pcieUp := true } }))),
    ?_⟩; and_intros <;> decide +kernel
  · refine ⟨.custodian, 0,
    (modRing .custodian 0 (fun r => { r with size := 16 }) ({ live with host := { live.host with link := some .pcie, pcieUp := true } })),
    ?_⟩; and_intros <;> decide +kernel
  · refine ⟨.custodian, 0, [{ region := 6, kind := .double }],
    (modPort .custodian (fun _ => { held := some { job := 1, decl := 8, data := [1] }, job := 1 }) (modTx .custodian 0 (fun t => { t with open_ := true }) (modRing .custodian (txBlk 0) (fun r => { r with size := 16, lastP := 1 }) (live)))),
    ?_⟩; and_intros <;> decide +kernel

theorem witness_QlenReportsTheHighState :
    ∃ (who : Who) (c : Cond) (q : QRef) (k : Nat) (s : State), Issues who c 0x45 .all s ∧ NamesQueue who q k s := by
  refine ⟨(.ring .custodian), .always, (.imm 0), 0, live, issues_of (by decide +kernel), by unfold NamesQueue; decide +kernel⟩

theorem witness_StepRunsTheFrontCommand :
    (∃ (s : State) (c : Instr) (rest : List Instr), s.pending = c :: rest) ∧ (∃ s : State, s.pending = []) ∧
    (∃ (s t : State) (who : Who) (i : Instr), canRun who s = true ∧ decodeWord who (progWord (pcOf who s) s) = .instr i ∧
      exec i s = .next t) ∧
    (∃ (s : State) (who : Who), canRun who s = true ∧ decodeWord who (progWord (pcOf who s) s) = .illegal) ∧
    (∃ (s : State) (who : Who), canRun who s = false) :=
  ⟨⟨{ live with pending := [.tscrub (.ring .custodian) .always 3, .nop .routine .always] }, .tscrub (.ring .custodian) .always 3,
    [.nop .routine .always], rfl⟩, ⟨live, rfl⟩,
    ⟨liveProg 0x2202000000000000, _, .slice 4, .tnow (.slice 4) .always 2, by decide +kernel, by decide +kernel, rfl⟩,
    ⟨liveProg 0x00F0000000000000, .slice 4, by decide +kernel, by decide +kernel⟩, live, .slice 4, by decide +kernel⟩

theorem witness_CommandsLeaveTheQueue : ∃ (c : Instr) (s t : State), exec c s = .next t :=
  ⟨.psumRead .operator, live, _, rfl⟩

theorem witness_OnlyASupplyOutsideItsRangesStops :
    (∃ c : Instr, ∃ b mv, c = .vioRangeChange b mv ∧ ((1890 < mv ∧ mv < 3000) ∨ 3600 < mv)) ∧
    (∃ c : Instr, ∃ b mv, c = .vioRangeChange b mv ∧ ¬ ((1890 < mv ∧ mv < 3000) ∨ 3600 < mv)) ∧
    (∃ c : Instr, ∀ b mv, c = .vioRangeChange b mv → ¬ ((1890 < mv ∧ mv < 3000) ∨ 3600 < mv)) :=
  ⟨⟨.vioRangeChange 3 1891, 3, 1891, rfl, by decide⟩, ⟨.vioRangeChange 3 3600, 3, 3600, rfl, by decide⟩,
    .recordTimeout, fun _ _ h => nomatch h⟩

theorem witness_BarredInstructionsAreRefused :
    (∃ (i : Instr) (x : Issue) (d : Nat) (s : State),
      issueOf i = some x ∧ Barred x.who x.cond x.op x.perm d s ∧ d = 0xFF01) ∧
    (∃ (i : Instr) (x : Issue) (d : Nat) (s : State),
      issueOf i = some x ∧ Barred x.who x.cond x.op x.perm d s ∧ d = 0xFF02) :=
  ⟨⟨.rest (.slice 4) .always, _, 0xFF01, liveSeq, rfl, ⟨by decide +kernel, by decide +kernel, by decide +kernel, by decide +kernel,
      by decide +kernel, by decide +kernel⟩, rfl⟩,
    ⟨.tseal (.ring .operator) .always, _, 0xFF02, live, rfl, ⟨by decide +kernel, by decide +kernel, by decide +kernel,
      by decide +kernel, by decide +kernel, by decide +kernel⟩, rfl⟩⟩

theorem witness_FalseConditionsSkip :
    ∃ (i : Instr) (x : Issue) (n : Fin 12) (s : State), issueOf i = some x ∧ x.who = .slice n ∧ canRun (.slice n) s = true ∧
      fetchOutside (.slice n) s = false ∧ condHolds x.cond (ctx (.slice n) s).regs.p = false ∧ s.cond.record = none ∧
      s.boot.restartDue = false :=
  ⟨.halt (.slice 4) (.ifT 3), _, 4, liveSeq, rfl, rfl, by decide +kernel, by decide +kernel, by decide +kernel, by decide +kernel,
    by decide +kernel⟩

theorem witness_StepsKeepMemoriesCanonical : ∃ s t : State, MemCanonical s ∧ step s = .next t :=
  ⟨{ live with progMem := [(65535, 0)], schedMem := [(7, 1)], pending := [.nop (.ring .custodian) .always] }, _,
    memCanonical_of (by decide +kernel) rfl rfl, rfl⟩

theorem witness_FusesNeverUnburn : ∃ s t : State, step s = .next t :=
  ⟨{ live with pending := [.lcAdvanceReturn (.ring .custodian) .always] }, _, rfl⟩

theorem witness_TablesReadWhatWasWritten :
    ∃ (d : Word) (m m' : Tbl Word), Tbl.wf d m = true ∧ Tbl.wf d m' = true ∧ m ≠ [] ∧ ∀ i, Tbl.get d m i = Tbl.get d m' i :=
  ⟨0, [(3, 1), (262143, 2)], _, by decide, by decide, by decide, fun _ => rfl⟩

theorem witness_LoadRecordsWriteTheirWords :
    (∃ (w : World) (start : BitVec 16) (ws : List (BitVec 64)) (s : State), MemCanonical s ∧ canTake w s = true ∧ 1 ≤ ws.length ∧
      ws.length ≤ 4096 ∧ start.toNat + ws.length ≤ 65536 ∧ loadRefusal s.twin.mirNext (tookRecord w s) = none ∧
      touchesRunning start.toNat ws.length (tookRecord w s) = false) ∧
    (∃ (w : World) (addr : BitVec 18) (vs : List Word) (s : State), MemCanonical s ∧ canTake w s = true ∧ 1 ≤ vs.length ∧
      vs.length ≤ 16384 ∧ addr.toNat + vs.length ≤ 262144 ∧ loadRefusal s.twin.mirNext (tookRecord w s) = none) :=
  ⟨⟨.operator, 65534, [1, 2], { live with twin := { live.twin with mirNext := true } },
      memCanonical_of (by decide +kernel) rfl rfl, by decide +kernel, by decide, by decide, by decide, by decide +kernel,
      by decide +kernel⟩,
    ⟨.operator, 262142, [1, 2], { live with twin := { live.twin with mirNext := true } },
      memCanonical_of (by decide +kernel) rfl rfl, by decide +kernel, by decide, by decide, by decide, by decide +kernel⟩⟩

theorem witness_StwWritesOneWord :
    ∃ (n : Fin 12) (c : Cond) (ws2 : Fin 16) (off : BitVec 18) (s : State), MemCanonical s ∧ Issues (.slice n) c 0x19 .all s ∧
      s.cond.record = none ∧ s.boot.restartDue = false ∧ (getW (.slice n) ws2 s).toNat + off.toNat < 262144 :=
  ⟨4, .always, 0, 262143, liveSeq, memCanonical_of (by decide +kernel) rfl rfl, issues_of (by decide +kernel), by decide +kernel,
    by decide +kernel, by decide +kernel⟩

theorem witness_ProgramMemoryAtPowerUp :
    (∃ s : State, s.pw.entering = false ∧ mainOn s = false ∧ (inBackup s = false ∨ s.pw.pwron = true)) ∧
    (∃ (w : World) (start : BitVec 16) (ws : List (BitVec 64)) (s : State), canTake w s = true ∧ 65536 < start.toNat + ws.length) :=
  ⟨⟨{ live with time := { live.time with coreOn := false } }, by decide +kernel, by decide +kernel, by decide +kernel⟩,
    .custodian, 65535, [1, 2], { live with twin := { live.twin with mirNext := true } }, by decide +kernel, by decide⟩

theorem witness_TimebaseAtPowerUp :
    (∃ s : State, s.pw.entering = false ∧ mainOn s = false ∧ (inBackup s = false ∨ s.pw.pwron = true)) ∧
    (∃ s : State, s.time.counting = false) ∧
    (∃ s : State, s.time.counting = false ∧ s.time.coreOn = true ∧ s.time.refQual = false ∧ s.time.refStarted = true ∧
      s.health.chipFault = 0 ∧ s.pw.wake = none ∧ s.pw.degraded = false ∧ s.cond.record = none ∧ s.boot.restartDue = false) :=
  ⟨⟨{ live with pw := { live.pw with asleep := true, mode := 0 }, time := { live.time with coreOn := false } }, by decide +kernel,
      by decide +kernel, by decide +kernel⟩,
    ⟨State.reset, rfl⟩,
    ⟨{ live with time := { live.time with counting := false, refQual := false } }, by decide +kernel⟩⟩

end Sys2Proof.Tests
end

section
/-! PROOF. Program memory at power-up (02 R42): what a main power-up does after the loss of power touches neither the conductor nor
program memory. -/

namespace Sys2Proof.Machine

/-! ## The conductor and program memory -/

/-- The conductor's registers and program memory. -/
def condProg (s : State) : CondS × Tbl (BitVec 64) := (s.cond, s.progMem)

theorem condProg_eq_iff {s t : State} : condProg s = condProg t ↔ s.cond = t.cond ∧ s.progMem = t.progMem := Prod.mk_inj

/-- Steps that leave the conductor and program memory leave them when run one after another. -/
theorem condProg_foldl {α : Type} (f : State → α → State) (h : ∀ t x, condProg (f t x) = condProg t) (l : List α) (s : State) :
    condProg (l.foldl f s) = condProg s :=
  l.foldlRecOn (motive := fun t => condProg t = condProg s) f rfl fun t ht x _ => (h t x).trans ht

theorem condProg_ite {c : Prop} [Decidable c] {s t u : State} (ht : condProg t = condProg s) (hu : condProg u = condProg s) :
    condProg (if c then t else u) = condProg s := by
  split
  · exact ht
  · exact hu

/-! ## Descriptors and notices -/

@[simp] theorem condProg_modRing (w : World) (b : Fin 20) (f : Ring → Ring) (s : State) :
    condProg (modRing w b f s) = condProg s := by simp [condProg]

@[simp] theorem condProg_emit (r : List Byte) (s : State) : condProg (emit r s) = condProg s := by simp [condProg]

@[simp] theorem condProg_settle (s : State) : condProg (settle s) = condProg s := by simp [condProg]

@[simp] theorem condProg_ringMemWrite (a : Nat) (ws : List Word) (s : State) : condProg (ringMemWrite a ws s) = condProg s := by
  induction ws generalizing a s with
  | nil => rfl
  | cons v vs ih => exact ih _ _

@[simp] theorem condProg_postDesc (w : World) (b : Fin 20) (d : List Word) (s : State) :
    condProg (postDesc w b d s) = condProg s := by
  simp only [postDesc, postDescData, apply_ite condProg, condProg_modRing, condProg_ringMemWrite, condProg_emit, ite_self]

@[simp] theorem condProg_post (n : Notice) (s : State) : condProg (n.post s).2 = condProg s := by
  unfold Notice.post
  dsimp only
  split
  · rfl
  · split
    · rfl
    · split
      · split
        · simp
        · split <;> simp
      · simp

@[simp] theorem condProg_report (kind : Nat) (subject : Word) (st : Nat) (reporter : Word) (s : State) :
    condProg (report kind subject st reporter s) = condProg s := by
  unfold report
  split
  · rfl
  · split
    · split
      case h_1 e => exact (congrArg (condProg ·.2) e).symm.trans (condProg_post _ s)
      case h_2 e => exact (congrArg (condProg ·.2) e).symm.trans (condProg_post _ s)
    · split
      · rfl
      · exact condProg_post _ s

@[simp] theorem condProg_notify (kind subject st block : Nat) (s : State) :
    condProg (notify kind subject st block s) = condProg s := condProg_report ..

theorem condProg_postDue (s : State) : condProg (postDue s) = condProg s :=
  (condProg_foldl _ (fun _ _ => condProg_notify ..) _ _).trans (condProg_foldl _ (fun _ _ => condProg_notify ..) _ _)

/-! ## Links and routes -/

theorem condProg_startLinks (s : State) : condProg (startLinks s) = condProg s :=
  condProg_foldl _ (fun t l => by split <;> rfl) _ _

theorem condProg_modQ (q : Nat) (f : Queue → Queue) (s : State) : condProg (modQ q f s) = condProg s := by
  unfold modQ reHigh
  dsimp only
  split
  · split
    · exact condProg_notify ..
    · rfl
  · split <;> rfl

theorem condProg_returnHead (q : Nat) (it : Item) (s : State) : condProg (returnHead q it s) = condProg s := by
  unfold returnHead
  refine (condProg_modQ _ _ _).trans ?_
  split <;> rfl

theorem condProg_returnRetained (fs : List CasFrame) (s : State) : condProg (returnRetained fs s) = condProg s := by
  induction fs with
  | nil => rfl
  | cons f fs ih =>
    unfold returnRetained at ih ⊢
    rw [List.foldr_cons]
    split
    · exact (condProg_returnHead ..).trans ih
    · exact ih

theorem condProg_modVc (l : Fin 6) (v : Fin 4) (f : Vc → Vc) (s : State) : condProg (modVc l v f s) = condProg s := rfl

theorem condProg_returnMoved (s : State) (l : Fin 6) : condProg (returnMoved s l) = condProg s := by
  unfold returnMoved
  refine condProg_foldl _ (fun t v => ?_) _ _
  exact (condProg_returnRetained _ _).trans (condProg_modVc ..)

theorem condProg_notePresence (s : State) (p : Fin 8) : condProg (notePresence s p) = condProg s := by
  unfold notePresence
  split
  · dsimp only
    split
    · rfl
    · exact condProg_notify ..
  · split <;> rfl

theorem condProg_recompute (s : State) : condProg (recompute s) = condProg s :=
  (condProg_foldl _ condProg_notePresence _ _).trans <|
    (condProg_foldl _ condProg_returnMoved _ _).trans <|
      condProg_foldl _ (fun t l => by split <;> rfl) _ _

/-! ## Power-up -/

theorem condProg_powerLost (s : State) : condProg (powerLost s) = condProg State.reset := rfl

theorem condProg_integrityCheck (crcOk canaryOk : Bool) (s : State) :
    condProg (integrityCheck crcOk canaryOk s) = condProg s := by
  unfold integrityCheck
  dsimp only
  split
  · rfl
  · split <;> rfl

theorem condProg_coreStarts (s : State) : condProg (coreStarts s) = condProg s := by
  unfold coreStarts
  refine (condProg_recompute _).trans <| (condProg_startLinks _).trans <| (condProg_postDue _).trans ?_
  exact condProg_ite ((condProg_notify ..).trans (condProg_ite rfl (condProg_notify ..)))
    (condProg_ite rfl (condProg_notify ..))

/-- A main power-up that takes place leaves the conductor and program memory as they are at reset. -/
theorem mainPowerUp_condProg {st : Straps} {crcOk canaryOk : Bool} {s : State} (hEnter : s.pw.entering = false)
    (hOff : mainOn s = false) (hBack : inBackup s = false ∨ s.pw.pwron = true) :
    ∃ t, exec (.mainPowerUp st crcOk canaryOk) s = .next t ∧ condProg t = condProg State.reset := by
  have hAsleep : settleSleep s = s := by simp [settleSleep, hEnter]
  have hGoes : (mainOn s || (inBackup s && !s.pw.pwron)) = false := by
    rcases hBack with h | h <;> simp [hOff, h]
  refine ⟨_, ok_eq _, (condProg_settle _).trans ?_⟩
  simp only [hAsleep, hGoes, Bool.false_eq_true, if_false]
  exact (condProg_coreStarts _).trans ((condProg_integrityCheck crcOk canaryOk (powerLost s)).trans (condProg_powerLost s))

/-! ## The addresses -/

/-- Program memory that nothing has loaded holds HALT at every address (02 R42). -/
theorem progWord_unloaded {s : State} (h : s.progMem = []) (a : Nat) : progWord a s = 0x1500000000000000 := by
  simp [progWord, h, Tbl.get]

/-- Page n is the addresses n × 256 to n × 256 + 255 (02 R42). -/
theorem inWindow_page (n a : Nat) : inWindow n 1 a = true ↔ n * 256 ≤ a ∧ a ≤ n * 256 + 255 := by
  simp only [inWindow, Bool.and_eq_true, decide_eq_true_eq]
  omega

/-- A program load that reaches beyond the last address fails its layout check (15 R496). -/
theorem programLoadRecord_beyond {w : World} {tag : BitVec 32} {start : BitVec 16} {ws : List (BitVec 64)} {s : State}
    (hTake : canTake w s = true) (hBeyond : 65536 < start.toNat + ws.length) :
    Becomes (.programLoadRecord w tag start ws) s (badRecord w s.twin.mirNext 2 tag 0x103 (tookRecord w s)) := by
  show execProgramLoadRecord w tag start ws s = _
  simp [execProgramLoadRecord, hTake, hBeyond, ok_eq]

/-- Settles O60: the loss of power empties program memory and the conductor's record, and nothing that starts the core writes them. -/
theorem programMemoryAtPowerUp : Obligations.ProgramMemoryAtPowerUp := by
  refine ⟨progWord_unloaded rfl, fun n a _ _ => inWindow_page n a, fun st crc can w tag start ws s => ⟨?_, programLoadRecord_beyond⟩⟩
  intro hEnter hOff hBack
  obtain ⟨t, hExec, hKept⟩ := mainPowerUp_condProg (st := st) (crcOk := crc) (canaryOk := can) hEnter hOff hBack
  obtain ⟨hCond, hProg⟩ := condProg_eq_iff.mp hKept
  exact ⟨t, hExec, congrArg CondS.record hCond, progWord_unloaded hProg⟩

end Sys2Proof.Machine
end

section
/-! PROOF. The reference at power-up (05 R154, R186): the event of its qualification does nothing while the reference was started as
another kind than is fitted. -/

namespace Sys2Proof.Machine

/-! ## A reference started as the wrong kind -/

/-- A wrong kind leaves the reference unqualified (05 R186). -/
theorem refQualified_of_wrong_kind {s : State} (hKind : refKindRight s = false) : refQualified s = s := by
  simp [refQualified, hKind]

/-- With no record open and no restart due, nothing follows a command. -/
theorem resume_of_idle {s : State} (hRecord : s.cond.record = none) (hDue : s.boot.restartDue = false) : resume s = s := by
  simp [resume, restartIfDue, hRecord, hDue]

/-- While the reference is of the wrong kind, REFERENCE_QUALIFIED does not start the timebase. -/
theorem referenceQualified_keeps_time {s t : State} (hKind : refKindRight s = false) (hRecord : s.cond.record = none)
    (hDue : s.boot.restartDue = false) (hExec : exec .referenceQualified s = .next t) : t.time = s.time := by
  have hSettled : exec .referenceQualified s = .next (settle s) := by
    show ok (resume (refQualified s)) = _
    rw [refQualified_of_wrong_kind hKind, resume_of_idle hRecord hDue, ok_eq]
  obtain rfl : settle s = t := Host.Outcome.next.inj (hSettled.symm.trans hExec)
  simp

/-! ## The counterexample -/

/-- A chip after power-up on a board with a TCXO, whose reference was started with TIME.REF_KIND at 0, a crystal. -/
def startedAsCrystal : State := startRef { State.reset with straps := { tcxo := true } }

theorem refKindRight_startedAsCrystal : refKindRight startedAsCrystal = false := by decide +kernel

/-- Refutes O59: its last part does not ask that the reference was started as the kind that is fitted (05 R186), and with a wrong
kind the timebase does not start counting. -/
theorem not_timebaseAtPowerUp : ¬ Obligations.TimebaseAtPowerUp := by
  intro ⟨_, h⟩
  obtain ⟨_, _, hStarts⟩ := h {} true true startedAsCrystal
  obtain ⟨t, hExec, hCounting, -, -⟩ := hStarts rfl rfl rfl rfl rfl rfl rfl rfl rfl
  have hTime : t.time = startedAsCrystal.time := referenceQualified_keeps_time refKindRight_startedAsCrystal rfl rfl hExec
  have hStopped : startedAsCrystal.time.counting = false := rfl
  rw [hTime, hStopped] at hCounting
  contradiction

end Sys2Proof.Machine
end

section
/-! PROOF. QLEN's flags (03 R102, 11 R376): the instruction leaves its issuer the status and its flag word, and bit 1 of that word is
the comparison of the occupancy with HIGH. -/

namespace Sys2Proof.Machine

/-! ## The flag word -/

/-- w2 of a QLEN of queue x: an incomplete item, the occupancy at or above HIGH, and the limit in the upper half (03 R102). -/
def Queue.qlenFlags (x : Queue) : Word := w32 (bitAt x.inc.isSome 0 + bitAt (x.high ≤ x.occ) 1 + x.limit * 65536)

theorem bitAt_eq_toNat_mul (b : Bool) (k : Nat) : bitAt b k = b.toNat * 2 ^ k := by
  cases b <;> simp [bitAt]

/-- Bit 1 stands between a lower bit and an upper half that both leave it alone. -/
theorem getLsbD_one_flags (a b : Bool) (n : Nat) : (w32 (bitAt a 0 + bitAt b 1 + n * 65536)).getLsbD 1 = b := by
  have ha : a.toNat < 2 := a.toNat_lt
  have hb : b.toNat < 2 := b.toNat_lt
  have hBit : (bitAt a 0 + bitAt b 1 + n * 65536) / 2 ^ 1 % 2 = b.toNat := by
    rw [bitAt_eq_toNat_mul, bitAt_eq_toNat_mul]
    omega
  rw [w32, BitVec.getLsbD_ofNat, Nat.testBit_eq_decide_div_mod_eq, hBit]
  cases b <;> rfl

theorem Queue.qlenFlags_high (x : Queue) : x.qlenFlags.getLsbD 1 = true ↔ x.high ≤ x.occ := by
  rw [qlenFlags, getLsbD_one_flags, decide_eq_true_iff]

/-! ## The instruction -/

/-- A status in a register set has its second detail in w2. -/
theorem RegSet.status_w2 (g : RegSet) (st : Nat) (w1 w2 : Word) : (g.status st w1 w2).w[2] = w2 := by
  simp [RegSet.status]

/-- An instruction that leaves its issuer a status leaves the second detail in w2 (02 R38). -/
theorem OnlyRegs.getW_two {who : Who} {g : RegSet} {st : Nat} {w1 w2 : Word} {s t : State}
    (h : OnlyRegs who (g.status st w1 w2) s t) : getW who 2 t = w2 := by
  rw [getW, h.regs]
  exact g.status_w2 st w1 w2

/-- QLEN of a queue leaves its issuer the count of complete items, the cells and the flags as they stand when it is read. -/
theorem qlen_givesRegs {who : Who} {c : Cond} {wd : Fin 16} {q : QRef} {k : Nat} {s : State} (hIssues : Issues who c 0x45 .all s)
    (hQueue : NamesQueue who q k s) :
    GivesRegs (.qlen who c wd q) who ((withW who wd (w32 (queue k s).complete) s).status stOK (w32 (queue k s).cells)
      (queue k s).qlenFlags) s := by
  refine regsOf hIssues rfl (withQueue_names hQueue 2 _) ?_
  rw [queue_opened]
  exact ((rs0 who s).setW wd _).ret stOK _ _

/-- Settles O58: QLEN's flag word is written last, so it stands in w2 whatever wd names, and its bit 1 is O ≥ HIGH. -/
theorem qlenReportsTheHighState : Obligations.QlenReportsTheHighState := by
  intro who c wd q k s hIssues hQueue
  obtain ⟨t, hExec, hRegs⟩ := qlen_givesRegs hIssues hQueue
  refine ⟨t, hExec, ?_⟩
  rw [hRegs.getW_two]
  exact (queue k s).qlenFlags_high

end Sys2Proof.Machine
end

section
/-! PROOF. What every command keeps (02 R42, R47; 13 R413, R416; 16 R540; 17 R558): the queue of waiting commands, the fuses burned and
the canonical form of the memories and of a twin's snapshots, as one relation between two states that composes. -/

namespace Sys2Proof.Machine

/-- What the claims about every step speak of: the queue, the fuses, the addressed memories and a twin's snapshots of them. -/
structure Core where
  pending : List Instr
  fused : Nat
  arbFuse : Nat
  vkRev : BitVec 4
  progMem : Tbl (BitVec 64)
  schedMem : Tbl Word
  ringMem : Tbl Word
  start : Option Regions
  cycle : Option Regions

def State.core (s : State) : Core :=
  { pending := s.pending, fused := s.sec.fused, arbFuse := s.boot.arbFuse, vkRev := s.boot.vkRev, progMem := s.progMem
    schedMem := s.schedMem, ringMem := s.host.ringMem, start := s.twin.start, cycle := s.twin.cycle }

/-- The memories and the snapshots are in canonical form (`MemCanonical`, in terms of the core). -/
structure Core.Canonical (c : Core) : Prop where
  prog : Tbl.wf (0x1500000000000000 : BitVec 64) c.progMem = true
  sched : Tbl.wf (0 : Word) c.schedMem = true
  ring : Tbl.wf (0 : Word) c.ringMem = true
  start : ∀ r ∈ c.start, r.Canonical
  cycle : ∀ r ∈ c.cycle, r.Canonical

theorem core_canonical_iff (s : State) : s.core.Canonical ↔ MemCanonical s := by
  constructor
  · intro ⟨hProg, hSched, hRing, hStart, hCycle⟩
    exact ⟨(Memory.wf_iff s).mpr ⟨hProg, hSched, hRing⟩, hStart, hCycle⟩
  · intro ⟨hNow, hStart, hCycle⟩
    obtain ⟨hProg, hSched, hRing⟩ := (Memory.wf_iff s).mp hNow
    exact ⟨hProg, hSched, hRing, hStart, hCycle⟩

/-- From core a to core b the queue stands, no fuse is unburned (13 R413, R416; 17 R558), and canonical memories stay canonical. -/
structure Core.Onward (a b : Core) : Prop where
  queue : b.pending = a.pending
  life : a.fused ≤ b.fused
  level : a.arbFuse ≤ b.arbFuse
  keys : a.vkRev &&& b.vkRev = a.vkRev
  memories : a.Canonical → b.Canonical

theorem Core.Onward.refl (a : Core) : a.Onward a := ⟨rfl, le_refl _, le_refl _, BitVec.and_self, id⟩

theorem Core.Onward.trans {a b c : Core} (h : a.Onward b) (h' : b.Onward c) : a.Onward c where
  queue := h'.queue.trans h.queue
  life := h.life.trans h'.life
  level := h.level.trans h'.level
  keys := by rw [← h.keys, BitVec.and_assoc, h'.keys]
  memories := h'.memories ∘ h.memories

/-- State t is reached from s without a touch of the queue, an unburned fuse or a memory out of canonical form. -/
def Keeps (s t : State) : Prop := s.core.Onward t.core

variable {s t u : State}

protected theorem Keeps.refl (s : State) : Keeps s s := Core.Onward.refl _

protected theorem Keeps.trans (h : Keeps s t) (h' : Keeps t u) : Keeps s u := Core.Onward.trans h h'

/-- An update of anything else. -/
protected theorem Keeps.same (h : Keeps s t) (e : u.core = t.core := by dsimp only [State.core]) : Keeps s u := by
  unfold Keeps
  rw [e]
  exact h

protected theorem Keeps.ite {c : Prop} [Decidable c] (ht : Keeps s t) (hu : Keeps s u) : Keeps s (if c then t else u) := by
  split
  · exact ht
  · exact hu

/-! The writes of the addressed memories. -/

protected theorem Keeps.progWord {a v} (h : Keeps s t) :
    Keeps s { t with progMem := Tbl.set 0x1500000000000000 t.progMem a v } :=
  h.trans ⟨rfl, le_refl _, le_refl _, BitVec.and_self, fun hc => { hc with prog := Tbl.set_wf _ _ _ _ hc.prog }⟩

protected theorem Keeps.schedWord {a v} (h : Keeps s t) : Keeps s { t with schedMem := Tbl.set 0 t.schedMem a v } :=
  h.trans ⟨rfl, le_refl _, le_refl _, BitVec.and_self, fun hc => { hc with sched := Tbl.set_wf _ _ _ _ hc.sched }⟩

protected theorem Keeps.ringWord {a v} (h : Keeps s t) :
    Keeps s { t with host := { t.host with ringMem := Tbl.set 0 t.host.ringMem a v } } :=
  h.trans ⟨rfl, le_refl _, le_refl _, BitVec.and_self, fun hc => { hc with ring := Tbl.set_wf _ _ _ _ hc.ring }⟩

/-! The fuses. -/

protected theorem Keeps.life {v} (h : Keeps s t) (hv : t.sec.fused ≤ v) : Keeps s { t with sec := { t.sec with fused := v } } :=
  h.trans ⟨rfl, hv, le_refl _, BitVec.and_self, fun hc => { hc with }⟩

protected theorem Keeps.burned {arb rev} (h : Keeps s t) :
    Keeps s { t with boot := { t.boot with arbFuse := max t.boot.arbFuse arb, vkRev := t.boot.vkRev ||| rev } } := by
  have hRev : t.boot.vkRev &&& (t.boot.vkRev ||| rev) = t.boot.vkRev := by
    ext i hi
    simp +contextual
  exact h.trans ⟨rfl, le_refl _, le_max_left _ _, hRev, fun hc => { hc with }⟩

/-! The snapshots of a twin. -/

/-- A snapshot that a twin may take over: none, one that it holds, or the state as it stands. -/
def Snapshot (t : State) (o : Option Regions) : Prop :=
  o = none ∨ o = t.twin.start ∨ o = t.twin.cycle ∨ o = some (regionsOf t)

theorem Snapshot.none : Snapshot t .none := .inl rfl
theorem Snapshot.start : Snapshot t t.twin.start := .inr (.inl rfl)
theorem Snapshot.cycle : Snapshot t t.twin.cycle := .inr (.inr (.inl rfl))
theorem Snapshot.now : Snapshot t (some (regionsOf t)) := .inr (.inr (.inr rfl))

theorem Snapshot.ite {c : Prop} [Decidable c] {o p : Option Regions} (ho : Snapshot t o) (hp : Snapshot t p) :
    Snapshot t (if c then o else p) := by
  split
  · exact ho
  · exact hp

theorem Snapshot.canonical {o : Option Regions} (h : Snapshot t o) (hc : t.core.Canonical) : ∀ r ∈ o, r.Canonical := by
  intro r hr
  rcases h with rfl | rfl | rfl | rfl
  · cases hr
  · exact hc.start r hr
  · exact hc.cycle r hr
  · cases hr
    exact ⟨hc.prog, hc.sched⟩

protected theorem Keeps.twin {w : TwinS} (h : Keeps s t) (hStart : Snapshot t w.start) (hCycle : Snapshot t w.cycle) :
    Keeps s { t with twin := w } :=
  h.trans ⟨rfl, le_refl _, le_refl _, BitVec.and_self, fun hc =>
    { hc with start := hStart.canonical hc, cycle := hCycle.canonical hc }⟩

protected theorem Keeps.restoreRegions {r} (h : Keeps s t) (hr : Snapshot t (some r)) : Keeps s (restoreRegions r t) :=
  h.trans ⟨rfl, le_refl _, le_refl _, BitVec.and_self, fun hc =>
    have hCanonical := hr.canonical hc r rfl
    { hc with prog := hCanonical.1, sched := hCanonical.2 }⟩

/-- The state that an operation gives beside a value. -/
protected theorem Keeps.snd {α : Type} {a : α} {x : α × State} (h : Keeps s x.2) (e : x = (a, t)) : Keeps s t := by
  rw [e] at h
  exact h

protected theorem Keeps.thd {α β : Type} {a : α} {b : β} {x : α × β × State} (h : Keeps s x.2.2) (e : x = (a, b, t)) : Keeps s t := by
  rw [e] at h
  exact h

protected theorem Keeps.foldl {α : Type} {f : State → α → State} {l : List α} (h : Keeps s t)
    (hf : ∀ {u : State} (x : α), Keeps s u → Keeps s (f u x)) : Keeps s (l.foldl f t) := by
  induction l generalizing t with
  | nil => exact h
  | cons x l ih => exact ih (hf x h)

protected theorem Keeps.foldr {α : Type} {f : α → State → State} {l : List α} (h : Keeps s t)
    (hf : ∀ {u : State} (x : α), Keeps s u → Keeps s (f x u)) : Keeps s (l.foldr f t) := by
  induction l with
  | nil => exact h
  | cons x l ih => exact hf x ih

protected theorem Keeps.foldlSnd {α β : Type} {f : β × State → α → β × State} {l : List α} {x : β × State} (h : Keeps s x.2)
    (hf : ∀ {y : β × State} (a : α), Keeps s y.2 → Keeps s (f y a).2) : Keeps s (l.foldl f x).2 := by
  induction l generalizing x with
  | nil => exact h
  | cons a l ih => exact ih (hf a h)

protected theorem Keeps.foldlThd {α β γ : Type} {f : β × γ × State → α → β × γ × State} {l : List α} {x : β × γ × State}
    (h : Keeps s x.2.2) (hf : ∀ {y : β × γ × State} (a : α), Keeps s y.2.2 → Keeps s (f y a).2.2) :
    Keeps s (l.foldl f x).2.2 := by
  induction l generalizing x with
  | nil => exact h
  | cons a l ih => exact ih (hf a h)

end Sys2Proof.Machine
end

section
/-! PROOF. The operations on the state, in the order of the model: each keeps what every command keeps. -/

namespace Sys2Proof.Machine

set_option Elab.async false

variable {s t u : State}

/-! ## Draws, time, registers and statuses -/

protected theorem Keeps.withDraw {n k} (h : Keeps s t) (hk : ∀ {v} x0, Keeps s v → Keeps s (k x0 v)) : Keeps s (withDraw n t k) := by
  unfold withDraw
  exact hk _ (.same h)

protected theorem Keeps.passTicks {n} (h : Keeps s t) : Keeps s (passTicks n t) := by
  unfold passTicks
  exact .same h

protected theorem Keeps.reachElapsed {e} (h : Keeps s t) : Keeps s (reachElapsed e t) := by
  unfold reachElapsed
  exact .passTicks h

protected theorem Keeps.reachCore {e} (h : Keeps s t) : Keeps s (reachCore e t) := by
  unfold reachCore
  exact .passTicks h

protected theorem Keeps.reachTb {t'} (h : Keeps s t) : Keeps s (reachTb t' t) := by
  unfold reachTb
  exact .passTicks h

protected theorem Keeps.modWhost {w f} (h : Keeps s t) : Keeps s (modWhost w f t) := by
  unfold modWhost
  split <;> exact .same h

protected theorem Keeps.modWorldCtx {w f} (h : Keeps s t) : Keeps s (modWorldCtx w f t) := by
  unfold modWorldCtx
  split <;> exact .same h

protected theorem Keeps.modCtx {who f} (h : Keeps s t) : Keeps s (modCtx who f t) := by
  unfold modCtx
  split
  · exact .same h
  · exact .modWorldCtx h

protected theorem Keeps.setW {who r v} (h : Keeps s t) : Keeps s (setW who r v t) := by
  unfold setW
  exact .modCtx h

protected theorem Keeps.setT {who r v} (h : Keeps s t) : Keeps s (setT who r v t) := by
  unfold setT
  exact .modCtx h

protected theorem Keeps.setP {who p v} (h : Keeps s t) : Keeps s (setP who p v t) := by
  unfold setP
  exact .modCtx h

protected theorem Keeps.modSeq {n f} (h : Keeps s t) : Keeps s (modSeq n f t) := by
  unfold modSeq
  exact .same h

protected theorem Keeps.modRecord {f} (h : Keeps s t) : Keeps s (modRecord f t) := by
  unfold modRecord
  exact .same h

protected theorem Keeps.ret {who st w1 w2} (h : Keeps s t) : Keeps s (ret who st w1 w2 t) := by
  unfold ret
  split
  · exact .modCtx h
  · exact .modRecord (.modCtx h)

protected theorem Keeps.retOk {who w1 w2} (h : Keeps s t) : Keeps s (retOk who w1 w2 t) := by
  unfold retOk
  exact .ret h

protected theorem Keeps.retRange {who pos operand} (h : Keeps s t) : Keeps s (retRange who pos operand t) := by
  unfold retRange
  exact .ret h

protected theorem Keeps.retRefused {who detail} (h : Keeps s t) : Keeps s (retRefused who detail t) := by
  unfold retRefused
  exact .ret h

protected theorem Keeps.emit {r} (h : Keeps s t) : Keeps s (emit r t) := by
  unfold emit
  exact .ite (.same h) h

protected theorem Keeps.emitPin {out level} (h : Keeps s t) : Keeps s (emitPin out level t) := by
  unfold emitPin
  exact .emit h

protected theorem Keeps.modRing {w b f} (h : Keeps s t) : Keeps s (modRing w b f t) := by
  unfold modRing
  exact .modWhost h

protected theorem Keeps.ringMemWrite {a ws} (h : Keeps s t) : Keeps s (ringMemWrite a ws t) := by
  induction ws generalizing a t with
  | nil => exact h
  | cons w ws ih => exact ih (.ringWord h)

protected theorem Keeps.postDescData {w b d data} (h : Keeps s t) : Keeps s (postDescData w b d data t) := by
  unfold postDescData
  exact .ite (.modRing (.ite h (.emit h))) (.ite (.ringMemWrite (.modRing (.modRing (.ite h (.emit h))))) (.modRing (.modRing (.ite h (.emit h)))))

protected theorem Keeps.postDesc {w b d} (h : Keeps s t) : Keeps s (postDesc w b d t) := by
  unfold postDesc
  exact .postDescData h

protected theorem Keeps.postOrHold {w isHalt d} (h : Keeps s t) : Keeps s (postOrHold w isHalt d t) := by
  unfold postOrHold
  exact .ite (.same h) (.postDesc h)

protected theorem Keeps.bumpN {id scope n} (h : Keeps s t) : Keeps s (bumpN id scope n t) := by
  unfold bumpN
  exact .same h

protected theorem Keeps.bump {id} (h : Keeps s t) : Keeps s (bump id t) := by
  unfold bump
  exact .bumpN h

protected theorem Keeps.bumpSl {id sl} (h : Keeps s t) : Keeps s (bumpSl id sl t) := by
  unfold bumpSl
  exact .bumpN h

/-! ## Parameters and counters -/

protected theorem Keeps.setPar {id scope v} (h : Keeps s t) : Keeps s (setPar id scope v t) := by
  unfold setPar
  exact .same h

protected theorem Keeps.setPend {id scope v} (h : Keeps s t) : Keeps s (setPend id scope v t) := by
  unfold setPend
  exact .same h

protected theorem Keeps.applyLatched (h : Keeps s t) : Keeps s (applyLatched t) := by
  unfold applyLatched
  refine .same (.foldl h fun _ h => ?_)
  split
  · exact .setPar h
  · exact h

protected theorem Keeps.noticePost {n} (h : Keeps s t) : Keeps s (Notice.post n t).2 := by
  unfold Notice.post
  dsimp only
  split
  · exact h
  · split
    · exact h
    · split
      · split
        · exact .postDesc h
        · split
          · exact .postDesc (.postDesc h)
          · exact .postDesc h
      · exact .postDesc h

protected theorem Keeps.setEntries {es} (h : Keeps s t) : Keeps s (setEntries es t) := by
  unfold setEntries
  exact .same h

protected theorem Keeps.report {kind subject st reporter} (h : Keeps s t) : Keeps s (report kind subject st reporter t) := by
  unfold report
  split
  · exact .setEntries h
  · split
    · split
      · exact .setEntries (.snd (.noticePost h) ‹_›)
      · exact .snd (.noticePost h) ‹_›
    · split
      · exact .same h
      · exact .same (.noticePost h)

protected theorem Keeps.notify {kind subject st block} (h : Keeps s t) : Keeps s (notify kind subject st block t) := by
  unfold notify
  exact .report h

protected theorem Keeps.setXovr {b} (h : Keeps s t) : Keeps s (setXovr b t) := by
  unfold setXovr
  exact .ite (.notify (.same h)) (.same h)

/-! ## Queues, cells and jobs -/

protected theorem Keeps.modJob {ref f} (h : Keeps s t) : Keeps s (modJob ref f t) := by
  unfold modJob
  exact .same h

protected theorem Keeps.journal {e} (h : Keeps s t) : Keeps s (journal e t) := by
  unfold journal
  exact .same h

protected theorem Keeps.setStage {ref st status} (h : Keeps s t) : Keeps s (setStage ref st status t) := by
  unfold setStage
  exact .ite (.modJob (.journal h)) h

protected theorem Keeps.addAttempt {ref} (h : Keeps s t) : Keeps s (addAttempt ref t) := by
  unfold addAttempt
  exact .modJob h

protected theorem Keeps.setTrunc {ref b} (h : Keeps s t) : Keeps s (setTrunc ref b t) := by
  unfold setTrunc
  exact .modJob h

protected theorem Keeps.noteAck {ref o} (h : Keeps s t) : Keeps s (noteAck ref o t) := by
  unfold noteAck
  exact .ite (.modJob h) h

protected theorem Keeps.takeJob (h : Keeps s t) : Keeps s (takeJob t).2 := by
  unfold takeJob
  exact .setStage (.same h)

protected theorem Keeps.freeJob {ref why status} (h : Keeps s t) : Keeps s (freeJob ref why status t) := by
  unfold freeJob
  exact .same (.modJob (.setStage h))

protected theorem Keeps.takeCells {n} (h : Keeps s t) : Keeps s (takeCells n t).2 := by
  unfold takeCells
  exact .same h

protected theorem Keeps.giveCells {it} (h : Keeps s t) : Keeps s (giveCells it t) := by
  unfold giveCells
  exact .same h

protected theorem Keeps.zeroCells {cs} (h : Keeps s t) : Keeps s (zeroCells cs t) := by
  unfold zeroCells
  exact .same h

protected theorem Keeps.countToQueue {it} (h : Keeps s t) : Keeps s (countToQueue it t) := by
  unfold countToQueue
  exact .same h

protected theorem Keeps.countToHeld {it} (h : Keeps s t) : Keeps s (countToHeld it t) := by
  unfold countToHeld
  exact .same (.modJob h)

protected theorem Keeps.retireHeld {it why status} (h : Keeps s t) : Keeps s (retireHeld it why status t) := by
  unfold retireHeld
  exact .freeJob (.giveCells (.same h))

protected theorem Keeps.retireQueued {it why status} (h : Keeps s t) : Keeps s (retireQueued it why status t) := by
  unfold retireQueued
  exact .freeJob (.giveCells (.same h))

protected theorem Keeps.reHigh {q} (h : Keeps s t) : Keeps s (reHigh q t) := by
  unfold reHigh
  exact .ite (.ite (.notify (.same h)) (.same h)) (.ite (.same h) h)

protected theorem Keeps.modQ {q f} (h : Keeps s t) : Keeps s (modQ q f t) := by
  unfold modQ
  exact .reHigh (.same h)

protected theorem Keeps.popItem {q it} (h : Keeps s t) : Keeps s (popItem q it t) := by
  unfold popItem
  exact .countToHeld (.modQ h)

protected theorem Keeps.linkTail {q it} (h : Keeps s t) : Keeps s (linkTail q it t) := by
  unfold linkTail
  exact .countToQueue (.modQ h)

protected theorem Keeps.pushItem {q it} (h : Keeps s t) (e : pushItem q it t = some u) : Keeps s u := by
  unfold pushItem at e
  split at e
  · cases e
  · cases e
    exact .setStage (.linkTail (.modQ h))

protected theorem Keeps.returnHead {q it} (h : Keeps s t) : Keeps s (returnHead q it t) := by
  unfold returnHead
  exact .countToQueue (.modQ (.ite (.modJob h) h))

protected theorem Keeps.toException {it why} (h : Keeps s t) : Keeps s (toException it why t) := by
  unfold toException
  exact .bump (.linkTail (.modJob h))

protected theorem Keeps.excFromQueue {q p why} (h : Keeps s t) : Keeps s (excFromQueue q p why t) := by
  unfold excFromQueue
  split
  · exact .toException (.countToHeld (.modQ h))
  · exact h

protected theorem Keeps.pushOrExc {q it} (h : Keeps s t) : Keeps s (pushOrExc q it t) := by
  unfold pushOrExc
  split
  · exact .pushItem h ‹_›
  · exact .toException (.setStage (.bump h))

protected theorem Keeps.createItem {it} (h : Keeps s t) : Keeps s (createItem it t).2 := by
  unfold createItem
  dsimp only
  split
  · exact .same (.takeCells (.takeJob h))
  · exact .bump h

protected theorem Keeps.modPort {w f} (h : Keeps s t) : Keeps s (modPort w f t) := by
  unfold modPort
  split <;> exact .same h

protected theorem Keeps.removedMidItem {q it status} (h : Keeps s t) : Keeps s (removedMidItem q it status t) := by
  unfold removedMidItem
  exact .notify (.bump (.ite (.modPort h) (.ite (.modPort h) h)))

protected theorem Keeps.dropRest {q status} (h : Keeps s t) : Keeps s (dropRest q status t) := by
  unfold dropRest
  split
  · exact .removedMidItem (.retireQueued (.modQ h))
  · exact h

protected theorem Keeps.dropHeldOpen {w status} (h : Keeps s t) : Keeps s (dropHeldOpen w status t) := by
  unfold dropHeldOpen
  split
  · exact .notify (.bump (.retireHeld (.modPort h)))
  · exact h

protected theorem Keeps.flushQueue {q} (h : Keeps s t) : Keeps s (flushQueue q t) := by
  unfold flushQueue
  dsimp only
  split
  · exact .removedMidItem (.retireQueued (.foldl (.modQ h) fun _ h => .retireQueued h))
  · exact .foldl (.modQ h) fun _ h => .retireQueued h

protected theorem Keeps.setCounters (h : Keeps s t) : Keeps s (setCounters t) := by
  unfold setCounters
  exact .same h

protected theorem Keeps.modItem {q ref f} (h : Keeps s t) : Keeps s (modItem q ref f t) := by
  unfold modItem
  exact .modQ h

/-! ## Links -/

protected theorem Keeps.modLink {l f} (h : Keeps s t) : Keeps s (modLink l f t) := by
  unfold modLink
  exact .same h

protected theorem Keeps.modVc {l v f} (h : Keeps s t) : Keeps s (modVc l v f t) := by
  unfold modVc
  exact .modLink h

protected theorem Keeps.pump {l v} (h : Keeps s t) : Keeps s (pump l v t) := by
  unfold pump
  exact .ite h (.modVc h)

protected theorem Keeps.retireCovered {l v d} (h : Keeps s t) : Keeps s (retireCovered l v d t) := by
  unfold retireCovered
  refine .foldl (.modVc h) fun _ h => ?_
  split
  · exact .retireHeld h
  · exact h

protected theorem Keeps.disposed {l v n frames} (h : Keeps s t) : Keeps s (disposed l v n frames t) := by
  unfold disposed
  exact .modVc h

protected theorem Keeps.emitCas {l v n octets} (h : Keeps s t) : Keeps s (emitCas l v n octets t) := by
  unfold emitCas
  exact .emit h

protected theorem Keeps.sendOn {l v f} (h : Keeps s t) : Keeps s (sendOn l v f t).2 := by
  unfold sendOn
  exact .pump (.modVc (.emitCas h))

protected theorem Keeps.sendMsg {f} (h : Keeps s t) : Keeps s (sendMsg f t) := by
  unfold sendMsg
  exact .foldl h fun _ h => .sendOn h

protected theorem Keeps.returnRetained {fs} (h : Keeps s t) : Keeps s (returnRetained fs t) := by
  unfold returnRetained
  refine .foldr h fun _ h => ?_
  split
  · exact .returnHead h
  · exact h

protected theorem Keeps.returnMoved {l} (h : Keeps s t) : Keeps s (returnMoved t l) := by
  unfold returnMoved
  exact .foldl h fun _ h => .returnRetained (.modVc h)

protected theorem Keeps.notePresence {p} (h : Keeps s t) : Keeps s (notePresence t p) := by
  unfold notePresence
  exact .ite (.ite (.same h) (.notify (.same h))) (.ite (.same h) h)

protected theorem Keeps.recompute (h : Keeps s t) : Keeps s (recompute t) := by
  unfold recompute
  exact .foldl (.foldl (.foldl (.same h) fun _ h => .ite (.modLink h) h) fun _ h => .returnMoved h) fun _ h => .notePresence h

protected theorem Keeps.handSeries {a b} (h : Keeps s t) : Keeps s (handSeries a b t) := by
  unfold handSeries
  exact .modLink (.modLink h)

protected theorem Keeps.linkDown {l status} (h : Keeps s t) : Keeps s (linkDown l status t) := by
  unfold linkDown
  split
  · split
    · exact .recompute (.notify (.modLink (.handSeries h)))
    · exact .recompute (.notify (.modLink (.returnRetained h)))
  · exact .modLink h

protected theorem Keeps.linksDown {status} (h : Keeps s t) : Keeps s (linksDown status t) := by
  unfold linksDown
  exact .foldl h fun _ h => .modLink (.linkDown h)

protected theorem Keeps.startLinks (h : Keeps s t) : Keeps s (startLinks t) := by
  unfold startLinks
  exact .foldl h fun _ h => .ite (.modLink h) h

protected theorem Keeps.resyncBegin {l v} (h : Keeps s t) : Keeps s (resyncBegin l v t) := by
  unfold resyncBegin
  exact .ite h (.bump (.modVc h))

protected theorem Keeps.resyncReport {l v status} (h : Keeps s t) : Keeps s (resyncReport l v status t) := by
  unfold resyncReport
  exact .resyncBegin (.notify h)

/-! ## Sequencers, notices and records -/

protected theorem Keeps.modSlice {n f} (h : Keeps s t) : Keeps s (modSlice n f t) := by
  unfold modSlice
  exact .same h

protected theorem Keeps.setLane {k l} (h : Keeps s t) : Keeps s (setLane k l t) := by
  unfold setLane
  exact .same h

protected theorem Keeps.modLane {k f} (h : Keeps s t) : Keeps s (modLane k f t) := by
  unfold modLane
  exact .same h

protected theorem Keeps.setPc {who pc} (h : Keeps s t) : Keeps s (setPc who pc t) := by
  unfold setPc
  split
  · exact .modSeq h
  · exact h
  · exact .modRecord h

protected theorem Keeps.advance {who} (h : Keeps s t) : Keeps s (advance who t) := by
  unfold advance
  exact .setPc h

protected theorem Keeps.postCompletion {w kind executed tag w0 w1 w2} (h : Keeps s t) :
    Keeps s (postCompletion w kind executed tag w0 w1 w2 t) := by
  unfold postCompletion
  exact .ite (.postDesc h) h

protected theorem Keeps.stopCommand {w} (h : Keeps s t) : Keeps s (stopCommand w t) := by
  unfold stopCommand
  exact .ite (.modRecord (.modRing h)) (.modRing h)

protected theorem Keeps.stopOrphan {w} (h : Keeps s t) : Keeps s (stopOrphan w t) := by
  unfold stopOrphan
  exact .ite (.stopCommand h) h

protected theorem Keeps.passCommand {w} (h : Keeps s t) : Keeps s (passCommand w t) := by
  unfold passCommand
  exact .modRing h

protected theorem Keeps.endRecord {more} (h : Keeps s t) : Keeps s (endRecord more t) := by
  unfold endRecord
  split
  · exact h
  · exact .stopOrphan (.stopOrphan (.same (.ite (.passCommand (.ite (.sendMsg (.ite (.postCompletion h) h)) (.ite (.postCompletion h) h))) (.ite (.sendMsg (.ite (.postCompletion h) h)) (.ite (.postCompletion h) h)))))

protected theorem Keeps.unblockSlice {n st w1 w2} (h : Keeps s t) : Keeps s (unblockSlice n st w1 w2 t) := by
  unfold unblockSlice
  exact .ite (.advance (.ret (.modSeq h))) h

protected theorem Keeps.unblockCond {st w1 w2} (h : Keeps s t) : Keeps s (unblockCond st w1 w2 t) := by
  unfold unblockCond
  exact .ite (.advance (.ret (.same h))) h

protected theorem Keeps.unblock {q st w1 w2} (h : Keeps s t) : Keeps s (unblock q st w1 w2 t) := by
  unfold unblock
  split
  · exact .unblockSlice h
  · exact .unblockCond h

protected theorem Keeps.block {who a} (h : Keeps s t) : Keeps s (block who a t) := by
  unfold block
  split
  · exact .modSeq h
  · exact .same h

protected theorem Keeps.kickWdog {q} (h : Keeps s t) : Keeps s (kickWdog q t) := by
  unfold kickWdog
  split
  · exact .modSeq h
  · exact h

protected theorem Keeps.resetBackoff {q} (h : Keeps s t) : Keeps s (resetBackoff q t) := by
  unfold resetBackoff
  exact .modQ h

protected theorem Keeps.goBack {it q from_ flush} (h : Keeps s t) : Keeps s (goBack it q from_ flush t) := by
  unfold goBack
  split
  · exact .returnHead h
  · exact .ite (.returnHead h) (.toException h)

protected theorem Keeps.keepFrame {n it q from_ flush} (h : Keeps s t) : Keeps s (keepFrame n it q from_ flush t) := by
  unfold keepFrame
  split
  · exact .returnHead h
  · exact .modCtx h

protected theorem Keeps.noAck {n it q from_ flush status} (h : Keeps s t) : Keeps s (noAck n it q from_ flush status t) := by
  unfold noAck
  dsimp only
  split
  · split
    · exact .goBack (.setStage (.addAttempt (.setStage h)))
    · exact .ite (.withDraw (.goBack (.setStage (.addAttempt (.setStage h)))) fun _ h => .modQ h) (.goBack (.setStage (.addAttempt (.setStage h))))
  · split
    · exact .toException (.addAttempt (.setStage h))
    · exact .resetBackoff (.toException (.addAttempt (.setStage h)))

protected theorem Keeps.returnHeld {who} (h : Keeps s t) : Keeps s (returnHeld who t) := by
  unfold returnHeld
  exact .foldl (.modCtx h) fun _ h => .goBack h

protected theorem Keeps.haltCond {who reason status trap word} (h : Keeps s t) : Keeps s (haltCond who reason status trap word t) := by
  unfold haltCond
  exact .withDraw h fun _ h => .endRecord (.postOrHold (.returnHeld (.modCtx (.ite h (.setW h)))))

protected theorem Keeps.unselect {a} (h : Keeps s t) : Keeps s (unselect a t) := by
  unfold unselect
  split
  · exact .ite (.modQ (.modItem h)) h
  · exact h

protected theorem Keeps.endAckWait {n status} (h : Keeps s t) : Keeps s (endAckWait n status t) := by
  unfold endAckWait
  split
  · exact h
  · exact .noAck (.modSlice h)

protected theorem Keeps.cancelAir {n} (h : Keeps s t) : Keeps s (cancelAir n t) := by
  unfold cancelAir
  split
  · exact .endAckWait (.modSlice (.unselect h))
  · exact .endAckWait (.modSlice h)

protected theorem Keeps.haltSlice {n reason status trap offline} (h : Keeps s t) :
    Keeps s (haltSlice n reason status trap offline t) := by
  unfold haltSlice
  exact .ite (.cancelAir (.returnHeld (.modSeq h))) (.postOrHold (.cancelAir (.returnHeld (.modSeq h))))

protected theorem Keeps.haltWho {who reason status trap word} (h : Keeps s t) : Keeps s (haltWho who reason status trap word t) := by
  unfold haltWho
  split
  · exact .haltSlice h
  · exact .haltCond h

protected theorem Keeps.startSeq {n window entry} (h : Keeps s t) : Keeps s (startSeq n window entry t) := by
  unfold startSeq
  exact .modSlice (.modSeq h)

protected theorem Keeps.startOwn {n} (h : Keeps s t) : Keeps s (startOwn n t) := by
  unfold startOwn
  exact .ite (.startSeq h) h

protected theorem Keeps.takeHalt {n} (h : Keeps s t) : Keeps s (takeHalt n t) := by
  unfold takeHalt
  split
  · exact h
  · exact .ite (.startOwn (.haltSlice h)) (.haltSlice h)

protected theorem Keeps.endFeout {n st w1 w2} (h : Keeps s t) : Keeps s (endFeout n st w1 w2 t) := by
  unfold endFeout
  exact .takeHalt (.unblockSlice h)

protected theorem Keeps.inContext {who f} (h : Keeps s t) (hf : ∀ {v}, Keeps s v → Keeps s (f v)) : Keeps s (inContext who f t) := by
  unfold inContext
  split
  · split
    · exact hf h
    · have hBody : ∀ {r}, Keeps s (f { t with cond := { t.cond with record := some r }, twin := { t.twin with mirNext := false } }) :=
        hf (.same h)
      dsimp only
      split
      · exact hBody
      · exact .ite (.modRecord hBody) (.same hBody)
  · exact hf h

protected theorem Keeps.issueF {who c op p body} (h : Keeps s t) (hbody : ∀ {v}, Keeps s v → Keeps s (body v)) :
    Keeps s (issueF who c op p body t) := by
  unfold issueF
  refine .ite h (.inContext h fun h => ?_)
  split
  · exact .haltWho h
  · split
    · exact .advance h
    · split
      · exact .advance (.ret h)
      · split
        · exact .advance (.ret h)
        · split
          · exact .advance (.ret h)
          · exact hbody h

protected theorem Keeps.issue {who c op p body} (h : Keeps s t) (hbody : ∀ {v}, Keeps s v → Keeps s (body v)) :
    Keeps s (issue who c op p body t) := by
  unfold issue
  exact .issueF h fun h => .advance (hbody h)

protected theorem Keeps.issueB {who c op p body} (h : Keeps s t) (hbody : ∀ {v}, Keeps s v → Keeps s (body v)) :
    Keeps s (issueB who c op p body t) := by
  unfold issueB
  exact .issueF h fun h => .ite (hbody h) (.advance (hbody h))

protected theorem Keeps.startPending {who op} (h : Keeps s t) : Keeps s (startPending who op t) := by
  unfold startPending
  exact .ret (.modCtx h)

protected theorem Keeps.endPending {who ticket op st d1 d2} (h : Keeps s t) : Keeps s (endPending who ticket op st d1 d2 t) := by
  unfold endPending
  dsimp only
  split
  · split
    · exact .ite (.advance (.modSeq (.postOrHold (.modCtx h)))) (.postOrHold (.modCtx h))
    · exact .ite (.advance (.same (.postOrHold (.modCtx h)))) (.postOrHold (.modCtx h))
  · exact .postOrHold (.modCtx h)

/-! ## Status summary -/

protected theorem Keeps.psumSync1 {w} (h : Keeps s t) : Keeps s (psumSync1 w t) := by
  unfold psumSync1
  exact .ite h (.modWhost h)

protected theorem Keeps.psumSync (h : Keeps s t) : Keeps s (psumSync t) := by
  unfold psumSync
  exact .psumSync1 (.psumSync1 h)

protected theorem Keeps.flowSync (h : Keeps s t) : Keeps s (flowSync t) := by
  unfold flowSync
  exact .ite (.foldl h fun _ h => .ite h (.emitPin (.same h))) h

/-! ## Operands -/

protected theorem Keeps.withQueue {who q pos body} (h : Keeps s t) (hbody : ∀ {v} x0, Keeps s v → Keeps s (body x0 v)) :
    Keeps s (withQueue who q pos body t) := by
  unfold withQueue
  split
  · exact hbody _ h
  · exact .ite (hbody _ h) (.retRange h)

protected theorem Keeps.withPair {who r pos body} (h : Keeps s t) (hbody : ∀ {v} x0, Keeps s v → Keeps s (body x0 v)) :
    Keeps s (withPair who r pos body t) := by
  unfold withPair
  split
  · exact hbody _ h
  · exact .retRange h

protected theorem Keeps.withSlice {who f pos op body} (h : Keeps s t) (hbody : ∀ {v} x0, Keeps s v → Keeps s (body x0 v)) :
    Keeps s (withSlice who f pos op body t) := by
  unfold withSlice
  split
  · split
    · exact hbody _ h
    · split
      · exact .ite (hbody _ h) (.ret h)
      · exact .retRange h
  · split
    · exact hbody _ h
    · exact .retRange h

protected theorem Keeps.withTime {who t' pos body} (h : Keeps s t) (hbody : ∀ {v} x0, Keeps s v → Keeps s (body x0 v)) :
    Keeps s (withTime who t' pos body t) := by
  unfold withTime
  exact .ite (hbody _ h) (.retRange h)

end Sys2Proof.Machine
end

section
/-! PROOF. The slices, the tables, the timebase and the keys: each operation keeps what every command keeps. -/

namespace Sys2Proof.Machine

set_option Elab.async false

variable {s t u : State}

/-! ## Modem profiles -/

protected theorem Keeps.modProfile {k f} (h : Keeps s t) : Keeps s (modProfile k f t) := by
  unfold modProfile
  exact .same h

protected theorem Keeps.profCommit {v} (h : Keeps s t) : Keeps s (profCommit v t).2 := by
  unfold profCommit
  dsimp only
  split
  · exact h
  · split
    · split
      · exact .modProfile h
      · exact h
    · split
      · exact .modProfile h
      · split
        · exact .same (.foldl h fun _ h => .setPar h)
        · exact h

/-! ## Operations of the slices -/

protected theorem Keeps.modRoster {idx f} (h : Keeps s t) : Keeps s (modRoster idx f t) := by
  unfold modRoster
  exact .ite h (.same h)

protected theorem Keeps.observe {idx m a c sl} (h : Keeps s t) : Keeps s (observe idx m a c sl t) := by
  unfold observe
  exact .modRoster (.ite (.same h) h)

protected theorem Keeps.missedNode {idx closeAt} (h : Keeps s t) : Keeps s (missedNode idx closeAt t) := by
  unfold missedNode
  exact .ite h (.ite (.notify (.modRoster h)) (.modRoster h))

protected theorem Keeps.openWait {n} (h : Keeps s t) : Keeps s (openWait t n) := by
  unfold openWait
  split
  · exact h
  · exact .ite h (.modSlice (.ite h (.bumpSl h)))

protected theorem Keeps.openWaits (h : Keeps s t) : Keeps s (openWaits t) := by
  unfold openWaits
  exact .foldl h fun _ h => .openWait h

protected theorem Keeps.openWin {n} (h : Keeps s t) : Keeps s (openWin n t) := by
  unfold openWin
  dsimp only
  split
  · exact .openWaits h
  · exact .modSlice (.ite (.bumpSl (.openWaits h)) (.openWaits h))

protected theorem Keeps.winDone {n st w1 w2} (h : Keeps s t) : Keeps s (winDone n st w1 w2 t) := by
  unfold winDone
  exact .ite (.unblockSlice (.modSlice h)) (.modSlice h)

protected theorem Keeps.winEmpty {n w} (h : Keeps s t) : Keeps s (winEmpty n w t) := by
  unfold winEmpty
  split
  · exact .winDone h
  · split
    · exact .winDone h
    · split
      · exact .winDone (.missedNode h)
      · exact .winDone h

protected theorem Keeps.winLaneLost {n k fails} (h : Keeps s t) : Keeps s (winLaneLost n k fails t) := by
  unfold winLaneLost
  split
  · exact h
  · exact .ite (.ite (.winEmpty (.modSlice h)) (.modSlice h)) h

protected theorem Keeps.winFailed {n k st} (h : Keeps s t) : Keeps s (winFailed n k st t) := by
  unfold winFailed
  split
  · exact h
  · exact .ite (.winDone h) h

protected theorem Keeps.txfDone {n st w1 w2} (h : Keeps s t) : Keeps s (txfDone n st w1 w2 t) := by
  unfold txfDone
  exact .ite (.unblockSlice (.modSlice h)) (.modSlice h)

protected theorem Keeps.txfResult {n st job launch ts loss} (h : Keeps s t) : Keeps s (txfResult n st job launch ts loss t) := by
  unfold txfResult
  split <;> exact .txfDone h

protected theorem Keeps.txBack {n t'} (h : Keeps s t) : Keeps s (txBack n t' t) := by
  unfold txBack
  exact .ite (.keepFrame h) (.goBack h)

protected theorem Keeps.emitCut {n job status} (h : Keeps s t) : Keeps s (emitCut n job status t) := by
  unfold emitCut
  exact .ite (.withDraw h fun _ h => .emit h) h

protected theorem Keeps.noteSent {n launch} (h : Keeps s t) : Keeps s (noteSent n launch t) := by
  unfold noteSent
  exact .modSlice h

protected theorem Keeps.offAir {n endAt airing} (h : Keeps s t) : Keeps s (offAir n endAt airing t) := by
  unfold offAir
  exact .ite (.modSlice (.foldl h fun _ h => .modSlice h)) h

protected theorem Keeps.cutTx {n status} (h : Keeps s t) : Keeps s (cutTx n status t) := by
  unfold cutTx
  split
  · exact h
  · exact .txBack (.offAir (.noteSent (.modSlice (.setStage (.setTrunc (.addAttempt (.emitCut h)))))))

protected theorem Keeps.unlaunch {n status} (h : Keeps s t) : Keeps s (unlaunch n status t) := by
  unfold unlaunch
  split
  · exact h
  · exact .txBack (.offAir (.modSlice (.setStage h)))

protected theorem Keeps.ackFailed {n} (h : Keeps s t) : Keeps s (ackFailed n t) := by
  unfold ackFailed
  split
  · exact h
  · exact .ite (.txfResult (.endAckWait h)) (.endAckWait h)

protected theorem Keeps.dropAcks {n p} (h : Keeps s t) : Keeps s (dropAcks n p t) := by
  unfold dropAcks
  dsimp only
  split
  · exact .ite (.winDone (.foldl (.bumpN (.modSlice h)) fun _ h => .offAir (.noteAck (.ite (.noteSent h) h)))) (.foldl (.bumpN (.modSlice h)) fun _ h => .offAir (.noteAck (.ite (.noteSent h) h)))
  · exact .foldl (.bumpN (.modSlice h)) fun _ h => .offAir (.noteAck (.ite (.noteSent h) h))

protected theorem Keeps.dropEnhAck {n} (h : Keeps s t) : Keeps s (dropEnhAck n t) := by
  unfold dropEnhAck
  exact .dropAcks h

protected theorem Keeps.noteBusy {n t' since} (h : Keeps s t) : Keeps s (noteBusy n t' since t) := by
  unfold noteBusy
  exact .modSlice h

protected theorem Keeps.releaseLane {k} (h : Keeps s t) : Keeps s (releaseLane k t) := by
  unfold releaseLane
  exact .setLane h

protected theorem Keeps.ackLaneLost {n k} (h : Keeps s t) : Keeps s (ackLaneLost n k t) := by
  unfold ackLaneLost
  split
  · exact h
  · exact .ite (.ite (.modSlice h) (.ackFailed h)) h

protected theorem Keeps.removeAck {n k} (h : Keeps s t) : Keeps s (removeAck n k t) := by
  unfold removeAck
  exact .modSlice h

protected theorem Keeps.loseLane {k st fails} (h : Keeps s t) : Keeps s (loseLane k st fails t) := by
  unfold loseLane
  split
  · exact h
  · exact .ite (.winFailed (.ackLaneLost (.removeAck (.releaseLane (.noteBusy h))))) (.winLaneLost (.ackLaneLost (.removeAck (.releaseLane (.noteBusy h)))))

protected theorem Keeps.abandonLane {n k} (h : Keeps s t) : Keeps s (abandonLane n t k) := by
  unfold abandonLane
  exact .ite (.bumpSl (.loseLane h)) h

protected theorem Keeps.abandonAll {n} (h : Keeps s t) : Keeps s (abandonAll n t) := by
  unfold abandonAll
  exact .foldl h fun _ h => .abandonLane h

protected theorem Keeps.noteFallback {n it} (h : Keeps s t) : Keeps s (noteFallback n it t) := by
  unfold noteFallback
  exact .notify (.bumpSl h)

protected theorem Keeps.txPower {n} (h : Keeps s t) : Keeps s (txPower n t).2 := by
  unfold txPower
  dsimp only
  split
  · split
    · exact .bumpSl h
    · exact h
  · split
    · exact .bumpSl h
    · exact h

protected theorem Keeps.takeSelected {n a it} (h : Keeps s t) : Keeps s (takeSelected n a it t) := by
  unfold takeSelected
  split
  · exact .countToHeld (.modQ h)
  · exact .modCtx h

protected theorem Keeps.tryLaunch {n} (h : Keeps s t) : Keeps s (tryLaunch n t) := by
  unfold tryLaunch
  dsimp only
  split
  · exact h
  · split
    · exact h
    · exact .ite h (.ite (.txfDone (.unselect (.bumpSl h))) (.modSlice (.setStage (.takeSelected (.txPower (.ite (.noteFallback h) h))))))

protected theorem Keeps.onLock {n} (h : Keeps s t) : Keeps s (onLock n t) := by
  unfold onLock
  split
  · exact .tryLaunch (.ite (.openWin h) h)
  · exact .tryLaunch h

protected theorem Keeps.feQueue {w} (h : Keeps s t) : Keeps s (feQueue w t) := by
  unfold feQueue
  exact .ite (.same h) (.same h)

protected theorem Keeps.beginRetune {n} (h : Keeps s t) : Keeps s (beginRetune n t) := by
  unfold beginRetune
  dsimp only
  split
  · exact h
  · exact .ite (.feQueue (.modSlice h)) (.modSlice h)

protected theorem Keeps.beginCal {n} (h : Keeps s t) : Keeps s (beginCal n t) := by
  unfold beginCal
  exact .ite (.feQueue (.dropEnhAck (.ackFailed (.modSlice (.abandonAll h))))) (.dropEnhAck (.ackFailed (.modSlice (.abandonAll h))))

protected theorem Keeps.afterCal {n} (h : Keeps s t) : Keeps s (afterCal n t) := by
  unfold afterCal
  dsimp only
  split
  · exact .ite (.ite (.modSlice h) (.beginRetune (.modSlice h))) (.ite (.ite (.onLock (.modSlice (.modSlice h))) (.modSlice h)) (.modSlice (.modSlice h)))
  · exact .modSlice (.modSlice h)

protected theorem Keeps.sliceFault {n cause} (h : Keeps s t) : Keeps s (sliceFault n cause t) := by
  unfold sliceFault
  dsimp only
  split
  · exact h
  · split
    · split
      · exact .notify (.modSlice (.haltSlice (.abandonAll (.dropEnhAck (.ite (.modSlice h) (.ite (.cutTx h) (.unlaunch h)))))))
      · exact .notify (.modSlice (.haltSlice (.abandonAll (.dropEnhAck h))))
    · split
      · exact .notify (.modSlice (.haltSlice (.abandonAll (.dropEnhAck (.ite (.modSlice h) (.ite (.cutTx h) (.unlaunch h)))))))
      · exact .notify (.modSlice (.haltSlice (.abandonAll (.dropEnhAck h))))
    · split
      · exact .notify (.modSlice (.cancelAir (.modSeq (.abandonAll (.dropEnhAck (.ite (.modSlice h) (.ite (.cutTx h) (.unlaunch h))))))))
      · exact .notify (.modSlice (.cancelAir (.modSeq (.abandonAll (.dropEnhAck h)))))

/-! ## Radio -/

protected theorem Keeps.retCalBusy {who n} (h : Keeps s t) : Keeps s (retCalBusy who n t) := by
  unfold retCalBusy
  exact .ret h

protected theorem Keeps.radioReady {who n body} (h : Keeps s t) (hbody : ∀ {v}, Keeps s v → Keeps s (body v)) :
    Keeps s (radioReady who n body t) := by
  unfold radioReady
  exact .ite (.retRefused h) (.ite (.retRefused h) (.ite (.retCalBusy h) (hbody h)))

protected theorem Keeps.tuneTo {who n g t'} (h : Keeps s t) : Keeps s (tuneTo who n g t' t) := by
  unfold tuneTo
  exact .ite (.ret (.modSlice h)) (.ret (.modSlice (.ite (.modSlice (.abandonAll h)) (.beginRetune (.modSlice (.abandonAll h))))))

protected theorem Keeps.startCal {n mask ticket} (h : Keeps s t) : Keeps s (startCal n mask ticket t) := by
  unfold startCal
  exact .ite (.modSlice h) (.beginCal (.modSlice h))

protected theorem Keeps.calDone {n failed} (h : Keeps s t) : Keeps s (calDone n failed t) := by
  unfold calDone
  dsimp only
  split
  · exact h
  · split
    · split
      · exact h
      · split
        · exact .endPending (.afterCal (.modSlice (.reachElapsed h)))
        · exact .ite (.unblockSlice (.afterCal (.modSlice (.reachElapsed h)))) (.afterCal (.modSlice (.reachElapsed h)))
    · split
      · exact h
      · split
        · exact .endPending (.afterCal (.modSlice (.reachElapsed h)))
        · exact .ite (.unblockSlice (.afterCal (.modSlice (.reachElapsed h)))) (.afterCal (.modSlice (.reachElapsed h)))

protected theorem Keeps.tempCalStart {n} (h : Keeps s t) : Keeps s (tempCalStart n t) := by
  unfold tempCalStart
  exact .ite (.bumpSl (.beginCal (.modSlice h))) h

protected theorem Keeps.rxwinArm {who n node ts res half} (h : Keeps s t) : Keeps s (rxwinArm who n node ts res half t) := by
  unfold rxwinArm
  exact .radioReady h fun h => .ite (.retRefused h) (.ite (.retRefused h) (.block (.modSlice h)))

protected theorem Keeps.txfArm {who n a} (h : Keeps s t) : Keeps s (txfArm who n a t) := by
  unfold txfArm
  exact .radioReady h fun h => .ite (.retRefused h) (.ite (.retRefused h) (.ite (.ret h) (.ite (.retRefused h) (.block (.modSlice h)))))

protected theorem Keeps.txfSelectQ {n a q} (h : Keeps s t) : Keeps s (txfSelectQ n a q t) := by
  unfold txfSelectQ
  split
  · exact .txfDone (.modQ h)
  · split
    · exact .txfDone h
    · exact .ite (.txfDone (.resetBackoff (.excFromQueue (.modQ h)))) (.tryLaunch (.modSlice (.modQ (.modItem h))))

protected theorem Keeps.retryLaunches (h : Keeps s t) : Keeps s (retryLaunches t) := by
  unfold retryLaunches
  exact .foldl h fun _ h => .tryLaunch h

protected theorem Keeps.startBlanking {n launch endAt} (h : Keeps s t) : Keeps s (startBlanking n launch endAt t) := by
  unfold startBlanking
  exact .modSlice (.foldl h fun _ h => .abandonAll (.modSlice h))

protected theorem Keeps.captureTx {n at_} (h : Keeps s t) : Keeps s (captureTx n at_ t) := by
  unfold captureTx
  exact .modSlice h

protected theorem Keeps.putOnAir {n tap f} (h : Keeps s t) : Keeps s (putOnAir n tap f t) := by
  unfold putOnAir
  exact .ite h (.modSlice h)

protected theorem Keeps.emitLaunch {n launch kind job mode len data} (h : Keeps s t) :
    Keeps s (emitLaunch n launch kind job mode len data t) := by
  unfold emitLaunch
  exact .emit h

protected theorem Keeps.recirculate {q it} (h : Keeps s t) : Keeps s (recirculate q it t) := by
  unfold recirculate
  split
  · exact .pushItem h ‹_›
  · exact .toException (.setStage (.bump h))

protected theorem Keeps.frameAired {n t'} (h : Keeps s t) : Keeps s (frameAired n t' t) := by
  unfold frameAired
  dsimp only
  split
  · exact .modSlice (.noteSent (.modSlice (.setStage (.ite (.putOnAir h) h))))
  · split
    · exact .noAck (.noteSent (.modSlice (.setStage (.ite (.putOnAir h) h))))
    · split
      · split
        · exact .txfResult (.recirculate (.noteSent (.modSlice (.setStage (.ite (.putOnAir h) h)))))
        · exact .txfResult (.retireHeld (.noteSent (.modSlice (.setStage (.ite (.putOnAir h) h)))))
      · split
        · exact .recirculate (.noteSent (.modSlice (.setStage (.ite (.putOnAir h) h))))
        · exact .retireHeld (.noteSent (.modSlice (.setStage (.ite (.putOnAir h) h))))

protected theorem Keeps.enhAckAired {n e} (h : Keeps s t) : Keeps s (enhAckAired n e t) := by
  unfold enhAckAired
  dsimp only
  split
  · exact .ite (.winDone (.noteSent (.noteAck (.modSlice h)))) (.noteSent (.noteAck (.modSlice h)))
  · exact .noteSent (.noteAck (.modSlice h))

protected theorem Keeps.cutFor {n st w2} (h : Keeps s t) : Keeps s (cutFor n st w2 t) := by
  unfold cutFor
  split
  · exact .ite (.txfDone (.cutTx h)) (.cutTx h)
  · exact h

protected theorem Keeps.underrun {n t'} (h : Keeps s t) : Keeps s (underrun n t' t) := by
  unfold underrun
  exact .cutFor (.bump h)

protected theorem Keeps.aerialSet {who n port tuner measure} (h : Keeps s t) : Keeps s (aerialSet who n port tuner measure t) := by
  unfold aerialSet
  refine .ite (.ret (.modSlice h)) (.withDraw (.modSlice h) fun _ h => ?_)
  exact .withDraw h fun _ h => .ite (.ret (.modSlice (.abandonAll (.modSlice h)))) (.ret (.modSlice (.abandonAll (.modSlice h))))

protected theorem Keeps.feoutOp {who typ bits ws sl} (h : Keeps s t) : Keeps s (feoutOp who typ bits ws sl t) := by
  unfold feoutOp
  refine .withSlice h fun _ h => ?_
  exact .ite (.ret h) (.ite (.retRange h) (.ite (.retRange h) (.radioReady h fun h => .block (.ite (.modSlice (.feQueue h)) (.feQueue h)))))

protected theorem Keeps.feOutcome {w acked} (h : Keeps s t) : Keeps s (feOutcome w acked t) := by
  unfold feOutcome
  dsimp only
  split
  · exact .modSlice (.ite h (.notify (.bumpSl h)))
  · exact .modSlice (.ite h (.notify (.bumpSl h)))
  · exact .modSlice (.ite h (.notify (.bumpSl h)))
  · exact .modSlice (.ite h (.notify (.bumpSl h)))
  · exact .modSlice (.ite h (.notify (.bumpSl h)))
  · exact .ite h (.notify (.bumpSl h))

protected theorem Keeps.feTransfer {port ack} (h : Keeps s t) : Keeps s (feTransfer port ack t) := by
  unfold feTransfer
  split
  · exact h
  · exact .ite (.feOutcome (.ite (.same h) (.same h))) (.ite (.endFeout (.feOutcome (.ite (.same h) (.same h)))) (.ite (.unblockCond (.feOutcome (.ite (.same h) (.same h)))) (.feOutcome (.ite (.same h) (.same h)))))

protected theorem Keeps.setGain {n g} (h : Keeps s t) : Keeps s (setGain n g t) := by
  unfold setGain
  exact .modSlice h

/-! ## Device table -/

protected theorem Keeps.setEntry {p e} (h : Keeps s t) : Keeps s (setEntry p e t) := by
  unfold setEntry
  exact .same h

protected theorem Keeps.promote {p} (h : Keeps s t) : Keeps s (promote p t) := by
  unfold promote
  dsimp only
  split
  · exact h
  · split
    · exact .setEntry (.setEntry h)
    · exact h

protected theorem Keeps.removeEntry {p} (h : Keeps s t) : Keeps s (removeEntry p t) := by
  unfold removeEntry
  exact .promote (.setEntry h)

protected theorem Keeps.ovfTaken (h : Keeps s t) : Keeps s (ovfTaken t) := by
  unfold ovfTaken
  exact .ite (.notify (.same h)) (.same h)

protected theorem Keeps.tblInsert {key dist static r} (h : Keeps s t) : Keeps s (tblInsert key dist static r t).2.2.2 := by
  unfold tblInsert
  dsimp only
  split
  · split
    · exact h
    · exact .setEntry h
  · split
    · exact .setEntry h
    · split
      · exact .ovfTaken (.setEntry h)
      · exact h

protected theorem Keeps.tblDelete {key dist static} (h : Keeps s t) : Keeps s (tblDelete key dist static t).2.2 := by
  unfold tblDelete
  split
  · split
    · exact h
    · exact .removeEntry h
  · exact h

protected theorem Keeps.entryBad {p} (h : Keeps s t) : Keeps s (entryBad p t) := by
  unfold entryBad
  exact .notify (.bump (.ite (.removeEntry h) h))

protected theorem Keeps.quarantine {idx} (h : Keeps s t) : Keeps s (quarantine idx t) := by
  unfold quarantine
  exact .notify (.modRoster h)

protected theorem Keeps.countCorrected {r n} (h : Keeps s t) : Keeps s (countCorrected r n t) := by
  unfold countCorrected
  exact .same h

protected theorem Keeps.uncorrectable {r} (h : Keeps s t) : Keeps s (uncorrectable r t) := by
  unfold uncorrectable
  exact .notify (.same h)

protected theorem Keeps.readError {e} (h : Keeps s t) : Keeps s (readError e t).2 := by
  unfold readError
  split
  · exact .countCorrected (.same h)
  · exact .uncorrectable (.same h)
  · exact .same h

protected theorem Keeps.readEntry {acc e} (h : Keeps s acc.2) : Keeps s (readEntry acc e).2 := by
  unfold readEntry
  split
  · exact .ite (.quarantine (.snd (.readError h) ‹_›)) (.entryBad (.snd (.readError h) ‹_›))
  · exact .snd (.readError h) ‹_›

protected theorem Keeps.readTables {key dist} (h : Keeps s t) : Keeps s (readTables key dist t).2 := by
  unfold readTables
  exact .foldlSnd h fun _ h => .readEntry h

protected theorem Keeps.readAllTables (h : Keeps s t) : Keeps s (readAllTables t) := by
  unfold readAllTables
  exact .foldlSnd h fun _ h => .readEntry h

protected theorem Keeps.readRoster {idx} (h : Keeps s t) : Keeps s (readRoster idx t) := by
  unfold readRoster
  exact .foldlSnd h fun _ h => .readEntry h

protected theorem Keeps.pushMade {q data} (h : Keeps s t) (e : pushMade q data t = some u) : Keeps s u := by
  unfold pushMade at e
  split at e
  · cases e
  · split at e
    · exact .pushItem (.snd (.createItem h) ‹_›) e
    · cases e

protected theorem Keeps.learn {key dist reason sl result} (h : Keeps s t) : Keeps s (learn key dist reason sl result t) := by
  unfold learn
  extract_lets k rep data _ v
  have hv : Keeps s v := .report (.same h)
  clear_value v
  refine .ite h (.ite (.report h) (.ite (.bump h) ?_))
  split
  · rename_i e
    obtain ⟨q, -, e⟩ := Option.bind_eq_some_iff.mp e
    exact .pushMade hv e
  · exact .notify (.bump hv)

protected theorem Keeps.modSlot {k f} (h : Keeps s t) : Keeps s (modSlot k f t) := by
  unfold modSlot
  exact .same h

protected theorem Keeps.revokeEntries {p} (h : Keeps s t) : Keeps s (revokeEntries p t) := by
  unfold revokeEntries
  exact .foldl (.same h) fun _ h => .same h

protected theorem Keeps.revokeNode {idx keygen} (h : Keeps s t) : Keeps s (revokeNode idx keygen t) := by
  unfold revokeNode
  exact .revokeEntries h

protected theorem Keeps.rosterRecord {b} (h : Keeps s t) : Keeps s (rosterRecord b t).2 := by
  unfold rosterRecord
  dsimp only
  split
  · exact .readRoster h
  · split
    · exact .modRoster (.revokeNode (.readRoster h))
    · split
      · exact .readRoster h
      · split
        · exact .modRoster (.ite (.readRoster h) (.revokeNode (.readRoster h)))
        · exact .modRoster (.readRoster h)

protected theorem Keeps.tableRecord {b} (h : Keeps s t) : Keeps s (tableRecord b t).2 := by
  unfold tableRecord
  dsimp only
  split
  · exact h
  · split
    · split
      · exact h
      · exact .tblDelete (.readTables h)
    · split
      · exact h
      · exact .tblInsert (.readTables h)

protected theorem Keeps.applyLoad {region acc it} (h : Keeps s acc.2.2) : Keeps s (applyLoad region acc it).2.2 := by
  unfold applyLoad
  extract_lets n l
  dsimp only
  refine .retireHeld ?_
  split
  · exact h
  · refine .foldlThd h fun _ h => ?_
    by_cases hRegion : region = 0 <;> simp only [hRegion, if_true, if_false] <;> split
    · exact .tableRecord h
    · exact .tableRecord h
    · exact .rosterRecord h
    · exact .rosterRecord h

/-! ## Notices -/

protected theorem Keeps.updEntries {p f l} (h : Keeps s t) (hf : ∀ {v} n, Keeps s v → Keeps s (f n v).2) : Keeps s (updEntries p f l t).2 := by
  induction l generalizing t with
  | nil => exact h
  | cons n l ih =>
    unfold updEntries
    dsimp only
    split
    · split <;> exact .snd (hf _ h) ‹_›
    · exact ih h

protected theorem Keeps.updNotice {p f} (h : Keeps s t) (hf : ∀ {v} x0, Keeps s v → Keeps s (f x0 v).2) :
    Keeps s (updNotice p f t) := by
  unfold updNotice
  split
  · exact .setEntries (.updEntries h fun _ h => hf _ h)
  · split
    · exact .ite (.same (hf _ h)) h
    · exact h

protected theorem Keeps.closeEntry {n} (h : Keeps s t) : Keeps s (closeEntry n t).2 := by
  unfold closeEntry
  exact .noticePost h

protected theorem Keeps.closeAtCore {p at_} (h : Keeps s t) : Keeps s (closeAtCore p at_ t) := by
  unfold closeAtCore
  split
  · exact .ite (.updNotice (.reachCore h) fun _ h => .closeEntry h) h
  · exact h

protected theorem Keeps.postHeld {w l} (h : Keeps s t) : Keeps s (postHeld w l t) := by
  induction l generalizing t with
  | nil => exact h
  | cons x l ih =>
    unfold postHeld
    exact .ite (.ite (ih (.postDesc (.same h))) h) (ih h)

/-! ## Table commands -/

protected theorem Keeps.pinOp {who ws dist v} (h : Keeps s t) : Keeps s (pinOp who ws dist v t) := by
  unfold pinOp
  dsimp only
  refine .withPair h fun _ h => ?_
  split
  · exact .ite (.retOk (.readTables h)) (.retOk (.setEntry (.readTables h)))
  · exact .retOk (.readTables h)

protected theorem Keeps.popAll {q n} (h : Keeps s t) : Keeps s (popAll q n t).2 := by
  induction n generalizing t with
  | zero => exact h
  | succ n ih =>
    unfold popAll
    split
    · exact h
    · exact ih (.popItem h)

protected theorem Keeps.tloadDone (h : Keeps s t) : Keeps s (tloadDone t) := by
  unfold tloadDone
  split
  · exact .ite h (.endPending (.foldlThd (.same h) fun _ h => .applyLoad h))
  · exact h

protected theorem Keeps.scrubEntry {acc e} (h : Keeps s acc.2.2) : Keeps s (scrubEntry acc e).2.2 := by
  unfold scrubEntry
  split <;> exact .snd (.readEntry h) ‹_›

protected theorem Keeps.tscrubDone (h : Keeps s t) : Keeps s (tscrubDone t) := by
  unfold tscrubDone
  split
  · exact .ite h (.endPending (.foldlThd (.same h) fun _ h => .scrubEntry h))
  · exact h

protected theorem Keeps.agePass {n p} (h : Keeps s t) : Keeps s (agePass n p t) := by
  induction n generalizing p t with
  | zero =>
    unfold agePass
    exact .same h
  | succ n ih =>
    unfold agePass
    split
    · exact .same h
    · split
      · exact ih h
      · extract_lets resumed age u data
        have hu : Keeps s u := .setEntry h
        clear_value u
        refine .ite (ih h) (.ite (ih hu) ?_)
        split
        · exact .same hu
        · rename_i e
          exact ih (.bump (.removeEntry (.same (.pushMade hu e))))

protected theorem Keeps.startAging (h : Keeps s t) : Keeps s (startAging t) := by
  unfold startAging
  exact .agePass (.same (.readAllTables h))

/-! ## Control transfers -/

protected theorem Keeps.setSchedWord {a v} (h : Keeps s t) : Keeps s (setSchedWord a v t) := by
  unfold setSchedWord
  exact .ite h (.schedWord h)

protected theorem Keeps.movOp {who m} (h : Keeps s t) : Keeps s (movOp who m t) := by
  unfold movOp
  split
  · exact .setW h
  · exact .setW h
  · exact .setW h
  · exact .setW h
  · exact .setT h
  · exact .setT h
  · exact .setT h
  · exact .setT h

protected theorem Keeps.alu {who f wd ws1 o} (h : Keeps s t) : Keeps s (alu who f wd ws1 o t) := by
  unfold alu
  exact .setW h

protected theorem Keeps.notInRing {who op body} (h : Keeps s t) (hbody : ∀ {v}, Keeps s v → Keeps s (body v)) :
    Keeps s (notInRing who op body t) := by
  unfold notInRing
  exact .ite (.advance (.ret h)) (hbody h)

protected theorem Keeps.setStack {who st} (h : Keeps s t) : Keeps s (setStack who st t) := by
  unfold setStack
  exact .modCtx h

protected theorem Keeps.callOp {who addr} (h : Keeps s t) : Keeps s (callOp who addr t) := by
  unfold callOp
  exact .ite (.haltWho h) (.ite (.modRecord (.setStack h)) (.setPc (.setStack h)))

protected theorem Keeps.callWord {who c addr} (h : Keeps s t) : Keeps s (callWord who c addr t) := by
  unfold callWord
  exact .issueF h fun h => .callOp h

protected theorem Keeps.retOp {who} (h : Keeps s t) : Keeps s (retOp who t) := by
  unfold retOp
  dsimp only
  split
  · exact .haltWho h
  · split
    · exact .ite (.modRecord (.setStack h)) (.setPc (.setStack h))
    · exact .setPc (.setStack h)

protected theorem Keeps.retWord {who c} (h : Keeps s t) : Keeps s (retWord who c t) := by
  unfold retWord
  exact .issueF h fun h => .notInRing h fun h => .retOp h

protected theorem Keeps.haltOp {who} (h : Keeps s t) : Keeps s (haltOp who t) := by
  unfold haltOp
  split
  · exact .haltSlice h
  · exact .endRecord (.setStack h)
  · exact h

protected theorem Keeps.haltWord {who c} (h : Keeps s t) : Keeps s (haltWord who c t) := by
  unfold haltWord
  exact .issueF h fun h => .notInRing h fun h => .haltOp h

protected theorem Keeps.trapWord {who c code} (h : Keeps s t) : Keeps s (trapWord who c code t) := by
  unfold trapWord
  exact .issueF h fun h => .haltWho h

protected theorem Keeps.ldwWord {who c wd ws1 off} (h : Keeps s t) : Keeps s (ldwWord who c wd ws1 off t) := by
  unfold ldwWord
  exact .issueF h fun h => .ite (.advance (.setW h)) (.haltWho h)

protected theorem Keeps.stwWord {who c ws1 ws2 off} (h : Keeps s t) : Keeps s (stwWord who c ws1 ws2 off t) := by
  unfold stwWord
  exact .issueF h fun h => .ite (.advance (.setSchedWord h)) (.haltWho h)

protected theorem Keeps.illegalWord {who word} (h : Keeps s t) : Keeps s (illegalWord who word t) := by
  unfold illegalWord
  exact .ite h (.inContext h fun h => .ite (.haltWho h) (.ite (.advance (.ret h)) (.haltWho h)))

/-! ## Operations of the timebase -/

protected theorem Keeps.pOk (h : Keeps s t) : Keeps s (pOk t).2.2 := by
  unfold pOk
  exact h

protected theorem Keeps.pRef {detail} (h : Keeps s t) : Keeps s (pRef detail t).2.2 := by
  unfold pRef
  exact h

protected theorem Keeps.pRange (h : Keeps s t) : Keeps s (pRange t).2.2 := by
  unfold pRange
  exact h

protected theorem Keeps.setRate {r} (h : Keeps s t) : Keeps s (setRate r t) := by
  unfold setRate
  exact .same h

protected theorem Keeps.qualifyRef (h : Keeps s t) : Keeps s (qualifyRef t) := by
  unfold qualifyRef
  exact .same h

protected theorem Keeps.setPpsOut {v} (h : Keeps s t) : Keeps s (setPpsOut v t) := by
  unfold setPpsOut
  exact .same (.ite h (.emitPin h))

protected theorem Keeps.ppsOutHold (h : Keeps s t) : Keeps s (ppsOutHold t) := by
  unfold ppsOutHold
  exact .ite h (.setPpsOut h)

protected theorem Keeps.disqualifyRef (h : Keeps s t) : Keeps s (disqualifyRef t) := by
  unfold disqualifyRef
  exact .withDraw h fun _ h => .ppsOutHold (.same h)

protected theorem Keeps.enterHoldover {subject} (h : Keeps s t) : Keeps s (enterHoldover subject t) := by
  unfold enterHoldover
  exact .notify (.same (.setRate h))

protected theorem Keeps.servo {f ph} (h : Keeps s t) : Keeps s (servo f ph t) := by
  unfold servo
  exact .same (.setRate h)

protected theorem Keeps.clearServo (h : Keeps s t) : Keeps s (clearServo t) := by
  unfold clearServo
  exact .same h

protected theorem Keeps.ppsRestart (h : Keeps s t) : Keeps s (ppsRestart t) := by
  unfold ppsRestart
  exact .same h

protected theorem Keeps.ppsAccept {cap} (h : Keeps s t) : Keeps s (ppsAccept cap t) := by
  unfold ppsAccept
  exact .ite (.same h) (.servo (.same h))

protected theorem Keeps.ppsMiss (h : Keeps s t) : Keeps s (ppsMiss t) := by
  unfold ppsMiss
  exact .ite (.same h) (.ite (.setRate (.same h)) (.ite (.enterHoldover (.same h)) (.same h)))

protected theorem Keeps.modTrig {n f} (h : Keeps s t) : Keeps s (modTrig n f t) := by
  unfold modTrig
  exact .same h

protected theorem Keeps.fireTrig {n k skip} (h : Keeps s t) : Keeps s (fireTrig n k skip t) := by
  unfold fireTrig
  exact .emitPin (.modTrig h)

protected theorem Keeps.armTrig {n invert} (h : Keeps s t) : Keeps s (armTrig n invert t).2.2 := by
  unfold armTrig
  dsimp only
  split
  · exact .pRange h
  · exact .pOk (.ite (.fireTrig (.modTrig h)) (.modTrig h))

protected theorem Keeps.disarmTrig {n invert} (h : Keeps s t) : Keeps s (disarmTrig n invert t).2.2 := by
  unfold disarmTrig
  exact .pOk (.modTrig (.ite (.emitPin h) h))

protected theorem Keeps.laterNotice {kind subject st} (h : Keeps s t) : Keeps s (laterNotice kind subject st t) := by
  unfold laterNotice
  exact .ite (.notify h) (.same h)

protected theorem Keeps.switchBank {asn sf} (h : Keeps s t) : Keeps s (switchBank asn t sf) := by
  unfold switchBank
  dsimp only
  split
  · exact h
  · exact .ite (.schedWord h) (.laterNotice (.schedWord h))

protected theorem Keeps.handOver {n asn bnd} (h : Keeps s t) : Keeps s (handOver n asn bnd t) := by
  unfold handOver
  exact .modSeq h

protected theorem Keeps.slotDone {q st asn bnd} (h : Keeps s t) : Keeps s (slotDone q st asn bnd t) := by
  unfold slotDone
  split
  · split
    · exact .unblock (.kickWdog h)
    · split
      · exact .ite (.handOver (.kickWdog h)) (.unblockSlice (.setT (.setW (.kickWdog h))))
      · exact .unblockCond (.setT (.setW (.kickWdog h)))
  · exact h

protected theorem Keeps.slotsFail (h : Keeps s t) : Keeps s (slotsFail t) := by
  unfold slotsFail
  refine .foldl h fun _ h => ?_
  split
  · exact .unblock (.kickWdog h)
  · exact h

protected theorem Keeps.anchorGrid {g a0 len} (h : Keeps s t) : Keeps s (anchorGrid g a0 len t) := by
  unfold anchorGrid
  exact .same h

protected theorem Keeps.haltGrid (h : Keeps s t) : Keeps s (haltGrid t) := by
  unfold haltGrid
  exact .same h

protected theorem Keeps.gridEnd (h : Keeps s t) : Keeps s (gridEnd t) := by
  unfold gridEnd
  exact .ite (.laterNotice (.slotsFail (.haltGrid h))) h

protected theorem Keeps.gridStop (h : Keeps s t) : Keeps s (gridStop t).2.2 := by
  unfold gridStop
  split
  · exact .pRef h
  · exact .pOk (.haltGrid h)

protected theorem Keeps.gridReady {extra body} (h : Keeps s t) (hbody : ∀ {v}, Keeps s v → Keeps s (body v)) :
    Keeps s (gridReady extra body t).2.2 := by
  unfold gridReady
  split
  · exact .pRef h
  · split
    · exact .pRef h
    · split
      · exact .pRef h
      · split
        · exact .pOk (hbody h)
        · exact .pRange h

protected theorem Keeps.gridStart (h : Keeps s t) : Keeps s (gridStart t).2.2 := by
  unfold gridStart
  exact .gridReady h fun h => .anchorGrid h

protected theorem Keeps.gridAcquire (h : Keeps s t) : Keeps s (gridAcquire t).2.2 := by
  unfold gridAcquire
  exact .gridReady h fun h => .same h

protected theorem Keeps.parentBeacon {start carried} (h : Keeps s t) : Keeps s (parentBeacon start carried t) := by
  unfold parentBeacon
  split
  · split
    · exact .same h
    · exact .same (.anchorGrid h)
  · exact .ite (.same h) (.ite (.same h) (.ite (.same h) (.servo (.same h))))

protected theorem Keeps.rescan (h : Keeps s t) : Keeps s (rescan t) := by
  unfold rescan
  dsimp only
  split
  · exact h
  · split
    · split
      · exact .ite (.modSeq h) h
      · exact .ite (.modSeq h) h
      · exact .ite (.startSeq h) h
      · exact .ite (.startSeq h) h
      · exact .notify h
    · exact h

protected theorem Keeps.parentMiss (h : Keeps s t) : Keeps s (parentMiss t) := by
  unfold parentMiss
  exact .ite (.ite (.setRate (.same h)) (.same h)) (.ite (.enterHoldover (.same h)) (.ite (.notify (.rescan (.same h))) (.same h)))

/-! ## Time -/

protected theorem Keeps.countsForWdog {who body} (h : Keeps s t) (hbody : ∀ {v}, Keeps s v → Keeps s (body v)) :
    Keeps s (countsForWdog who body t) := by
  unfold countsForWdog
  split
  · exact .ite (hbody h) (.kickWdog (hbody h))
  · exact hbody h

protected theorem Keeps.atReached {q} (h : Keeps s t) : Keeps s (atReached q t) := by
  unfold atReached
  split
  · exact .ite (.unblock (.kickWdog (.reachTb h))) h
  · exact h

protected theorem Keeps.afterEnds {q} (h : Keeps s t) : Keeps s (afterEnds q t) := by
  unfold afterEnds
  split
  · exact .ite (.unblock (.kickWdog (.ite (.passTicks h) h))) h
  · exact h

protected theorem Keeps.trateOp {who r operand} (h : Keeps s t) : Keeps s (trateOp who r operand t) := by
  unfold trateOp
  exact .ite (.retRange h) (.ite (.retRefused h) (.retOk (.setRate h)))

protected theorem Keeps.tcapDone {who td k} (h : Keeps s t) : Keeps s (tcapDone who td k t) := by
  unfold tcapDone
  exact .retOk (.setT h)

/-! ## Frame security -/

protected theorem Keeps.withSlot {who k use body} (h : Keeps s t) (hbody : ∀ {v}, Keeps s v → Keeps s (body v)) :
    Keeps s (withSlot who k use body t) := by
  unfold withSlot
  split
  · exact .ret h
  · split
    · exact .ret h
    · split
      · exact .ret h
      · exact hbody h

protected theorem Keeps.sweepEntries {p} (h : Keeps s t) : Keeps s (sweepEntries p t) := by
  unfold sweepEntries
  exact .foldl (.same h) fun _ h => .ite h (.notify h)

protected theorem Keeps.zeroVault (h : Keeps s t) : Keeps s (zeroVault t) := by
  unfold zeroVault
  exact .same h

protected theorem Keeps.zeroDevice (h : Keeps s t) : Keeps s (zeroDevice t) := by
  unfold zeroDevice
  exact .same h

protected theorem Keeps.deriveDevice (h : Keeps s t) : Keeps s (deriveDevice t) := by
  unfold deriveDevice
  exact .same h

protected theorem Keeps.touchCache {i} (h : Keeps s t) : Keeps s (touchCache i t) := by
  unfold touchCache
  exact .same h

protected theorem Keeps.needKey {idx sl r} (h : Keeps s t) : Keeps s (needKey idx sl r t).2 := by
  unfold needKey
  dsimp only
  split
  · split
    · exact .touchCache h
    · exact h
  · split
    · exact h
    · split
      · exact h
      · exact .touchCache (.same h)

protected theorem Keeps.takeCounter {idx} (h : Keeps s t) : Keeps s (takeCounter idx t).2 := by
  unfold takeCounter
  dsimp only
  split
  · exact .report (.bump h)
  · exact .ite (.report (.modRoster h)) (.modRoster h)

protected theorem Keeps.takeGroup {dist} (h : Keeps s t) : Keeps s (takeGroup dist t).2 := by
  unfold takeGroup
  dsimp only
  split
  · exact .report (.bump h)
  · exact .same h

protected theorem Keeps.s7Secure {it} (h : Keeps s t) : Keeps s (s7Secure it t).2 := by
  unfold s7Secure
  extract_lets f dist v use_ use
  have hv : Keeps s v := .ite h (.readRoster h)
  clear_value v use_
  split
  · exact hv
  · split
    · exact hv
    · split
      · exact hv
      · split
        · exact hv
        · split
          · exact hv
          · split
            · exact hv
            · extract_lets sl sealed_
              split
              · split
                · exact hv
                · split
                  · exact hv
                  · split <;> exact .snd (.takeGroup hv) ‹_›
              · split
                · exact hv
                · split
                  · exact hv
                  · split
                    · split <;> exact .snd (.takeCounter (.snd (.needKey hv) ‹_›)) ‹_›
                    · exact .snd (.needKey hv) ‹_›

/-! ## Keys and counters -/

protected theorem Keeps.withNode {who ws body} (h : Keeps s t) (hbody : ∀ {v} x0, Keeps s v → Keeps s (body x0 v)) :
    Keeps s (withNode who ws body t) := by
  unfold withNode
  exact .ite (.ret h) (.ite (.retRange h) (.ite (.retRange (.readRoster h)) (hbody _ (.readRoster h))))

protected theorem Keeps.cntexpDone (h : Keeps s t) : Keeps s (cntexpDone t) := by
  unfold cntexpDone
  split
  · exact h
  · extract_lets _ v _ _ _ fin data
    have hv : Keeps s v := .same h (by dsimp only [State.core, v])
    clear_value v
    refine .ite (.endPending hv) ?_
    split
    · exact .endPending hv
    · rename_i e
      exact .endPending (.foldl (.pushMade hv e) fun _ h => .modRoster h)

protected theorem Keeps.kzeroOp {k} (h : Keeps s t) : Keeps s (kzeroOp k t) := by
  unfold kzeroOp
  exact .sweepEntries (.modSlot (.revokeEntries h))

protected theorem Keeps.kzeroAllOp (h : Keeps s t) : Keeps s (kzeroAllOp t) := by
  unfold kzeroAllOp
  exact .sweepEntries (.same (.revokeEntries h))

protected theorem Keeps.lcAdvance {v} (h : Keeps s t) : Keeps s (lcAdvance v t).2.2 := by
  unfold lcAdvance
  split
  · exact h
  · split
    · exact h
    · rename_i hState _
      have hUp : t.sec.fused ≤ v := by
        simp only [Bool.or_eq_true, Bool.not_eq_true', not_or] at hState
        have := hState.2
        simp at this
        omega
      exact .ite (.deriveDevice (.zeroVault (.life h hUp))) (.life h hUp)

protected theorem Keeps.tampCtrl {v} (h : Keeps s t) : Keeps s (tampCtrl v t).2.2 := by
  unfold tampCtrl
  dsimp only
  split
  · exact .pRef h
  · exact .pOk (.same h)

protected theorem Keeps.tampClear (h : Keeps s t) : Keeps s (tampClear t).2.2 := by
  unfold tampClear
  exact .pOk (.same h)

protected theorem Keeps.grpFloor {dist v} (h : Keeps s t) : Keeps s (grpFloor dist v t).2.2 := by
  unfold grpFloor
  exact .pOk (.same h)

protected theorem Keeps.setBinding {dist k v} (h : Keeps s t) : Keeps s (setBinding dist k v t).2.2 := by
  unfold setBinding
  dsimp only
  split
  · exact .pRange h
  · exact .pOk (.setPar h)

end Sys2Proof.Machine
end

section
/-! PROOF. Reception, slot boundaries, the cascade and the twin: each operation keeps what every command keeps. -/

namespace Sys2Proof.Machine

set_option Elab.async false

variable {s t u : State}

/-! ## Receiving -/

protected theorem Keeps.assignLane {k n t' power at_ res} (h : Keeps s t) : Keeps s (assignLane k n t' power at_ res t) := by
  unfold assignLane
  exact .modSlice (.setLane h)

protected theorem Keeps.refuseDet {n t' at_ res} (h : Keeps s t) : Keeps s (refuseDet n t' at_ res t) := by
  unfold refuseDet
  exact .notify (.modSlice (.noteBusy (.bumpSl h)))

protected theorem Keeps.arbitrate {n t' power at_} (h : Keeps s t) : Keeps s (arbitrate n t' power at_ t) := by
  unfold arbitrate
  dsimp only
  split
  · exact .assignLane h
  · split
    · exact .assignLane (.bumpSl (.loseLane h))
    · exact .refuseDet h

protected theorem Keeps.detection {n t' power at_} (h : Keeps s t) : Keeps s (detection n t' power at_ t) := by
  unfold detection
  dsimp only
  split
  · split
    · exact .ite (.bumpSl (.modLane (.bumpSl h))) (.modLane (.bumpSl h))
    · exact .bumpSl h
  · exact .arbitrate (.bumpSl h)

protected theorem Keeps.detect {d} (h : Keeps s t) : Keeps s (detect d t) := by
  unfold detect
  exact .ite (.detection h) h

protected theorem Keeps.serveDets {n l} (h : Keeps s t) : Keeps s (serveDets n l t) := by
  induction n generalizing l t with
  | zero => exact h
  | succ n ih =>
    cases l with
    | nil => exact h
    | cons d l => exact ih (.detect h)

protected theorem Keeps.relockOrFree {k l fails} (h : Keeps s t) : Keeps s (relockOrFree k l fails t) := by
  unfold relockOrFree
  split
  · exact .ite (.modSlice (.bumpSl (.modLane h))) (.loseLane (.bumpSl h))
  · exact .loseLane h

protected theorem Keeps.captureRx {n at_} (h : Keeps s t) : Keeps s (captureRx n at_ t) := by
  unfold captureRx
  exact .modSlice h

protected theorem Keeps.noteLast {k l start} (h : Keeps s t) : Keeps s (noteLast k l start t) := by
  unfold noteLast
  exact .modSlice h

protected theorem Keeps.oversize {k l start} (h : Keeps s t) : Keeps s (oversize k l start t) := by
  unfold oversize
  dsimp only
  split
  · exact .relockOrFree (.ite (.winDone (.bumpSl (.captureRx h))) (.bumpSl (.captureRx h)))
  · exact .relockOrFree (.bumpSl (.captureRx h))

protected theorem Keeps.dueAck {k l} (h : Keeps s t) : Keeps s (dueAck k l t) := by
  unfold dueAck
  exact .withDraw h fun _ h => .modSlice (.ite (.bumpSl h) h)

protected theorem Keeps.phrPasses {k l p start m} (h : Keeps s t) : Keeps s (phrPasses k l p start m t) := by
  unfold phrPasses
  exact .ite (.dueAck (.modSlice (.noteLast (.captureRx (.setLane h))))) (.modSlice (.noteLast (.captureRx (.setLane h))))

/-! ## Admission -/

protected theorem Keeps.endWindow {x accepted st w1} (h : Keeps s t) : Keeps s (endWindow x accepted st w1 t) := by
  unfold endWindow
  split
  · exact h
  · exact .ite (.modSlice h) (.winDone h)

protected theorem Keeps.dropFrame {x it} (h : Keeps s t) : Keeps s (dropFrame x it t) := by
  unfold dropFrame
  split
  · exact .endWindow (.removeAck (.retireHeld h))
  · exact .endWindow (.removeAck h)

protected theorem Keeps.refuseFrame {x it st} (h : Keeps s t) : Keeps s (refuseFrame x it st t) := by
  unfold refuseFrame
  exact .endWindow (.removeAck (.retireHeld h))

protected theorem Keeps.buildAck {x job key} (h : Keeps s t) : Keeps s (buildAck x job key t).2 := by
  unfold buildAck
  extract_lets n asks c put take
  split
  · exact h
  ·
    have hPut : ∀ {octets v}, Keeps s v → Keeps s (put octets v).2 := fun hv => .modSlice (.txPower hv)
    split
    · exact .bump (.removeAck h)
    · split
      · exact h
      · split
        · exact hPut h
        · have hTake : Keeps s take.2 := by
            dsimp only [take]
            split
            · exact .takeCounter h
            · exact .same h
          clear_value take
          split
          · exact .removeAck hTake
          · exact hPut hTake

protected theorem Keeps.replay {x} (h : Keeps s t) : Keeps s (replay x t).2 := by
  unfold replay
  exact .report (.bump h)

protected theorem Keeps.micFail {x sl} (h : Keeps s t) : Keeps s (micFail x sl t).2 := by
  unfold micFail
  exact .report (.bump h)

protected theorem Keeps.decideMic {x idx sl key} (h : Keeps s t) : Keeps s (decideMic x idx sl key t).2 := by
  unfold decideMic
  dsimp only
  split
  · exact .micFail h
  · split
    · exact .modRoster h
    · split
      · exact .bump h
      · exact .replay h

protected theorem Keeps.decideStranger {x sl} (h : Keeps s t) : Keeps s (decideStranger x sl t).2 := by
  unfold decideStranger
  dsimp only
  split
  · split
    · exact h
    · exact .micFail h
  · split
    · exact h
    · exact .micFail h

protected theorem Keeps.decideFrame {x} (h : Keeps s t) : Keeps s (decideFrame x t).2 := by
  unfold decideFrame
  dsimp only
  split
  · exact .bump h
  · split
    · exact h
    · split
      · exact .bump h
      · split
        · exact h
        · split
          · exact .replay h
          · split
            · exact .bump h
            · split
              · exact h
              · split
                · exact .decideStranger h
                · split
                  · exact .decideMic (.snd (.needKey h) ‹_›)
                  · exact .bump (.snd (.needKey h) ‹_›)

protected theorem Keeps.observeFrame {x corr} (h : Keeps s t) : Keeps s (observeFrame x corr t) := by
  unfold observeFrame
  split
  · exact .ite (.observe h) h
  · exact h

protected theorem Keeps.rejoin {x idx} (h : Keeps s t) : Keeps s (rejoin x idx t) := by
  unfold rejoin
  exact .modRoster h

protected theorem Keeps.countJoinDrop (h : Keeps s t) : Keeps s (countJoinDrop t) := by
  unfold countJoinDrop
  exact .same h

protected theorem Keeps.deferItem {x key n reason} (h : Keeps s t) : Keeps s (deferItem x key n reason t) := by
  unfold deferItem
  dsimp only
  refine .withDraw h fun _ h => ?_
  split
  · exact .countJoinDrop h
  · split
    · exact .countJoinDrop (.snd (.createItem h) ‹_›)
    · split
      · exact .withDraw (.snd (.createItem h) ‹_›) fun _ h => .pushOrExc (.setStage h)
      · split
        · exact .pushOrExc (.setStage (.snd (.s7Secure (.snd (.createItem h) ‹_›)) ‹_›))
        · exact .toException (.setStage (.snd (.s7Secure (.snd (.createItem h) ‹_›)) ‹_›))

protected theorem Keeps.deferJoin {x it key reason} (h : Keeps s t) : Keeps s (deferJoin x it key reason t) := by
  unfold deferJoin
  exact .ite (.withDraw (.report (.retireHeld h)) fun _ h => .deferItem h) (.deferItem (.report (.retireHeld h)))

protected theorem Keeps.countJoin {d} (h : Keeps s t) : Keeps s (countJoin d t) := by
  unfold countJoin
  exact .same h

protected theorem Keeps.joinRequest {x it key} (h : Keeps s t) : Keeps s (joinRequest x it key t) := by
  unfold joinRequest
  extract_lets q rate full n reason v w
  have hv : Keeps s v := .ite h (.countJoin h)
  clear_value v
  have hw : Keeps s w := by
    dsimp only [w]
    split
    · exact .rejoin hv
    · exact hv
  exact .ite (.countJoinDrop (.retireHeld hv)) (.ite (.deferJoin hv) (.pushOrExc hw))

protected theorem Keeps.propose {x} (h : Keeps s t) : Keeps s (propose x t) := by
  unfold propose
  dsimp only
  split
  · refine .ite h (.ite h (.ite (.report h) ?_))
    split
    · exact .pushMade (.report h) ‹_›
    · exact .report (.report h)
  · exact h

protected theorem Keeps.markHit {x} (h : Keeps s t) : Keeps s (markHit x t) := by
  unfold markHit
  split
  · exact .setEntry h
  · exact h

protected theorem Keeps.noteQuality {x} (h : Keeps s t) : Keeps s (noteQuality x t) := by
  unfold noteQuality
  exact .modSlice h

protected theorem Keeps.noteSource {x} (h : Keeps s t) : Keeps s (noteSource x t) := by
  unfold noteSource
  exact .modSlice h

protected theorem Keeps.acceptFrame {x it key} (h : Keeps s t) : Keeps s (acceptFrame x it key t) := by
  unfold acceptFrame
  extract_lets a b c d
  have ha : Keeps s a := .noteQuality (.markHit h)
  have hb : Keeps s b := by
    dsimp only [b]
    split
    · exact .modRoster ha
    · exact ha
  have hd : Keeps s d := .ite (.setStage hb) hb
  clear_value d
  exact .endWindow (.ite (.joinRequest (.propose (.observeFrame (.buildAck hd)))) (.pushOrExc (.propose (.observeFrame (.buildAck hd)))))

protected theorem Keeps.duplicateFrame {x it key} (h : Keeps s t) : Keeps s (duplicateFrame x it key t) := by
  unfold duplicateFrame
  dsimp only
  split
  · exact .endWindow (.observeFrame (.removeAck (.noteQuality (.markHit (.retireHeld h)))))
  · split
    · exact .endWindow (.observeFrame (.modRoster (.buildAck (.noteQuality (.markHit (.retireHeld h))))))
    · exact .endWindow (.observeFrame (.buildAck (.noteQuality (.markHit (.retireHeld h)))))

protected theorem Keeps.lookupExt {x e} (h : Keeps s t) (hs : lookupExt x e t = .dropped u) : Keeps s u := by
  unfold lookupExt at hs
  dsimp only at hs
  split at hs
  · cases hs
    exact .learn (.bump h)
  · split at hs
    · cases hs
      exact .ite (.bump h) (.learn (.bump h))
    · split at hs
      · cases hs
      · cases hs
        exact .learn (.bump h)

protected theorem Keeps.lookupSource {x} (h : Keeps s t) (hs : lookupSource x t = .dropped u) : Keeps s u := by
  unfold lookupSource at hs
  dsimp only at hs
  split at hs
  · cases hs
  · split at hs
    · unfold lookupJoin at hs
      dsimp only at hs
      split at hs
      · split at hs <;> cases hs
      · cases hs
    · exact .lookupExt h hs
  · split at hs
    · cases hs
    · cases hs
      exact .bump h

protected theorem Keeps.throughS7 {x it} (h : Keeps s t) : Keeps s (throughS7 x it t) := by
  unfold throughS7
  split
  · exact .dropFrame h
  · split
    · exact .dropFrame (.snd (.decideFrame h) ‹_›)
    · exact .refuseFrame (.snd (.decideFrame h) ‹_›)
    · exact .acceptFrame (.snd (.decideFrame h) ‹_›)
    · exact .duplicateFrame (.snd (.decideFrame h) ‹_›)

protected theorem Keeps.readSource {x} (h : Keeps s t) : Keeps s (readSource x t) := by
  unfold readSource
  dsimp only
  split
  · split
    · exact .readRoster (.readTables h)
    · exact .readRoster h
  · split
    · exact .readTables h
    · exact h

protected theorem Keeps.throughS6 {x it} (h : Keeps s t) : Keeps s (throughS6 x it t) := by
  unfold throughS6
  split
  · exact .dropFrame (.ite (.bump h) h)
  · extract_lets v
    have hv : Keeps s v := .readSource h
    clear_value v
    split
    · rename_i hs
      exact .dropFrame (.lookupSource hv hs)
    · exact .throughS7 (.noteSource hv)

protected theorem Keeps.intoPool {x} (h : Keeps s t) : Keeps s (intoPool x t) := by
  unfold intoPool
  split
  · exact .dropFrame (.bump (.snd (.createItem h) ‹_›))
  · exact .throughS6 (.snd (.createItem h) ‹_›)

protected theorem Keeps.ackAccepted {l f info w} (h : Keeps s t) : Keeps s (ackAccepted l f info w t).2 := by
  unfold ackAccepted
  extract_lets i idx v r seqOk x
  have hv : Keeps s v := .ite h (.readRoster h)
  clear_value v r seqOk x
  split
  · exact hv
  · split
    · exact hv
    · split
      · exact .bump hv
      · split
        · exact hv
        · split <;> exact .snd (.decideFrame hv) ‹_›

protected theorem Keeps.acked {n w info} (h : Keeps s t) : Keeps s (acked n w info t) := by
  unfold acked
  dsimp only
  split
  · split
    · split
      · exact .txfResult (.ite (.modRoster (.observe (.resetBackoff (.retireHeld (.setStage (.modSlice h)))))) (.resetBackoff (.retireHeld (.setStage (.modSlice h)))))
      · exact .txfResult (.ite (.modRoster (.observe (.retireHeld (.setStage (.modSlice h))))) (.retireHeld (.setStage (.modSlice h))))
    · split
      · exact .txfResult (.resetBackoff (.retireHeld (.setStage (.modSlice h))))
      · exact .txfResult (.retireHeld (.setStage (.modSlice h)))
  · split
    · split
      · exact .ite (.modRoster (.observe (.resetBackoff (.retireHeld (.setStage (.modSlice h)))))) (.resetBackoff (.retireHeld (.setStage (.modSlice h))))
      · exact .ite (.modRoster (.observe (.retireHeld (.setStage (.modSlice h))))) (.retireHeld (.setStage (.modSlice h)))
    · split
      · exact .resetBackoff (.retireHeld (.setStage (.modSlice h)))
      · exact .retireHeld (.setStage (.modSlice h))

protected theorem Keeps.ackFrame {k l f info} (h : Keeps s t) : Keeps s (ackFrame k l f info t) := by
  unfold ackFrame
  dsimp only
  split
  · exact h
  · split
    · exact h
    · split
      · exact .ackLaneLost (.snd (.ackAccepted h) ‹_›)
      · exact .ite (.ackFailed (.same (.snd (.ackAccepted h) ‹_›))) (.acked (.snd (.ackAccepted h) ‹_›))

protected theorem Keeps.admitFrame {k l f info} (h : Keeps s t) : Keeps s (admitFrame k l f info t) := by
  unfold admitFrame
  dsimp only
  split
  · exact .ite (.ackFrame (.ite (.parentBeacon (.releaseLane h)) (.releaseLane h))) (.dropFrame (.ite (.bump (.ite (.parentBeacon (.releaseLane h)) (.releaseLane h))) (.ite (.parentBeacon (.releaseLane h)) (.releaseLane h))))
  · split
    · exact .intoPool (.ackLaneLost (.ite (.parentBeacon (.releaseLane h)) (.releaseLane h)))
    · split
      · exact .endWindow (.removeAck (.ackLaneLost (.ite (.parentBeacon (.releaseLane h)) (.releaseLane h))))
      · exact .intoPool (.ackLaneLost (.ite (.parentBeacon (.releaseLane h)) (.releaseLane h)))

/-! ## Queue commands -/

protected theorem Keeps.dropHeldItem {who ref} (h : Keeps s t) : Keeps s (dropHeldItem who ref t) := by
  unfold dropHeldItem
  exact .modCtx h

protected theorem Keeps.txfsLost (h : Keeps s t) : Keeps s (txfsLost t) := by
  unfold txfsLost
  refine .foldl h fun _ h => ?_
  split
  · split
    · exact .ite (.txfDone h) h
    · exact h
  · exact h

/-! ## Health -/

protected theorem Keeps.releaseSlice {n detail tell} (h : Keeps s t) : Keeps s (releaseSlice n detail tell t) := by
  unfold releaseSlice
  extract_lets x a b c
  have ha : Keeps s a := by
    dsimp only [a]
    split
    · exact .unselect h
    · exact h
  clear_value a
  have hc : Keeps s c := by
    dsimp only [c]
    split
    · exact .endPending (.modSlice ha)
    · exact .modSlice ha
  clear_value c
  refine .ite hc ?_
  split
  · exact .unblockSlice hc
  · exact .unblockSlice hc
  · exact .unblockSlice hc
  · exact .endFeout hc
  · exact hc

protected theorem Keeps.stopAir {n detail tell} (h : Keeps s t) : Keeps s (stopAir n detail tell t) := by
  unfold stopAir
  split
  · exact .modSlice (.releaseSlice (.abandonAll (.dropEnhAck (.ackFailed (.ite (.modSlice h) (.ite (.cutFor h) (.unlaunch h)))))))
  · exact .modSlice (.releaseSlice (.abandonAll (.dropEnhAck (.ackFailed h))))

/-- A chip fault notes its cause and gives up the role's output. -/
protected theorem Keeps.chipFaulted {c} (h : Keeps s t) :
    Keeps s { t with health := { t.health with chipFault := c }, twin := { t.twin with roleOut := false } } := .same h

protected theorem Keeps.chipFaultOp {cause} (h : Keeps s t) : Keeps s (chipFaultOp cause t) := by
  unfold chipFaultOp
  exact .ite h (.chipFaulted (.foldl h fun _ h => .stopAir h))

protected theorem Keeps.modStg {e f} (h : Keeps s t) : Keeps s (modStg e f t) := by
  unfold modStg
  exact .same h

protected theorem Keeps.countLost {e} (h : Keeps s t) : Keeps s (countLost e t) := by
  unfold countLost
  exact .modStg h

protected theorem Keeps.substitute {e} (h : Keeps s t) : Keeps s (substitute e t) := by
  unfold substitute
  exact .notify (.modStg h)

protected theorem Keeps.degrade {e} (h : Keeps s t) : Keeps s (degrade e t) := by
  unfold degrade
  exact .notify (.modStg h)

protected theorem Keeps.loseReception {e k} (h : Keeps s t) : Keeps s (loseReception e k t) := by
  unfold loseReception
  split
  · exact .ite (.countLost (.loseLane h)) h
  · exact h

protected theorem Keeps.restartReception {e k} (h : Keeps s t) : Keeps s (restartReception e k t) := by
  unfold restartReception
  split
  · exact .ite (.loseReception h) h
  · exact h

protected theorem Keeps.laneEngineFault {e unit} (h : Keeps s t) : Keeps s (laneEngineFault e unit t) := by
  unfold laneEngineFault
  exact .ite (.restartReception (.substitute h)) (.ite (.ite (.loseReception (.degrade h)) (.restartReception (.loseReception (.degrade h)))) (.restartReception (.degrade h)))

protected theorem Keeps.watcherFault {unit} (h : Keeps s t) : Keeps s (watcherFault unit t) := by
  unfold watcherFault
  split
  · exact .substitute h
  · split
    · exact .ite h (.notify (.modSlice (.degrade h)))
    · exact h

protected theorem Keeps.txEngineLost {e n taken} (h : Keeps s t) : Keeps s (txEngineLost e n taken t) := by
  unfold txEngineLost
  refine .withDraw h fun _ h => ?_
  split
  · exact .dropAcks (.ite h (.ite (.ite (.txfDone (.countLost (.cutTx h))) (.countLost (.cutTx h))) (.ite h (.ite (.txfDone (.unlaunch h)) (.unlaunch h)))))
  · exact .dropAcks h

protected theorem Keeps.txEngineFault {e unit} (h : Keeps s t) : Keeps s (txEngineFault e unit t) := by
  unfold txEngineFault
  split
  · exact .txEngineLost (.ite (.substitute h) (.degrade h))
  · exact .ite (.substitute h) (.degrade h)

protected theorem Keeps.itemEngineFault {e} (h : Keeps s t) : Keeps s (itemEngineFault e t) := by
  unfold itemEngineFault
  exact .ite (.substitute h) (.degrade h)

protected theorem Keeps.frontFault {second unit} (h : Keeps s t) : Keeps s (frontFault second unit t) := by
  unfold frontFault
  split
  · exact .sliceFault (.ite h (.ite (.same h) (.same h)))
  · exact h

protected theorem Keeps.latchHealth (h : Keeps s t) : Keeps s (latchHealth t) := by
  unfold latchHealth
  exact .same h

protected theorem Keeps.queryAnswer {who wd ref} (h : Keeps s t) : Keeps s (queryAnswer who wd ref t) := by
  unfold queryAnswer
  dsimp only
  split
  · exact .retOk (.setW h)
  · split <;> exact .retOk (.setW h)

/-! ## Cycles of a twin -/

protected theorem Keeps.diverge {subject} (h : Keeps s t) : Keeps s (diverge subject t) := by
  unfold diverge
  dsimp only
  split
  · exact .notify (.bump (.twin (.restoreRegions h (.inr (.inl ‹_ = some _›.symm))) .start .none))
  · exact .notify (.bump (.twin h .start .none))

protected theorem Keeps.endSyncTickets {st} (h : Keeps s t) : Keeps s (endSyncTickets st t) := by
  unfold endSyncTickets
  exact .foldl (.same h) fun _ h => .endPending h

protected theorem Keeps.compareMatched {asn digest} (h : Keeps s t) : Keeps s (compareMatched asn digest t) := by
  unfold compareMatched
  exact .ite (.notify (.endSyncTickets (.same h))) (.same h)

protected theorem Keeps.beginSync (h : Keeps s t) : Keeps s (beginSync t) := by
  unfold beginSync
  exact .twin h .now .none

protected theorem Keeps.endCycle {ledgerOk} (h : Keeps s t) : Keeps s (endCycle ledgerOk t) := by
  unfold endCycle
  dsimp only
  split
  · exact .same h
  · exact .ite (.diverge (.twin h (.ite .now .start) (.ite .now .none))) (.twin h (.ite .now .start) (.ite .now .none))

protected theorem Keeps.withdraw (h : Keeps s t) : Keeps s (withdraw t) := by
  unfold withdraw
  exact .twin (.foldl h fun _ h => .stopAir h) .none .none

protected theorem Keeps.skipCounters (h : Keeps s t) : Keeps s (skipCounters t) := by
  unfold skipCounters
  exact .same h

protected theorem Keeps.slotsPassed (h : Keeps s t) : Keeps s (slotsPassed t) := by
  unfold slotsPassed
  refine .foldl h fun _ h => ?_
  split
  · exact .slotDone h
  · exact h

protected theorem Keeps.servoFirst (h : Keeps s t) : Keeps s (servoFirst t) := by
  unfold servoFirst
  exact .same (.ppsRestart h)

protected theorem Keeps.becomeActive {skip} (h : Keeps s t) : Keeps s (becomeActive skip t) := by
  unfold becomeActive
  exact .notify (.recompute (.servoFirst (.twin (.ite (.skipCounters h) h) .now .none)))

protected theorem Keeps.takeover {skip} (h : Keeps s t) : Keeps s (takeover skip t) := by
  unfold takeover
  dsimp only
  split
  · exact .slotsPassed (.bump (.becomeActive (.restoreRegions h (.inr (.inl ‹_ = some _›.symm)))))
  · exact .slotsPassed (.bump (.becomeActive h))

/-! ## Slot boundaries -/

protected theorem Keeps.ledgerWindow {kinds} (h : Keeps s t) : Keeps s (ledgerWindow kinds t) := by
  unfold ledgerWindow
  exact .same h

protected theorem Keeps.ledgerNotices {kinds} (h : Keeps s t) : Keeps s (ledgerNotices kinds t) := by
  unfold ledgerNotices
  exact .foldl h fun _ h => .ite (.notify h) h

protected theorem Keeps.resyncFailed (h : Keeps s t) : Keeps s (resyncFailed t) := by
  unfold resyncFailed
  exact .foldl h fun _ h => .foldl h fun _ h => .ite h (.resyncReport h)

protected theorem Keeps.ledgerCheck (h : Keeps s t) : Keeps s (ledgerCheck t) := by
  unfold ledgerCheck
  exact .ite (.resyncFailed (.bump (.same (.ledgerNotices (.ledgerWindow h))))) (.same (.ledgerNotices (.ledgerWindow h)))

protected theorem Keeps.sendTime (h : Keeps s t) : Keeps s (sendTime t) := by
  unfold sendTime
  exact .foldl h fun _ h => .ite (.modLink h) h

protected theorem Keeps.sharedWork (h : Keeps s t) : Keeps s (sharedWork t) := by
  unfold sharedWork
  exact .same (.applyLatched (.ledgerCheck (.setCounters h)))

protected theorem Keeps.cycleMonitor {done} (h : Keeps s t) : Keeps s (cycleMonitor done t) := by
  unfold cycleMonitor
  exact .ite (.same h) (.ite (.withdraw (.same h)) (.same h))

protected theorem Keeps.yieldBoundary (h : Keeps s t) : Keeps s (yieldBoundary t) := by
  unfold yieldBoundary
  split
  · exact .ite (.same h) h
  · exact h

protected theorem Keeps.slotsDone {st asn bnd} (h : Keeps s t) : Keeps s (slotsDone st asn bnd t) := by
  unfold slotsDone
  refine .foldl h fun _ h => ?_
  split
  · exact .slotDone h
  · exact h

protected theorem Keeps.boundaryWork {asn bnd st first} (h : Keeps s t) : Keeps s (boundaryWork asn bnd st first t) := by
  unfold boundaryWork
  extract_lets a _ _ b c d _ e f g
  have ha : Keeps s a := .ite (.endCycle h) h
  have hb : Keeps s b := .same ha (by dsimp only [State.core, b])
  have hd : Keeps s d := .sharedWork (.foldl hb fun _ h => .switchBank h)
  have he : Keeps s e := .ite (.same hd) hd
  have hf : Keeps s f := .cycleMonitor (.yieldBoundary (.sendTime he))
  have hg : Keeps s g := .ite (.beginSync hf) hf
  clear_value g
  exact .ite (.gridEnd hg) (.ite hg (.slotsDone hg))

protected theorem Keeps.boundaryFalls (h : Keeps s t) : Keeps s (boundaryFalls t) := by
  unfold boundaryFalls
  exact .boundaryWork h

protected theorem Keeps.boundaryUnderFault (h : Keeps s t) : Keeps s (boundaryUnderFault t) := by
  unfold boundaryUnderFault
  exact .gridEnd (.cycleMonitor (.same h))

protected theorem Keeps.slotBoundary (h : Keeps s t) : Keeps s (slotBoundary t) := by
  unfold slotBoundary
  exact .ite (.ite (.boundaryUnderFault (.reachTb h)) (.boundaryFalls (.reachTb h))) h

protected theorem Keeps.reachInc {target} (h : Keeps s t) : Keeps s (reachInc target t) := by
  unfold reachInc
  exact .passTicks h

protected theorem Keeps.stepAir {old new n} (h : Keeps s t) : Keeps s (stepAir old new t n) := by
  unfold stepAir
  extract_lets a b
  have ha : Keeps s a := by
    dsimp only [a]
    split
    · exact .ite (.ite (.winDone h) h) (.ite h (.ite (.modSlice h) (.winEmpty (.modSlice h))))
    · exact h
  clear_value a
  have hb : Keeps s b := by
    dsimp only [b]
    split
    · exact .ite (.txfDone (.unselect ha)) ha
    · exact ha
  clear_value b
  split
  · exact .ite (.ite (.txfDone (.unlaunch hb)) (.unlaunch hb)) hb
  · exact hb

protected theorem Keeps.stepAt {new q} (h : Keeps s t) : Keeps s (stepAt new t q) := by
  unfold stepAt
  split
  · exact .ite (.unblock (.kickWdog h)) h
  · exact h

protected theorem Keeps.stepTrig {new n} (h : Keeps s t) : Keeps s (stepTrig new t n) := by
  unfold stepTrig
  exact .ite (.notify (.fireTrig h)) h

protected theorem Keeps.stepGrid {new} (h : Keeps s t) : Keeps s (stepGrid new t) := by
  unfold stepGrid
  exact .ite (.boundaryWork h) h

protected theorem Keeps.stepTb {new epoch} (h : Keeps s t) : Keeps s (stepTb new epoch t) := by
  unfold stepTb
  extract_lets old _ a b _ c d e f
  have ha : Keeps s a := .same h (by dsimp only [State.core, a])
  have hb : Keeps s b := .ppsRestart ha
  have hc : Keeps s c := .ite (.same hb) hb
  clear_value c
  have hf : Keeps s f := .foldl (.foldl (.foldl hc fun _ h => .stepAir h) fun _ h => .stepAt h) fun _ h => .stepTrig h
  exact .ite (.ite hf (.stepGrid hf)) hc

protected theorem Keeps.useStep (h : Keeps s t) : Keeps s (useStep t) := by
  unfold useStep
  exact .same h

protected theorem Keeps.stepAllowed {who body} (h : Keeps s t) (hbody : ∀ {v}, Keeps s v → Keeps s (body v)) :
    Keeps s (stepAllowed who body t) := by
  unfold stepAllowed
  exact .ite (.ret h) (.ite (.ret h) (hbody h))

protected theorem Keeps.latchLedger (h : Keeps s t) : Keeps s (latchLedger t) := by
  unfold latchLedger
  exact .same h

/-! ## Memory errors -/

protected theorem Keeps.unlinkItem {q it} (h : Keeps s t) : Keeps s (unlinkItem q it t) := by
  unfold unlinkItem
  exact .modQ h

protected theorem Keeps.sliceLetsGo {c n} (h : Keeps s t) : Keeps s (sliceLetsGo c t n) := by
  unfold sliceLetsGo
  dsimp only
  split
  · split
    · exact .ite (.txfDone (.unselect (.ite (.ackFailed (.ite h (.ite (.cutFor h) (.ite (.txfDone (.unlaunch h)) (.unlaunch h))))) (.ite h (.ite (.cutFor h) (.ite (.txfDone (.unlaunch h)) (.unlaunch h))))))) (.ite (.ackFailed (.ite h (.ite (.cutFor h) (.ite (.txfDone (.unlaunch h)) (.unlaunch h))))) (.ite h (.ite (.cutFor h) (.ite (.txfDone (.unlaunch h)) (.unlaunch h)))))
    · exact .ite (.txfDone (.unselect (.ite (.ackFailed h) h))) (.ite (.ackFailed h) h)
  · split
    · exact .ite (.ackFailed (.ite h (.ite (.cutFor h) (.ite (.txfDone (.unlaunch h)) (.unlaunch h))))) (.ite h (.ite (.cutFor h) (.ite (.txfDone (.unlaunch h)) (.unlaunch h))))
    · exact .ite (.ackFailed h) h

protected theorem Keeps.stageDrops {c} (h : Keeps s t) : Keeps s (stageDrops c t) := by
  unfold stageDrops
  split
  · exact .retireHeld (.modPort h)
  · split
    · exact .retireHeld (.modVc h)
    · exact h

protected theorem Keeps.cellFails {c} (h : Keeps s t) : Keeps s (cellFails c t) := by
  unfold cellFails
  dsimp only
  split
  · exact .zeroCells (.retireQueued (.unlinkItem (.foldl h fun _ h => .sliceLetsGo h)))
  · split
    · exact .zeroCells (.dropRest (.foldl h fun _ h => .sliceLetsGo h))
    · split
      · exact .zeroCells (.retireHeld (.dropHeldItem (.foldl h fun _ h => .sliceLetsGo h)))
      · exact .zeroCells (.stageDrops (.foldl h fun _ h => .sliceLetsGo h))

protected theorem Keeps.journalFails {idx} (h : Keeps s t) : Keeps s (journalFails idx t) := by
  unfold journalFails
  exact .ite (.ite (.same h) (.ite (.same h) h)) (.same h)

protected theorem Keeps.profileFails {p} (h : Keeps s t) : Keeps s (profileFails p t) := by
  unfold profileFails
  exact .ite (.same h) (.loseReception h)

protected theorem Keeps.cacheFails {i} (h : Keeps s t) : Keeps s (cacheFails i t) := by
  unfold cacheFails
  exact .ite (.same h) (.sweepEntries h)

protected theorem Keeps.stagingFails (h : Keeps s t) : Keeps s (stagingFails t) := by
  unfold stagingFails
  exact .ite (.diverge h) h

protected theorem Keeps.jobsFail (h : Keeps s t) : Keeps s (jobsFail t) := by
  unfold jobsFail
  exact .bump (.notify (.same h))

protected theorem Keeps.regionFails {r p} (h : Keeps s t) : Keeps s (regionFails r p t) := by
  unfold regionFails
  split
  · exact .cellFails h
  · exact .chipFaultOp h
  · exact .chipFaultOp h
  · exact .journalFails h
  · exact .profileFails h
  · exact .chipFaultOp h
  · exact .cacheFails h
  · exact .stagingFails h
  · exact .jobsFail h
  · exact h

protected theorem Keeps.meetError {e} (h : Keeps s t) : Keeps s (meetError t e) := by
  unfold meetError
  exact .ite (.same h) (.ite (.countCorrected h) (.regionFails (.uncorrectable h)))

protected theorem Keeps.meetErrors {errs} (h : Keeps s t) : Keeps s (meetErrors errs t) := by
  unfold meetErrors
  exact .foldl h fun _ h => .meetError h

/-! ## Cascade -/

protected theorem Keeps.heardBlock {l} (h : Keeps s t) : Keeps s (heardBlock l t) := by
  unfold heardBlock
  exact .modLink h

protected theorem Keeps.csendNow {kind dest m1 m2} (h : Keeps s t) : Keeps s (csendNow kind dest m1 m2 t).2 := by
  unfold csendNow
  exact .foldlSnd h fun _ h => .sendOn h

protected theorem Keeps.csendWake (h : Keeps s t) : Keeps s (csendWake t) := by
  unfold csendWake
  split
  · exact .ite (.unblockCond (.csendNow h)) h
  · exact h

protected theorem Keeps.cbarDone {bar mask} (h : Keeps s t) : Keeps s (cbarDone bar mask t) := by
  unfold cbarDone
  split
  · exact .ite (.unblockCond h) h
  · exact h

protected theorem Keeps.announce {bar} (h : Keeps s t) : Keeps s (announce t bar) := by
  unfold announce
  exact .ite (.cbarDone (.sendMsg (.same h))) h

protected theorem Keeps.arrive {pos bar} (h : Keeps s t) : Keeps s (arrive pos bar t) := by
  unfold arrive
  exact .announce (.same h)

protected theorem Keeps.execCbarArriveSelf {who bar} (h : Keeps s t) : Keeps s (execCbar.arriveSelf who bar t) := by
  unfold execCbar.arriveSelf
  exact .ite (.retOk (.sendMsg (.same h))) (.arrive h)

protected theorem Keeps.latestReached {q} (h : Keeps s t) : Keeps s (latestReached q t) := by
  unfold latestReached
  dsimp only
  split
  · split <;> exact .unblockCond (.reachElapsed h)
  · exact .ite (.unblockCond (.reachElapsed h)) (.withDraw (.reachElapsed h) fun _ h => .unblockCond h)
  · exact h

protected theorem Keeps.linkUp {l b} (h : Keeps s t) : Keeps s (linkUp l b t) := by
  unfold linkUp
  exact .recompute (.notify (.modLink h))

protected theorem Keeps.creditBlock {l v cnt delivered} (h : Keeps s t) : Keeps s (creditBlock l v cnt delivered t) := by
  unfold creditBlock
  exact .ite h (.csendWake (.pump (.retireCovered (.modVc (.heardBlock h)))))

protected theorem Keeps.resyncReplied {l v delivered grant} (h : Keeps s t) : Keeps s (resyncReplied l v delivered grant t) := by
  unfold resyncReplied
  exact .ite h (.csendWake (.pump (.bumpN (.modVc (.retireCovered (.modVc (.heardBlock h)))))))

protected theorem Keeps.casItemIn {l q f} (h : Keeps s t) : Keeps s (casItemIn l q f t) := by
  unfold casItemIn
  dsimp only
  exact .ite (.bump h) (.ite h (.ite (.bump (.bump h)) (.pushOrExc (.same (.takeCells (.takeJob h))))))

protected theorem Keeps.msgIn {m} (h : Keeps s t) : Keeps s (msgIn m t) := by
  unfold msgIn
  dsimp only
  split
  · exact .bump h
  · split
    · exact .pushOrExc (.snd (.createItem h) ‹_›)
    · exact .bump (.snd (.createItem h) ‹_›)

protected theorem Keeps.barrierArrived {pos bar} (h : Keeps s t) : Keeps s (barrierArrived pos bar t) := by
  unfold barrierArrived
  exact .ite (.arrive h) h

protected theorem Keeps.barrierAnnounced {bar mask} (h : Keeps s t) : Keeps s (barrierAnnounced bar mask t) := by
  unfold barrierAnnounced
  exact .ite (.cbarDone h) h

protected theorem Keeps.positionAbsent {p} (h : Keeps s t) : Keeps s (positionAbsent p t) := by
  unfold positionAbsent
  split
  · exact .ite (.ite (.foldl (.notify (.same (.reachElapsed h))) fun _ h => .announce h) (.notify (.same (.reachElapsed h)))) h
  · exact h

protected theorem Keeps.relayGo {w pos cnt} (h : Keeps s t) : Keeps s (relayGo w pos cnt t).2.2 := by
  unfold relayGo
  split
  · exact .pRange h
  · split
    · exact .pRef h
    · split
      · exact .pRef h
      · split
        · split
          · exact h
          · exact .pOk (.sendMsg (.same h))
        · exact .pRef h

protected theorem Keeps.relayEnds {executed w0 w1 w2} (h : Keeps s t) : Keeps s (relayEnds executed w0 w1 w2 t) := by
  unfold relayEnds
  split
  · exact .notify (.same h)
  · exact h

protected theorem Keeps.alignTime {e} (h : Keeps s t) : Keeps s (alignTime e t) := by
  unfold alignTime
  exact .ite (.same h) (.ite (.same (.useStep (.stepTb h))) (.ite (.same (.stepTb h)) (.same (.ite h (.notify h)))))

protected theorem Keeps.followGrid {f} (h : Keeps s t) : Keeps s (followGrid f t) := by
  unfold followGrid
  exact .ite (.ite (.setPar (.same h)) h) (.ite h (.notify (.slotsFail (.haltGrid h))))

protected theorem Keeps.timeServo {arr e} (h : Keeps s t) : Keeps s (timeServo arr e t) := by
  unfold timeServo
  exact .ite (.same h) (.servo (.same h))

protected theorem Keeps.timeFrame {l f} (h : Keeps s t) : Keeps s (timeFrame l f t) := by
  unfold timeFrame
  dsimp only
  split
  · exact h
  · split
    · exact .modVc (.heardBlock h)
    · exact .ite (.modVc (.heardBlock h)) (.ite (.followGrid (.same (.alignTime (.modVc (.heardBlock h))))) (.ite (.followGrid (.timeServo (.modVc (.heardBlock h)))) (.bump (.modVc (.heardBlock h)))))

/-! ## Twin -/

protected theorem Keeps.unfreeze (h : Keeps s t) : Keeps s (unfreeze t) := by
  unfold unfreeze
  exact .slotsPassed (.same h)

protected theorem Keeps.yieldTimedOut (h : Keeps s t) : Keeps s (yieldTimedOut t) := by
  unfold yieldTimedOut
  split
  · exact .unblockCond (.unfreeze (.same (.reachElapsed h)))
  · exact h

protected theorem Keeps.yieldConfirmed (h : Keeps s t) : Keeps s (yieldConfirmed t) := by
  unfold yieldConfirmed
  split
  · exact .unblockCond (.recompute (.unfreeze (.twin h .now .cycle)))
  · exact h

protected theorem Keeps.activate (h : Keeps s t) : Keeps s (activate t).2.2 := by
  unfold activate
  split
  · exact .pRef h
  · exact .pOk (.withDraw h fun _ h => .same h)

protected theorem Keeps.bothActive {h'} (h : Keeps s t) : Keeps s (bothActive h' t) := by
  unfold bothActive
  exact .ite (.ite (.withdraw h) h) h

protected theorem Keeps.learnResult {h'} (h : Keeps s t) : Keeps s (learnResult h' t) := by
  unfold learnResult
  exact .ite h (.ite (.compareMatched h) (.same (.diverge h)))

protected theorem Keeps.heartbeat {k h'} (h : Keeps s t) : Keeps s (heartbeat k h' t) := by
  unfold heartbeat
  exact .ite h (.ite (.notify (.learnResult (.ite (.yieldConfirmed (.same (.modVc (.heardBlock h)))) (.bothActive (.same (.modVc (.heardBlock h))))))) (.learnResult (.ite (.yieldConfirmed (.same (.modVc (.heardBlock h)))) (.bothActive (.same (.modVc (.heardBlock h)))))))

protected theorem Keeps.reportLost (h : Keeps s t) : Keeps s (reportLost t) := by
  unfold reportLost
  exact .ite h (.notify (.same h))

protected theorem Keeps.takeoverDue (h : Keeps s t) : Keeps s (takeoverDue t) := by
  unfold takeoverDue
  exact .ite h (.ite (.takeover (.reachElapsed h)) (.reportLost (.reachElapsed h)))

protected theorem Keeps.stageWrite {n body} (h : Keeps s t) (hbody : ∀ {v}, Keeps s v → Keeps s (body v)) :
    Keeps s (stageWrite n body t) := by
  unfold stageWrite
  exact .ite (.diverge h) (hbody (.same h))

protected theorem Keeps.mirrorEffect {m} (h : Keeps s t) : Keeps s (mirrorEffect m t) := by
  unfold mirrorEffect
  split
  · exact h
  · exact h
  · exact h
  · exact h
  · exact h
  · exact .same h
  · exact .modSlot (.revokeEntries h)
  · exact .kzeroOp h
  · exact .kzeroAllOp h
  · exact .modRoster h
  · exact .stageWrite h fun h => .setEntry h
  · exact .stageWrite h fun h => .setEntry h

protected theorem Keeps.endMarker {m} (h : Keeps s t) : Keeps s (endMarker m t) := by
  unfold endMarker
  split
  · exact h
  · split
    · exact h
    · rename_i r e
      have hMatched : Keeps s { t with twin := { t.twin with comparedAsn := m.asn, start := some r, cycle := none, staged := 0 } } :=
        .twin h (.inr (.inr (.inl e.symm))) .none
      exact .ite (.diverge (.same h)) (.ite (.diverge (.same h)) (.ite (.takeover (.compareMatched hMatched)) (.compareMatched hMatched)))

protected theorem Keeps.syncCal {n} (h : Keeps s t) : Keeps s (syncCal t n) := by
  unfold syncCal
  exact .ite h (.startCal h)

protected theorem Keeps.fullSyncTimedOut (h : Keeps s t) : Keeps s (fullSyncTimedOut t) := by
  unfold fullSyncTimedOut
  split
  · have hEnd : ∀ {e}, Keeps s { reachElapsed e t with twin := { (reachElapsed e t).twin with syncAt := none } } := .same (.reachElapsed h)
    refine .ite h (.notify (.endSyncTickets (.ite ?_ hEnd)))
    exact .twin hEnd .start .none
  · exact h

end Sys2Proof.Machine
end

section
/-! PROOF. Power, start-up, the host interface and the parameters: each operation keeps what every command keeps. -/

namespace Sys2Proof.Machine

set_option Elab.async false

variable {s t u : State}

/-! ## Operations of power -/

protected theorem Keeps.startRef (h : Keeps s t) : Keeps s (startRef t) := by
  unfold startRef
  exact .same h

protected theorem Keeps.clkPll {k} (h : Keeps s t) (hk : ∀ {v} x0, Keeps s v → Keeps s (k x0 v)) : Keeps s (clkPll t k) := by
  unfold clkPll
  exact .withDraw h fun _ h => .ite (hk _ (.same (.reachElapsed h))) (hk _ (.reachElapsed h))

protected theorem Keeps.degradedEnter (h : Keeps s t) : Keeps s (degradedEnter t) := by
  unfold degradedEnter
  exact .ite (.ite (.disqualifyRef (.same h)) h) (.notify (.linksDown (.foldl (.disqualifyRef (.same h)) fun _ h => .stopAir h)))

protected theorem Keeps.degradedLeave (h : Keeps s t) : Keeps s (degradedLeave t) := by
  unfold degradedLeave
  exact .ite h (.ite (.clkPll (.startLinks (.same h)) fun _ h => .notify h) (.startLinks (.same h)))

protected theorem Keeps.wakeCleared (h : Keeps s t) : Keeps s (wakeCleared t) := by
  unfold wakeCleared
  exact .same h

protected theorem Keeps.gridCatchUp (h : Keeps s t) : Keeps s (gridCatchUp t) := by
  unfold gridCatchUp
  exact .ite (.gridEnd (.foldl (.same h) fun _ h => .switchBank h)) h

protected theorem Keeps.setTimer {from_} (h : Keeps s t) : Keeps s (setTimer from_ t) := by
  unfold setTimer
  dsimp only
  split
  · exact .same h
  · split <;> exact .same h

protected theorem Keeps.hotDie (h : Keeps s t) : Keeps s (hotDie t) := by
  unfold hotDie
  exact .ite (.bump (.same h)) h

protected theorem Keeps.coreStops (h : Keeps s t) : Keeps s (coreStops t) := by
  unfold coreStops
  extract_lets a b c d m _ _ _ off hot
  have hd : Keeps s d := .foldl (.foldl (.setPpsOut (.linksDown h)) fun _ h => .modTrig h) fun _ h => .modSlice h
  clear_value d
  have hOff : Keeps s off := .same hd (by dsimp only [State.core, off])
  clear_value off
  have hHot : Keeps s hot := .hotDie hOff
  clear_value hot
  exact .ite hOff (.ite (.setTimer hHot) (.same hHot))

protected theorem Keeps.settleSleep (h : Keeps s t) : Keeps s (settleSleep t) := by
  unfold settleSleep
  exact .ite (.coreStops h) h

protected theorem Keeps.postDue (h : Keeps s t) : Keeps s (postDue t) := by
  unfold postDue
  extract_lets d _ a b n _
  have ha : Keeps s a := .same h (by dsimp only [State.core, a])
  have hb : Keeps s b := .foldl ha fun _ h => .notify h
  clear_value b
  exact .foldl (.same hb) fun _ h => .notify h

protected theorem Keeps.restDone {st w1 w2} (h : Keeps s t) : Keeps s (restDone st w1 w2 t) := by
  unfold restDone
  exact .ite (.unblockCond (.modRecord (.same h))) (.same h)

protected theorem Keeps.beginWake {src slotWake} (h : Keeps s t) : Keeps s (beginWake src slotWake t) := by
  unfold beginWake
  exact .same h

protected theorem Keeps.endSleep {src} (h : Keeps s t) : Keeps s (endSleep src t) := by
  unfold endSleep
  exact .restDone (.startLinks (.same h))

protected theorem Keeps.wakeEvent {src} (h : Keeps s t) : Keeps s (wakeEvent src t) := by
  unfold wakeEvent
  split
  · exact h
  · split
    · exact .withDraw h fun _ h => .ite (.restDone (.same h)) (.ite (.coreStops h) (.beginWake (.coreStops h)))
    · split
      · exact .endSleep h
      · split
        · exact .ite (.same h) h
        · exact .ite h (.beginWake h)

protected theorem Keeps.awaitsPassed (h : Keeps s t) : Keeps s (awaitsPassed t) := by
  unfold awaitsPassed
  refine .foldl h fun _ h => ?_
  split
  · exact .ite (.unblock (.kickWdog h)) h
  · exact .ite (.unblock (.kickWdog h)) h
  · exact h

protected theorem Keeps.lateSlots (h : Keeps s t) : Keeps s (lateSlots t) := by
  unfold lateSlots
  split
  · exact .ite (.slotsDone h) h
  · exact h

protected theorem Keeps.relockSlices (h : Keeps s t) : Keeps s (relockSlices t) := by
  unfold relockSlices
  exact .foldl h fun _ h => .ite (.beginRetune (.modSlice h)) h

protected theorem Keeps.resumeTime (h : Keeps s t) : Keeps s (resumeTime t) := by
  unfold resumeTime
  exact .servoFirst (.awaitsPassed (.same (.foldl (.gridCatchUp h) fun _ h => .stepTrig h)))

protected theorem Keeps.takeCarry {k} (h : Keeps s t) (hk : ∀ {v}, Keeps s v → Keeps s (k v)) : Keeps s (takeCarry t k) := by
  unfold takeCarry
  exact .withDraw h fun _ h => hk (.ite (.same h) h)

protected theorem Keeps.wakeDone {w} (h : Keeps s t) : Keeps s (wakeDone w t) := by
  unfold wakeDone
  refine .takeCarry h fun {v} hv => ?_
  extract_lets left _ a _ b c d late _ e f
  have ha : Keeps s a := .wakeCleared (.bump (.qualifyRef (.same hv)))
  clear_value a
  have hb : Keeps s b := .same ha (by dsimp only [State.core, b])
  clear_value b
  have hc : Keeps s c := .ite (.clkPll hb fun _ h => h) hb
  clear_value c
  have hd : Keeps s d := .resumeTime (.relockSlices hc)
  clear_value d
  have he : Keeps s e := .same hd (by dsimp only [State.core, e])
  clear_value e
  have hf : Keeps s f := .endSleep hd
  clear_value f
  exact .ite (.ite (.bump (.lateSlots he)) he) (.ite (.degradedLeave (.same hf)) hf)

protected theorem Keeps.wakeFailed {w} (h : Keeps s t) : Keeps s (wakeFailed w t) := by
  unfold wakeFailed
  extract_lets st _ a _ b c d e
  have ha : Keeps s a := .bump (.same h)
  clear_value a
  have hb : Keeps s b := .gridCatchUp (.same ha)
  have hc : Keeps s c := .resumeTime (.postDue (.same ha))
  have hd : Keeps s d := .degradedEnter hc
  have he : Keeps s e := .ite (.lateSlots hd) hd
  exact .ite (.ite (.setTimer hb) hb) (.restDone (.same he))

protected theorem Keeps.wakeTimeout {step ns} (h : Keeps s t) : Keeps s (wakeTimeout step ns t) := by
  unfold wakeTimeout
  split
  · exact .ite h (.ite (.wakeFailed (.reachElapsed h)) (.same (.reachElapsed h)))
  · exact h

protected theorem Keeps.coreStarts (h : Keeps s t) : Keeps s (coreStarts t) := by
  unfold coreStarts
  exact .recompute (.startLinks (.postDue (.ite (.notify (.ite (.same h) (.notify (.same h)))) (.ite (.same h) (.notify (.same h))))))

/-- A loss of power leaves the queue and the fuses and empties the memories and a twin's snapshots. -/
theorem core_powerLost (t : State) : (powerLost t).core =
    { pending := t.pending, fused := t.sec.fused, arbFuse := t.boot.arbFuse, vkRev := t.boot.vkRev, progMem := []
      schedMem := [], ringMem := [], start := none, cycle := none } := by
  dsimp only [State.core, powerLost, SecS.kept, BootS.kept]

protected theorem Keeps.powerLost (h : Keeps s t) : Keeps s (powerLost t) := by
  refine h.trans ?_
  unfold Keeps
  rw [core_powerLost]
  exact ⟨rfl, le_refl _, le_refl _, BitVec.and_self, fun _ => ⟨rfl, rfl, rfl, by simp, by simp⟩⟩

protected theorem Keeps.coreReset {cause} (h : Keeps s t) : Keeps s (coreReset cause t) := by
  unfold coreReset
  exact .coreStarts (.same (Keeps.powerLost h) (by dsimp only [State.core, powerLost, SecS.kept, BootS.kept]))

protected theorem Keeps.assertPwron {why} (h : Keeps s t) : Keeps s (assertPwron why t) := by
  unfold assertPwron
  exact .same h

protected theorem Keeps.enterLocked (h : Keeps s t) : Keeps s (enterLocked t) := by
  unfold enterLocked
  exact .withDraw h fun _ h => .zeroDevice (.zeroVault (.same h))

protected theorem Keeps.integrityCheck {crcOk canaryOk} (h : Keeps s t) : Keeps s (integrityCheck crcOk canaryOk t) := by
  unfold integrityCheck
  exact .ite h (.ite (.enterLocked (.same h)) (.same h))

/-! ## Calendar clock -/

protected theorem Keeps.reachPulse {d} (h : Keeps s t) : Keeps s (reachPulse d t) := by
  unfold reachPulse
  exact .reachElapsed h

protected theorem Keeps.backupNotice {kind subject st} (h : Keeps s t) : Keeps s (backupNotice kind subject st t) := by
  unfold backupNotice
  exact .ite (.notify h) (.ite (.same h) h)

protected theorem Keeps.fireAlarm {st late} (h : Keeps s t) : Keeps s (fireAlarm st late t) := by
  unfold fireAlarm
  exact .ite (.assertPwron (.backupNotice (.same h))) (.wakeEvent (.backupNotice (.same h)))

protected theorem Keeps.rtcTransfer {time date tw dw} (h : Keeps s t) : Keeps s (rtcTransfer time date tw dw t) := by
  unfold rtcTransfer
  exact .ite (.fireAlarm (.same h)) (.same h)

protected theorem Keeps.rtcCommit {v} (h : Keeps s t) : Keeps s (rtcCommit v t).2.2 := by
  unfold rtcCommit
  dsimp only
  split
  · exact .pRange h
  · split
    · exact .pOk (.setXovr (.same h))
    · exact .pOk (.rtcTransfer h)

protected theorem Keeps.alarmSent {a} (h : Keeps s t) : Keeps s (alarmSent a t) := by
  unfold alarmSent
  split
  · exact .same h
  · exact .same h
  · exact .ite (.same h) (.ite (.fireAlarm (.same h)) (.same h))

protected theorem Keeps.alarmOffer {f} (h : Keeps s t) : Keeps s (alarmOffer f t) := by
  unfold alarmOffer
  exact .ite (.setXovr (.same h)) (.alarmSent h)

protected theorem Keeps.alarmCtrl {arm} (h : Keeps s t) : Keeps s (alarmCtrl arm t).2.2 := by
  unfold alarmCtrl
  dsimp only
  split
  · exact .pOk (.alarmOffer h)
  · split
    · exact .pRange h
    · split
      · exact .pRef h
      · exact .pOk (.alarmOffer h)

protected theorem Keeps.trimSent {t'} (h : Keeps s t) : Keeps s (trimSent t' t) := by
  unfold trimSent
  exact .same h

protected theorem Keeps.rtcTrim {t'} (h : Keeps s t) : Keeps s (rtcTrim t' t).2.2 := by
  unfold rtcTrim
  exact .pOk (.ite (.setXovr (.same h)) (.trimSent h))

protected theorem Keeps.rtcAcked (h : Keeps s t) : Keeps s (rtcAcked t) := by
  unfold rtcAcked
  dsimp only
  split
  · split
    · split
      · exact .rtcTransfer (.alarmSent (.trimSent (.same h)))
      · exact .rtcTransfer (.alarmSent (.same h))
    · split
      · exact .rtcTransfer (.trimSent (.same h))
      · exact .rtcTransfer (.same h)
  · split
    · split
      · exact .alarmSent (.trimSent (.same h))
      · exact .alarmSent (.same h)
    · split
      · exact .trimSent (.same h)
      · exact .same h

protected theorem Keeps.rtcTick (h : Keeps s t) : Keeps s (rtcTick t) := by
  unfold rtcTick
  extract_lets d a
  have ha : Keeps s a := .reachPulse h
  clear_value a
  split
  · exact h
  · split
    exact .ite (.fireAlarm (.same ha)) (.same ha)

/-! ## Power -/

/-- A move of run mode sets the mode and the listening cap. -/
protected theorem Keeps.runMode {m c} (h : Keeps s t) : Keeps s { t with pw := { t.pw with mode := m, listenCap := c } } := .same h

protected theorem Keeps.pmodeDone {refOk} (h : Keeps s t) : Keeps s (pmodeDone refOk t) := by
  unfold pmodeDone
  split
  · exact h
  · extract_lets _ a fin b _ c _ d e _ f
    have ha : Keeps s a := .same h (by dsimp only [State.core, a])
    clear_value a
    have hFin : ∀ {v}, Keeps s v → Keeps s (fin v) := fun hv => .endPending hv
    clear_value fin
    have hb : Keeps s b := .foldl ha fun _ h => .stopAir h
    have hc : Keeps s c := .ite ha (.qualifyRef ha)
    clear_value b c
    have hd : Keeps s d := .same hc (by dsimp only [State.core, d])
    clear_value d
    have he : Keeps s e := .wakeCleared (.degradedLeave hd)
    clear_value e
    have hf : Keeps s f := .reachElapsed (.same ha)
    clear_value f
    exact .ite (hFin (.runMode hb)) (.ite (.ite (hFin he) (.clkPll he fun _ h => hFin h)) (.endPending hf))

protected theorem Keeps.dmaInFlight {k} (h : Keeps s t) (hk : ∀ {v} x0, Keeps s v → Keeps s (k x0 v)) : Keeps s (dmaInFlight k t) := by
  unfold dmaInFlight
  exact .ite (.withDraw h fun _ h => hk _ h) (hk _ h)

protected theorem Keeps.refQualified (h : Keeps s t) : Keeps s (refQualified t) := by
  unfold refQualified
  split
  · exact h
  · split
    · exact .ite (.wakeDone h) h
    · exact .degradedLeave (.qualifyRef h)

protected theorem Keeps.refCount {n} (h : Keeps s t) : Keeps s (refCount n t) := by
  unfold refCount
  exact .ite h (.ite (.same h) (.degradedEnter h))

protected theorem Keeps.refLost (h : Keeps s t) : Keeps s (refLost t) := by
  unfold refLost
  exact .ite h (.degradedEnter (.reachElapsed h))

protected theorem Keeps.refRetry {good} (h : Keeps s t) : Keeps s (refRetry good t) := by
  unfold refRetry
  exact .ite h (.ite (.degradedLeave (.qualifyRef (.startRef h))) (.reachElapsed (.same (.startRef h))))

protected theorem Keeps.wakeSource {src} (h : Keeps s t) : Keeps s (wakeSource src t) := by
  unfold wakeSource
  exact .ite h (.wakeEvent h)

protected theorem Keeps.dozeTimer (h : Keeps s t) : Keeps s (dozeTimer t) := by
  unfold dozeTimer
  dsimp only
  split
  · split
    · exact .settleSleep h
    · split
      · exact .setTimer (.gridCatchUp (.reachTb (.settleSleep h)))
      · exact .ite (.beginWake (.gridCatchUp (.reachTb (.settleSleep h)))) (.setTimer (.gridCatchUp (.reachTb (.settleSleep h))))
  · exact .settleSleep h

protected theorem Keeps.returnToSleep (h : Keeps s t) : Keeps s (returnToSleep t) := by
  unfold returnToSleep
  dsimp only
  split
  · split
    · exact .ite (.coreStops h) h
    · exact h
  · exact h

protected theorem Keeps.rtcDefaults (h : Keeps s t) : Keeps s (rtcDefaults t) := by
  unfold rtcDefaults
  exact .same h

protected theorem Keeps.bkpClear (h : Keeps s t) : Keeps s (bkpClear t).2.2 := by
  unfold bkpClear
  exact .pOk (.same h)

protected theorem Keeps.abortExports (h : Keeps s t) : Keeps s (abortExports t) := by
  unfold abortExports
  exact .foldl (.same h) fun _ h => .endPending h

protected theorem Keeps.tamper {input} (h : Keeps s t) : Keeps s (tamper input t) := by
  unfold tamper
  extract_lets _ a ph x _ _
  have hx : Keeps s x := .zeroDevice (.zeroVault (.same h))
  clear_value x a
  split
  · exact h
  · split
    extract_lets b c _ d e _
    have hc : Keeps s c := .bump (.same hx)
    clear_value c
    have hd : Keeps s d := .ite (.notify hc) (.same hc)
    clear_value d
    have he : Keeps s e := .ite hd (.enterLocked hd)
    clear_value e
    exact .ite (.ite he (.same he)) (.ite (.same hd) (.ite (.ite (.assertPwron hd) (.wakeEvent hd)) (.abortExports hd)))

/-! ## Start-up and the service port -/

protected theorem Keeps.flashOp {body} (h : Keeps s t) (hbody : ∀ {v}, Keeps s v → Keeps s (body v)) : Keeps s (flashOp body t).2 := by
  unfold flashOp
  dsimp only
  split
  · exact hbody (.same h)
  · exact .same h

protected theorem Keeps.writeRec {f} (h : Keeps s t) : Keeps s (writeRec f t).2 := by
  unfold writeRec
  exact .flashOp h fun h => .ite (.same h) (.same h)

protected theorem Keeps.andThen {f x} (h : Keeps s x.2) (hf : ∀ {v}, Keeps s v → Keeps s (f v).2) : Keeps s (andThen f x).2 := by
  unfold andThen
  split
  · exact hf h
  · exact h

protected theorem Keeps.burnFuses {arb rev} (h : Keeps s t) : Keeps s (burnFuses arb rev t) := by
  unfold burnFuses
  exact .writeRec (.burned h)

protected theorem Keeps.setPhase {p} (h : Keeps s t) : Keeps s (setPhase p t) := by
  unfold setPhase
  exact .same h

protected theorem Keeps.copyPhase1 (h : Keeps s t) : Keeps s (copyPhase1 t).2 :=
  .andThen (.flashOp h fun h => .same h) fun h => .writeRec h

protected theorem Keeps.copyPhase2 (h : Keeps s t) : Keeps s (copyPhase2 t).2 :=
  .andThen (.flashOp h fun h => .same h) fun h => .writeRec h

protected theorem Keeps.takeRequest (h : Keeps s t) : Keeps s (takeRequest t) := by
  unfold takeRequest
  exact .ite h (.ite (.same (.writeRec h)) (.writeRec h))

protected theorem Keeps.copies (h : Keeps s t) : Keeps s (copies t).2 := by
  unfold copies
  refine .andThen ?_ fun {v} hv => ?_
  · split
    · exact .andThen (.copyPhase1 h) fun h => .copyPhase2 h
    · exact .copyPhase2 h
    · exact h
  · split
    · exact hv
    · extract_lets st
      split
      · exact .notify (.writeRec hv)
      · split
        · exact .andThen (.andThen (.writeRec hv) fun h => .copyPhase1 h) fun h => .copyPhase2 h
        · exact .andThen (.writeRec hv) fun h => .copyPhase2 h

protected theorem Keeps.countTrial (h : Keeps s t) : Keeps s (countTrial t) := by
  unfold countTrial
  exact .ite (.burnFuses (.ite (.ite (.writeRec h) (.writeRec h)) h)) (.ite (.ite (.writeRec h) (.writeRec h)) h)

protected theorem Keeps.launchImage {fb reason} (h : Keeps s t) : Keeps s (launchImage fb reason t) := by
  unfold launchImage
  split
  · exact .setPhase h
  · exact .ite (.notify (.modWhost (.modWhost (.same h)))) (.same h)

protected theorem Keeps.selectSlot (h : Keeps s t) : Keeps s (selectSlot t) := by
  unfold selectSlot
  exact .ite (.launchImage h) (.ite (.launchImage (.ite h (.writeRec h))) (.setPhase (.writeRec (.ite h (.writeRec h)))))

protected theorem Keeps.decideRecord (h : Keeps s t) : Keeps s (decideRecord t) := by
  unfold decideRecord
  exact .ite (.setPhase h) (.ite (.selectSlot (.countTrial (.copies (.takeRequest h)))) (.setPhase (.copies (.takeRequest h))))

protected theorem Keeps.startUnwritten (h : Keeps s t) : Keeps s (startUnwritten t) := by
  unfold startUnwritten
  exact .ite (.launchImage h) (.setPhase h)

protected theorem Keeps.readFlash (h : Keeps s t) : Keeps s (readFlash t) := by
  unfold readFlash
  exact .ite (.setPhase h) (.ite (.ite (.launchImage h) (.setPhase h)) (.decideRecord h))

protected theorem Keeps.keysAndBootsel (h : Keeps s t) : Keeps s (keysAndBootsel t) := by
  unfold keysAndBootsel
  exact .ite (.same (.deriveDevice h)) (.ite (.setPhase (.deriveDevice h)) (.readFlash (.deriveDevice h)))

protected theorem Keeps.lockedService (h : Keeps s t) : Keeps s (lockedService t) := by
  unfold lockedService
  exact .same (.setPhase h)

protected theorem Keeps.rootGeneration (h : Keeps s t) (hBlank : t.sec.fused = 0) : Keeps s (rootGeneration t) := by
  have hLife : t.sec.fused ≤ 1 := hBlank ▸ Nat.zero_le 1
  have hBurned := h.life hLife
  have hTake : ∀ {root n m}, Keeps s (if t.sec.bankB = 0 then
      { t with freeCount := n, sec := { t.sec with bankA := m, rootB := root, bankB := 1, fused := 1 } }
      else { t with freeCount := n, sec := { t.sec with bankA := m } }) := .ite (.same hBurned) (.same h)
  unfold rootGeneration withDraw
  dsimp only
  refine .ite h (.ite (.same h) (.ite (.ite (.same hBurned) (.ite ?_ (.same h))) (.ite ?_ (.same h))))
  · exact .ite (.same hBurned) (.same h)
  · exact .ite (.same hBurned) (.same h)

protected theorem Keeps.trailhead (h : Keeps s t) : Keeps s (trailhead t) := by
  unfold trailhead
  extract_lets a
  have ha : Keeps s a := by
    dsimp only [a]
    split
    · exact .rootGeneration h ‹_›
    · exact h
  clear_value a
  exact .ite (.setPhase ha) (.ite (.lockedService ha) (.keysAndBootsel ha))

protected theorem Keeps.requestFallback {reason} (h : Keeps s t) : Keeps s (requestFallback reason t) := by
  unfold requestFallback
  exact .coreReset (.same h)

protected theorem Keeps.confirmNow (h : Keeps s t) : Keeps s (confirmNow t).2 := by
  unfold confirmNow
  split
  · exact h
  · exact .andThen (.writeRec h) fun h => .notify (.same (.ite (.burnFuses h) h))

protected theorem Keeps.confirmAll {l} (h : Keeps s t) : Keeps s (confirmAll l t) := by
  induction l generalizing t with
  | nil => exact h
  | cons x l ih =>
    unfold confirmAll
    extract_lets r
    have hr : Keeps s r.2 := by
      dsimp only [r]
      split
      · exact h
      · split
        · exact h
        · exact .confirmNow h
    clear_value r
    exact .ite (.requestFallback h) (ih (.endPending hr))

protected theorem Keeps.confirmDone (h : Keeps s t) : Keeps s (confirmDone t) := by
  unfold confirmDone
  exact .confirmAll (.same h)

protected theorem Keeps.selfConfirm (h : Keeps s t) : Keeps s (selfConfirm t) := by
  unfold selfConfirm
  exact .ite (.confirmNow h) h

protected theorem Keeps.trialExpires (h : Keeps s t) : Keeps s (trialExpires t) := by
  unfold trialExpires
  exact .ite h (.ite (.requestFallback (.confirmDone (.reachElapsed h))) (.confirmDone (.reachElapsed h)))

protected theorem Keeps.startConfirm {who reject} (h : Keeps s t) : Keeps s (startConfirm who reject t) := by
  unfold startConfirm
  exact .startPending (.same h)

protected theorem Keeps.restartIfDue (h : Keeps s t) : Keeps s (restartIfDue t) := by
  unfold restartIfDue
  exact .ite (.coreReset h) h

protected theorem Keeps.respond {typ sq st detail rest} (h : Keeps s t) : Keeps s (respond typ sq st detail rest t) := by
  unfold respond
  exact .ite (.same h) (.same h)

protected theorem Keeps.svcRequest {typ sq body} (h : Keeps s t) (hbody : ∀ {v}, Keeps s v → Keeps s (body v)) :
    Keeps s (svcRequest typ sq body t) := by
  unfold svcRequest
  exact .ite h (.ite (.wakeEvent h) (.ite h (.ite (.respond (.same h)) (hbody (.same h)))))

protected theorem Keeps.inFullService {typ sq body} (h : Keeps s t) (hbody : ∀ {v}, Keeps s v → Keeps s (body v)) :
    Keeps s (inFullService typ sq body t) := by
  unfold inFullService
  exact .ite (hbody h) (.respond h)

protected theorem Keeps.closeSession (h : Keeps s t) : Keeps s (closeSession t) := by
  unfold closeSession
  exact .same h

protected theorem Keeps.abortSession (h : Keeps s t) : Keeps s (abortSession t).2 := by
  unfold abortSession
  dsimp only
  split
  · exact .closeSession h
  · split
    · exact .closeSession h
    · exact .writeRec (.closeSession h)

protected theorem Keeps.svcHelloOp {sq lo hi baud} (h : Keeps s t) : Keeps s (svcHelloOp sq lo hi baud t) := by
  unfold svcHelloOp
  exact .svcRequest h fun h => .ite (.respond (.closeSession h)) (.ite (.respond h) (.respond (.same h)))

protected theorem Keeps.svcInfoOp {sq} (h : Keeps s t) : Keeps s (svcInfoOp sq t) := by
  unfold svcInfoOp
  exact .svcRequest h fun h => .respond h

protected theorem Keeps.svcBeginOp {sq h'} (h : Keeps s t) : Keeps s (svcBeginOp sq h' t) := by
  unfold svcBeginOp
  refine .svcRequest h fun {v} h => .inFullService h fun {v} h => ?_
  exact .ite (.respond h) (.ite (.respond h) (.ite (.respond h) (.ite (.respond h)
    (.respond (.andThen (.writeRec h) fun h => .same h)))))

protected theorem Keeps.svcDataOp {sq off body} (h : Keeps s t) : Keeps s (svcDataOp sq off body t) := by
  unfold svcDataOp
  refine .ite (.ite (.bump h) h) (.svcRequest h fun h => ?_)
  exact .inFullService h fun h => .ite (.respond h) (.ite (.respond h) (.ite (.respond h) (.respond (.flashOp h fun h => .same h))))

protected theorem Keeps.stageImage {pt} (h : Keeps s t) : Keeps s (stageImage pt t) := by
  unfold stageImage
  exact .withDraw h fun _ h => .same h

protected theorem Keeps.svcEndOp {sq restart} (h : Keeps s t) : Keeps s (svcEndOp sq restart t) := by
  unfold svcEndOp
  refine .svcRequest h fun {v} h => .inFullService h fun {v} h => .ite (.respond h) (.ite (.respond h) ?_)
  split
  · exact .respond (.same (Keeps.writeRec h))
  · extract_lets hdr r a sent _ b
    have hr : Keeps s r.2 := .andThen (.andThen (.flashOp h fun h => .stageImage h) fun h => .writeRec h) fun h => .notify (.same h)
    clear_value r
    have ha : Keeps s a := .respond hr
    clear_value a
    have hb : Keeps s b := .coreReset ha
    clear_value b
    exact .ite ha (.ite (.same ha) (.same hb))

protected theorem Keeps.svcAbortOp {sq} (h : Keeps s t) : Keeps s (svcAbortOp sq t) := by
  unfold svcAbortOp
  exact .svcRequest h fun h => .inFullService h fun h => .respond (.abortSession h)

protected theorem Keeps.svcStatusOp {sq} (h : Keeps s t) : Keeps s (svcStatusOp sq t) := by
  unfold svcStatusOp
  exact .svcRequest h fun h => .inFullService h fun h => .respond h

/-! ## Host interface -/

protected theorem Keeps.hostWrite {l body} (h : Keeps s t) (hbody : ∀ {v}, Keeps s v → Keeps s (body v)) :
    Keeps s (hostWrite l body t) := by
  unfold hostWrite
  exact .ite h (.ite (.bump h) (hbody h))

protected theorem Keeps.modTx {w r f} (h : Keeps s t) : Keeps s (modTx w r f t) := by
  unfold modTx
  exact .modWhost h

protected theorem Keeps.closeTx {w r} (h : Keeps s t) : Keeps s (closeTx w r t) := by
  unfold closeTx
  dsimp only
  split
  · split
    · exact .same (.modWhost (.modTx (.modPort (.ite (.txfsLost (.dropRest h)) h))))
    · exact .same (.modWhost (.modTx (.modPort (.dropHeldOpen h))))
  · exact .same (.modWhost (.modTx h))

protected theorem Keeps.stopRing {w b} (h : Keeps s t) : Keeps s (stopRing w b t) := by
  unfold stopRing
  dsimp only
  split
  · exact .stopCommand h
  · split
    · split
      · exact .modWhost (.closeTx (.modRing h))
      · exact .modWhost (.modRing h)
    · split
      · exact .ite (.stopOrphan (.closeTx (.modRing h))) (.closeTx (.modRing h))
      · exact .ite (.stopOrphan (.modRing h)) (.modRing h)

protected theorem Keeps.stopRings {w} (h : Keeps s t) : Keeps s (stopRings w t) := by
  unfold stopRings
  exact .foldl h fun _ h => .stopRing h

protected theorem Keeps.startRing {w l b n} (h : Keeps s t) : Keeps s (startRing w l b n t) := by
  unfold startRing
  dsimp only
  split
  · exact .bump h
  · split
    · split
      · exact .closeTx (.modRing h)
      · exact .modRing h
    · exact .notify h

protected theorem Keeps.writeSize {w l b n} (h : Keeps s t) : Keeps s (writeSize w l b n t) := by
  unfold writeSize
  exact .ite (.stopRing h) (.startRing h)

protected theorem Keeps.writeBase {w b word v} (h : Keeps s t) : Keeps s (writeBase w b word v t) := by
  unfold writeBase
  exact .ite (.bump h) (.ite (.modRing h) (.modRing h))

protected theorem Keeps.badBell {off} (h : Keeps s t) : Keeps s (badBell off t) := by
  unfold badBell
  exact .notify (.bump h)

protected theorem Keeps.writeCons {w b v} (h : Keeps s t) : Keeps s (writeCons w b v t) := by
  unfold writeCons
  exact .ite (.bump h) (.ite (.badBell h) (.modRing h))

protected theorem Keeps.producer {w b off p} (h : Keeps s t) : Keeps s (producer w b off p t) := by
  unfold producer
  exact .ite (.modRing h) (.badBell h)

protected theorem Keeps.helloBell {w l v} (h : Keeps s t) : Keeps s (helloBell w l v t) := by
  unfold helloBell
  refine .ite (.badBell h) ?_
  extract_lets _ a n taken
  have ha : Keeps s a := .stopRings (.same h)
  clear_value a
  split
  exact .same (Keeps.modWhost ha)

protected theorem Keeps.windowWrite {w l off v} (h : Keeps s t) : Keeps s (windowWrite w l off v t) := by
  unfold windowWrite
  split
  · exact .bump h
  · split
    · split
      · exact .writeBase h
      · exact .writeBase h
      · exact .writeSize h
      · exact .writeCons h
      · exact .writeBase h
      · exact .writeBase h
      · exact .bump h
    · split
      · exact .helloBell h
      · split
        · exact .producer h
        · split
          · exact .producer h
          · exact .bump h

protected theorem Keeps.readPsum {w} (h : Keeps s t) : Keeps s (readPsum w t) := by
  unfold readPsum
  exact .modWhost (.modWhost (.same h))

protected theorem Keeps.showSilent (h : Keeps s t) : Keeps s (showSilent t) := by
  unfold showSilent
  exact .modWhost (.modWhost (.same h))

protected theorem Keeps.latchTime (h : Keeps s t) : Keeps s (latchTime t) := by
  unfold latchTime
  exact .same h

protected theorem Keeps.readXovr (h : Keeps s t) : Keeps s (readXovr t) := by
  unfold readXovr
  exact .same h

protected theorem Keeps.latchFloors (h : Keeps s t) : Keeps s (latchFloors t) := by
  unfold latchFloors
  exact .same h

protected theorem Keeps.windowRead {w l off} (h : Keeps s t) : Keeps s (windowRead w l off t).2 := by
  unfold windowRead
  split
  · exact .readPsum h
  · split
    · exact h
    · split
      · exact h
      · split
        · exact h
        · split
          · exact h
          · split
            · exact .ite (.latchLedger h) h
            · split
              · exact .ite (.latchHealth h) h
              · split
                · exact .ite (.latchFloors h) h
                · split
                  · exact .ite (.readXovr (.ite (.latchTime h) h)) (.ite (.latchTime h) h)
                  · exact h

protected theorem Keeps.readWords {w n a} (h : Keeps s t) : Keeps s (readWords w n a t).2 := by
  induction n generalizing a t with
  | zero => exact h
  | succ n ih =>
    unfold readWords
    refine ih ?_
    split
    · exact .windowRead h
    · split <;> exact h

protected theorem Keeps.qspiReadOp {w addr len} (h : Keeps s t) : Keeps s (qspiReadOp w addr len t) := by
  unfold qspiReadOp
  exact .ite (.bump h) (.same (.readWords (.ite (.bump h) h)))

protected theorem Keeps.writeWords {w l a} (h : Keeps s t) : Keeps s (writeWords w l a t) := by
  induction l generalizing a t with
  | nil => exact h
  | cons v l ih =>
    unfold writeWords
    exact ih (.ite (.hostWrite h fun h => .windowWrite h) (.ite (.ringMemWrite h) h))

/-! ## Transmit descriptors -/

protected theorem Keeps.writeBack {w r soi eoi d st job detail} (h : Keeps s t) :
    Keeps s (writeBack w r soi eoi d st job detail t) := by
  unfold writeBack
  exact .ite (.modRing (.emit h)) (.ite (.ringMemWrite (.modWhost (.modTx (.modRing (.emit h))))) (.modWhost (.modTx (.modRing (.emit h)))))

protected theorem Keeps.nextRing {w r} (h : Keeps s t) : Keeps s (nextRing w r t) := by
  unfold nextRing
  exact .modWhost h

protected theorem Keeps.modPlaced {w ref f} (h : Keeps s t) : Keeps s (modPlaced w ref f t) := by
  unfold modPlaced
  split
  · exact .modPort h
  · exact .modItem h
  · exact .modSlice h
  · exact h

protected theorem Keeps.addData {w ref data} (h : Keeps s t) : Keeps s (addData w ref data t) := by
  unfold addData
  dsimp only
  split
  · exact h
  · exact .modPlaced (.same (.takeCells h))

protected theorem Keeps.writeLength {w ref} (h : Keeps s t) : Keeps s (writeLength w ref t) := by
  unfold writeLength
  split
  · exact h
  · exact .modPlaced (.same h)

protected theorem Keeps.completeInc {q ref} (h : Keeps s t) : Keeps s (completeInc q ref t) := by
  unfold completeInc
  exact .modQ h

protected theorem Keeps.takeInc {q ref it} (h : Keeps s t) : Keeps s (takeInc q ref it t) := by
  unfold takeInc
  exact .countToHeld (.modQ h)

protected theorem Keeps.refuseStart {w r d st} (h : Keeps s t) : Keeps s (refuseStart w r d st t) := by
  unfold refuseStart
  exact .ite (.nextRing (.writeBack (.modWhost (.modTx (.modPort h))))) (.writeBack (.modWhost (.modTx (.modPort h))))

protected theorem Keeps.grantStart {w r d} (h : Keeps s t) : Keeps s (grantStart w r d t) := by
  have hTaken : Keeps s (takeJob t).2 := .takeJob h
  unfold grantStart
  generalize takeJob t = job at hTaken ⊢
  dsimp only
  have hTx : Keeps s (modWhost w (fun h => { h with txCur := some r }) (modTx w r (fun t => { t with open_ := true, refused := none })
    { job.2 with qp := { job.2.qp with reserved := job.2.qp.reserved + (newItem w job.1 d job.2).resv } })) := .modWhost (.modTx (.same hTaken))
  generalize modWhost w (fun h => { h with txCur := some r }) _ = v at hTx ⊢
  exact .addData (.ite (.setStage (.ite (.modPort (.same hTx)) (.modQ (.modPort (.same hTx)))))
    (.ite (.modPort (.same hTx)) (.modQ (.modPort (.same hTx)))))

protected theorem Keeps.countRefusal {st} (h : Keeps s t) : Keeps s (countRefusal st t) := by
  unfold countRefusal
  exact .ite (.bump h) (.ite (.bump h) h)

protected theorem Keeps.dropAtS6 {w it st} (h : Keeps s t) : Keeps s (dropAtS6 w it st t) := by
  unfold dropAtS6
  split
  · exact .retireQueued (.modQ h)
  · exact .retireHeld (.modPort h)
  · exact h

/-- An item that a queue with room for it is given, or that no queue takes. -/
protected theorem Keeps.pushItem_getD {q it} (h : Keeps s t) (hu : Keeps s u) : Keeps s ((pushItem q it t).getD u) := by
  cases e : pushItem q it t with
  | none => exact hu
  | some v => exact .pushItem h e

protected theorem Keeps.secureAndQueue {w it q} (h : Keeps s t) : Keeps s (secureAndQueue w it q t).2 := by
  unfold secureAndQueue
  split
  · split
    · exact .dropAtS6 (.bump h)
    · dsimp only
      split
      · rename_i e
        have hv := Keeps.snd (.s7Secure (.modPort h)) e
        exact .pushItem_getD (.setStage hv) hv
      · rename_i e
        exact .toException (.snd (.s7Secure (.modPort h)) e)
  · split
    · rename_i e
      exact .completeInc (.setStage (.setStage (.modItem (.snd (.s7Secure h) e))))
    · rename_i e
      exact .toException (.takeInc (.snd (.s7Secure h) e))
  · exact h

protected theorem Keeps.readRouted {it} (h : Keeps s t) : Keeps s (readRouted it t) := by
  unfold readRouted
  dsimp only
  split
  · exact .readRoster (.readTables h)
  · exact .readTables h

protected theorem Keeps.endItem {w ref info} (h : Keeps s t) : Keeps s (endItem w ref info t).2 := by
  unfold endItem
  split
  · exact h
  · extract_lets a _ c _ _ d isHeld e
    have ha : Keeps s a := .writeLength h
    clear_value a
    have hd : Keeps s d := .modPlaced ha
    have hc : Keeps s c := .ite ha (.setStage (.modPlaced ha))
    clear_value c
    clear_value d
    have he : Keeps s e := .ite (.readRouted hd) hd
    clear_value e isHeld
    split
    · split
      · exact .completeInc hc
      · exact hc
    · split
      · exact .dropAtS6 hd
      · split
        · exact .dropAtS6 he
        · dsimp only
          split
          · exact .dropAtS6 (.setEntry (.modPlaced he))
          · exact .secureAndQueue (.setEntry (.modPlaced he))
        · split
          · exact .dropAtS6 he
          · exact .secureAndQueue he

protected theorem Keeps.closeItem {w r} (h : Keeps s t) : Keeps s (closeItem w r t) := by
  unfold closeItem
  exact .nextRing (.modTx (.modPort h))

protected theorem Keeps.dataTaken {w r soi eoi d} (h : Keeps s t) : Keeps s (dataTaken w r soi eoi d t) := by
  unfold dataTaken
  exact .ite (.closeItem (.writeBack (.endItem h))) (.writeBack h)

protected theorem Keeps.startItem {w r d} (h : Keeps s t) : Keeps s (startItem w r d t) := by
  unfold startItem
  split
  · exact .modWhost (.same h)
  · split
    · exact .refuseStart (.countRefusal h)
    · exact .dataTaken (.grantStart h)

protected theorem Keeps.refuseDesc {w r soi eoi d st} (h : Keeps s t) : Keeps s (refuseDesc w r soi eoi d st t) := by
  unfold refuseDesc
  exact .writeBack (.bump (.ite (.modTx h) h))

protected theorem Keeps.soiDesc {w r d} (h : Keeps s t) : Keeps s (soiDesc w r d t) := by
  unfold soiDesc
  exact .ite (.refuseDesc h) (.ite (.refuseDesc (.bump h)) (.startItem h))

protected theorem Keeps.moreDesc {w r eoi d} (h : Keeps s t) : Keeps s (moreDesc w r eoi d t) := by
  unfold moreDesc
  dsimp only
  split
  · exact .ite (.nextRing (.writeBack h)) (.writeBack h)
  · exact .ite (.refuseDesc h) (.ite (.ite (.closeItem (.writeBack h)) (.writeBack h)) (.ite (.refuseDesc h) (.ite (.refuseDesc (.bump h)) (.dataTaken (.addData h)))))

protected theorem Keeps.dmaBad {w b ld} (h : Keeps s t) : Keeps s (dmaBad w b ld t) := by
  unfold dmaBad
  dsimp only
  split
  · exact h
  · split
    · split
      · exact .bump (.notify (.stopRing (.ite (.postCompletion h) h)))
      · exact .bump (.notify (.stopRing h))
    · split
      · exact .bump (.notify (.stopRing (.ite (.postCompletion h) h)))
      · exact .bump (.notify (.stopRing h))

/-! ## Rules of the parameters -/

protected theorem Keeps.seqStart {n} (h : Keeps s t) : Keeps s (seqStart n t).2.2 := by
  unfold seqStart
  dsimp only
  split
  · exact .pRef h
  · split
    · exact .pRef h
    · split
      · exact .pOk (.startOwn h)
      · exact .pRef h

protected theorem Keeps.hostHalt {n v} (h : Keeps s t) : Keeps s (hostHalt n v t) := by
  unfold hostHalt
  exact .ite (.modSeq h) (.ite (.haltSlice h) h)

protected theorem Keeps.seqRestart {n} (h : Keeps s t) : Keeps s (seqRestart n t).2.2 := by
  unfold seqRestart
  split
  · exact .pRef h
  · split
    · exact .pRef h
    · split
      · exact .pOk (.hostHalt h)
      · exact .pOk (.startOwn (.hostHalt h))

protected theorem Keeps.seqCtrl {n v} (h : Keeps s t) : Keeps s (seqCtrl n v t).2.2 := by
  unfold seqCtrl
  split
  · exact .seqStart h
  · exact .pOk (.hostHalt h)
  · exact .seqRestart h

protected theorem Keeps.seqHandover {n arm} (h : Keeps s t) : Keeps s (seqHandover n arm t).2.2 := by
  unfold seqHandover
  split
  · exact .pOk (.modSeq h)
  · split
    · exact .pOk (.modSeq h)
    · exact .pRef h

protected theorem Keeps.putSeg {n k g clear} (h : Keeps s t) : Keeps s (putSeg n k g clear t) := by
  unfold putSeg
  exact .ite (.abandonAll (.modSlice h)) (.modSlice h)

protected theorem Keeps.segCommit {n v} (h : Keeps s t) : Keeps s (segCommit n v t).2.2 := by
  unfold segCommit
  dsimp only
  split
  · exact .pRange h
  · split
    · split
      · exact .pRange h
      · split
        · exact .pRef h
        · exact .pOk (.setPar (.putSeg h))
    · split
      · split
        · exact .pRef h
        · exact .pOk (.setPar (.putSeg h))
      · exact .pOk (.setPar (.foldl h fun _ h => .setPar h))

protected theorem Keeps.xiqCtrl {n v} (h : Keeps s t) : Keeps s (xiqCtrl n v t).2.2 := by
  unfold xiqCtrl
  dsimp only
  split
  · exact .pRef h
  · split
    · exact .pOk (.setPar h)
    · exact .pOk (.modSlice (.setPar h))

protected theorem Keeps.gridCtrl {v} (h : Keeps s t) : Keeps s (gridCtrl v t).2.2 := by
  unfold gridCtrl
  split
  · exact .gridStop h
  · split
    · exact .pRef h
    · split
      · exact .gridStart h
      · exact .gridAcquire h

protected theorem Keeps.ppsEdge {before} (h : Keeps s t) : Keeps s (ppsEdge before t) := by
  unfold ppsEdge
  exact .ite (.ppsRestart h) h

protected theorem Keeps.discipline {v} (h : Keeps s t) : Keeps s (discipline v t).2.2 := by
  unfold discipline
  split
  · exact .pRef h
  · split
    · exact .pOk h
    · exact .pOk (.ppsEdge (.same (.setPar (.clearServo h))))

protected theorem Keeps.ppsInCtrl {v} (h : Keeps s t) : Keeps s (ppsInCtrl v t).2.2 := by
  unfold ppsInCtrl
  exact .pOk (.ppsEdge (.setPar h))

protected theorem Keeps.ppsOutCtrl {v} (h : Keeps s t) : Keeps s (ppsOutCtrl v t).2.2 := by
  unfold ppsOutCtrl
  exact .pOk (.ite (.same (.setPar h)) (.emitPin (.same (.setPar h))))

protected theorem Keeps.lockAck {v} (h : Keeps s t) : Keeps s (lockAck v t).2.2 := by
  unfold lockAck
  split
  · exact .pRef h
  · exact .pOk (.keysAndBootsel (.same (.stopRings (.stopRings h))))

protected theorem Keeps.silentTimeout {v} (h : Keeps s t) : Keeps s (silentTimeout v t).2.2 := by
  unfold silentTimeout
  exact .pOk (.ite (.showSilent (.setPar h)) (.setPar h))

protected theorem Keeps.linkEn {v} (h : Keeps s t) : Keeps s (linkEn v t).2.2 := by
  unfold linkEn
  exact .pOk (.startLinks (.foldl (.setPar h) fun _ h => .ite (.linkDown h) h))

/-! ## SETP -/

protected theorem Keeps.setByClass {d id scope v} (h : Keeps s t) : Keeps s (setByClass d id scope v t) := by
  unfold setByClass
  split
  · exact .setPend h
  · exact .same (.setPar h)
  · exact .setPar h

protected theorem Keeps.gridStopped {body} (h : Keeps s t) (hbody : ∀ {v}, Keeps s v → Keeps s (body v)) :
    Keeps s (gridStopped body t).2.2 := by
  unfold gridStopped
  split
  · exact .pOk (hbody h)
  · exact .pRef h

protected theorem Keeps.flowCtrl {v} (h : Keeps s t) : Keeps s (flowCtrl v t) := by
  unfold flowCtrl
  exact .same (.setPar h)

/-- A SETP of the access rights writes boot's own copy beside the parameter. -/
protected theorem Keeps.accessNew {a} (h : Keeps s t) (hu : Keeps s u) : Keeps s { u with boot := { t.boot with accessNew := a } } :=
  { hu with level := h.level, keys := h.keys, memories := fun hc => { hu.memories hc with } }

protected theorem Keeps.setpEffect {who d id scope v} (h : Keeps s t) : Keeps s (setpEffect who d id scope v t).2.2 := by
  have hPlain : ∀ {u}, Keeps s u → Keeps s (setByClass d id scope v u) := fun h => .setByClass h
  unfold setpEffect
  dsimp only
  split
  · exact .seqCtrl h
  · exact .seqHandover h
  · exact .pOk (.same h)
  · exact .pOk (.accessNew h (hPlain h))
  · exact .gridCtrl h
  · exact .gridStopped h hPlain
  · exact .gridStopped h hPlain
  · exact .gridStopped h hPlain
  · exact .gridStopped h hPlain
  · exact .gridStopped h hPlain
  · exact .profCommit h
  · exact .xiqCtrl h
  · exact .segCommit h
  · exact .pOk (.flowCtrl h)
  · split
    · exact .pRef h
    · exact .pOk (hPlain h)
  · exact .lcAdvance h
  · exact .lockAck h
  · exact .tampCtrl h
  · exact .tampClear h
  · exact .grpFloor (hPlain h)
  · exact .grpFloor (hPlain h)
  · exact .discipline h
  · exact .ppsInCtrl h
  · exact .ppsOutCtrl h
  · split
    · exact .armTrig h
    · exact .disarmTrig h
  · split
    · exact .armTrig h
    · exact .disarmTrig h
  · exact .rtcCommit h
  · exact .rtcTrim h
  · exact .pOk (.alarmOffer h)
  · exact .pOk (.alarmOffer h)
  · exact .alarmCtrl h
  · exact .bkpClear h
  · exact .silentTimeout h
  · exact .linkEn h
  · exact .relayGo h
  · exact .activate h
  · split
    · exact .setBinding h
    · split
      · exact .pOk (.same h)
      · exact .pOk (hPlain h)

protected theorem Keeps.setpChecked {who id scope v} (h : Keeps s t) : Keeps s (setpChecked who id scope v t).2.2.2 := by
  unfold setpChecked
  split
  · exact h
  · split
    · exact h
    · split
      · exact h
      · split
        · exact h
        · exact .setpEffect h

protected theorem Keeps.setpCore {who id scope v} (h : Keeps s t) : Keeps s (setpCore who id scope v t).2.2.2 := by
  unfold setpCore
  split
  · exact h
  · split
    · exact h
    · exact .setpChecked h

protected theorem Keeps.setpOp {who c id scope v} (h : Keeps s t) : Keeps s (setpOp who c id scope v t) := by
  unfold setpOp
  exact .restartIfDue (.issue h fun h => .ret (.setpCore h))

/-! ## SETUP -/

protected theorem Keeps.applyItems {w b k n} (h : Keeps s t) : Keeps s (applyItems w b k n t).2 := by
  induction n generalizing k t with
  | zero => exact h
  | succ n ih =>
    unfold applyItems
    dsimp only
    split
    · exact ih (.setpChecked h)
    · exact h

protected theorem Keeps.applyBlock {w b} (h : Keeps s t) : Keeps s (applyBlock w b t).2 := by
  unfold applyBlock
  exact .applyItems h

protected theorem Keeps.partApplied {b} (h : Keeps s t) : Keeps s (partApplied b t) := by
  unfold partApplied
  exact .ite (.selfConfirm (.same h)) (.same h)

protected theorem Keeps.partFailed (h : Keeps s t) : Keeps s (partFailed t) := by
  unfold partFailed
  exact .same h

protected theorem Keeps.setupParsed (h : Keeps s t) : Keeps s (setupParsed t) := by
  unfold setupParsed
  dsimp only
  split
  · exact h
  · split
    · exact h
    · split
      · split
        · exact .endPending (.partFailed (.retireHeld (.same h)))
        · exact .endPending (.partFailed (.applyBlock (.retireHeld (.same h))))
      · split
        · exact .endPending (.partApplied (.retireHeld (.same h)))
        · exact .endPending (.partApplied (.applyBlock (.retireHeld (.same h))))

end Sys2Proof.Machine
end

section
/-! PROOF. The instructions, the records and the commands: each arm of the dispatch is made of operations that keep what every command
keeps, and a step is a command or a clock period. -/

namespace Sys2Proof.Machine

set_option Elab.async false

variable {s t u : State}

/-! ## Instructions as words of a record -/

protected theorem Keeps.settle (h : Keeps s t) : Keeps s (settle t) := by
  unfold settle
  exact .flowSync (.psumSync h)

/-- What an outcome leaves is reached from s as Keeps says. -/
def Lands (s : State) (o : Host.Outcome State Fault Refusal) : Prop := ∀ u, o = .next u → Keeps s u

protected theorem Lands.next (h : Keeps s t) : Lands s (.next t) := fun _ e => Host.Outcome.next.inj e ▸ h

protected theorem Lands.ok (h : Keeps s t) : Lands s (ok t) := .next (.settle h)

protected theorem Keeps.landed {o} (h : Keeps s t) (ho : Lands s o) : Keeps s (landed t o) := by
  cases o with
  | next u => exact ho u rfl
  | _ => exact h

protected theorem Keeps.badModeWord {who c op mode pos} (h : Keeps s t) : Keeps s (badModeWord who c op mode pos t) := by
  unfold badModeWord
  refine .issue h fun h => ?_
  split
  · exact .retRange h
  · exact .withDraw h fun _ h => .retRange h

protected theorem Lands.execTcap {who c td source sl} (h : Keeps s t) : Lands s (execTcap who c td source sl t) := by
  unfold execTcap
  dsimp only
  refine .ok (.issue h fun h => ?_)
  split
  · split
    · exact .retRange h
    · exact .tcapDone h
  · split
    · exact .retRange h
    · exact .ite (.tcapDone h) (.retRange h)

protected theorem Lands.execTune {who c ws sl} (h : Keeps s t) : Lands s (execTune who c ws sl t) := by
  unfold execTune
  dsimp only
  refine .ok (.issue h fun h => .withSlice h fun _ h => ?_)
  split
  · exact .ret h
  · split
    · exact .retRange h
    · exact .radioReady h fun h => .ite (.retRefused h) (.tuneTo h)

protected theorem Lands.execCal {who c mask sl} (h : Keeps s t) : Lands s (execCal who c mask sl t) := by
  unfold execCal
  refine .ok (.issueB h fun h => .withSlice h fun _ h => ?_)
  split
  · exact .ret h
  · split
    · exact .retRange h
    · split
      · exact .retRefused h
      · split
        · exact .retCalBusy h
        · split
          · exact .block (.startCal h)
          · exact .ite (.retRefused h) (.startPending (.startCal h))

protected theorem Lands.execRxwin {who c ws ts res half} (h : Keeps s t) : Lands s (execRxwin who c ws ts res half t) := by
  unfold execRxwin
  refine .ok (.issueB h fun h => ?_)
  split
  · exact .ite (.retRange h) (.ite (.retRange h) (.ite (.retRange h) (.rxwinArm h)))
  · exact h

protected theorem Lands.execTxf {who c ts q latest} (h : Keeps s t) : Lands s (execTxf who c ts q latest t) := by
  unfold execTxf
  refine .ok (.issueB h fun h => ?_)
  split
  · exact .withTime h fun _ h => .withQueue h fun _ h => .txfArm h
  · exact h

protected theorem Lands.execTxfHeld {who c ts ws latest} (h : Keeps s t) : Lands s (execTxfHeld who c ts ws latest t) := by
  unfold execTxfHeld
  refine .ok (.issueB h fun h => ?_)
  split
  · exact .withTime h fun _ h => .ite (.txfArm h) (.retRange h)
  · exact h

protected theorem Lands.execAerial {who c port tuner measure sl} (h : Keeps s t) : Lands s (execAerial who c port tuner measure sl t) := by
  unfold execAerial
  refine .ok (.issue h fun h => .withSlice h fun _ h => ?_)
  exact .ite (.ret h) (.ite (.retRange h) (.ite (.retRange h) (.radioReady h fun h => .ite (.retRefused h) (.ite (.retRefused h) (.aerialSet h)))))

protected theorem Lands.execRqualLast {who c wd sl} (h : Keeps s t) : Lands s (execRqualLast who c wd sl t) := by
  unfold execRqualLast
  refine .ok (.issue h fun h => .withSlice h fun _ h => ?_)
  split <;> exact .ret (.setW h)

protected theorem Lands.execKload {who c slot_ q} (h : Keeps s t) : Lands s (execKload who c slot_ q t) := by
  unfold execKload
  dsimp only
  refine .ok (.issue h fun h => .ite (.ret h) (.ite (.retRange h) (.withQueue h fun _ h => ?_)))
  split
  · exact .retRefused h
  · split
    · exact .ret h
    · split
      · exact .ret (.zeroCells (.retireHeld (.popItem h)))
      · exact .retOk (.modSlot (.zeroCells (.retireHeld (.popItem h))))

protected theorem Lands.execKderive {who c wd ws slot_} (h : Keeps s t) : Lands s (execKderive who c wd ws slot_ t) := by
  unfold execKderive
  dsimp only
  refine .ok (.issue h fun h => .withSlot h fun h => ?_)
  split
  · exact .retRange h
  · split
    · exact .ret (.setW (.snd (.needKey h) ‹_›))
    · exact .ret (.snd (.needKey h) ‹_›)
    · exact .retRefused (.snd (.needKey h) ‹_›)

protected theorem Lands.execKquery {who c wd slot_} (h : Keeps s t) : Lands s (execKquery who c wd slot_ t) := by
  unfold execKquery
  refine .ok (.issue h fun h => ?_)
  exact .ite (.ret h) (.ite (.withDraw h fun _ h => .retOk (.setW h)) (.ite (.retOk (.setW h)) (.withSlot h fun h => .retOk (.setW h))))

protected theorem Lands.execCntexp {who c ws q count} (h : Keeps s t) : Lands s (execCntexp who c ws q count t) := by
  unfold execCntexp
  refine .ok (.issue h fun h => ?_)
  exact .ite (.ret h) (.withQueue h fun _ h => .ite (.retRange h) (.ite (.retRange h) (.ite (.retRefused h) (.same (.startPending h)))))

protected theorem Lands.execClksel {who c src} (h : Keeps s t) : Lands s (execClksel who c src t) := by
  unfold execClksel
  refine .ok (.issue h fun h => ?_)
  refine .ite (.retRange h) (.ite (.ite (.retRefused h) (.retOk (.same h))) (.ite (.retRefused (.startRef h)) (.clkPll h fun _ h => ?_)))
  split
  · exact .retOk h
  · exact .ret h

protected theorem Lands.execPmode {who c m} (h : Keeps s t) : Lands s (execPmode who c m t) := by
  unfold execPmode
  refine .ok (.issue h fun h => ?_)
  exact .ite (.retRange h) (.ite (.retOk h) (.ite (.retRefused h) (.ite (.retOk (.same h)) (.ite (.retRefused h) (.startPending (.ite (.same h) (.startRef (.same h))))))))

protected theorem Lands.execRest {who c} (h : Keeps s t) : Lands s (execRest who c t) := by
  unfold execRest
  refine .ok (.issueB h fun h => ?_)
  split
  · exact .retRefused h
  · split
    · exact .retRefused h
    · split
      · exact .retRefused h
      · split
        · exact .ret (.bump h)
        · exact .dmaInFlight h fun _ h => .ite (.ret (.bump h)) (.block (.same h))

protected theorem Lands.execGetp {who c wd id scope} (h : Keeps s t) : Lands s (execGetp who c wd id scope t) := by
  unfold execGetp
  refine .ok (.issue h fun h => ?_)
  split
  · exact .retRange h
  · split
    · exact .ret h
    · exact .ite (.ret h) (.retOk (.setW h))

protected theorem Lands.execSetup {who c q} (h : Keeps s t) : Lands s (execSetup who c q t) := by
  unfold execSetup
  refine .ok (.issue h fun h => .withQueue h fun _ h => ?_)
  split
  · exact .retRefused h
  · split
    · exact .retRefused h
    · split
      · exact .ret h
      · exact .same (.startPending (.popItem h))

protected theorem Lands.execQuerySlice {who c wd sl} (h : Keeps s t) : Lands s (execQuerySlice who c wd sl t) := by
  unfold execQuerySlice
  refine .ok (.issue h fun h => ?_)
  split
  · exact .queryAnswer h
  · exact .retRange h

protected theorem Lands.execHealth {who c wd sel} (h : Keeps s t) : Lands s (execHealth who c wd sel t) := by
  unfold execHealth
  refine .ok (.issue h fun h => ?_)
  split
  · exact .retOk (.setW h)
  · exact .retRange h

protected theorem Lands.execQpush {who c ws q} (h : Keeps s t) : Lands s (execQpush who c ws q t) := by
  unfold execQpush
  dsimp only
  refine .ok (.issue h fun h => ?_)
  split
  · exact .retRange h
  · refine .withQueue h fun _ h => ?_
    split
    · exact .retOk (.pushItem (.dropHeldItem h) ‹_›)
    · exact .ret (.bump h)

protected theorem Lands.execQpop {who c wd q} (h : Keeps s t) : Lands s (execQpop who c wd q t) := by
  unfold execQpop
  refine .ok (.issue h fun h => .withQueue h fun _ h => ?_)
  split
  · exact .retRefused h
  · split
    · exact .ret h
    · exact .retOk (.setW (.modCtx (.popItem h)))

protected theorem Lands.execQpeek {who c wd q} (h : Keeps s t) : Lands s (execQpeek who c wd q t) := by
  unfold execQpeek
  refine .ok (.issue h fun h => .withQueue h fun _ h => ?_)
  split
  · exact .ret h
  · exact .retOk (.setW h)

protected theorem Lands.execQdropHead {who c q} (h : Keeps s t) : Lands s (execQdropHead who c q t) := by
  unfold execQdropHead
  refine .ok (.issue h fun h => .withQueue h fun _ h => ?_)
  split
  · exact .ret h
  · exact .retOk (.retireHeld (.popItem h))

protected theorem Lands.execQdropHeld {who c ws} (h : Keeps s t) : Lands s (execQdropHeld who c ws t) := by
  unfold execQdropHeld
  dsimp only
  refine .ok (.issue h fun h => ?_)
  split
  · exact .retRange h
  · exact .retOk (.retireHeld (.dropHeldItem h))

protected theorem Lands.execQdropRest {who c q} (h : Keeps s t) : Lands s (execQdropRest who c q t) := by
  unfold execQdropRest
  refine .ok (.issue h fun h => .withQueue h fun _ h => ?_)
  split
  · exact .retRefused h
  · split
    · exact .ret h
    · exact .retOk (.txfsLost (.dropRest h))

protected theorem Lands.execQattr {who c q ws attr} (h : Keeps s t) : Lands s (execQattr who c q ws attr t) := by
  unfold execQattr
  dsimp only
  refine .ok (.issue h fun h => .withQueue h fun _ h => ?_)
  split
  · exact .retRange h
  · split
    · exact .retRange h
    · exact .ite (.retRefused h) (.retOk (.modQ h))

protected theorem Lands.execLedger {who c wd kind lk ch} (h : Keeps s t) : Lands s (execLedger who c wd kind lk ch t) := by
  unfold execLedger
  refine .ok (.issue h fun h => ?_)
  split
  · exact .retRange h
  · split
    · exact .ite (.retRange h) (.ret (.setW (.ledgerNotices (.ledgerWindow h))))
    · exact .retRange h

protected theorem Lands.execLookup {who c wd ws dist} (h : Keeps s t) : Lands s (execLookup who c wd ws dist t) := by
  unfold execLookup
  dsimp only
  refine .ok (.issue h fun h => .withPair h fun _ h => ?_)
  split
  · exact .ret (.readTables h)
  · exact .ite (.ret (.setW (.readTables h))) (.ret (.setW (.readTables h)))

protected theorem Lands.execLearnack {who c ws dist inserted} (h : Keeps s t) : Lands s (execLearnack who c ws dist inserted t) := by
  unfold execLearnack
  refine .ok (.issue h fun h => .withPair h fun _ h => .ite (.retOk (.updNotice h fun _ h => ?_)) (.retOk h))
  split
  · exact .closeEntry h
  · exact h

protected theorem Lands.execTload {who c q region} (h : Keeps s t) : Lands s (execTload who c q region t) := by
  unfold execTload
  refine .ok (.issue h fun h => .withQueue h fun _ h => ?_)
  exact .ite (.retRange h) (.ite (.retRefused h) (.ite (.retRefused h) (.ite (.ret h) (.same (.startPending (.popAll h))))))

protected theorem Lands.execCsend {who c ws dest kind latest} (h : Keeps s t) : Lands s (execCsend who c ws dest kind latest t) := by
  unfold execCsend
  dsimp only
  refine .ok (.issueB h fun h => .withPair h fun _ h => ?_)
  split
  · exact .retRange h
  · split
    · exact .retRange h
    · split
      · exact .retRefused h
      · split
        · exact .retRefused h
        · split
          · exact .ret h
          · exact .ite (.retOk (.csendNow h)) (.block h)

protected theorem Lands.instrMeaning {i} (h : Keeps s t) : Lands s (instrMeaning i t) := by
  cases i with
  | nop => exact .ok (.issue h fun h => h)
  | movi => exact .ok (.issue h fun h => .setW h)
  | mov => exact .ok (.issue h fun h => .movOp h)
  | add => exact .ok (.issue h fun h => .alu h)
  | sub => exact .ok (.issue h fun h => .alu h)
  | and_ => exact .ok (.issue h fun h => .alu h)
  | or_ => exact .ok (.issue h fun h => .alu h)
  | xor_ => exact .ok (.issue h fun h => .alu h)
  | shl => exact .ok (.issue h fun h => .alu h)
  | shr => exact .ok (.issue h fun h => .alu h)
  | cmp => exact .ok (.issue h fun h => .setP h)
  | test => exact .ok (.issue h fun h => .setP h)
  | jmp => exact .ok (.issueF h fun h => .notInRing h fun h => .setPc h)
  | br => exact .ok (.issueF h fun h => .notInRing h fun h => .setPc h)
  | call => exact .next (.callWord h)
  | ret => exact .next (.retWord h)
  | loop => exact .ok (.issueF h fun h => .notInRing h fun h => .ite (.advance h) (.ite (.advance (.setW h)) (.setPc (.setW h))))
  | halt => exact .next (.haltWord h)
  | trap => exact .next (.trapWord h)
  | fence => exact .ok (.issueF h fun h => .ite (.advance h) (.block h))
  | ldw => exact .next (.ldwWord h)
  | stw => exact .next (.stwWord h)
  | at_ => exact .ok (.issueB h fun h => .countsForWdog h fun h => .withTime h fun _ h => .ite (.retRange h) (.ite (.retOk h) (.block h)))
  | after => exact .ok (.issueB h fun h => .countsForWdog h fun h => .ite (.retRange h) (.ite (.retOk h) (.block h)))
  | tnow => exact .ok (.issue h fun h => .retOk (.setT h))
  | tadd => exact .ok (.issue h fun h => .withTime h fun _ h => .ite (.retRange h) (.retOk (.setT h)))
  | slot => exact .ok (.issueB h fun h => .countsForWdog h fun h => .ite (.block h) (.retRange h))
  | asnCur => exact .ok (.issue h fun h => .withPair h fun _ h => .retOk (.setW (.setW h)))
  | asnTime => exact .ok (.issue h fun h => .withPair h fun _ h => .ite (.retRange h) (.retOk (.setT h)))
  | tstepAbs => exact .ok (.issue h fun h => .withTime h fun _ h => .stepAllowed h fun h => .retOk (.useStep (.stepTb h)))
  | tstepRel => exact .ok (.issue h fun h => .ite (.retRange h) (.stepAllowed h fun h => .retOk (.useStep (.stepTb h))))
  | tstepEpoch => exact .ok (.issue h fun h => .withTime h fun _ h => .ite (.retRefused h) (.retOk (.stepTb h)))
  | trateSet => exact .ok (.issue h fun h => .trateOp h)
  | trateAdd => exact .ok (.issue h fun h => .trateOp h)
  | tseal => exact .ok (.issue h fun h => .retOk (.same h))
  | tcap => exact .execTcap h
  | tune => exact .execTune h
  | cal => exact .execCal h
  | rxwin => exact .execRxwin h
  | txf => exact .execTxf h
  | txfHeld => exact .execTxfHeld h
  | rstate => exact .ok (.issue h fun h => .withSlice h fun _ h => .ret (.setW h))
  | aerial => exact .execAerial h
  | rqualLast => exact .execRqualLast h
  | rqualFloor => exact .ok (.issue h fun h => .withSlice h fun _ h => .ret (.setW h))
  | feoutTuningWord => exact .ok (.issueB h fun h => .feoutOp h)
  | feoutStaticControls => exact .ok (.issueB h fun h => .feoutOp h)
  | feoutRegisterWrite => exact .ok (.issueB h fun h => .feoutOp h)
  | kload => exact .execKload h
  | kderive => exact .execKderive h
  | krevoke => exact .ok (.issue h fun h => .withSlot h fun h => .ite (.retRefused h) (.retOk (.modSlot (.revokeEntries h))))
  | kquery => exact .execKquery h
  | cntsetOut => exact .ok (.issue h fun h => .withNode h fun _ h => .retOk (.modRoster h))
  | cntsetIn => exact .ok (.issue h fun h => .withNode h fun _ h => .retOk (.modRoster h))
  | cntexp => exact .execCntexp h
  | kzero => exact .ok (.issue h fun h => .withSlot h fun h => .retOk (.kzeroOp h))
  | kzeroAll => exact .ok (.issue h fun h => .ite (.ret h) (.retOk (.kzeroAllOp h)))
  | clksel => exact .execClksel h
  | pmode => exact .execPmode h
  | rest => exact .execRest h
  | wakeon => exact .ok (.issue h fun h => .ite (.retRange h) (.retOk (.same h)))
  | setp => exact .ok (.setpOp h)
  | getp => exact .execGetp h
  | note => exact .ok (.issue h fun h => .ite (.retRange h) (.retOk (.report h)))
  | setup => exact .execSetup h
  | queryJob => exact .ok (.issue h fun h => .queryAnswer h)
  | querySlice => exact .execQuerySlice h
  | health => exact .execHealth h
  | confirmImage => exact .ok (.issue h fun h => .ite (.retRefused h) (.ite (.retRefused h) (.ite (.ret h) (.startConfirm h))))
  | confirmReject => exact .ok (.issue h fun h => .ite (.retRefused h) (.ite (.retRefused h) (.startConfirm h)))
  | confirmRead => exact .ok (.issue h fun h => .retOk (.setW h))
  | qpush => exact .execQpush h
  | qpop => exact .execQpop h
  | qpeek => exact .execQpeek h
  | qdropHead => exact .execQdropHead h
  | qdropHeld => exact .execQdropHeld h
  | qdropRest => exact .execQdropRest h
  | qflush => exact .ok (.issue h fun h => .withQueue h fun _ h => .ite (.retRefused h) (.retOk (.txfsLost (.flushQueue h))))
  | qlen => exact .ok (.issue h fun h => .withQueue h fun _ h => .retOk (.setW h))
  | qattr => exact .execQattr h
  | ledger => exact .execLedger h
  | lookup => exact .execLookup h
  | insert => exact .ok (.issue h fun h => .withPair h fun _ h => .ite (.retRange h) (.ret (.tblInsert (.readTables h))))
  | delete => exact .ok (.issue h fun h => .withPair h fun _ h => .ret (.tblDelete (.readTables h)))
  | learnack => exact .execLearnack h
  | pin => exact .ok (.issue h fun h => .pinOp h)
  | unpin => exact .ok (.issue h fun h => .pinOp h)
  | tload => exact .execTload h
  | tscrub => exact .ok (.issue h fun h => .ite (.retRefused h) (.ite (.retRefused h) (.same (.startPending h))))
  | csend => exact .execCsend h
  | cbar => exact .ok (.issueB h fun h => .ite (.retOk h) (.ite (.execCbarArriveSelf (.block h)) (.sendMsg (.block h))))
  | mirrorStatus => exact .ok (.issue h fun h => .retOk (.setW h))
  | mirrorSync => exact .ok (.issue h fun h => .ite (.retRefused h) (.ite (.retRefused h) (.beginSync (.same (.startPending h)))))
  | mirrorDigest => exact .ok (.issue h fun h => .retOk (.setW h))
  | roleRead => exact .ok (.issue h fun h => .retOk (.setW h))
  | roleYield => exact .ok (.issueB h fun h => .ite (.retRefused h) (.ite (.retRefused h) (.block h)))
  | roleWithdraw => exact .ok (.issue h fun h => .retOk (.withdraw h))
  | _ => exact .next h

protected theorem Keeps.runWord {w word} (h : Keeps s t) : Keeps s (runWord w word t) := by
  unfold runWord
  split
  · exact .landed h (.instrMeaning h)
  · exact .illegalWord h
  · exact .badModeWord h

protected theorem Keeps.runWords {n} (h : Keeps s t) : Keeps s (runWords n t) := by
  induction n generalizing t with
  | zero => exact h
  | succ n ih =>
    unfold runWords
    split
    · exact h
    · split
      · exact .endRecord h
      · extract_lets a b
        have hb : Keeps s b := .modRecord (.runWord (.modRecord h))
        clear_value b
        split
        · exact hb
        · exact .ite hb (.ite (.endRecord (.modRecord hb)) (ih (.modRecord hb)))

protected theorem Keeps.resume (h : Keeps s t) : Keeps s (resume t) := by
  unfold resume
  split
  · exact .restartIfDue h
  · exact .restartIfDue (.ite h (.ite (.endRecord (.modRecord h)) (.runWords (.modRecord h))))

protected theorem Keeps.openRecord {r} (h : Keeps s t) : Keeps s (openRecord r t) := by
  unfold openRecord
  exact .restartIfDue (.runWords (.same h))

protected theorem Keeps.tookRecord {w} (h : Keeps s t) : Keeps s (tookRecord w t) := by
  unfold tookRecord
  exact .same h

protected theorem Keeps.closeRecord {w mirrored kind tag st w1} (h : Keeps s t) :
    Keeps s (closeRecord w mirrored kind tag st w1 t) := by
  unfold closeRecord
  exact .stopOrphan (.stopOrphan (.ite (.postCompletion h) (.passCommand (.postCompletion h))))

protected theorem Keeps.badRecord {w mirrored kind tag w1} (h : Keeps s t) : Keeps s (badRecord w mirrored kind tag w1 t) := by
  unfold badRecord
  exact .closeRecord (.bump h)

protected theorem Keeps.loadProgram {a ws} (h : Keeps s t) : Keeps s (loadProgram a ws t) := by
  unfold loadProgram
  exact .foldl h fun _ h => .progWord h

/-! ## Events -/

protected theorem Keeps.asleepRead {words} (h : Keeps s t) : Keeps s (asleepRead words t) := by
  unfold asleepRead
  exact .ite (.wakeEvent (.same h)) h

/-! ## Commands and clock periods -/

protected theorem Lands.execProgramLoadRecord {w tag start words} (h : Keeps s t) : Lands s (execProgramLoadRecord w tag start words t) := by
  unfold execProgramLoadRecord
  dsimp only
  refine .ok ?_
  split
  · exact h
  · split
    · exact .badRecord (.tookRecord h)
    · split
      · exact .closeRecord (.tookRecord h)
      · exact .ite (.closeRecord (.tookRecord h)) (.closeRecord (.loadProgram (.tookRecord h)))

protected theorem Lands.execScheduleLoadRecord {w tag addr words} (h : Keeps s t) : Lands s (execScheduleLoadRecord w tag addr words t) := by
  unfold execScheduleLoadRecord
  dsimp only
  refine .ok ?_
  split
  · exact h
  · split
    · exact .badRecord (.tookRecord h)
    · split
      · exact .closeRecord (.tookRecord h)
      · exact .closeRecord (.foldl (.tookRecord h) fun _ h => .setSchedWord h)

protected theorem Lands.execRecordTimeout (h : Keeps s t) : Lands s (execRecordTimeout t) := by
  unfold execRecordTimeout
  refine .ok ?_
  split
  · exact h
  · rename_i r _
    extract_lets a pc _ b _
    have ha : Keeps s a := .reachElapsed h
    clear_value a
    have hb : Keeps s b := by
      dsimp only [b]
      split
      · exact .unfreeze (.same ha)
      · exact ha
    clear_value b
    exact .ite h (.restartIfDue (.endRecord (.ret (.same hb))))

protected theorem Lands.execPpsMissed (h : Keeps s t) : Lands s (execPpsMissed t) := by
  unfold execPpsMissed
  refine .ok ?_
  split
  · exact .ite (.ppsMiss (.reachTb h)) h
  · exact h

protected theorem Lands.execRxwinOpen {sl} (h : Keeps s t) : Lands s (execRxwinOpen sl t) := by
  unfold execRxwinOpen
  refine .ok ?_
  split
  · exact .ite h (.ite (.openWin (.reachTb h)) (.reachTb h))
  · exact h

protected theorem Lands.execRxwinClose {sl} (h : Keeps s t) : Lands s (execRxwinClose sl t) := by
  unfold execRxwinClose
  refine .ok ?_
  split
  · exact .ite h (.ite (.ite (.winEmpty (.openWaits (.reachTb h))) (.winDone (.openWaits (.reachTb h)))) (.ite (.modSlice (.openWaits (.reachTb h))) (.winEmpty (.modSlice (.openWaits (.reachTb h))))))
  · exact h

protected theorem Lands.execTxfSelection {sl} (h : Keeps s t) : Lands s (execTxfSelection sl t) := by
  unfold execTxfSelection
  dsimp only
  refine .ok ?_
  split
  · split
    · exact h
    · split
      · exact .txfSelectQ (.reachTb h)
      · split
        · exact .txfDone (.reachTb h)
        · exact .tryLaunch (.modSlice (.reachTb h))
  · exact h

protected theorem Lands.execTxfDeadline {sl} (h : Keeps s t) : Lands s (execTxfDeadline sl t) := by
  unfold execTxfDeadline
  dsimp only
  refine .ok ?_
  split
  · split
    · exact h
    · split
      · exact h
      · split
        · exact .tryLaunch (.reachTb h)
        · split
          · exact .txfDone (.unselect (.tryLaunch (.reachTb h)))
          · split
            · exact .txfDone (.unselect (.tryLaunch (.reachTb h)))
            · split <;> exact .txfDone (.unselect (.tryLaunch (.reachTb h)))
  · exact h

protected theorem Lands.execBlankingStart {sl} (h : Keeps s t) : Lands s (execBlankingStart sl t) := by
  unfold execBlankingStart
  refine .ok ?_
  split
  · exact .ite (.startBlanking (.reachTb h)) h
  · exact h

protected theorem Lands.execLaunch {sl} (h : Keeps s t) : Lands s (execLaunch sl t) := by
  unfold execLaunch
  refine .ok ?_
  split
  · exact .ite h (.ite (.ite (.txfDone (.unlaunch (.reachTb h))) (.unlaunch (.reachTb h))) (.captureTx (.setStage (.emitLaunch (.putOnAir (.modSlice (.ite (.reachTb h) (.startBlanking (.reachTb h)))))))))
  · exact h

protected theorem Lands.execFrameAired {sl} (h : Keeps s t) : Lands s (execFrameAired sl t) := by
  unfold execFrameAired
  dsimp only
  refine .ok ?_
  split
  · exact .ite (.retryLaunches (.frameAired (.reachTb h))) h
  · exact .ite (.retryLaunches (.enhAckAired (.reachTb h))) h
  · exact h

protected theorem Lands.execTxRampDownEnd {sl} (h : Keeps s t) : Lands s (execTxRampDownEnd sl t) := by
  unfold execTxRampDownEnd
  dsimp only
  refine .ok ?_
  split
  · exact h
  · split
    · exact .ite (.beginCal (.modSlice (.modSlice (.reachTb h)))) (.modSlice (.reachTb h))
    · exact .modSlice (.reachTb h)

protected theorem Lands.execAckWaitExpiry {sl} (h : Keeps s t) : Lands s (execAckWaitExpiry sl t) := by
  unfold execAckWaitExpiry
  refine .ok ?_
  split
  · exact .ite h (.ite (.modSlice (.openWaits (.reachTb h))) (.ackFailed (.openWaits (.reachTb h))))
  · exact h

protected theorem Lands.execTxMismatchMeasure {sl loss} (h : Keeps s t) : Lands s (execTxMismatchMeasure sl loss t) := by
  unfold execTxMismatchMeasure
  refine .ok ?_
  split
  · exact .ite h (.ite (.cutFor (.modSlice (.notify (.bumpSl h)))) (.modSlice (.notify (.bumpSl h))))
  · exact h

protected theorem Lands.execCtCellDeadline {sl} (h : Keeps s t) : Lands s (execCtCellDeadline sl t) := by
  unfold execCtCellDeadline
  refine .ok ?_
  split
  · exact .ite (.underrun (.reachTb h)) h
  · exact h

protected theorem Lands.execEnhAckLaunch {sl} (h : Keeps s t) : Lands s (execEnhAckLaunch sl t) := by
  unfold execEnhAckLaunch
  refine .ok ?_
  split
  · exact .ite h (.ite (.dropAcks (.reachTb h)) (.captureTx (.modSlice (.emitLaunch (.putOnAir (.ite (.reachTb h) (.startBlanking (.reachTb h))))))))
  · exact h

protected theorem Lands.execWatcherRearm {sl tap} (h : Keeps s t) : Lands s (execWatcherRearm sl tap t) := by
  unfold execWatcherRearm
  refine .ok ?_
  split
  · exact .ite (.modSlice (.reachTb h)) h
  · exact h

protected theorem Lands.execPhrCheck {ln phr} (h : Keeps s t) : Lands s (execPhrCheck ln phr t) := by
  unfold execPhrCheck
  dsimp only
  refine .ok ?_
  split
  · exact h
  · split
    · exact .openWaits h
    · split
      · exact .relockOrFree (.bumpSl (.openWaits h))
      · exact .ite (.relockOrFree (.bumpSl (.openWaits h))) (.ite (.oversize (.noteLast (.openWaits h))) (.phrPasses (.openWaits h)))

protected theorem Lands.execFcsCheck {ln fsk ltf syms} (h : Keeps s t) : Lands s (execFcsCheck ln fsk ltf syms t) := by
  unfold execFcsCheck
  refine .ok ?_
  split
  · exact h
  · exact .ite h (.ite (.setLane (.noteBusy (.modSlice (.openWaits (.reachTb h))))) (.loseLane (.bumpSl (.modSlice (.openWaits (.reachTb h))))))

protected theorem Lands.execFrameAdmission {ln info errs} (h : Keeps s t) : Lands s (execFrameAdmission ln info errs t) := by
  unfold execFrameAdmission
  dsimp only
  refine .ok ?_
  split
  · split
    · exact .ite (.admitFrame (.meetErrors h)) (.meetErrors h)
    · exact .meetErrors h
  · exact .meetErrors h

protected theorem Lands.execLockLoss {sl} (h : Keeps s t) : Lands s (execLockLoss sl t) := by
  unfold execLockLoss
  dsimp only
  refine .ok ?_
  split
  · exact h
  · split
    · exact .dropEnhAck (.ite (.abandonAll (.bumpSl (.modSlice h))) (.ite (.cutFor (.abandonAll (.bumpSl (.modSlice h)))) (.ite (.txfDone (.unlaunch (.abandonAll (.bumpSl (.modSlice h))))) (.unlaunch (.abandonAll (.bumpSl (.modSlice h)))))))
    · exact .dropEnhAck (.abandonAll (.bumpSl (.modSlice h)))

protected theorem Lands.execRelockTimeout {sl} (h : Keeps s t) : Lands s (execRelockTimeout sl t) := by
  unfold execRelockTimeout
  dsimp only
  refine .ok ?_
  split
  · exact .ite h (.notify (.modSlice (.reachElapsed h)))
  · exact h

protected theorem Lands.execTempCalEnd {sl} (h : Keeps s t) : Lands s (execTempCalEnd sl t) := by
  unfold execTempCalEnd
  refine .ok ?_
  split
  · exact .ite (.afterCal (.modSlice (.reachElapsed h))) h
  · exact h

protected theorem Lands.execExtSettleElapsed {sl} (h : Keeps s t) : Lands s (execExtSettleElapsed sl t) := by
  unfold execExtSettleElapsed
  dsimp only
  refine .ok ?_
  split
  · exact .ite h (.ite (.modSlice (.modSlice (.reachElapsed h))) (.onLock (.modSlice (.modSlice (.reachElapsed h)))))
  · exact h

protected theorem Lands.execExtCalTimeElapsed {sl} (h : Keeps s t) : Lands s (execExtCalTimeElapsed sl t) := by
  unfold execExtCalTimeElapsed
  dsimp only
  refine .ok ?_
  split
  · exact .ite h (.modSlice (.reachElapsed h))
  · exact h

protected theorem Lands.execXiqSlip {sl overflow} (h : Keeps s t) : Lands s (execXiqSlip sl overflow t) := by
  unfold execXiqSlip
  refine .ok ?_
  split
  · split <;> exact .bumpSl (.abandonAll h)
  · exact h

protected theorem Lands.execEngineFault {e unit} (h : Keeps s t) : Lands s (execEngineFault e unit t) := by
  unfold execEngineFault
  refine .ok ?_
  split
  · exact h
  · split
    · exact .ite (.chipFaultOp (.frontFault h)) (.frontFault h)
    · exact .ite (.chipFaultOp (.frontFault h)) (.frontFault h)
    · exact .ite (.chipFaultOp (.watcherFault h)) (.watcherFault h)
    · exact .ite (.chipFaultOp (.laneEngineFault h)) (.laneEngineFault h)
    · exact .ite (.chipFaultOp (.laneEngineFault h)) (.laneEngineFault h)
    · exact .ite (.chipFaultOp (.laneEngineFault h)) (.laneEngineFault h)
    · exact .ite (.chipFaultOp (.itemEngineFault h)) (.itemEngineFault h)
    · exact .ite (.chipFaultOp (.itemEngineFault h)) (.itemEngineFault h)
    · exact .ite (.chipFaultOp (.itemEngineFault h)) (.itemEngineFault h)
    · exact .ite (.chipFaultOp (.itemEngineFault h)) (.itemEngineFault h)
    · exact .ite (.chipFaultOp (.txEngineFault h)) (.txEngineFault h)
    · exact .ite (.chipFaultOp (.txEngineFault h)) (.txEngineFault h)
    · exact .ite (.chipFaultOp (.txEngineFault h)) (.txEngineFault h)

protected theorem Lands.execSelfTestStep {e} (h : Keeps s t) : Lands s (execSelfTestStep e t) := by
  unfold execSelfTestStep
  refine .ok ?_
  split
  · exact h
  · exact h
  · split
    · split
      · exact .modStg (.reachElapsed h)
      · exact .modStg h
    · exact h

protected theorem Lands.execStartWaitGrant {q} (h : Keeps s t) : Lands s (execStartWaitGrant q t) := by
  unfold execStartWaitGrant
  dsimp only
  refine .ok ?_
  split
  · exact h
  · split
    · exact h
    · split
      · exact .refuseStart (.countRefusal (.same h))
      · exact .dataTaken (.grantStart (.same h))

protected theorem Lands.execStartWaitTimeout {w} (h : Keeps s t) : Lands s (execStartWaitTimeout w t) := by
  unfold execStartWaitTimeout
  refine .ok ?_
  split
  · exact h
  · exact .ite h (.refuseStart (.same (.reachElapsed h)))

protected theorem Lands.execItemTimeout {p} (h : Keeps s t) : Lands s (execItemTimeout p t) := by
  unfold execItemTimeout
  refine .ok ?_
  split
  · split
    · exact .txfsLost (.dropRest (.reachElapsed h))
    · exact h
  · split
    · exact .dropHeldOpen (.reachElapsed h)
    · exact h

protected theorem Lands.execAgingResume (h : Keeps s t) : Lands s (execAgingResume t) := by
  unfold execAgingResume
  refine .ok ?_
  split
  · exact h
  · exact .ite (.startAging (.same (.agePass h))) (.agePass h)

protected theorem Lands.execReceiveDelivery {w r} (h : Keeps s t) : Lands s (execReceiveDelivery w r t) := by
  unfold execReceiveDelivery
  dsimp only
  refine .ok ?_
  split
  · exact h
  · split
    · exact h
    · exact .retireHeld (.postDescData (.ite (.ringMemWrite (.modWhost (.popItem h))) (.modWhost (.popItem h))))

protected theorem Lands.execRegulatorReady (h : Keeps s t) : Lands s (execRegulatorReady t) := by
  unfold execRegulatorReady
  refine .ok ?_
  split
  · exact .ite h (.postDue (.startRef (.same h)))
  · exact h

protected theorem Lands.execNvInhibitEnter {mv} (h : Keeps s t) : Lands s (execNvInhibitEnter mv t) := by
  unfold execNvInhibitEnter
  extract_lets _ a _
  have ha : Keeps s a := .bump (.same h)
  clear_value a
  exact .ok (.ite h (.ite (.notify ha) (.same ha)))

protected theorem Lands.execSvcRateSwitch (h : Keeps s t) : Lands s (execSvcRateSwitch t) := by
  unfold execSvcRateSwitch
  refine .ok ?_
  split
  · exact .ite h (.same (.reachElapsed h))
  · exact h

protected theorem Lands.execTrain {l b} (h : Keeps s t) : Lands s (execTrain l b t) := by
  unfold execTrain
  dsimp only
  refine .ok ?_
  split
  · exact h
  · split
    · exact .heardBlock h
    · split
      · exact .notify (.modLink (.heardBlock h))
      · exact .ite (.linkUp (.modLink (.heardBlock h))) (.modLink (.heardBlock h))

protected theorem Lands.execStatus {l b} (h : Keeps s t) : Lands s (execStatus l b t) := by
  unfold execStatus
  dsimp only
  refine .ok ?_
  split
  · exact h
  · split
    · split
      · exact .foldl (.recompute (.handSeries (.modLink h))) fun _ h => .resyncBegin h
      · exact .foldl (.recompute (.modLink h)) fun _ h => .resyncBegin h
    · exact .recompute (.modLink h)

protected theorem Lands.execCasItemSend {l p} (h : Keeps s t) : Lands s (execCasItemSend l p t) := by
  unfold execCasItemSend
  dsimp only
  refine .ok ?_
  split
  · exact h
  · split
    · exact h
    · split
      · exact h
      · exact .sendOn (.modVc (.popItem h))

protected theorem Lands.execCasItem {l v f} (h : Keeps s t) : Lands s (execCasItem l v f t) := by
  unfold execCasItem
  dsimp only
  refine .ok ?_
  split
  · exact h
  · split
    · exact .bump (.modVc (.heardBlock h))
    · split
      · exact .disposed (.casItemIn (.heardBlock h))
      · split
        · exact .disposed (.casItemIn (.heardBlock h))
        · exact .disposed (.bump (.heardBlock h))

protected theorem Lands.execBarrierForget {bar} (h : Keeps s t) : Lands s (execBarrierForget bar t) := by
  unfold execBarrierForget
  refine .ok ?_
  split
  · exact .same (.reachElapsed h)
  · exact h

protected theorem Lands.execRelayTimeout (h : Keeps s t) : Lands s (execRelayTimeout t) := by
  unfold execRelayTimeout
  refine .ok ?_
  split
  · exact .ite (.relayEnds (.reachElapsed h)) h
  · exact h

protected theorem Lands.execDresp {l t2 t3 t4} (h : Keeps s t) : Lands s (execDresp l t2 t3 t4 t) := by
  unfold execDresp
  refine .ok ?_
  split
  · exact .ite (.modLink h) h
  · exact h

protected theorem Lands.execClaimResolution (h : Keeps s t) : Lands s (execClaimResolution t) := by
  unfold execClaimResolution
  dsimp only
  refine .ok ?_
  split
  · split
    · exact h
    · split
      · exact .ite (.notify (.same (.reachElapsed h))) (.ite (.withDraw (.reachElapsed h) fun _ h => .same h) (.becomeActive (.reachElapsed h)))
      · exact .becomeActive (.reachElapsed h)
  · exact h

protected theorem Lands.execTimeFrameMissed (h : Keeps s t) : Lands s (execTimeFrameMissed t) := by
  unfold execTimeFrameMissed
  refine .ok ?_
  split
  · exact .ite (.ite (.setRate (.same (.reachTb h))) (.ite (.enterHoldover (.same (.reachTb h))) (.same (.reachTb h)))) h
  · exact h

protected theorem Lands.fault {r} : Lands s (.fault r) := by
  intro u e
  cases e

protected theorem Lands.execVioRangeChange {bank mv} (h : Keeps s t) : Lands s (execVioRangeChange bank mv t) := by
  unfold execVioRangeChange
  split
  · exact .fault
  · exact .ok (.same h)

protected theorem Lands.execSvcCtsChange {high} (h : Keeps s t) : Lands s (execSvcCtsChange high t) := by
  unfold execSvcCtsChange
  extract_lets _ a sent due _ b c _
  have ha : Keeps s a := .same h
  clear_value a
  have hb : Keeps s b := .same ha
  clear_value b
  have hc : Keeps s c := .coreReset hb
  clear_value c sent due
  refine .ok (.ite h (.ite ha (.ite ?_ hb)))
  exact .same hc

protected theorem Lands.exec {i} (h : Keeps s t) : Lands s (exec i t) := by
  cases i with
  | nop => exact .instrMeaning (i := .nop ..) h
  | movi => exact .instrMeaning (i := .movi ..) h
  | mov => exact .instrMeaning (i := .mov ..) h
  | add => exact .instrMeaning (i := .add ..) h
  | sub => exact .instrMeaning (i := .sub ..) h
  | and_ => exact .instrMeaning (i := .and_ ..) h
  | or_ => exact .instrMeaning (i := .or_ ..) h
  | xor_ => exact .instrMeaning (i := .xor_ ..) h
  | shl => exact .instrMeaning (i := .shl ..) h
  | shr => exact .instrMeaning (i := .shr ..) h
  | cmp => exact .instrMeaning (i := .cmp ..) h
  | test => exact .instrMeaning (i := .test ..) h
  | jmp => exact .instrMeaning (i := .jmp ..) h
  | br => exact .instrMeaning (i := .br ..) h
  | call => exact .ok (.resume (.callWord h))
  | ret => exact .ok (.resume (.retWord h))
  | loop => exact .instrMeaning (i := .loop ..) h
  | halt => exact .ok (.resume (.haltWord h))
  | trap => exact .ok (.resume (.trapWord h))
  | fence => exact .instrMeaning (i := .fence ..) h
  | ldw => exact .ok (.resume (.ldwWord h))
  | stw => exact .ok (.resume (.stwWord h))
  | illegalInstruction => exact .ok (.resume (.illegalWord h))
  | at_ => exact .instrMeaning (i := .at_ ..) h
  | atTargetReached => exact .ok (.ite (.resume (.atReached h)) h)
  | after => exact .instrMeaning (i := .after ..) h
  | afterIntervalEnd => exact .ok (.ite (.resume (.afterEnds h)) h)
  | tnow => exact .instrMeaning (i := .tnow ..) h
  | tadd => exact .instrMeaning (i := .tadd ..) h
  | slot => exact .instrMeaning (i := .slot ..) h
  | asnCur => exact .instrMeaning (i := .asnCur ..) h
  | asnTime => exact .instrMeaning (i := .asnTime ..) h
  | tstepAbs => exact .instrMeaning (i := .tstepAbs ..) h
  | tstepRel => exact .instrMeaning (i := .tstepRel ..) h
  | tstepEpoch => exact .instrMeaning (i := .tstepEpoch ..) h
  | trateSet => exact .instrMeaning (i := .trateSet ..) h
  | trateAdd => exact .instrMeaning (i := .trateAdd ..) h
  | tseal => exact .instrMeaning (i := .tseal ..) h
  | tcap => exact .instrMeaning (i := .tcap ..) h
  | tune => exact .instrMeaning (i := .tune ..) h
  | cal => exact .instrMeaning (i := .cal ..) h
  | rxwin => exact .instrMeaning (i := .rxwin ..) h
  | txf => exact .instrMeaning (i := .txf ..) h
  | txfHeld => exact .instrMeaning (i := .txfHeld ..) h
  | rstate => exact .instrMeaning (i := .rstate ..) h
  | aerial => exact .instrMeaning (i := .aerial ..) h
  | rqualLast => exact .instrMeaning (i := .rqualLast ..) h
  | rqualFloor => exact .instrMeaning (i := .rqualFloor ..) h
  | feoutTuningWord => exact .instrMeaning (i := .feoutTuningWord ..) h
  | feoutStaticControls => exact .instrMeaning (i := .feoutStaticControls ..) h
  | feoutRegisterWrite => exact .instrMeaning (i := .feoutRegisterWrite ..) h
  | kload => exact .instrMeaning (i := .kload ..) h
  | kderive => exact .instrMeaning (i := .kderive ..) h
  | krevoke => exact .instrMeaning (i := .krevoke ..) h
  | kquery => exact .instrMeaning (i := .kquery ..) h
  | cntsetOut => exact .instrMeaning (i := .cntsetOut ..) h
  | cntsetIn => exact .instrMeaning (i := .cntsetIn ..) h
  | cntexp => exact .instrMeaning (i := .cntexp ..) h
  | kzero => exact .instrMeaning (i := .kzero ..) h
  | kzeroAll => exact .instrMeaning (i := .kzeroAll ..) h
  | clksel => exact .instrMeaning (i := .clksel ..) h
  | pmode => exact .instrMeaning (i := .pmode ..) h
  | rest => exact .instrMeaning (i := .rest ..) h
  | wakeon => exact .instrMeaning (i := .wakeon ..) h
  | setp => exact .instrMeaning (i := .setp ..) h
  | getp => exact .instrMeaning (i := .getp ..) h
  | note => exact .instrMeaning (i := .note ..) h
  | setup => exact .instrMeaning (i := .setup ..) h
  | queryJob => exact .instrMeaning (i := .queryJob ..) h
  | querySlice => exact .instrMeaning (i := .querySlice ..) h
  | health => exact .instrMeaning (i := .health ..) h
  | confirmImage => exact .instrMeaning (i := .confirmImage ..) h
  | confirmReject => exact .instrMeaning (i := .confirmReject ..) h
  | confirmRead => exact .instrMeaning (i := .confirmRead ..) h
  | qpush => exact .instrMeaning (i := .qpush ..) h
  | qpop => exact .instrMeaning (i := .qpop ..) h
  | qpeek => exact .instrMeaning (i := .qpeek ..) h
  | qdropHead => exact .instrMeaning (i := .qdropHead ..) h
  | qdropHeld => exact .instrMeaning (i := .qdropHeld ..) h
  | qdropRest => exact .instrMeaning (i := .qdropRest ..) h
  | qflush => exact .instrMeaning (i := .qflush ..) h
  | qlen => exact .instrMeaning (i := .qlen ..) h
  | qattr => exact .instrMeaning (i := .qattr ..) h
  | ledger => exact .instrMeaning (i := .ledger ..) h
  | lookup => exact .instrMeaning (i := .lookup ..) h
  | insert => exact .instrMeaning (i := .insert ..) h
  | delete => exact .instrMeaning (i := .delete ..) h
  | learnack => exact .instrMeaning (i := .learnack ..) h
  | pin => exact .instrMeaning (i := .pin ..) h
  | unpin => exact .instrMeaning (i := .unpin ..) h
  | tload => exact .instrMeaning (i := .tload ..) h
  | tscrub => exact .instrMeaning (i := .tscrub ..) h
  | csend => exact .instrMeaning (i := .csend ..) h
  | cbar => exact .instrMeaning (i := .cbar ..) h
  | mirrorStatus => exact .instrMeaning (i := .mirrorStatus ..) h
  | mirrorSync => exact .instrMeaning (i := .mirrorSync ..) h
  | mirrorDigest => exact .instrMeaning (i := .mirrorDigest ..) h
  | roleRead => exact .instrMeaning (i := .roleRead ..) h
  | roleYield => exact .instrMeaning (i := .roleYield ..) h
  | roleWithdraw => exact .instrMeaning (i := .roleWithdraw ..) h
  | seqStart => exact .ok (.setpOp h)
  | seqHalt => exact .ok (.setpOp h)
  | seqRestart => exact .ok (.setpOp h)
  | seqHandover => exact .ok (.setpOp h)
  | gridStop => exact .ok (.setpOp h)
  | gridStart => exact .ok (.setpOp h)
  | gridAcquire => exact .ok (.setpOp h)
  | timeDisciplineChange => exact .ok (.setpOp h)
  | ppsInEnable => exact .ok (.setpOp h)
  | rtcCommitTime => exact .ok (.setpOp h)
  | rtcCommitDate => exact .ok (.setpOp h)
  | rtcCommitBoth => exact .ok (.setpOp h)
  | rtcCommitAck => exact .ok (.resume (.rtcAcked h))
  | rtcAlarmArm => exact .ok (.setpOp h)
  | rtcAlarmDisarm => exact .ok (.setpOp h)
  | trigArm => exact .ok (.setpOp h)
  | trigDisarm => exact .ok (.setpOp h)
  | profCommitWrite => exact .ok (.setpOp h)
  | profCommitInvalidate => exact .ok (.setpOp h)
  | profCommitRead => exact .ok (.setpOp h)
  | segCommitWrite => exact .ok (.setpOp h)
  | segCommitClear => exact .ok (.setpOp h)
  | segCommitRead => exact .ok (.setpOp h)
  | xiqEnable => exact .ok (.setpOp h)
  | xiqDisable => exact .ok (.setpOp h)
  | lcAdvanceDeploy => exact .ok (.setpOp h)
  | lcAdvanceReturn => exact .ok (.setpOp h)
  | lockAck => exact .ok (.setpOp h)
  | tampCtrlWrite => exact .ok (.setpOp h)
  | tampClear => exact .ok (.setpOp h)
  | grpFloorRaise => exact .ok (.setpOp h)
  | bkpStatusClear => exact .ok (.setpOp h)
  | silentTimeoutChange => exact .ok (.setpOp h)
  | activate => exact .ok (.setpOp h)
  | relayGo => exact .ok (.setpOp h)
  | bootRestart => exact .ok (.setpOp h)
  | instructionRecord => exact .ok (.ite (.meetErrors h) (.ite (.badRecord (.tookRecord (.meetErrors h))) (.ite (.badRecord (.tookRecord (.meetErrors h))) (.openRecord (.tookRecord (.meetErrors h))))))
  | programLoadRecord => exact .execProgramLoadRecord h
  | scheduleLoadRecord => exact .execScheduleLoadRecord h
  | malformedRecord => exact .ok (.ite h (.badRecord (.tookRecord h)))
  | relayedRecord => exact .ok (.ite h (.ite (.sendMsg h) (.openRecord (.same h))))
  | recordTimeout => exact .execRecordTimeout h
  | seqWatchdog => exact .ok (.ite h (.haltSlice (.reachElapsed h)))
  | tloadComplete => exact .ok (.ite (.resume (.tloadDone h)) h)
  | tscrubComplete => exact .ok (.ite (.resume (.tscrubDone (.meetErrors h))) (.meetErrors h))
  | setupComplete => exact .ok (.resume (.setupParsed h))
  | cntexpComplete => exact .ok (.ite (.resume (.cntexpDone h)) h)
  | calComplete => exact .ok (.ite (.resume (.calDone h)) h)
  | confirmComplete => exact .ok (.ite (.resume (.confirmDone h)) h)
  | pmodeComplete => exact .ok (.ite (.resume (.pmodeDone h)) h)
  | heldNoticePost => exact .ok (.postHeld h)
  | slotBoundary => exact .ok (.resume (.slotBoundary h))
  | stoppedGridTick => exact .ok (.ite h (.sharedWork (.same (.ite (.reachInc h) (.reachCore h)))))
  | timebaseEnd => exact .ok (.ite (.reachTb h) h)
  | referenceQualified => exact .ok (.resume (.refQualified h))
  | referenceCount => exact .ok (.resume (.refCount h))
  | referenceEdgeLost => exact .ok (.resume (.refLost h))
  | refRetry => exact .ok (.resume (.refRetry h))
  | ppsInEdge => exact .ok (.ite h (.ite (.same (.reachTb h)) (.ite (.ppsAccept (.reachTb h)) (.same (.reachTb h)))))
  | ppsMissed => exact .execPpsMissed h
  | ppsOutEdge => exact .ok (.ite h (.ite (.same (.setPpsOut (.reachTb h))) (.reachTb h)))
  | triggerEdge => exact .ok (.ite (.fireTrig (.reachTb h)) h)
  | rtcSecond => exact .ok (.resume (.rtcTick h))
  | rtcTrimWindow => exact .ok (.ite h (.same (.reachPulse h)))
  | crystalStop => exact .ok (.ite h (.same (.reachElapsed h)))
  | rxwinOpen => exact .execRxwinOpen h
  | rxwinClose => exact .execRxwinClose h
  | txfSelection => exact .execTxfSelection h
  | txfDeadline => exact .execTxfDeadline h
  | blankingStart => exact .execBlankingStart h
  | launch => exact .execLaunch h
  | frameAired => exact .execFrameAired h
  | txRampDownEnd => exact .execTxRampDownEnd h
  | blankingEnd => exact .ok (.ite (.modSlice (.reachTb h)) h)
  | ackWaitExpiry => exact .execAckWaitExpiry h
  | txMismatchMeasure => exact .execTxMismatchMeasure h
  | ctCellDeadline => exact .execCtCellDeadline h
  | enhAckLaunch => exact .execEnhAckLaunch h
  | watcherDetection => exact .ok (.ite h (.serveDets (.openWaits (.reachTb h))))
  | watcherRearm => exact .execWatcherRearm h
  | phrCheck => exact .execPhrCheck h
  | fcsCheck => exact .execFcsCheck h
  | frameAdmission => exact .execFrameAdmission h
  | parentBeaconMiss => exact .ok (.ite (.parentMiss (.reachTb h)) h)
  | noiseFloorWindow => exact .ok (.modSlice (.reachElapsed h))
  | synthLock => exact .ok (.ite (.onLock (.modSlice h)) h)
  | lockLoss => exact .execLockLoss h
  | relockTimeout => exact .execRelockTimeout h
  | deferredRetuneStart => exact .ok (.ite (.beginRetune h) h)
  | sliceTempMeasure => exact .ok (.ite h (.ite (.sliceFault (.ite (.ite (.modSlice (.modSlice h)) (.modSlice (.modSlice h))) (.modSlice h))) (.ite (.ite (.modSlice (.modSlice h)) (.modSlice (.modSlice h))) (.modSlice h))))
  | tempCalStart => exact .ok (.tempCalStart h)
  | tempCalEnd => exact .execTempCalEnd h
  | tcalDeferTimeout => exact .ok (.ite (.notify (.modSlice (.reachElapsed h))) h)
  | agcStepDown => exact .ok (.ite h (.setGain (.modSlice (.reachElapsed h))))
  | agcStepUp => exact .ok (.ite h (.setGain (.modSlice (.reachElapsed h))))
  | forcedGainStep => exact .ok (.ite h (.bumpSl (.bumpSl (.setGain (.modSlice h)))))
  | diversitySwitch => exact .ok (.ite h (.withDraw h fun _ h => .ite (.modSlice h) (.bumpSl (.modSlice h))))
  | fectlTransfer => exact .ok (.resume (.feTransfer h))
  | extSettleElapsed => exact .execExtSettleElapsed h
  | extCalTimeElapsed => exact .execExtCalTimeElapsed h
  | xiqBlock => exact .ok (.ite h (.ite (.modSlice (.modSlice (.ite (.setGain (.ite (.bumpSl (.ite h (.bumpSl h))) (.ite h (.bumpSl h)))) (.ite (.bumpSl (.ite h (.bumpSl h))) (.ite h (.bumpSl h)))))) (.modSlice (.ite (.setGain (.ite (.bumpSl (.ite h (.bumpSl h))) (.ite h (.bumpSl h)))) (.ite (.bumpSl (.ite h (.bumpSl h))) (.ite h (.bumpSl h)))))))
  | xiqSlip => exact .execXiqSlip h
  | xiqTrainingTimeout => exact .ok (.ite h (.notify (.modSlice (.reachElapsed h))))
  | xiqLaneLoss => exact .ok (.ite h (.sliceFault (.notify (.modSlice (.ite h (.reachElapsed h))))))
  | engineFault => exact .execEngineFault h
  | selfTestStep => exact .execSelfTestStep h
  | selfTestEnd => exact .ok (.ite h (.ite (.modStg (.modStg (.reachElapsed h))) (.substitute (.modStg (.modStg (.reachElapsed h))))))
  | sliceFault => exact .ok (.sliceFault h)
  | chipFault => exact .ok (.chipFaultOp (.ite (.uncorrectable h) h))
  | startWaitGrant => exact .execStartWaitGrant h
  | startWaitTimeout => exact .execStartWaitTimeout h
  | itemTimeout => exact .execItemTimeout h
  | noticeQuietExpiry => exact .ok (.closeAtCore h)
  | noticeMaxAgeExpiry => exact .ok (.closeAtCore h)
  | noticeDescriptorPost => exact .ok (.ite (.updNotice h fun _ h => .noticePost h) h)
  | declineHoldExpiry => exact .ok (.closeAtCore h)
  | agingPass => exact .ok (.ite h (.ite (.same h) (.startAging h)))
  | agingResume => exact .execAgingResume h
  | cacheSweep => exact .ok (.sweepEntries h)
  | tamperEvent => exact .ok (.resume (.tamper h))
  | hostSilence => exact .ok (.ite h (.showSilent (.reachElapsed h)))
  | statusWindowWrite => exact .ok (.hostWrite h fun h => .windowWrite h)
  | psumRead => exact .ok (.ite (.readPsum h) h)
  | psumMirrorWrite => exact .ok (.ite h (.modWhost (.reachElapsed h)))
  | timeSnapshotRead => exact .ok (.ite (.readXovr (.latchTime h)) h)
  | ledgerWindowRead => exact .ok (.ite (.latchLedger h) h)
  | healthWindowRead => exact .ok (.ite (.latchHealth h) h)
  | nfloorRead => exact .ok (.ite (.latchFloors h) h)
  | hello => exact .ok (.hostWrite h fun h => .helloBell h)
  | commandProducer => exact .ok (.hostWrite h fun h => .producer h)
  | transmitProducer => exact .ok (.hostWrite h fun h => .producer h)
  | ringStart => exact .ok (.hostWrite h fun h => .writeSize h)
  | ringStop => exact .ok (.hostWrite h fun h => .stopRing h)
  | consumerIndex => exact .ok (.hostWrite h fun h => .writeCons h)
  | qspiRead => exact .ok (.ite (.resume (.asleepRead h)) (.ite (.qspiReadOp h) h))
  | qspiWrite => exact .ok (.ite h (.ite (.bump h) (.writeWords (.ite (.bump h) h))))
  | qspiBadTransfer => exact .ok (.ite (.bump h) h)
  | asleepQspiRead => exact .ok (.resume (.asleepRead h))
  | txStartOfItem => exact .ok (.ite (.soiDesc h) h)
  | txData => exact .ok (.ite (.moreDesc h) h)
  | txEndOfItem => exact .ok (.ite (.moreDesc (.meetErrors h)) (.meetErrors h))
  | receiveDelivery => exact .execReceiveDelivery h
  | dmaError => exact .ok (.dmaBad h)
  | dmaTimeout => exact .ok (.ite h (.dmaBad (.reachElapsed h)))
  | perstN => exact .ok (.ite (.same h) h)
  | wakeSource => exact .ok (.resume (.wakeSource h))
  | dozeWakeTimer => exact .ok (.resume (.dozeTimer h))
  | regulatorReady => exact .execRegulatorReady h
  | regulatorTimeout => exact .ok (.resume (.wakeTimeout h))
  | referenceTimeout => exact .ok (.resume (.wakeTimeout h))
  | returnToSleep => exact .ok (.returnToSleep h)
  | dieTempMeasure => exact .ok (.ite (.settleSleep h) (.hotDie (.same (.settleSleep h))))
  | lpOverload => exact .ok (.ite (.settleSleep h) (.modWhost (.modWhost (.coreReset (.reachElapsed (.settleSleep h))))))
  | coreBrownOut => exact .ok (.ite (.coreReset (.reachElapsed h)) h)
  | mainBrownOut => exact .ok (.same (.powerLost h))
  | nvInhibitEnter => exact .execNvInhibitEnter h
  | nvInhibitRelease => exact .ok (.ite h (.ite (.decideRecord (.same h)) (.same h)))
  | vinMeasure => exact .ok (.ite (.same h) h)
  | backupSwitchToVbat => exact .ok (.same h)
  | backupSwitchToVin => exact .ok (.ite h (.integrityCheck (.same h)))
  | pwronDelay => exact .ok (.ite (.same (.reachElapsed (.settleSleep h))) (.settleSleep h))
  | vbatMeasure => exact .ok (.same h)
  | backupDomainPowerUp => exact .ok (.same h)
  | mainPowerUp => exact .ok (.ite (.settleSleep h) (.coreStarts (.same (.rtcDefaults (.integrityCheck (.powerLost (.settleSleep h)))))))
  | coreResetRelease => exact .ok (.ite h (.trailhead (.same h)))
  | recoveryListenTimeout => exact .ok (.ite h (.readFlash (.reachElapsed h)))
  | recordInhibitWait => exact .ok (.ite h (.startUnwritten (.reachElapsed h)))
  | trialWindowExpiry => exact .ok (.resume (.trialExpires h))
  | svcHello => exact .ok (.resume (.svcHelloOp h))
  | svcInfo => exact .ok (.resume (.svcInfoOp h))
  | svcBegin => exact .ok (.resume (.svcBeginOp h))
  | svcData => exact .ok (.resume (.svcDataOp h))
  | svcEnd => exact .ok (.resume (.svcEndOp h))
  | svcAbort => exact .ok (.resume (.svcAbortOp h))
  | svcStatus => exact .ok (.resume (.svcStatusOp h))
  | svcOctetGapTimeout => exact .ok (.ite (.bump h) h)
  | svcSessionIdle => exact .ok (.ite (.abortSession (.reachElapsed h)) h)
  | svcRateSwitch => exact .execSvcRateSwitch h
  | svcRateSwitchTimeout => exact .ok (.ite (.closeSession (.reachElapsed h)) h)
  | train => exact .execTrain h
  | casTrainingTimeout => exact .ok (.ite (.modLink (.reachElapsed h)) h)
  | casTrainingRetry => exact .ok (.ite (.modLink (.reachElapsed h)) h)
  | casLinkDown => exact .ok (.ite (.linkDown h) h)
  | status => exact .execStatus h
  | statusSend => exact .ok (.ite h (.modLink h))
  | credit => exact .ok (.resume (.creditBlock h))
  | creditSend => exact .ok (.ite h (.modVc h))
  | creditTimeout => exact .ok (.ite (.resyncReport (.reachElapsed h)) h)
  | resyncRequest => exact .ok (.ite (.resyncBegin (.modVc (.heardBlock h))) h)
  | resyncReply => exact .ok (.resume (.resyncReplied h))
  | resyncReplyTimeout => exact .ok (.ite h (.ite (.modVc (.reachElapsed h)) (.linkDown (.reachElapsed h))))
  | linkFrameError => exact .ok (.ite h (.ite (.modVc (.bump h)) (.resyncBegin (.bump h))))
  | casItemSend => exact .execCasItemSend h
  | casItem => exact .execCasItem h
  | casMessage => exact .ok (.ite h (.ite (.bump (.modVc (.heardBlock h))) (.ite (.msgIn (.ite (.foldl (.disposed (.heardBlock h)) fun _ h => .sendOn h) (.disposed (.heardBlock h)))) (.ite (.foldl (.disposed (.heardBlock h)) fun _ h => .sendOn h) (.disposed (.heardBlock h))))))
  | barrierArrival => exact .ok (.resume (.barrierArrived h))
  | barrierAnnounce => exact .ok (.resume (.barrierAnnounced h))
  | barrierForget => exact .execBarrierForget h
  | relayResult => exact .ok (.ite (.relayEnds h) h)
  | relayTimeout => exact .execRelayTimeout h
  | positionAbsent => exact .ok (.resume (.positionAbsent h))
  | timeFrame => exact .ok (.resume (.timeFrame h))
  | linkDelayMeasure => exact .ok (.ite (.modLink h) h)
  | dreq => exact .ok (.ite (.modLink h) h)
  | dresp => exact .execDresp h
  | heartbeatSend => exact .ok (.ite (.same h) h)
  | heartbeat => exact .ok (.resume (.heartbeat h))
  | heartbeatTimeout => exact .ok (.ite h (.ite (.same (.reachElapsed h)) (.ite (.reportLost (.same (.reachElapsed h))) (.ite (.reportLost (.same (.reachElapsed h))) (.same (.reachElapsed h))))))
  | roleInChange => exact .ok (.ite h (.same h))
  | claimResolution => exact .execClaimResolution h
  | takeover => exact .ok (.resume (.takeoverDue h))
  | mirrorInput => exact .ok (.ite h (.mirrorEffect (.same h)))
  | endMarker => exact .ok (.resume (.endMarker h))
  | fullSyncStart => exact .ok (.ite h (.ite (.beginSync h) (.ite (.foldl (.same (.beginSync h)) fun _ h => .syncCal h) h)))
  | fullSyncTimeout => exact .ok (.resume (.fullSyncTimedOut h))
  | latestDeadline => exact .ok (.ite (.resume (.latestReached h)) h)
  | yieldTimeout => exact .ok (.ite (.resume (.yieldTimedOut h)) h)
  | timeFrameMissed => exact .execTimeFrameMissed h
  | pulseWidthEnd => exact .ok (.ite (.ite (.setPpsOut (.reachTb h)) h) (.ite (.emitPin (.modTrig (.reachTb h))) h))
  | tamperInputInactive => exact .ok (.same h)
  | crystalRestart => exact .ok (.ite h (.same h))
  | vioRangeChange => exact .execVioRangeChange h
  | svcCtsChange => exact .execSvcCtsChange h
  | svcBadFrame => exact .ok (.ite (.bump h) h)
  | ringBaseWrite => exact .ok (.hostWrite h fun h => .writeBase h)

protected theorem Keeps.runFetched {who} (h : Keeps s t) : Keeps s (runFetched t who) := by
  unfold runFetched
  dsimp only
  split
  · exact h
  · split
    · exact .landed h (.exec h)
    · exact .landed h (.exec (i := .illegalInstruction who _) h)
    · exact .landed h (.ok (.badModeWord h))

protected theorem Keeps.grant {who} (h : Keeps s t) : Keeps s (grant t who) := by
  unfold grant
  split
  · exact .ite (.runFetched (.same h)) h
  · exact .runFetched h

protected theorem Keeps.clockPeriod (h : Keeps s t) : Keeps s (clockPeriod t) := by
  unfold clockPeriod
  extract_lets a _ b _
  have ha : Keeps s a := .passTicks h
  clear_value a
  have hb : Keeps s b := .foldl (.same ha) fun _ h => .grant h
  clear_value b
  exact .same hb


/-! ## Steps -/

/-- A command that answers a next state leaves the queue, the fuses and the memories as Keeps says. -/
theorem exec_keeps {c : Instr} {s t : State} (h : exec c s = .next t) : Keeps s t := Lands.exec (.refl s) t h

/-- A step leaves the fuses and the memories as Keeps says of the state with the command taken from the queue. -/
theorem step_keeps {s t : State} (h : step s = .next t) : ∃ q, Keeps { s with pending := q } t := by
  unfold step at h
  split at h
  · exact ⟨s.pending, Host.Outcome.next.inj h ▸ .clockPeriod (.refl s)⟩
  · exact ⟨_, exec_keeps h⟩

/-- Settles O53: each operation on the state keeps the memories and the snapshots canonical, and a step is made of them. -/
theorem stepsKeepMemoriesCanonical : Obligations.StepsKeepMemoriesCanonical := by
  intro s t hCanonical hStep
  obtain ⟨q, hKeeps⟩ := step_keeps hStep
  have hStart : (State.core { s with pending := q }).Canonical := { (core_canonical_iff s).mpr hCanonical with }
  exact (core_canonical_iff t).mp (hKeeps.memories hStart)

/-- Settles O54: only the draw of a blank chip's root key, the advance of the life cycle and the burning of an image's fuses
write them, each upwards. -/
theorem fusesNeverUnburn : Obligations.FusesNeverUnburn := by
  intro s t hStep
  obtain ⟨q, hKeeps⟩ := step_keeps hStep
  exact ⟨Core.Onward.life hKeeps, hKeeps.level, hKeeps.keys⟩

/-- Settles O48: no operation on the state writes the queue. -/
theorem commandsLeaveTheQueue : Obligations.CommandsLeaveTheQueue := fun _ _ _ hExec => (exec_keeps hExec).queue

/-- Settles O52: nothing has been written at reset, and a twin has no snapshot. -/
theorem resetMemoriesAreCanonical : Obligations.ResetMemoriesAreCanonical := 
  ⟨rfl, fun r hr => absurd hr (Option.not_mem_none r), fun r hr => absurd hr (Option.not_mem_none r)⟩

end Sys2Proof.Machine
end

section
/-! PROOF. Which commands take effect (19 R584): every one but an I/O supply outside both its ranges. -/

namespace Sys2Proof.Machine

theorem takes_ok (s : State) : ∃ t, ok s = .next t := ⟨_, ok_eq s⟩

/-- Every other command answers a next state, whatever the state. -/
theorem exec_takes {c : Instr} (s : State) (h : ∀ b mv, c ≠ .vioRangeChange b mv) : Takes c s := by
  cases c with
  | vioRangeChange b mv => exact absurd rfl (h b mv)
  | _ => exact takes_ok _

theorem exec_vioRangeChange_outside {b mv} (s : State) (h : (1890 < mv ∧ mv < 3000) ∨ 3600 < mv) :
    exec (.vioRangeChange b mv) s = .fault .outsideOperatingConditions := if_pos (by simpa using h)

theorem exec_vioRangeChange_inside {b mv} (s : State) (h : ¬ ((1890 < mv ∧ mv < 3000) ∨ 3600 < mv)) :
    Takes (.vioRangeChange b mv) s := ⟨_, (if_neg (by simpa using h)).trans (ok_eq _)⟩

/-- Settles O49: the outcome of every other arm of the dispatch is a next state. -/
theorem onlyASupplyOutsideItsRangesStops : Obligations.OnlyASupplyOutsideItsRangesStops := by
  intro c s
  constructor
  · rintro ⟨b, mv, rfl, hOutside⟩
    exact exec_vioRangeChange_outside s hOutside
  · intro hInside
    by_cases hVio : ∃ b mv, c = .vioRangeChange b mv
    · obtain ⟨b, mv, rfl⟩ := hVio
      exact exec_vioRangeChange_inside s (hInside b mv rfl)
    · exact exec_takes s fun b mv e => hVio ⟨b, mv, e⟩

end Sys2Proof.Machine
end

section
/-! PROOF. What Table FM-1 bars (02 R34-R36): an instruction that its sequencer or its world may not execute leaves a status alone. -/

namespace Sys2Proof.Machine

theorem permFail_all (who : Who) (s : State) : permFail .all who s = none := by cases who <;> rfl

/-- The details of a permission refusal (02 Table FM-2). -/
theorem permFail_detail {p : Perm} {who : Who} {s : State} {d : Nat} (h : permFail p who s = some d) : d = 0xFF01 ∨ d = 0xFF02 := by
  unfold permFail at h
  split at h
  · cases h
  · cases h
  · exact .inl (Option.some.inj h).symm
  · exact .inl (Option.some.inj h).symm
  · cases h
  · exact .inl (Option.some.inj h).symm
  · split at h
    · cases h
    · exact .inr (Option.some.inj h).symm

/-- What may not be executed everywhere issues by its opcode and its permission, and nothing follows it. -/
theorem exec_of_restricted {i : Instr} {x : Issue} (h : issueOf i = some x) (hPerm : x.perm ≠ .all) (s : State) :
    ∃ body, exec i s = ok (issueF x.who x.cond x.op x.perm body s) := by
  cases i
  case tstepAbs | tstepRel | tstepEpoch | trateSet | trateAdd | tseal | rxwin | txf | txfHeld | kload | kderive | krevoke | kquery |
      cntsetOut | cntsetIn | cntexp | kzero | kzeroAll | clksel | pmode | rest | wakeon | setup | confirmImage | confirmReject |
      confirmRead | qflush | qattr | ledger | insert | delete | learnack | pin | unpin | tload | tscrub | csend | cbar |
      mirrorStatus | mirrorSync | mirrorDigest | roleRead | roleYield | roleWithdraw =>
    cases h
    exact ⟨_, rfl⟩
  all_goals cases h <;> exact absurd rfl hPerm

/-- Every check before Table FM-1's is passed by what only that table bars. -/
theorem Barred.issues {who : Who} {c : Cond} {op d : Nat} {p : Perm} {s : State} (h : Barred who c op p d s) : Issues who c op .all s :=
  ⟨h.can, h.inWin, h.holds, h.open_, h.active, permFail_all who s⟩

/-- Settles O50: the refusal is the whole of what the instruction does, and it is a change of its issuer's registers. -/
theorem barredInstructionsAreRefused : Obligations.BarredInstructionsAreRefused := by
  intro i x d s hIssue hBarred
  refine ⟨?_, permFail_detail hBarred.barred⟩
  have hPerm : x.perm ≠ .all := fun e => by simpa [e, permFail_all] using hBarred.barred
  obtain ⟨body, hExec⟩ := exec_of_restricted hIssue hPerm s
  rw [issueF_barred hBarred] at hExec
  exact ⟨_, hExec, RegStep.done (body := ret x.who stREFUSED (w32 d) (w32 x.op)) ((rs0 x.who s).ret _ _ _) hBarred.issues⟩

end Sys2Proof.Machine
end

section
/-! PROOF. Tables in canonical form (02 R42, R47; 15 R480): what they read after a write, and that they are determined by what they
read. -/

namespace Sys2Proof.Machine

section
variable {α : Type} [DecidableEq α] {d : α} {m m' : Tbl α} {j k : Nat} {v : α}

/-- Below its first key a table in canonical form reads as an empty one. -/
theorem Tbl.get_below (hw : Tbl.wf d m = true) (hk : ∀ p ∈ m.head?, k < p.1) : Tbl.get d m k = d := by
  induction m with
  | nil => rfl
  | cons q t ih =>
    obtain ⟨k', v'⟩ := q
    obtain ⟨-, hNext, hTail⟩ := Tbl.wf_cons.mp hw
    have hFirst : k < k' := by simpa using hk
    have hNe : k ≠ k' := by omega
    simp only [Tbl.get, hNe, if_false]
    exact ih hTail fun p hp => Nat.lt_trans hFirst (hNext p hp)

theorem Tbl.get_set (hw : Tbl.wf d m = true) : Tbl.get d (Tbl.set d m k v) j = if j = k then v else Tbl.get d m j := by
  induction m with
  | nil =>
    unfold Tbl.set
    split
    · simp [Tbl.get, *]
    · rfl
  | cons q t ih =>
    obtain ⟨k', v'⟩ := q
    obtain ⟨-, hNext, hTail⟩ := Tbl.wf_cons.mp hw
    unfold Tbl.set
    split
    case isTrue hBefore =>
      have hUnread : Tbl.get d ((k', v') :: t) k = d := Tbl.get_below hw (by simpa using hBefore)
      split
      · by_cases hj : j = k
        · simp [*]
        · simp [hj]
      · rfl
    case isFalse hBefore =>
      split
      case isTrue hHere =>
        subst hHere
        have hUnread : Tbl.get d t k = d := Tbl.get_below hTail hNext
        by_cases hj : j = k
        · split <;> simp [Tbl.get, *]
        · split <;> simp [Tbl.get, hj]
      case isFalse hHere =>
        by_cases hj : j = k'
        · have hNe : k' ≠ k := fun e => hHere e.symm
          simp [Tbl.get, hj, hNe]
        · simp only [Tbl.get, hj, if_false]
          exact ih hTail

/-- Tables in canonical form that read alike are one list. -/
theorem Tbl.ext_of_get (hw : Tbl.wf d m = true) (hw' : Tbl.wf d m' = true) (h : ∀ i, Tbl.get d m i = Tbl.get d m' i) : m = m' := by
  induction m generalizing m' with
  | nil =>
    cases m' with
    | nil => rfl
    | cons q' t' =>
      have hRead := h q'.1
      simp only [Tbl.get, if_true] at hRead
      exact absurd hRead.symm (Tbl.wf_cons.mp hw').1
  | cons q t ih =>
    obtain ⟨k, v⟩ := q
    obtain ⟨hv, hNext, hTail⟩ := Tbl.wf_cons.mp hw
    cases m' with
    | nil =>
      have hRead := h k
      simp only [Tbl.get, if_true] at hRead
      exact absurd hRead hv
    | cons q' t' =>
      obtain ⟨k', v'⟩ := q'
      obtain ⟨hv', hNext', hTail'⟩ := Tbl.wf_cons.mp hw'
      have hHead := h k
      have hHead' := h k'
      simp only [Tbl.get, if_true] at hHead hHead'
      have hKey : k = k' := by
        rcases Nat.lt_trichotomy k k' with hLt | hEq | hGt
        · rw [if_neg (by omega), Tbl.get_below hTail' fun p hp => Nat.lt_trans hLt (hNext' p hp)] at hHead
          exact absurd hHead hv
        · exact hEq
        · rw [if_neg (by omega), Tbl.get_below hTail fun p hp => Nat.lt_trans hGt (hNext p hp)] at hHead'
          exact absurd hHead'.symm hv'
      subst hKey
      have hVal : v = v' := by simpa using hHead
      have hRest : t = t' := ih hTail hTail' fun i => by
        by_cases hi : i = k
        · rw [hi, Tbl.get_below hTail hNext, Tbl.get_below hTail' hNext']
        · simpa [Tbl.get, hi] using h i
      rw [hVal, hRest]

end

/-- Settles O55: by induction on the tables, whose first key is below the rest. -/
theorem tablesReadWhatWasWritten : Obligations.TablesReadWhatWasWritten :=
  fun _ _ _ _ _ _ hw hw' => ⟨Tbl.get_set hw, Tbl.ext_of_get hw hw'⟩

end Sys2Proof.Machine
end

section
/-! PROOF. Load records (02 R43, R47): the words they write, and that nothing after the load writes program or schedule memory. -/

namespace Sys2Proof.Machine

/-! ## Runs of words -/

/-- What a memory reads after a run of words has been written from address a on: where ok allows the word, what was written. -/
theorem read_foldl_write {σ α : Type} {read : Nat → σ → α} {write : Nat → α → σ → σ} {allowed : Nat → Bool} {P : σ → Prop} (dflt : α)
    (hKeeps : ∀ s k v, P s → P (write k v s))
    (hRead : ∀ s k v j, P s → read j (write k v s) = if j = k ∧ allowed k = true then v else read j s)
    (a n : Nat) (ws : List α) (s : σ) (hs : P s) (j : Nat) :
    read j ((ws.zipIdx n).foldl (fun s wk => write (a + wk.2) wk.1 s) s) =
      if a + n ≤ j ∧ j < a + n + ws.length ∧ allowed j = true then ws.getD (j - (a + n)) dflt else read j s := by
  induction ws generalizing n s with
  | nil =>
    rw [List.length_nil, if_neg (by omega)]
    rfl
  | cons w ws ih =>
    rw [List.zipIdx_cons, List.foldl_cons, ih _ _ (hKeeps _ _ _ hs), hRead _ _ _ _ hs]
    by_cases hHere : j = a + n
    · subst hHere
      simp
    · have hLater : (a + (n + 1) ≤ j ∧ j < a + (n + 1) + ws.length ∧ allowed j = true) ↔
          (a + n ≤ j ∧ j < a + n + (w :: ws).length ∧ allowed j = true) := by
        rw [List.length_cons]
        constructor <;> intro ⟨hFrom, hTo, hAllowed⟩ <;> exact ⟨by omega, by omega, hAllowed⟩
      by_cases hIn : a + n ≤ j ∧ j < a + n + (w :: ws).length ∧ allowed j = true
      · have hIndex : j - (a + n) = (j - (a + (n + 1))) + 1 := by omega
        rw [if_pos (hLater.mpr hIn), if_pos hIn, hIndex, List.getD_cons_succ]
      · rw [if_neg (mt hLater.mp hIn), if_neg hIn, if_neg fun h => hHere h.1]

/-- The write of a program word. -/
def setProgWord (k : Nat) (v : BitVec 64) (s : State) : State :=
  { s with progMem := Tbl.set 0x1500000000000000 s.progMem k v }

theorem progWord_setProgWord {s : State} (hw : Tbl.wf 0x1500000000000000 s.progMem = true) (k : Nat) (v : BitVec 64) (j : Nat) :
    progWord j (setProgWord k v s) = if j = k then v else progWord j s := Tbl.get_set hw

theorem loadProgram_eq (a : Nat) (ws : List (BitVec 64)) (s : State) :
    loadProgram a ws s = ws.zipIdx.foldl (fun s wk => setProgWord (a + wk.2) wk.1 s) s := rfl

theorem progWord_loadProgram {s : State} (hw : Tbl.wf 0x1500000000000000 s.progMem = true) (a : Nat) (ws : List (BitVec 64)) (j : Nat) :
    progWord j (loadProgram a ws s) = if a ≤ j ∧ j < a + ws.length then ws.getD (j - a) 0 else progWord j s := by
  have hLoad := read_foldl_write (read := progWord) (allowed := fun _ => true)
    (write := setProgWord)
    (P := fun s => Tbl.wf 0x1500000000000000 s.progMem = true) 0
    (fun _ _ _ h => Tbl.set_wf _ _ _ _ h) (fun _ _ _ _ h => by simpa using progWord_setProgWord h _ _ _) a 0 ws s hw j
  simpa [loadProgram_eq] using hLoad

theorem schedWord_setSchedWord {s : State} (hw : Tbl.wf 0 s.schedMem = true) (k : Nat) (v : Word) (j : Nat) :
    schedWord j (setSchedWord k v s) = if j = k ∧ isStateWord k = false then v else schedWord j s := by
  unfold setSchedWord
  split
  · simp [*]
  · simp only [*, and_true]
    exact Tbl.get_set hw

theorem schedWord_load {s : State} (hw : Tbl.wf 0 s.schedMem = true) (a : Nat) (vs : List Word) (j : Nat) :
    schedWord j (vs.zipIdx.foldl (fun s wk => setSchedWord (a + wk.2) wk.1 s) s) =
      if a ≤ j ∧ j < a + vs.length ∧ isStateWord j = false then vs.getD (j - a) 0 else schedWord j s := by
  have hLoad := read_foldl_write (read := schedWord) (write := setSchedWord) (allowed := fun k => !isStateWord k)
    (P := fun s => Tbl.wf 0 s.schedMem = true) 0
    (fun s k v h => by unfold setSchedWord; split; exacts [h, Tbl.set_wf _ _ _ _ h])
    (fun _ _ _ _ h => by simpa using schedWord_setSchedWord h _ _ _) a 0 vs s hw j
  simpa using hLoad

theorem progMem_setSchedWord (a : Nat) (v : Word) (s : State) : (setSchedWord a v s).progMem = s.progMem := by
  unfold setSchedWord
  split <;> rfl

theorem schedMem_loadProgram (a : Nat) (ws : List (BitVec 64)) (s : State) : (loadProgram a ws s).schedMem = s.schedMem :=
  ws.zipIdx.foldlRecOn (motive := fun (t : State) => t.schedMem = s.schedMem) _ rfl fun _ h _ _ => h

theorem progMem_load (a : Nat) (vs : List Word) (s : State) :
    (vs.zipIdx.foldl (fun s wk => setSchedWord (a + wk.2) wk.1 s) s).progMem = s.progMem :=
  vs.zipIdx.foldlRecOn (motive := fun (t : State) => t.progMem = s.progMem) _ rfl fun _ h _ _ => (progMem_setSchedWord ..).trans h

/-! ## The end of a record -/

/-- The two memories that records load. -/
def loadMems (s : State) : Tbl (BitVec 64) × Tbl Word := (s.progMem, s.schedMem)

theorem loadMems_eq_iff {s t : State} : loadMems s = loadMems t ↔ s.progMem = t.progMem ∧ s.schedMem = t.schedMem := Prod.mk_inj

@[simp] theorem loadMems_modRing (w : World) (b : Fin 20) (f : Ring → Ring) (s : State) :
    loadMems (modRing w b f s) = loadMems s := by simp [loadMems]

@[simp] theorem loadMems_emit (r : List Byte) (s : State) : loadMems (emit r s) = loadMems s := by simp [loadMems]

@[simp] theorem loadMems_settle (s : State) : loadMems (settle s) = loadMems s := by simp [loadMems]

@[simp] theorem loadMems_ringMemWrite (a : Nat) (ws : List Word) (s : State) : loadMems (ringMemWrite a ws s) = loadMems s := by
  induction ws generalizing a s with
  | nil => rfl
  | cons v vs ih => exact ih _ _

@[simp] theorem loadMems_postDesc (w : World) (b : Fin 20) (d : List Word) (s : State) :
    loadMems (postDesc w b d s) = loadMems s := by
  simp only [postDesc, postDescData, apply_ite loadMems, loadMems_modRing, loadMems_ringMemWrite, loadMems_emit, ite_self]

theorem loadMems_stopOrphan (w : World) (s : State) : loadMems (stopOrphan w s) = loadMems s := by
  unfold stopOrphan stopCommand
  split
  · dsimp only
    split
    · exact (by simp [loadMems] : loadMems (modRecord _ (modRing w blkCommand _ s)) = loadMems s)
    · exact loadMems_modRing ..
  · rfl

/-- The completion of a record writes neither memory. -/
theorem loadMems_closeRecord (w : World) (m : Bool) (kind : Nat) (tag : BitVec 32) (st w1 : Nat) (s : State) :
    loadMems (closeRecord w m kind tag st w1 s) = loadMems s := by
  unfold closeRecord postCompletion passCommand
  refine (loadMems_stopOrphan ..).trans ((loadMems_stopOrphan ..).trans ?_)
  simp only [apply_ite loadMems, loadMems_modRing, loadMems_postDesc, ite_self]

/-! ## The records -/

theorem exec_programLoadRecord_loads {w : World} {tag : BitVec 32} {start : BitVec 16} {ws : List (BitVec 64)} {s : State}
    (hTake : canTake w s = true) (hSome : 1 ≤ ws.length) (hMost : ws.length ≤ 4096) (hFits : start.toNat + ws.length ≤ 65536)
    (hTaken : loadRefusal s.twin.mirNext (tookRecord w s) = none)
    (hFree : touchesRunning start.toNat ws.length (tookRecord w s) = false) :
    Becomes (.programLoadRecord w tag start ws) s
      (closeRecord w s.twin.mirNext 2 tag stOK ws.length (loadProgram start.toNat ws (tookRecord w s))) := by
  have hLayout : ¬ (ws.length = 0 ∨ 4096 < ws.length ∨ 65536 < start.toNat + ws.length) := by omega
  show ok _ = _
  rw [ok_eq]
  simp only [hTake, Bool.not_true, Bool.false_eq_true, if_false, Bool.or_eq_true, decide_eq_true_eq, or_assoc, hLayout, hTaken, hFree]

theorem exec_scheduleLoadRecord_loads {w : World} {tag : BitVec 32} {addr : BitVec 18} {vs : List Word} {s : State}
    (hTake : canTake w s = true) (hSome : 1 ≤ vs.length) (hMost : vs.length ≤ 16384) (hFits : addr.toNat + vs.length ≤ 262144)
    (hTaken : loadRefusal s.twin.mirNext (tookRecord w s) = none) :
    Becomes (.scheduleLoadRecord w tag addr vs) s (closeRecord w s.twin.mirNext 3 tag stOK vs.length
      (vs.zipIdx.foldl (fun s wk => setSchedWord (addr.toNat + wk.2) wk.1 s) (tookRecord w s))) := by
  have hLayout : ¬ (vs.length = 0 ∨ 16384 < vs.length ∨ 262144 < addr.toNat + vs.length) := by omega
  show ok _ = _
  rw [ok_eq]
  simp only [hTake, Bool.not_true, Bool.false_eq_true, if_false, Bool.or_eq_true, decide_eq_true_eq, or_assoc, hLayout, hTaken]

/-- Settles O56: the load is the one write of either memory that the record does. -/
theorem loadRecordsWriteTheirWords : Obligations.LoadRecordsWriteTheirWords := by
  intro w tag start addr ws vs s hCanonical hTake
  obtain ⟨hProg, hSched, -⟩ := (Memory.wf_iff s).mp hCanonical.now
  refine ⟨fun hSome hMost hFits hTaken hFree => ?_, fun hSome hMost hFits hTaken => ?_⟩
  · refine ⟨_, exec_programLoadRecord_loads hTake hSome hMost hFits hTaken hFree, ?_⟩
    obtain ⟨hProgAfter, hSchedAfter⟩ := loadMems_eq_iff.mp <| (loadMems_settle _).trans (loadMems_closeRecord w s.twin.mirNext 2 tag
      stOK ws.length (loadProgram start.toNat ws (tookRecord w s)))
    constructor
    · intro a
      exact congrArg (Tbl.get 0 · a) (hSchedAfter.trans (schedMem_loadProgram ..))
    · intro a
      exact (congrArg (Tbl.get 0x1500000000000000 · a) hProgAfter).trans (progWord_loadProgram (s := tookRecord w s) hProg _ ws a)
  · refine ⟨_, exec_scheduleLoadRecord_loads hTake hSome hMost hFits hTaken, ?_⟩
    obtain ⟨hProgAfter, hSchedAfter⟩ := loadMems_eq_iff.mp <| (loadMems_settle _).trans (loadMems_closeRecord w s.twin.mirNext 3 tag
      stOK vs.length (vs.zipIdx.foldl (fun s wk => setSchedWord (addr.toNat + wk.2) wk.1 s) (tookRecord w s)))
    constructor
    · intro a
      exact congrArg (Tbl.get 0x1500000000000000 · a) (hProgAfter.trans (progMem_load ..))
    · intro a
      exact (congrArg (Tbl.get 0 · a) hSchedAfter).trans (schedWord_load (s := tookRecord w s) hSched _ vs a)

end Sys2Proof.Machine
end

section
/-! PROOF. The arithmetic, logic and shift instructions and the moves (02 R41; 03 R79-R82): each is one write of one register of its
issuer. -/

namespace Sys2Proof.Machine

/-! ## Words -/

theorem add_eq_w32 (a b : Word) : a + b = w32 (a.toNat + b.toNat) := BitVec.eq_of_toNat_eq (by simp [w32])

theorem sub_eq_w32 (a b : Word) : a - b = w32 (4294967296 + a.toNat - b.toNat) := by
  apply BitVec.eq_of_toNat_eq
  have hb := b.isLt
  simp only [w32, BitVec.toNat_sub, BitVec.toNat_ofNat]
  congr 1
  omega

/-- A shift by 32 places or more shifts every bit out. -/
theorem shlW_eq_w32 (a b : Word) : shlW a b = w32 (a.toNat * 2 ^ b.toNat) := by
  unfold shlW
  split
  case isTrue hFar =>
    apply BitVec.eq_of_toNat_eq
    have hZero : a.toNat * 2 ^ b.toNat % 4294967296 = 0 := Nat.mod_eq_zero_of_dvd ((Nat.pow_dvd_pow 2 hFar).mul_left _)
    simp [w32, hZero]
  case isFalse => exact BitVec.eq_of_toNat_eq (by simp [w32, Nat.shiftLeft_eq])

theorem shrW_eq_w32 (a b : Word) : shrW a b = w32 (a.toNat / 2 ^ b.toNat) := by
  unfold shrW
  apply BitVec.eq_of_toNat_eq
  split
  case isTrue hFar =>
    have hSmall : a.toNat < 2 ^ b.toNat := a.isLt.trans_le (Nat.pow_le_pow_right (by decide) hFar)
    simp [w32, Nat.div_eq_of_lt hSmall]
  case isFalse =>
    have hLt : a.toNat / 2 ^ b.toNat < 4294967296 := (Nat.div_le_self ..).trans_lt a.isLt
    simp [w32, Nat.shiftRight_eq_div_pow, Nat.mod_eq_of_lt hLt]

theorem shiftRight_32_eq_w32 (a : BitVec 64) : (a >>> 32).setWidth 32 = w32 (a.toNat / 4294967296) := by
  apply BitVec.eq_of_toNat_eq
  simp [w32, Nat.shiftRight_eq_div_pow]

theorem setWidth_32_eq_w32 (a : BitVec 64) : a.setWidth 32 = w32 a.toNat := BitVec.eq_of_toNat_eq (by simp [w32])

theorem append_eq_ofNat (hi lo : Word) : hi ++ lo = BitVec.ofNat 64 (hi.toNat * 4294967296 + lo.toNat) := by
  apply BitVec.eq_of_toNat_eq
  have hHi := hi.isLt
  have hLo := lo.isLt
  rw [BitVec.toNat_append, ← Nat.shiftLeft_add_eq_or_of_lt hLo, Nat.shiftLeft_eq, BitVec.toNat_ofNat, Nat.mod_eq_of_lt (by omega)]

theorem upper_eq_w32 (a : BitVec 64) : a.extractLsb' 32 32 = w32 (a.toNat / 4294967296) := by
  apply BitVec.eq_of_toNat_eq
  simp [w32, Nat.shiftRight_eq_div_pow]

theorem lower_eq_w32 (a : BitVec 64) : a.extractLsb' 0 32 = w32 a.toNat := BitVec.eq_of_toNat_eq (by simp [w32])

theorem toNat_w32 (n : Nat) : (w32 n).toNat = n % 4294967296 := by simp [w32]

/-! ## The arithmetic instructions -/

/-- What an ALU instruction gives. -/
theorem alu_gives {who : Who} {c : Cond} {op : Nat} {f : Word → Word → Word} {wd ws1 : Fin 16} {op2 : Op2} {i : Instr} {s : State}
    (hIssues : Issues who c op .all s) (hExec : exec i s = ok (issue who c op .all (alu who f wd ws1 op2) s)) :
    GivesRegs i who (withW who wd (f (getW who ws1 s) (op2Val who op2 s)) s) s :=
  regsOf hIssues hExec (by simp only [alu, getW_opened, op2Val_opened]) ((rs0 who s).setW wd _)

/-- Settles O1: each instruction is a register write of a function of its operands, which the words above compute. -/
theorem arithmeticWritesOneRegister : Obligations.ArithmeticWritesOneRegister := by
  intro who c wd ws1 op2 imm s
  simp only [← add_eq_w32, ← sub_eq_w32, ← shlW_eq_w32, ← shrW_eq_w32]
  exact ⟨fun h => regsOf h rfl rfl (rs0 who s), fun h => regsOf h rfl rfl ((rs0 who s).setW wd imm), fun h => alu_gives h rfl,
    fun h => alu_gives h rfl, fun h => alu_gives h rfl, fun h => alu_gives h rfl, fun h => alu_gives h rfl,
    fun h => alu_gives h rfl, fun h => alu_gives h rfl⟩

/-! ## The moves and comparisons -/

/-- What a move gives, by the register that its mode writes. -/
theorem mov_gives {who : Who} {c : Cond} {m : MovOp} {g : RegSet} {t : State} {s : State} (hIssues : Issues who c 0x02 .all s)
    (hMoves : movOp who m (opened who s) = t) (hStep : RegStep who g (opened who s) t) : GivesRegs (.mov who c m) who g s :=
  regsOf hIssues rfl hMoves hStep

theorem movs_give {who : Who} {c : Cond} {s : State} (d r : Fin 16) (t u : Fin 4) (h : Issues who c 0x02 .all s) :
    GivesRegs (.mov who c (.ww d r)) who (withW who d (getW who r s) s) s ∧
    GivesRegs (.mov who c (.secLo d t)) who (withW who d (w32 (getT who t s).sec.toNat) s) s ∧
    GivesRegs (.mov who c (.secHi d t)) who (withW who d (w32 ((getT who t s).sec.toNat / 4294967296)) s) s ∧
    GivesRegs (.mov who c (.nsOf d t)) who (withW who d (getT who t s).ns s) s ∧
    GivesRegs (.mov who c (.setSecLo t r)) who (withT who t { getT who t s with
      sec := BitVec.ofNat 64 ((getT who t s).sec.toNat / 4294967296 * 4294967296 + (getW who r s).toNat) } s) s ∧
    GivesRegs (.mov who c (.setSecHi t r)) who (withT who t { getT who t s with
      sec := BitVec.ofNat 64 ((getW who r s).toNat * 4294967296 + (getT who t s).sec.toNat % 4294967296) } s) s ∧
    GivesRegs (.mov who c (.setNs t r)) who (withT who t { getT who t s with ns := getW who r s } s) s ∧
    GivesRegs (.mov who c (.tt t u)) who (withT who t (getT who u s) s) s := by
  have hUpper : (getT who t s).sec.toNat / 4294967296 % 4294967296 = (getT who t s).sec.toNat / 4294967296 := by
    have := (getT who t s).sec.isLt
    omega
  refine ⟨mov_gives h ?_ ((rs0 who s).setW d _), mov_gives h ?_ ((rs0 who s).setW d _), mov_gives h ?_ ((rs0 who s).setW d _),
    mov_gives h ?_ ((rs0 who s).setW d _), mov_gives h ?_ ((rs0 who s).setT t _), mov_gives h ?_ ((rs0 who s).setT t _),
    mov_gives h ?_ ((rs0 who s).setT t _), mov_gives h ?_ ((rs0 who s).setT t _)⟩
  · simp only [movOp, getW_opened]
  · simp only [movOp, getT_opened, setWidth_32_eq_w32]
  · simp only [movOp, getT_opened, shiftRight_32_eq_w32]
  · simp only [movOp, getT_opened]
  · simp only [movOp, getW_opened, getT_opened, append_eq_ofNat, upper_eq_w32, toNat_w32, hUpper]
  · simp only [movOp, getW_opened, getT_opened, append_eq_ofNat, lower_eq_w32, toNat_w32]
  · simp only [movOp, getW_opened, getT_opened]
  · simp only [movOp, getT_opened]

theorem cmp_gives {who : Who} {c : Cond} {pd : Fin 4} {rel : Rel} {ws1 : Fin 16} {op2 : Op2} {v : Bool} {s : State}
    (h : Issues who c 0x0A .all s) (hHolds : relHolds rel (getW who ws1 s) (op2Val who op2 s) = v) :
    GivesRegs (.cmp who c pd rel ws1 op2) who (withP who pd v s) s :=
  regsOf h rfl (by simp only [getW_opened, op2Val_opened, hHolds]) ((rs0 who s).setP pd v)

theorem test_gives {who : Who} {c : Cond} {pd : Fin 4} {ws1 : Fin 16} {op2 : Op2} {s : State} (h : Issues who c 0x0B .all s) :
    GivesRegs (.test who c pd ws1 op2) who (withP who pd (getW who ws1 s &&& op2Val who op2 s ≠ 0) s) s :=
  regsOf h rfl (by simp only [getW_opened, op2Val_opened]) ((rs0 who s).setP pd _)

/-- Settles O2: the moves join and part the halves of a time register as words, the comparisons compute the relation of their row. -/
theorem movAndCompare : Obligations.MovAndCompare := by
  refine ⟨fun who c d r t u s h => movs_give d r t u h, fun who c pd ws1 op2 s => ⟨fun h => ?_, fun h => test_gives h⟩⟩
  exact ⟨cmp_gives h rfl, cmp_gives h (decide_not ..).symm, cmp_gives h rfl, cmp_gives h rfl, cmp_gives h rfl, cmp_gives h rfl,
    cmp_gives h rfl, cmp_gives h rfl, cmp_gives h rfl, cmp_gives h rfl⟩

end Sys2Proof.Machine
end

section
/-! PROOF. Control transfers and halts (02 R42-R52, R68; 03 R74, R80, R83, R152). -/

namespace Sys2Proof.Machine

theorem notInRing_out {who : Who} (h : inRing who = false) (op : Nat) (body : State → State) (s : State) :
    notInRing who op body s = body s := by simp [notInRing, h]

theorem setPc_mod (who : Who) (pc : Nat) (s : State) : setPc who (pc % 65536) s = setPc who pc s := by
  cases who <;> simp [setPc]

@[simp] theorem pcOf_opened (who : Who) (s : State) : pcOf who (opened who s) = pcOf who s := by
  cases who with
  | slice n => rfl
  | ring w => rfl
  | routine => rfl

/-- Going on is no effect in ring context. -/
theorem advance_ring (w : World) (s : State) : advance (.ring w) s = s := rfl

/-! ## Control transfers -/

theorem jmp_answers {who : Who} {c : Cond} {addr : BitVec 16} {s : State} (h : Issues who c 0x10 .all s) (hOut : inRing who = false) :
    Answers (.jmp who c addr) who (setPc who addr.toNat) s :=
  answers h rfl (notInRing_out hOut ..)

theorem br_answers {who : Who} {c : Cond} {ws1 : Fin 16} {base : BitVec 16} {s : State} (h : Issues who c 0x11 .all s)
    (hOut : inRing who = false) :
    Answers (.br who c ws1 base) who (setPc who ((base.toNat + (getW who ws1 s).toNat) % 65536)) s :=
  answers h rfl (by rw [notInRing_out hOut, getW_opened, setPc_mod])

theorem call_answers {who : Who} {c : Cond} {addr : BitVec 16} {s : State} (h : Issues who c 0x12 .all s) (hOut : inRing who = false)
    (hRoom : (ctx who s).regs.stack.length < 8) :
    AnswersThenRecord (.call who c addr) who
      (fun u => setPc who addr.toNat (setStack who ((pcOf who s + 1) % 65536 :: (ctx who s).regs.stack) u)) s :=
  answersThenRecord h rfl (by simp [callOp, hOut, hRoom])

theorem call_ring_answers {who : Who} {c : Cond} {addr : BitVec 16} {s : State} (h : Issues who c 0x12 .all s) (hIn : inRing who = true)
    (hRoom : (ctx who s).regs.stack.length < 8) :
    AnswersThenRecord (.call who c addr) who
      (fun u => modRecord (fun r => { r with routine := true, depth := (ctx who s).regs.stack.length, pc := addr.toNat })
        (setStack who (0 :: (ctx who s).regs.stack) u)) s :=
  answersThenRecord h rfl (by simp [callOp, hIn, hRoom])

theorem ret_slice_answers {n : Fin 12} {c : Cond} {a : Nat} {st : List Nat} {s : State} (h : Issues (.slice n) c 0x13 .all s)
    (hStack : (ctx (.slice n) s).regs.stack = a :: st) :
    AnswersThenRecord (.ret (.slice n) c) (.slice n) (fun u => setPc (.slice n) a (setStack (.slice n) st u)) s :=
  answersThenRecord h rfl (by
    rw [notInRing_out rfl, retOp, ctx_opened, hStack])

/-- Changing the stack leaves the open record. -/
theorem record_setStack (who : Who) (st : List Nat) (s : State) : (setStack who st s).cond.record = s.cond.record := by
  cases who with
  | slice n => rfl
  | ring w => cases w <;> rfl
  | routine =>
    simp only [setStack, modCtx]
    cases worldOf .routine s <;> rfl

theorem ret_routine_answers {c : Cond} {a : Nat} {st : List Nat} {r : Record} {s : State} (h : Issues .routine c 0x13 .all s)
    (hStack : (ctx .routine s).regs.stack = a :: st) (hRecord : s.cond.record = some r) :
    AnswersThenRecord (.ret .routine c) .routine
      (fun u => if st.length ≤ r.depth then modRecord (fun r => { r with routine := false, pc := 0, status := none })
        (setStack .routine st u) else setPc .routine a (setStack .routine st u)) s :=
  answersThenRecord h rfl (by
    have hRec : (setStack .routine st (opened .routine s)).cond.record = some r := (record_setStack ..).trans hRecord
    rw [notInRing_out rfl, retOp, ctx_opened, hStack]
    simp only [hRec])

theorem loop_zero {who : Who} {c : Cond} {wd : Fin 16} {addr : BitVec 16} {s : State} (h : Issues who c 0x14 .all s)
    (hOut : inRing who = false) (hCount : getW who wd s = 0) : GivesRegs (.loop who c wd addr) who (ctx who s).regs s := by
  refine givesRegs (body := id) (c := c) (op := 0x14) (p := .all) h ?_ (rs0 who s)
  show ok (issueF ..) = _
  rw [issueF_issues h, issue_issues h, inContext_congr]
  simp [notInRing_out hOut, hCount]

theorem loop_one {who : Who} {c : Cond} {wd : Fin 16} {addr : BitVec 16} {s : State} (h : Issues who c 0x14 .all s)
    (hOut : inRing who = false) (hCount : getW who wd s = 1) : GivesRegs (.loop who c wd addr) who (withW who wd 0 s) s := by
  refine givesRegs (body := setW who wd 0) (c := c) (op := 0x14) (p := .all) h ?_ ((rs0 who s).setW wd 0)
  show ok (issueF ..) = _
  rw [issueF_issues h, issue_issues h, inContext_congr]
  simp [notInRing_out hOut, hCount]

theorem loop_answers {who : Who} {c : Cond} {wd : Fin 16} {addr : BitVec 16} {s : State} (h : Issues who c 0x14 .all s)
    (hOut : inRing who = false) (hCount : 1 < (getW who wd s).toNat) :
    Answers (.loop who c wd addr) who (fun u => setPc who addr.toNat (setW who wd (getW who wd s - 1) u)) s :=
  answers h rfl (by
    have hSome : getW who wd s ≠ 0 := fun e => by simp [e] at hCount
    have hMore : getW who wd s - 1 ≠ 0 := fun e => by simp [sub_eq_zero.mp e] at hCount
    simp only [notInRing_out hOut, getW_opened, hSome, hMore, if_false])

/-! ## What ring context refuses -/

theorem notInRing_ring (w : World) (op : Nat) (body : State → State) (s : State) :
    notInRing (.ring w) op body s = ret (.ring w) stREFUSED (w32 0xFF04) (w32 op) s := rfl

/-- A control transfer that ring context refuses leaves a status alone. -/
theorem refused_in_ring {w : World} {c : Cond} {op : Nat} {body : State → State} {i : Instr} {s : State}
    (h : Issues (.ring w) c op .all s) (hExec : exec i s = ok (issueF (.ring w) c op .all (notInRing (.ring w) op body) s)) :
    GivesRegs i (.ring w) (withStatus (.ring w) 0x04 0xFF04 (w32 op) s) s := by
  refine givesRegs (body := ret (.ring w) stREFUSED (w32 0xFF04) (w32 op)) h ?_ ((rs0 _ s).ret ..)
  rw [hExec, issueF_issues h, issue_issues h, inContext_congr]
  rfl

theorem refused_in_record {w : World} {c : Cond} {op : Nat} {body : State → State} {i : Instr} {s : State}
    (h : Issues (.ring w) c op .all s)
    (hExec : exec i s = ok (resume (issueF (.ring w) c op .all (notInRing (.ring w) op body) s))) :
    AnswersThenRecord i (.ring w) (ret (.ring w) 0x04 0xFF04 (w32 op)) s :=
  answersThenRecord h hExec rfl

/-- Settles O3: out of a ring each transfer is its own body, in a ring it is a status. -/
theorem controlTransfers : Obligations.ControlTransfers := by
  refine ⟨fun who c wd ws1 addr base n a st r s => ⟨jmp_answers, br_answers, call_answers, call_ring_answers, ret_slice_answers,
    fun h hStack hRecord hInner => ?_, fun h hStack hRecord hOuter => ?_, loop_zero, loop_one, loop_answers⟩,
    fun w c wd ws1 addr s => ⟨fun h => refused_in_ring h rfl, fun h => refused_in_ring h rfl, fun h => refused_in_ring h rfl,
      fun h => refused_in_record h rfl, fun h => refused_in_record h rfl⟩⟩
  · simpa only [Nat.not_le.mpr hInner, if_false] using ret_routine_answers h hStack hRecord
  · simpa only [hOuter, if_true] using ret_routine_answers h hStack hRecord

/-! ## Halts -/

theorem halt_routine_answers {c : Cond} {r : Record} {s : State} (h : Issues .routine c 0x15 .all s) (hRecord : s.cond.record = some r) :
    AnswersThenRecord (.halt .routine c) .routine
      (fun u => endRecord 1 (setStack .routine
        ((ctx .routine s).regs.stack.drop ((ctx .routine s).regs.stack.length - r.depth)) u)) s :=
  answersThenRecord h rfl (by
    have hOpened : opened .routine s = s := rfl
    rw [notInRing_out rfl, hOpened]
    simp only [haltOp, hRecord])

theorem halt_slice_answers {n : Fin 12} {c : Cond} {s : State} (h : Issues (.slice n) c 0x15 .all s) :
    AnswersThenRecord (.halt (.slice n) c) (.slice n) (haltSlice n 1 0x00 0 false) s :=
  answersThenRecord h rfl (notInRing_out rfl ..)

theorem trap_answers {who : Who} {c : Cond} {code : BitVec 8} {s : State} (h : Issues who c 0x16 .all s) :
    AnswersThenRecord (.trap who c code) who (fun u => haltWho who 2 0x00 code.toNat (curWord who u) u) s :=
  answersThenRecord h rfl rfl

/-- An illegal word halts without a look at its condition (03 R152). -/
theorem illegal_answers {who : Who} {word : BitVec 64} {s : State} (hRuns : canRun who s = true) (hIn : fetchOutside who s = false)
    (hOpen : lockedOut 0xFF s = false) :
    AnswersThenRecord (.illegalInstruction who word) who (haltWho who 3 0x45 0 word) s := by
  show ok (resume (illegalWord ..)) = ok _
  unfold illegalWord
  rw [hRuns, inContext_congr]
  · rfl
  · have hIn' : fetchOutside who (opened who s) = false := by
      rw [← hIn]; cases who <;> simp [fetchOutside]
    have hOpen' : lockedOut 0xFF (opened who s) = false := by simpa [lockedOut] using hOpen
    simp [hIn', hOpen', stILLEGAL_OP]

/-- Settles O4: each halt is the one operation that halts the issuer, with the reason of its row. -/
theorem haltsByReason : Obligations.HaltsByReason :=
  fun _ _ _ _ _ _ _ => ⟨halt_slice_answers, halt_routine_answers, trap_answers, illegal_answers⟩

end Sys2Proof.Machine
end

section
/-! PROOF. FENCE, LDW and STW (02 R47, R59; 03 R80, R83; 06 R202). -/

namespace Sys2Proof.Machine

/-! ## FENCE -/

/-- The work that a sequencer waits for at a FENCE (02 R59). -/
def pendingWork (who : Who) (s : State) : List Pend :=
  match who with
  | .slice n => (seq n s).ctx.pend
  | _ => s.cond.op.pend ++ s.cond.cust.pend

theorem noPending_opened (who : Who) (s : State) : noPending who (opened who s) = noPending who s := by
  cases who with
  | slice n => rfl
  | ring w =>
    unfold opened
    cases s.cond.record <;> rfl
  | routine => rfl

theorem noPending_iff (who : Who) (s : State) : noPending who s = true ↔ pendingWork who s = [] := by
  cases who <;> simp [noPending, pendingWork]

theorem fence_goes_on {who : Who} {c : Cond} {s : State} (h : Issues who c 0x17 .all s) (hNone : pendingWork who s = []) :
    Answers (.fence who c) who (advance who) s :=
  answers h rfl (by simp only [noPending_opened, noPending_iff, hNone, if_true])

theorem fence_waits {who : Who} {c : Cond} {s : State} (h : Issues who c 0x17 .all s) (hSome : pendingWork who s ≠ []) :
    Answers (.fence who c) who (block who .fence) s :=
  answers h rfl (by simp only [noPending_opened, noPending_iff, hSome, if_false])

/-! ## Schedule words -/

@[simp] theorem schedRead_opened (who : Who) (a : Nat) (s : State) : schedRead a (opened who s) = schedRead a s := by
  simp [schedRead]

section
variable {who : Who} {c : Cond} {wd ws1 ws2 : Fin 16} {off : BitVec 18} {s : State}

theorem ldw_reads (h : Issues who c 0x18 .all s) (hLow : (getW who ws1 s).toNat + off.toNat < 262144) :
    AnswersThenRecord (.ldw who c wd ws1 off) who (fun u => advance who
      (setW who wd (Tbl.get 0 (s.time.schedOld.getD s.schedMem) ((getW who ws1 s).toNat + off.toNat)) u)) s :=
  answersThenRecord h rfl (by
    simp only [getW_opened, schedRead_opened, hLow, if_true]
    rfl)

theorem ldw_halts (h : Issues who c 0x18 .all s) (hHigh : 262144 ≤ (getW who ws1 s).toNat + off.toNat) :
    AnswersThenRecord (.ldw who c wd ws1 off) who (fun u => haltWho who 6 0x02 0 (curWord who u) u) s :=
  answersThenRecord h rfl (by
    simp only [getW_opened, Nat.not_lt.mpr hHigh, if_false]
    rfl)

theorem stw_writes (h : Issues who c 0x19 .all s) (hLow : (getW who ws2 s).toNat + off.toNat < 262144) :
    AnswersThenRecord (.stw who c ws1 ws2 off) who
      (fun u => advance who (setSchedWord ((getW who ws2 s).toNat + off.toNat) (getW who ws1 s) u)) s :=
  answersThenRecord h rfl (by simp only [getW_opened, hLow, if_true])

theorem stw_stores (h : Issues who c 0x19 .all s) (hLow : (getW who ws2 s).toNat + off.toNat < 262144)
    (hWord : isStateWord ((getW who ws2 s).toNat + off.toNat) = false) :
    AnswersThenRecord (.stw who c ws1 ws2 off) who (fun u => advance who
      { u with schedMem := Tbl.set 0 s.schedMem ((getW who ws2 s).toNat + off.toNat) (getW who ws1 s) }) s :=
  answersThenRecord h rfl (by simp [hLow, setSchedWord, hWord])

theorem stw_leaves_state (h : Issues who c 0x19 .all s) (hLow : (getW who ws2 s).toNat + off.toNat < 262144)
    (hState : isStateWord ((getW who ws2 s).toNat + off.toNat) = true) :
    AnswersThenRecord (.stw who c ws1 ws2 off) who (advance who) s :=
  answersThenRecord h rfl (by simp [hLow, setSchedWord, hState])

theorem stw_halts (h : Issues who c 0x19 .all s) (hHigh : 262144 ≤ (getW who ws2 s).toNat + off.toNat) :
    AnswersThenRecord (.stw who c ws1 ws2 off) who (fun u => haltWho who 6 0x02 0 (curWord who u) u) s :=
  answersThenRecord h rfl (by
    simp only [getW_opened, Nat.not_lt.mpr hHigh, if_false]
    rfl)

end

/-- A STW of a slice sequencer, with nothing to follow it. -/
theorem stw_slice_writes {n : Fin 12} {c : Cond} {ws1 ws2 : Fin 16} {off : BitVec 18} {s : State} (h : Issues (.slice n) c 0x19 .all s)
    (hRecord : s.cond.record = none) (hDue : s.boot.restartDue = false)
    (hLow : (getW (.slice n) ws2 s).toNat + off.toNat < 262144) :
    exec (.stw (.slice n) c ws1 ws2 off) s = .next (settle (advance (.slice n)
      (setSchedWord ((getW (.slice n) ws2 s).toNat + off.toNat) (getW (.slice n) ws1 s) s))) := by
  have hExec : AnswersThenRecord .. := stw_writes (ws1 := ws1) h hLow
  have hRecord' : (setSchedWord ((getW (.slice n) ws2 s).toNat + off.toNat) (getW (.slice n) ws1 s) s).cond.record = none := by
    unfold setSchedWord
    split <;> exact hRecord
  have hDue' : (setSchedWord ((getW (.slice n) ws2 s).toNat + off.toNat) (getW (.slice n) ws1 s) s).boot.restartDue = false := by
    unfold setSchedWord
    split <;> exact hDue
  rw [← resume_of_idle (s := advance (.slice n) _) hRecord' hDue']
  exact hExec

/-- Going on leaves what a slice sequencer's memories and registers read. -/
theorem ctx_advance_slice (n : Fin 12) (s : State) : ctx (.slice n) (advance (.slice n) s) = ctx (.slice n) s := by
  simp [advance, setPc, ctx, modSeq, upd]

theorem ctx_setSchedWord (who : Who) (a : Nat) (v : Word) (s : State) : ctx who (setSchedWord a v s) = ctx who s := by
  unfold setSchedWord
  split <;> rfl

/-- Settles O5: the instructions' bodies, with the memory's own law for the word stored. -/
theorem fenceAndScheduleWords : Obligations.FenceAndScheduleWords := by
  constructor
  · intro who c wd ws1 ws2 off s a b pend
    have hPend : pendingWork who s = pend := by cases who <;> rfl
    exact ⟨fun h hNone => fence_goes_on h (hPend.trans hNone), fun h hSome => fence_waits h (hPend ▸ hSome), ldw_reads, ldw_halts,
      stw_stores, stw_leaves_state, stw_halts⟩
  · intro n c ws1 ws2 off s hCanonical h hRecord hDue b hLow
    obtain ⟨-, hSched, -⟩ := (Memory.wf_iff s).mp hCanonical.now
    refine ⟨_, stw_slice_writes h hRecord hDue hLow, fun a => ?_, fun a => ?_, ?_⟩
    · simp [progWord, progMem_setSchedWord]
    · rw [← schedWord_setSchedWord hSched]
      simp [schedWord, b]
    · rw [ctx_settle, ctx_advance_slice, ctx_setSchedWord]

end Sys2Proof.Machine
end

section
/-! PROOF. The instructions of the time group (02 R56, R68; 03 R84-R93; 05 R158-R162). -/

namespace Sys2Proof.Machine

/-! ## Instructions that complete or wait -/

section
variable {who : Who} {c : Cond} {op : Nat} {p : Perm} {body e : State → State} {i : Instr} {s : State}

/-- An instruction that completes at once, by its effect where it runs. -/
theorem answersI (h : Issues who c op p s) (hExec : exec i s = ok (issue who c op p body s))
    (hBody : body (opened who s) = e (opened who s)) : Answers i who (fun u => advance who (e u)) s :=
  answers h hExec (congrArg (advance who) hBody)

/-- An instruction that may wait, where it does. -/
theorem answersB_waits {a : Await} (h : Issues who c op p s) (hExec : exec i s = ok (issueB who c op p body s))
    (hBody : body (opened who s) = block who a (opened who s)) : Answers i who (block who a) s :=
  answers h hExec (by simp [hBody])

/-- An instruction that may wait, where it does not. -/
theorem answersB_done (h : Issues who c op p s) (hExec : exec i s = ok (issueB who c op p body s))
    (hBody : body (opened who s) = e (opened who s)) (hGoes : waits who (e (opened who s)) = false) :
    Answers i who (fun u => advance who (e u)) s :=
  answers h hExec (by simp [hBody, hGoes])

end

/-! ## Time values -/

theorem TVal.valid_of_le {v : TVal} (h : v.ns.toNat ≤ 999999999) : v.valid = true := by simpa [TVal.valid] using h

theorem TVal.not_valid {v : TVal} (h : 1000000000 ≤ v.ns.toNat) : v.valid = false := by
  have hOver : 999999999 < v.ns.toNat := by omega
  simpa [TVal.valid] using hOver

theorem withTime_valid {who : Who} {t : Fin 4} {pos : Nat} {body : TVal → State → State} {s : State}
    (h : (getT who t s).ns.toNat ≤ 999999999) : withTime who t pos body (opened who s) = body (getT who t s) (opened who s) := by
  simp [withTime, TVal.valid_of_le h]

theorem w32_toNat (v : Word) : w32 v.toNat = v := BitVec.eq_of_toNat_eq (by simp [w32])

theorem withTime_invalid {who : Who} {t : Fin 4} {pos : Nat} {body : TVal → State → State} {s : State}
    (h : 1000000000 ≤ (getT who t s).ns.toNat) :
    withTime who t pos body (opened who s) = ret who stRANGE (w32 pos) (getT who t s).ns (opened who s) := by
  simp [withTime, TVal.not_valid h, retRange, w32_toNat]

theorem regOrNone_eq (who : Who) (r : Fin 16) (s : State) : (regOrNone who r s).toNat = if r = 0 then 0 else (getW who r s).toNat := by
  unfold regOrNone
  split <;> rfl

theorem regOrNone_toInt (who : Who) (r : Fin 16) (s : State) :
    (regOrNone who r s).toInt = if r = 0 then 0 else (getW who r s).toInt := by
  unfold regOrNone
  split <;> rfl

/-! ## Reads of times -/

theorem tnowFlags_eq (s : State) : tnowFlags s = (if s.time.qual then 0 else 1) + (if s.time.holdover then 2 else 0) +
    (if s.time.sealed_ then 4 else 0) + (if s.time.stepUsed then 8 else 0) := by
  unfold tnowFlags bitAt
  cases s.time.qual <;> rfl

theorem tnow_gives {who : Who} {c : Cond} {td : Fin 4} {s : State} (h : Issues who c 0x22 .all s) :
    GivesRegs (.tnow who c td) who ((withT who td (TVal.ofNs (tbNs s)) s).status 0x00 (w32 (tnowFlags s)) 0) s :=
  regsOf h rfl (by simp only [tnowFlags_opened, nowT_opened]; rfl) (((rs0 who s).setT td _).ret ..)

section
variable {who : Who} {c : Cond} {td ts : Fin 4} {delta : BitVec 40} {ws : Fin 16} {s : State}

/-- The sum of a TADD (03 R87). -/
def taddSum (who : Who) (ts : Fin 4) (delta : BitVec 40) (ws : Fin 16) (s : State) : Int :=
  ((getT who ts s).toNs : Int) + delta.toInt + (regOrNone who ws s).toInt

theorem tadd_gives (h : Issues who c 0x23 .all s) (hValid : (getT who ts s).ns.toNat ≤ 999999999) (hLow : 0 ≤ taddSum who ts delta ws s)
    (hHigh : taddSum who ts delta ws s ≤ tbMaxNs) :
    GivesRegs (.tadd who c td ts delta ws) who ((withT who td (TVal.ofNs (taddSum who ts delta ws s).toNat) s).status 0x00 0 0) s := by
  unfold taddSum at hLow hHigh
  refine regsOf h rfl ((withTime_valid hValid).trans ?_) (((rs0 who s).setT td _).ret ..)
  simp only [regOrNone_opened]
  rw [if_neg (by simp only [Bool.or_eq_true, decide_eq_true_eq]; omega)]
  rfl

theorem tadd_range (h : Issues who c 0x23 .all s) (hValid : (getT who ts s).ns.toNat ≤ 999999999)
    (hOut : taddSum who ts delta ws s < 0 ∨ tbMaxNs < taddSum who ts delta ws s) :
    GivesRegs (.tadd who c td ts delta ws) who (withStatus who 0x02 3 (w32 delta.toNat) s) s := by
  unfold taddSum at hOut
  refine regsOf h rfl ((withTime_valid hValid).trans ?_) ((rs0 who s).ret ..)
  simp only [regOrNone_opened]
  rw [if_pos (by simpa using hOut)]
  rfl

theorem tadd_invalid (h : Issues who c 0x23 .all s) (hInvalid : 1000000000 ≤ (getT who ts s).ns.toNat) :
    GivesRegs (.tadd who c td ts delta ws) who (withStatus who 0x02 2 (getT who ts s).ns s) s :=
  regsOf h rfl (withTime_invalid hInvalid) ((rs0 who s).ret ..)

end

theorem withPair_odd {who : Who} {r : Fin 16} (h : r.val % 2 = 1) (pos : Nat) (body : Fin 16 → State → State) (s : State) :
    withPair who r pos body s = ret who stRANGE (w32 pos) (w32 r.val) s := by
  have hOdd : ¬ r.val % 2 = 0 := by omega
  simp [withPair, hOdd, retRange]

section
variable {who : Who} {c : Cond} {td : Fin 4} {lo hi : Fin 16} {s : State}

theorem asnCur_gives (h : Issues who c 0x25 .all s) (hEven : lo.val % 2 = 0) (hNext : hi.val = lo.val + 1) :
    GivesRegs (.asnCur who c lo) who ({ withW who lo (w32 s.grid.asn) s with
      w := ((withW who lo (w32 s.grid.asn) s).w).set hi (w32 (s.grid.asn / 4294967296)) }.status 0x00 0 0) s :=
  regsOf h rfl ((withPair_even who lo hi 1 _ _ hEven hNext).trans (by simp only [opened_keeps]; rfl))
    ((((rs0 who s).setW lo _).setW hi _).ret ..)

/-- The ASN held in a pair of registers. -/
theorem pairVal_toNat (who : Who) (lo hi : Fin 16) (s : State) :
    (pairVal who lo hi s).toNat = (getW who hi s).toNat * 4294967296 + (getW who lo s).toNat := by
  have hHi := (getW who hi s).isLt
  have hLo := (getW who lo s).isLt
  simp only [pairVal, BitVec.toNat_ofNat]
  omega

theorem asnTime_gives (h : Issues who c 0x25 .all s) (hEven : lo.val % 2 = 0) (hNext : hi.val = lo.val + 1)
    (hAsn : (pairVal who lo hi s).toNat < 1099511627776) (hLow : 0 ≤ asnTimeNs (pairVal who lo hi s).toNat s)
    (hHigh : asnTimeNs (pairVal who lo hi s).toNat s ≤ tbMaxNs) :
    GivesRegs (.asnTime who c td lo) who
      ((withT who td (TVal.ofNs (asnTimeNs (pairVal who lo hi s).toNat s).toNat) s).status 0x00 0 0) s := by
  refine regsOf h rfl ((withPair_even who lo hi 2 _ _ hEven hNext).trans ?_) (((rs0 who s).setT td _).ret ..)
  simp only [pairVal_opened, asnTimeNs_opened]
  rw [if_neg (by simp only [Bool.or_eq_true, decide_eq_true_eq]; omega)]
  rfl

theorem asn_odd (h : Issues who c 0x25 .all s) (hOdd : lo.val % 2 = 1) :
    GivesRegs (.asnCur who c lo) who (withStatus who 0x02 1 (w32 lo.val) s) s ∧
    GivesRegs (.asnTime who c td lo) who (withStatus who 0x02 2 (w32 lo.val) s) s :=
  ⟨regsOf h rfl (withPair_odd hOdd ..) ((rs0 who s).ret ..), regsOf h rfl (withPair_odd hOdd ..) ((rs0 who s).ret ..)⟩

end

/-! ## TCAP -/

section
variable {who : Who} {c : Cond} {td : Fin 4} {src sl : Fin 16} {k : Capture} {s : State}

theorem tcap_chip (h : Issues who c 0x29 .all s) (hSrc : src.val ≠ 1 ∧ src.val ≠ 2) (hCap : chipCapture src.val (opened who s) = some k) :
    GivesRegs (.tcap who c td src 15) who ((withT who td k.at_ s).status 0x00 (w32 k.count) 0) s :=
  regsOf h rfl (by simp [hSrc.1, hSrc.2, hCap]; rfl) (((rs0 who s).setT td _).ret ..)

/-- The slice that TCAP's slice field names. -/
def NamesCapture (who : Who) (sl : Fin 16) (n : Fin 12) : Prop := sl.val = n.val ∨ (who = .slice n ∧ sl = 15)

theorem tcap_slice {n : Fin 12} (h : Issues who c 0x29 .all s) (hSrc : src.val = 1 ∨ src.val = 2) (hNames : NamesCapture who sl n)
    (hCap : (if src.val = 1 then (slice n s).rxCap else (slice n s).txCap) = k) :
    GivesRegs (.tcap who c td src sl) who ((withT who td k.at_ s).status 0x00 (w32 k.count) 0) s := by
  subst hCap
  refine regsOf h rfl ?_ (((rs0 who s).setT td _).ret ..)
  rcases hNames with hVal | ⟨rfl, rfl⟩
  · have hSlice : sl.val < 12 := by omega
    have hOther : sl ≠ 15 := fun e => by simp [e] at hSlice
    have hEq : (⟨sl.val, hSlice⟩ : Fin 12) = n := Fin.ext hVal
    cases who <;> simp [hSrc, hSlice, hOther, hEq] <;> rfl
  · simp [hSrc]
    rfl

end

/-- Settles O6: each read is a write of its issuer's registers and a status. -/
theorem timeReads : Obligations.TimeReads := by
  constructor
  · intro who c td ts delta ws lo hi s v sum a bnd
    have hSum : taddSum who ts delta ws s = sum := by
      simp only [taddSum, regOrNone_toInt, TVal.toNs, sum, v]
    have hAsn : (pairVal who lo hi s).toNat = a := pairVal_toNat ..
    refine ⟨fun h => tnowFlags_eq s ▸ tnow_gives h, fun h hValid hLow hHigh => ?_, fun h hValid hOut => ?_, tadd_invalid, asnCur_gives,
      fun h hEven hNext hSmall hLow hHigh => ?_, asn_odd⟩
    · rw [← hSum] at hLow hHigh ⊢
      exact tadd_gives h hValid hLow hHigh
    · rw [← hSum] at hOut
      exact tadd_range h hValid hOut
    · have hBnd : asnTimeNs (pairVal who lo hi s).toNat s = bnd := by rw [hAsn]; rfl
      rw [← hAsn] at hSmall
      rw [← hBnd] at hLow hHigh ⊢
      exact asnTime_gives h hEven hNext hSmall hLow hHigh
  · intro who n c td sl s h
    have hChip : ∀ (src : Fin 16) (k : Capture), src.val ≠ 1 ∧ src.val ≠ 2 → chipCapture src.val (opened who s) = some k →
        GivesRegs (.tcap who c td src 15) who ((withT who td k.at_ s).status 0x00 (w32 k.count) 0) s := fun _ _ => tcap_chip h
    refine ⟨hChip 0 _ (by decide) ?_, hChip 3 _ (by decide) ?_, hChip 4 _ (by decide) ?_, hChip 5 _ (by decide) ?_, fun hVal => ?_, fun hOwn => ?_⟩
    · simp [chipCapture]
    · simp [chipCapture, trig]
    · simp [chipCapture, trig]
    · simp [chipCapture]
    · exact ⟨tcap_slice h (.inl rfl) (.inl hVal) rfl, tcap_slice h (.inr rfl) (.inl hVal) rfl⟩
    · exact ⟨tcap_slice h (.inl rfl) (.inr ⟨hOwn, rfl⟩) rfl, tcap_slice h (.inr rfl) (.inr ⟨hOwn, rfl⟩) rfl⟩

/-! ## AT, AFTER and SLOT -/

/-- What AT, AFTER or SLOT leaves where it completes: the status, and a slice sequencer's watchdog begun anew (02 R68). -/
def doneWait (who : Who) (st : Nat) (w1 w2 : Word) (u : State) : State :=
  match who with
  | .slice k => modSeq k (fun q => { q with wdogMark := u.time.elapsed }) (ret who st w1 w2 u)
  | _ => ret who st w1 w2 u

theorem countsForWdog_waits {who : Who} {a : Await} {body : State → State} {u : State} (hBody : body u = block who a u) :
    countsForWdog who body u = block who a u := by
  unfold countsForWdog
  rw [hBody]
  cases who <;> simp

theorem countsForWdog_done {who : Who} {st : Nat} {w1 w2 : Word} {body : State → State} {u : State} (hRuns : waits who u = false)
    (hBody : body u = ret who st w1 w2 u) : countsForWdog who body u = doneWait who st w1 w2 u := by
  unfold countsForWdog
  rw [hBody]
  cases who with
  | slice n => simp [hRuns, kickWdog, doneWait]
  | ring w => rfl
  | routine => rfl

theorem waits_doneWait {who : Who} {st : Nat} {w1 w2 : Word} {u : State} (hRuns : waits who u = false) :
    waits who (doneWait who st w1 w2 u) = false := by
  have hRet : waits who (ret who st w1 w2 u) = false := (waits_ret ..).trans hRuns
  cases who with
  | slice n =>
    have hRunning : (ret (.slice n) st w1 w2 u).seqs[n.val].state = .running :=
      of_not_not (decide_eq_false_iff_not.mp hRet)
    simpa [doneWait, waits, seq, modSeq, upd] using hRunning
  | ring w => exact hRet
  | routine => exact hRet

section
variable {who : Who} {c : Cond} {op : Nat} {i : Instr} {body : State → State} {s : State}

theorem wait_waits {a : Await} (h : Issues who c op .all s) (hExec : exec i s = ok (issueB who c op .all (countsForWdog who body) s))
    (hBody : body (opened who s) = block who a (opened who s)) : Answers i who (block who a) s :=
  answersB_waits h hExec (countsForWdog_waits hBody)

theorem wait_done {st : Nat} {w1 w2 : Word} (h : Issues who c op .all s)
    (hExec : exec i s = ok (issueB who c op .all (countsForWdog who body) s))
    (hBody : body (opened who s) = ret who st w1 w2 (opened who s)) :
    Answers i who (fun u => advance who (doneWait who st w1 w2 u)) s :=
  answersB_done h hExec (countsForWdog_done (waits_opened h) hBody) (waits_doneWait (waits_opened h))

end

/-- Settles O7: an instruction of the group waits or reports a status, and a status restarts the watchdog. -/
theorem waitsUntilATime : Obligations.WaitsUntilATime := by
  intro who c ts td wd ws off interval sf s target len ends
  have hLen : interval.toNat + (regOrNone who ws s).toNat = len := by rw [regOrNone_eq]
  refine ⟨fun h hValid hRange hAhead => wait_waits h rfl ((withTime_valid hValid).trans ?_),
    fun h hValid hRange hPast => wait_done h rfl ((withTime_valid hValid).trans ?_),
    fun h hValid hOver => wait_done h rfl ((withTime_valid hValid).trans ?_),
    fun h hInvalid => wait_done h rfl (withTime_invalid hInvalid), fun h hSome hRange => wait_waits h rfl ?_,
    fun h hNone => wait_done h rfl ?_, fun h hOver => wait_done h rfl ?_, fun h hDefined => wait_waits h rfl ?_,
    fun h hUndefined => wait_done h rfl ?_⟩
  · have hIn : ¬ tbMaxNs < target := Nat.not_lt.mpr hRange
    have hLater : ¬ target ≤ tbNs s := Nat.not_le.mpr hAhead
    simp only [tbNs_opened]
    rw [if_neg hIn, if_neg hLater]
  · have hIn : ¬ tbMaxNs < target := Nat.not_lt.mpr hRange
    simp only [tbNs_opened]
    rw [if_neg hIn, if_pos hPast]
    rfl
  · exact if_pos hOver
  · simp only [regOrNone_opened, hLen, opened_keeps]
    rw [if_neg (by unfold max40; omega), if_neg (by omega)]
    rfl
  · simp only [regOrNone_opened, hLen, opened_keeps]
    rw [if_neg (by unfold max40; omega), if_pos hNone]
    rfl
  · simp only [regOrNone_opened, hLen, opened_keeps]
    rw [if_pos (by unfold max40; omega)]
    rfl
  · simp [hDefined]
  · simp [hUndefined]
    rfl

/-! ## TRATE, TSEAL and TSTEP -/

@[simp] theorem airArmed_opened (who : Who) (s : State) : airArmed (opened who s) = airArmed s := by
  obtain ⟨c, t, e⟩ := opened_eq who s
  rw [e]
  rfl

@[simp] theorem anyRunning_opened (who : Who) (s : State) : anyRunning (opened who s) = anyRunning s := by
  obtain ⟨c, t, e⟩ := opened_eq who s
  rw [e]
  rfl

/-- A rate offset in range is not clamped (05 R159). -/
theorem setRate_in_range {r : Int} (hLow : -500000 ≤ r) (hHigh : r ≤ 500000) (s : State) :
    setRate r s = { s with time := { s.time with rate := r, incr := incrOf r } } := by
  have hClamp : clampI (-500000) 500000 r = r := by unfold clampI; omega
  rw [setRate, hClamp]

theorem trateOp_sets {who : Who} {r : Int} {operand : Word} {u : State} (hLow : -500000 ≤ r) (hHigh : r ≤ 500000) (hHost : u.time.disc = 0) :
    trateOp who r operand u = ret who 0x00 (i32 r) ((incrOf r).setWidth 32) { u with time := { u.time with rate := r, incr := incrOf r } } := by
  have hIn : ¬ (r < -500000 ∨ 500000 < r) := by omega
  simp only [trateOp, setRate_in_range hLow hHigh, hHost, Bool.or_eq_true, decide_eq_true_eq, hIn, if_false, ne_eq, not_true]
  rfl

theorem trateOp_refused {who : Who} {r : Int} {operand : Word} {u : State} (hLow : -500000 ≤ r) (hHigh : r ≤ 500000) (hOther : u.time.disc ≠ 0) :
    trateOp who r operand u = ret who 0x04 0x11 0 u := by
  have hIn : ¬ (r < -500000 ∨ 500000 < r) := by omega
  simp only [trateOp, hOther, Bool.or_eq_true, decide_eq_true_eq, hIn, if_false, ne_eq, not_false_eq_true, if_true]
  rfl

theorem stepAllowed_free {who : Who} {body : State → State} {u : State} (hSeal : u.time.sealed_ = false) (hUsed : u.time.stepUsed = false) :
    stepAllowed who body u = body u := by simp [stepAllowed, hSeal, hUsed]

/-- Settles O8: the checks of each instruction, passed or failed in their order. -/
theorem timebaseControl : Obligations.TimebaseControl := by
  intro who c ts ws delta s r v t
  refine ⟨fun h hLow hHigh hHost => answersI h rfl ?_, fun h hLow hHigh hHost => answersI h rfl ?_,
    fun h hLow hHigh hOther => regsOf h rfl ?_ ((rs0 who s).ret ..), fun h => answersI h rfl ?_,
    fun h hValid hSeal hUsed => answersI h rfl ((withTime_valid hValid).trans ?_),
    fun h hSome hLow hHigh hSeal hUsed => answersI h rfl ?_,
    fun h hValid hStopped hIdle => answersI h rfl ((withTime_valid hValid).trans ?_),
    fun h hValid hSeal => regsOf h rfl ((withTime_valid hValid).trans ?_) ((rs0 who s).ret ..),
    fun h hValid hSeal hUsed => regsOf h rfl ((withTime_valid hValid).trans ?_) ((rs0 who s).ret ..)⟩
  · simp only [getW_opened]
    exact trateOp_sets hLow hHigh (by simpa using hHost)
  · simp only [getW_opened, opened_keeps]
    exact (trateOp_sets hLow hHigh (by simpa using hHost)).trans (by simp only [opened_keeps])
  · simp only [getW_opened]
    exact trateOp_refused hLow hHigh (by simpa using hOther)
  · simp only [opened_keeps]
    cases s.time.sealed_ <;> rfl
  · exact stepAllowed_free (by simpa using hSeal) (by simpa using hUsed)
  · simp only [tbNs_opened]
    rw [if_neg (by simp only [Bool.or_eq_true, decide_eq_true_eq, hSome, false_or]; omega)]
    exact stepAllowed_free (by simpa using hSeal) (by simpa using hUsed)
  · simp only [anyRunning_opened, airArmed_opened, hStopped, hIdle]
    rfl
  · simp [stepAllowed, hSeal]
    rfl
  · simp [stepAllowed, hSeal, hUsed]
    rfl

end Sys2Proof.Machine
end

section
/-! PROOF. The events of the timebase and of the slot grid, and the parameters that control them (05 R153-R175; 06 R195-R231). -/

namespace Sys2Proof.Machine

/-! ## Events -/

section
variable {i : Instr} {s u x : State}

/-- An event, by the state that its arm computes. -/
theorem becomes (hExec : exec i s = ok x) (h : x = u) : Becomes i s u := by
  subst h
  exact hExec

theorem becomesThenRecord (hExec : exec i s = ok x) (h : x = resume u) : BecomesThenRecord i s u := by
  subst h
  exact hExec

end

/-! ## The timebase -/

section
variable {q : Seqr} {n : Fin 2} {target done cap width l : Nat} {rising : Bool} {s : State}

theorem atTargetReached_ends (hAlive : alive s = true) (hAwait : awaitOf q s = some (.at_ target)) (hReach : tbCanReach target s = true) :
    BecomesThenRecord (.atTargetReached q) s (unblock q 0x00 0 0 (kickWdog q (reachTb target s))) :=
  becomesThenRecord rfl (by simp only [hAlive, if_true, atReached, hAwait, hReach]; rfl)

theorem afterIntervalEnd_ends (hAlive : alive s = true) (hAwait : awaitOf q s = some (.after done)) (hCounts : s.time.counting = true)
    (hDone : done ≤ (passTicks ((done - s.time.incSum + tbIncr s - 1) / max 1 (tbIncr s)) s).time.incSum) :
    BecomesThenRecord (.afterIntervalEnd q) s
      (unblock q 0x00 0 0 (kickWdog q (passTicks ((done - s.time.incSum + tbIncr s - 1) / max 1 (tbIncr s)) s))) :=
  becomesThenRecord rfl (by simp only [hAlive, if_true, afterEnds, hAwait, hCounts, hDone]; rfl)

theorem timebaseEnd_holds (hCounts : s.time.counting = true) : Becomes .timebaseEnd s (reachTb tbMaxNs s) :=
  becomes rfl (by simp only [hCounts, if_true])

theorem ppsInEdge_other (hOther : rising = (cpar 0x0804 s).testBit 0) : Becomes (.ppsInEdge cap { width := width, rising := rising }) s s :=
  becomes rfl (by simp [hOther, -Nat.testBit_zero])

/-- What an edge of the active direction does at its instant. -/
def edgeAt (cap width : Nat) (t : State) : State :=
  let c := ((cap : Int) - (par 0x0805 chip t).toInt).toNat
  if width < 100 then { t with time := { t.time with ppsShort := t.time.ppsShort + 1 } }
  else if ppsAccepts c t then ppsAccept c t
  else { t with time := { t.time with ppsRejected := t.time.ppsRejected + 1 } }

theorem edgeAt_short {t : State} (h : width < 100) : edgeAt cap width t = { t with time := { t.time with ppsShort := t.time.ppsShort + 1 } } :=
  if_pos h

theorem edgeAt_accepted {t : State} (h : 100 ≤ width) (hAccepts : ppsAccepts ((cap : Int) - (par 0x0805 chip t).toInt).toNat t = true) :
    edgeAt cap width t = ppsAccept ((cap : Int) - (par 0x0805 chip t).toInt).toNat t :=
  (if_neg (Nat.not_lt.mpr h)).trans (if_pos hAccepts)

theorem edgeAt_rejected {t : State} (h : 100 ≤ width) (hRejects : ppsAccepts ((cap : Int) - (par 0x0805 chip t).toInt).toNat t = false) :
    edgeAt cap width t = { t with time := { t.time with ppsRejected := t.time.ppsRejected + 1 } } :=
  (if_neg (Nat.not_lt.mpr h)).trans (if_neg (by simp [hRejects]))

theorem ppsInEdge_active (hOn : ppsEnabled s = true) (hActive : rising ≠ (cpar 0x0804 s).testBit 0) (hAwake : s.pw.asleep = false)
    (hBank : bankOn 3 s = true) (hReach : tbCanReach cap s = true) :
    Becomes (.ppsInEdge cap { width := width, rising := rising }) s (edgeAt cap width (reachTb cap s)) :=
  becomes rfl (by
    rw [if_neg (by simp [hOn, hActive, hAwake, hBank, hReach, -Nat.testBit_zero])]
    rfl)

theorem ppsMissed_counts (hLast : s.time.ppsL = some l) (hOn : ppsEnabled s = true) (hAwake : s.pw.asleep = false)
    (hLater : s.time.ppsFirst = false)
    (hReach : tbCanReach (l + (s.time.ppsMissed + 1) * 1000000000 + (s.time.ppsMissed + 1) * (cpar 0x0802 s * 1000)) s = true) :
    Becomes .ppsMissed s
      (ppsMiss (reachTb (l + (s.time.ppsMissed + 1) * 1000000000 + (s.time.ppsMissed + 1) * (cpar 0x0802 s * 1000)) s)) :=
  becomes rfl (by simp [hLast, hOn, hAwake, hLater, hReach])

theorem setPpsOut_par (v : Bool) (t : State) : (setPpsOut v t).par = t.par := by
  unfold setPpsOut
  dsimp only
  split
  · rfl
  · exact (emitPin_keeps _ _ _).2.2.1

theorem cpar_of_par {t : State} (id : Nat) (h : t.par = s.par) : cpar id t = cpar id s := by
  rw [cpar, cpar, par, par, h]

/-- What PPS_OUT does at a whole second: its pulse ends after the width in effect. -/
def pulseAt (whole : Nat) (t : State) : State :=
  { setPpsOut true t with
    time := { (setPpsOut true t).time with ppsOutEnd := whole + cpar 0x0809 t * 1000 } }

theorem execPpsOutEdge_rises (hCounts : s.time.counting = true) (hAwake : s.pw.asleep = false)
    (hReach : tbCanReach ((tbNs s / 1000000000 + 1) * 1000000000) s = true) (hOn : (cpar 0x0808 s).testBit 0 = true)
    (hQual : s.time.qual = true) :
    execPpsOutEdge s =
      ok (pulseAt ((tbNs s / 1000000000 + 1) * 1000000000) (reachTb ((tbNs s / 1000000000 + 1) * 1000000000) s)) := by
  have hQualThen : (reachTb ((tbNs s / 1000000000 + 1) * 1000000000) s).time.qual = s.time.qual := rfl
  have hWidth := cpar_of_par 0x0809 (setPpsOut_par true (reachTb ((tbNs s / 1000000000 + 1) * 1000000000) s))
  unfold execPpsOutEdge pulseAt
  simp only [hCounts, hAwake, hReach, hOn, hQualThen, hQual, hWidth, Bool.not_true, Bool.or_false, Bool.false_eq_true, if_false,
    Bool.true_or, Bool.and_self, if_true]

theorem triggerEdge_fires (hArmed : (trig n s).armed = true) (hAwake : s.pw.asleep = false)
    (hReach : tbCanReach (trig n s).target s = true) :
    Becomes (.triggerEdge n) s (fireTrig n 1 false (reachTb (trig n s).target s)) :=
  becomes rfl (by simp [hArmed, hAwake, hReach])

end

/-- Settles O9. -/
theorem timebaseEvents : Obligations.TimebaseEvents := by
  intro q n target done cap width l rising s t c whole
  refine ⟨atTargetReached_ends, afterIntervalEnd_ends, timebaseEnd_holds, ppsInEdge_other, fun hOn hActive hAwake hBank hReach => ?_,
    ppsMissed_counts, fun hCounts hAwake hReach hOn hQual => execPpsOutEdge_rises hCounts hAwake hReach hOn hQual, triggerEdge_fires, fun hOut hReach => becomes rfl ?_,
    fun hActive hReach => becomes rfl ?_, fun hActive hReach => becomes rfl ?_⟩
  · have hEdge := ppsInEdge_active (width := width) hOn hActive hAwake hBank hReach
    refine ⟨fun hShort => ?_, fun hLong hAccepts => ?_, fun hLong hRejects => ?_⟩
    · rwa [edgeAt_short hShort] at hEdge
    · rwa [edgeAt_accepted hLong hAccepts] at hEdge
    · rwa [edgeAt_rejected hLong hRejects] at hEdge
  · simp [hOut, hReach]
  · simp [hActive, hReach]
  · simp [hActive, hReach]

end Sys2Proof.Machine
end

section
/-! PROOF. The events of the slot grid and the parameters of the grid, the discipline and the triggers (05 R162-R175; 06 R195-R231). -/

namespace Sys2Proof.Machine

/-! ## A SETP answers its parameter's rule -/

section
variable {who : Who} {c : Cond} {id scope : Nat} {v : Word} {i : Instr} {s : State}

/-- A SETP whose parameter's rule does not depend on the parameter's class. -/
theorem setsAs_rule {rule : State → PRes} (h : Writes who c id scope v s) (hExec : exec i s = ok (setpOp who c id scope (fun _ => v) s))
    (hRule : ∀ d, setpEffect who d id scope v (opened who s) = rule (opened who s)) : SetsAs i who rule s := by
  obtain ⟨d, hDef, _⟩ := h.accepted
  exact sets_as h hDef _ rfl hExec (hRule d)

/-- The same for a rule that only takes effect. -/
theorem sets_rule {f : State → State} (h : Writes who c id scope v s) (hExec : exec i s = ok (setpOp who c id scope (fun _ => v) s))
    (hRule : ∀ d, setpEffect who d id scope v (opened who s) = pOk (f (opened who s))) : Sets i who f s := by
  obtain ⟨d, hDef, _⟩ := h.accepted
  exact sets_of h hDef hExec (hRule d)

end

/-! ## Events of the grid -/

section
variable {s : State}

theorem slotBoundary_falls (hRun : s.grid.mode = 1) (hCore : s.time.coreOn = true) (hReach : tbCanReach s.grid.nextAt s = true)
    (hAsn : s.grid.nextAsn ≤ 1099511627775) (hSound : s.health.chipFault = 0) :
    BecomesThenRecord .slotBoundary s
      (boundaryWork s.grid.nextAsn s.grid.nextAt 0x00 (s.grid.nextAsn, s.grid.nextAt) (reachTb s.grid.nextAt s)) :=
  becomesThenRecord rfl (by simp [slotBoundary, hRun, hCore, hReach, hAsn, hSound]; rfl)

theorem slotBoundary_faulted (hRun : s.grid.mode = 1) (hCore : s.time.coreOn = true) (hReach : tbCanReach s.grid.nextAt s = true)
    (hAsn : s.grid.nextAsn ≤ 1099511627775) (hFault : s.health.chipFault ≠ 0) :
    BecomesThenRecord .slotBoundary s (boundaryUnderFault (reachTb s.grid.nextAt s)) :=
  becomesThenRecord rfl (by simp [slotBoundary, hRun, hCore, hReach, hAsn, hFault])

/-- The shared work of a stopped grid, from the state in which the core's time has come (11 R369). -/
def stoppedTick (t : State) : State := sharedWork { t with grid := { t.grid with lastTick := t.time.coreNs, tickInc := t.time.incSum } }

theorem execStoppedGridTick_ticks (hStop : s.grid.mode = 0) (hCore : s.time.coreOn = true) (hSound : s.health.chipFault = 0)
    (hHeld : s.time.counting = false) : execStoppedGridTick s = ok (stoppedTick (reachCore (s.grid.lastTick + 10000000) s)) := by
  unfold execStoppedGridTick stoppedTick
  simp only [hStop, hCore, hSound, hHeld, Bool.false_and, Bool.not_true, Bool.or_false, ne_eq, not_true_eq_false, decide_false,
    Bool.false_eq_true, if_false, zero_ne_one]

theorem parentBeaconMiss_counts (hDisc : s.time.disc = 3) (hRun : s.grid.mode = 1) (hFallen : s.grid.fallen = true)
    (hPeriod : 0 < cpar 0x0242 s) (hSlot : s.grid.asn % cpar 0x0242 s = cpar 0x0243 s % cpar 0x0242 s)
    (hUnseen : s.grid.parSeen ≠ some s.grid.asn) (hReach : tbCanReach s.grid.nextAt s = true) :
    Becomes .parentBeaconMiss s (parentMiss (reachTb s.grid.nextAt s)) := by
  have hMax : max 1 (cpar 0x0242 s) = cpar 0x0242 s := by omega
  exact becomes rfl (by simp [hMax, hDisc, hRun, hFallen, hSlot, hUnseen, hReach])

end

/-! ## Grid parameters -/

section
variable {who : Who} {c : Cond} {s : State}

/-- Whether a slice sequencer runs or waits, by its sequencers. -/
theorem anyRunning_iff : anyRunning s = true ↔ ∃ k : Fin 12, (seq k s).state = .running ∨ (seq k s).state = .blocked := by
  simp [anyRunning, sliceIdx]

theorem gridStop_stops (h : Writes who c 0x0200 15 0 s)
    (hIdle : ∀ k : Fin 12, (seq k s).state ≠ .running ∧ (seq k s).state ≠ .blocked) :
    Sets (.gridStop who c) who (fun u => { u with grid := { u.grid with
      mode := 0, fallen := false, lastTick := u.time.coreNs, tickInc := u.time.incSum } }) s := by
  refine sets_rule h rfl fun d => ?_
  show (if anyRunning (opened who s) then _ else _) = _
  rw [anyRunning_opened, if_neg fun hRun => (anyRunning_iff.mp hRun).elim fun k hk => hk.elim (hIdle k).1 (hIdle k).2]
  rfl

theorem gridStop_refused (h : Writes who c 0x0200 15 0 s) (hRun : ∃ k : Fin 12, (seq k s).state = .running ∨ (seq k s).state = .blocked) :
    SetsAs (.gridStop who c) who (fun u => (0x04, 0x21, u)) s := by
  refine setsAs_rule h rfl fun d => ?_
  show (if anyRunning (opened who s) then _ else _) = _
  rw [anyRunning_opened, if_pos (anyRunning_iff.mpr hRun)]
  rfl

@[simp] theorem templateFits_opened (who : Who) (s : State) : templateFits (opened who s) = templateFits s := by
  obtain ⟨c, t, e⟩ := opened_eq who s
  rw [e]
  rfl

@[simp] theorem ownPos_opened (who : Who) (s : State) : ownPos (opened who s) = ownPos s := by
  obtain ⟨c, t, e⟩ := opened_eq who s
  rw [e]
  rfl

@[simp] theorem ppsEnabled_opened (who : Who) (s : State) : ppsEnabled (opened who s) = ppsEnabled s := by
  obtain ⟨c, t, e⟩ := opened_eq who s
  rw [e]
  rfl

@[simp] theorem trigPar_opened (who : Who) (n : Fin 2) (j : Nat) (s : State) : trigPar n j (opened who s) = trigPar n j s :=
  cpar_opened ..

/-- A grid that may start or acquire does (06 R196). -/
theorem gridReady_ready {body : State → State} (hStop : s.grid.mode = 0) (hQual : s.time.qual = true) (hFits : templateFits s = true) :
    gridReady none body s = pOk (body s) := by
  simp [gridReady, hStop, hQual, hFits]

theorem gridStart_anchors (h : Writes who c 0x0200 15 1 s) (hStop : s.grid.mode = 0) (hQual : s.time.qual = true)
    (hFits : templateFits s = true) (hFirst : ownPos s = 0) :
    Sets (.gridStart who c) who (anchorGrid ((cpar 0x0210 s + cpar 0x0211 s * 4294967296) * 1000000000 + cpar 0x0212 s)
      (cpar 0x0213 s + cpar 0x0214 s * 4294967296) (cpar 0x0201 s * 1000)) s := by
  refine sets_rule h rfl fun d => ?_
  show gridCtrl 1 (opened who s) = _
  have hReady := gridReady_ready (s := opened who s) (body := fun u => anchorGrid
    ((cpar 0x0210 u + cpar 0x0211 u * 4294967296) * 1000000000 + cpar 0x0212 u) (cpar 0x0213 u + cpar 0x0214 u * 4294967296)
    (cpar 0x0201 u * 1000) u) (by simpa using hStop) (by simpa using hQual) (by simpa using hFits)
  simpa [gridCtrl, gridStart, hFirst] using hReady

theorem gridAcquire_acquires (h : Writes who c 0x0200 15 2 s) (hStop : s.grid.mode = 0) (hQual : s.time.qual = true)
    (hFits : templateFits s = true) (hFirst : ownPos s = 0) (hPan : cpar 0x0240 s ≠ 0) :
    Sets (.gridAcquire who c) who
      (fun u => { u with grid := { u.grid with mode := 2, fallen := false, len := cpar 0x0201 s * 1000 } }) s := by
  refine sets_rule h rfl fun d => ?_
  show gridCtrl 2 (opened who s) = _
  have hReady := gridReady_ready (s := opened who s) (body := fun u => { u with grid := { u.grid with
    mode := 2, fallen := false, len := cpar 0x0201 u * 1000 } }) (by simpa using hStop) (by simpa using hQual) (by simpa using hFits)
  simpa [gridCtrl, gridAcquire, hFirst, hPan] using hReady

end

/-! ## Discipline and PPS_IN -/

section
variable {who : Who} {c : Cond} {v : Word} {s : State}

/-- PPS_IN that was enabled already does not become enabled (05 R164). -/
theorem ppsEdge_enabled (u : State) : ppsEdge true u = u := by simp [ppsEdge]

theorem discipline_changes (h : Writes who c 0x0800 15 v s) (hMember : v ≠ 2 ∨ ownPos s ≠ 0) (hNew : v ≠ s.time.disc)
    (hPps : ppsEnabled s = true) :
    Sets (.timeDisciplineChange who c v) who (fun u => let u := setPar 0x0800 15 v (clearServo u)
      { u with time := { u.time with disc := v }, cas := { u.cas with aligned := false, tFirst := true, alignTold := false } }) s := by
  refine sets_rule h rfl fun d => ?_
  show discipline v (opened who s) = _
  unfold discipline
  rw [if_neg (by simpa using fun hTwo hZero => hMember.elim (absurd hTwo) (absurd hZero)), if_neg (by simpa using hNew)]
  simp only [ppsEnabled_opened, hPps, ppsEdge_enabled]
  rfl

theorem discipline_same (h : Writes who c 0x0800 15 v s) (hMember : v ≠ 2 ∨ ownPos s ≠ 0) (hSame : v = s.time.disc) :
    Sets (.timeDisciplineChange who c v) who id s := by
  refine sets_rule h rfl fun d => ?_
  show discipline v (opened who s) = _
  unfold discipline
  rw [if_neg (by simpa using fun hTwo hZero => hMember.elim (absurd hTwo) (absurd hZero)), if_pos (by simpa using hSame)]
  rfl

theorem ppsInEnable_writes (h : Writes who c 0x0804 15 v s) (hPps : ppsEnabled s = true) :
    Sets (.ppsInEnable who c v) who (setPar 0x0804 15 v) s := by
  refine sets_rule h rfl fun d => ?_
  show pOk (ppsEdge (ppsEnabled (opened who s)) (setPar 0x0804 chip v (opened who s))) = _
  rw [ppsEnabled_opened, hPps, ppsEdge_enabled]
  rfl

end

/-! ## Triggers -/

section
variable {who : Who} {c : Cond} {n : Fin 2} {inv : Bool} {s : State}

/-- The control of a trigger with its enable bit, as its SETP gives it. -/
theorem setpEffect_trigOn (d : ParamDef) (u : State) :
    setpEffect who d (0x0815 + 8 * n.val) 15 (w32 (1 + bitAt inv 1)) u = armTrig n inv u := by
  fin_cases n <;> cases inv <;> rfl

theorem setpEffect_trigOff (d : ParamDef) (u : State) :
    setpEffect who d (0x0815 + 8 * n.val) 15 (w32 (bitAt inv 1)) u = disarmTrig n inv u := by
  fin_cases n <;> cases inv <;> rfl

theorem bitAt_one : bitAt inv 1 = if inv then 2 else 0 := rfl

theorem trigArm_arms (h : Writes who c (0x0815 + 8 * n.val) 15 (w32 (1 + (if inv then 2 else 0))) s)
    (hPeriod : trigPar n 3 s = 0 ∨ trigPar n 4 s < trigPar n 3 s)
    (hAhead : tbNs s ≤ (trigPar n 0 s + trigPar n 1 s * 4294967296) * 1000000000 + trigPar n 2 s) :
    Sets (.trigArm who c n inv) who (modTrig n (fun t => { t with
      armed := true, invert := inv, start := (trigPar n 0 s + trigPar n 1 s * 4294967296) * 1000000000 + trigPar n 2 s
      period := trigPar n 3 s, width := trigPar n 4 s, next := 0, pastArm := false })) s := by
  refine sets_rule h rfl fun d => ?_
  rw [← bitAt_one, setpEffect_trigOn]
  unfold armTrig
  simp only [trigPar_opened, tbNs_opened]
  rw [if_neg (by simpa using fun hOn => by omega)]
  simp [Nat.not_lt.mpr hAhead]

theorem trigDisarm_disarms (h : Writes who c (0x0815 + 8 * n.val) 15 (w32 (if inv then 2 else 0)) s) (hRest : (trig n s).active = false) :
    Sets (.trigDisarm who c n inv) who
      (modTrig n (fun t => { t with armed := false, invert := inv, active := false, pastArm := false })) s := by
  refine sets_rule h rfl fun d => ?_
  rw [← bitAt_one, setpEffect_trigOff]
  simp [disarmTrig, hRest]

end

/-- Settles O10: each event and each write by its own lemma. -/
theorem gridEventsAndControl : Obligations.GridEventsAndControl :=
  ⟨fun _ => ⟨slotBoundary_falls, slotBoundary_faulted, execStoppedGridTick_ticks, parentBeaconMiss_counts⟩,
   fun _ _ _ _ _ _ => ⟨gridStop_stops, gridStop_refused, fun h hReady => gridStart_anchors h hReady.1 hReady.2.1 hReady.2.2.1 hReady.2.2.2,
     fun h hReady => gridAcquire_acquires h hReady.1 hReady.2.1 hReady.2.2.1 hReady.2.2.2, discipline_changes, discipline_same,
     ppsInEnable_writes, trigArm_arms, trigDisarm_disarms⟩⟩

end Sys2Proof.Machine
end

section
/-! PROOF. LEDGER and its window (03 R104; 11 R387), and the settings and reads of a slice (04 R121-R133; 10 R342, R343). -/

namespace Sys2Proof.Machine

/-! ## LEDGER -/

section
variable {who : Who} {c : Cond} {wd : Fin 16} {s : State}

/-- The state after a check of kind k, with its window and its notice (11 R387, R388). -/
def ledgerChecked (k : Nat) (u : State) : State := ledgerNotices [k] (ledgerWindow [k] u)

/-- The status of a check of kind k. -/
def ledgerStatus (k : Nat) (u : State) : Nat := if u.qp.ledger.lstat.getLsbD k then 0x15 else 0x00

theorem ledger_cells (h : Issues who c 0x47 .condOnly s) :
    Answers (.ledger who c wd 0 0 0) who (fun u => advance who (ret who (ledgerStatus 0 (ledgerChecked 0 u))
      (w32 (ledgerChecked 0 u).qp.cq) (w32 (ledgerChecked 0 u).qp.ch) (setW who wd (w32 (ledgerChecked 0 u).qp.cf) (ledgerChecked 0 u)))) s :=
  answersI h rfl rfl

theorem ledger_jobs (h : Issues who c 0x47 .condOnly s) :
    Answers (.ledger who c wd 1 0 0) who (fun u => advance who (ret who (ledgerStatus 1 (ledgerChecked 1 u))
      (w32 (ledgerChecked 1 u).qp.jq) (w32 (ledgerChecked 1 u).qp.jh) (setW who wd (w32 (ledgerChecked 1 u).qp.jf) (ledgerChecked 1 u)))) s :=
  answersI h rfl rfl

theorem ledger_credits {lk : Fin 8} {ch : Fin 4} (h : Issues who c 0x47 .condOnly s) (hLink : lk.val < 6) :
    Answers (.ledger who c wd 2 lk ch) who (fun u => advance who (ret who (ledgerStatus 2 (ledgerChecked 2 u))
      (w32 (vc ⟨lk.val, hLink⟩ ch (ledgerChecked 2 u)).b) (w32 (vc ⟨lk.val, hLink⟩ ch (ledgerChecked 2 u)).sent)
      (setW who wd (w32 (vc ⟨lk.val, hLink⟩ ch (ledgerChecked 2 u)).a) (ledgerChecked 2 u)))) s :=
  answersI h rfl (by
    simp only [Fin.isValue, Fin.reduceEq, if_false, dif_pos hLink]
    rfl)

theorem ledger_reserved {lk : Fin 8} {ch : Fin 4} (h : Issues who c 0x47 .condOnly s) :
    GivesRegs (.ledger who c wd 3 lk ch) who (withStatus who 0x02 2 3 s) s :=
  regsOf h rfl rfl ((rs0 who s).ret ..)

theorem ledgerWindowRead_latches {w : World} (hCore : s.time.coreOn = true) :
    Becomes (.ledgerWindowRead w) s { s with qp := { s.qp with ledger := { s.qp.ledger with
      latchId := s.qp.ledger.latchId + 1, latch := ledgerWords (s.qp.ledger.latchId + 1) s, sticky := false } } } :=
  becomes rfl (if_pos hCore)

end

/-- Settles O11: a check of each kind, the reserved kind, and the read of the window. -/
theorem ledgerReads : Obligations.LedgerReads :=
  fun _ _ _ _ _ _ _ => ⟨fun h => ⟨ledger_cells h, ledger_jobs h, ledger_credits h, ledger_reserved h⟩, ledgerWindowRead_latches⟩

/-! ## Settings and reads of a slice -/

@[simp] theorem condHeld_opened (who : Who) (n : Fin 12) (s : State) : condHeld who n (opened who s) = condHeld who n s := by
  cases who <;> simp [condHeld]

@[simp] theorem quietNow_opened (who : Who) (n : Fin 12) (s : State) : quietNow n (opened who s) = quietNow n s := by
  obtain ⟨c, t, e⟩ := opened_eq who s
  rw [e]
  rfl

@[simp] theorem radioState_opened (who : Who) (n : Fin 12) (s : State) : radioState n (opened who s) = radioState n s := by
  obtain ⟨c, t, e⟩ := opened_eq who s
  rw [e]
  rfl

/-- A slice's change that keeps what the slice holds anyway. -/
theorem modSlice_congr {n : Fin 12} {f g : SliceS → SliceS} {s : State} (h : f (slice n s) = g (slice n s)) :
    modSlice n f s = modSlice n g s := by
  have hSame : f s.radio.slices[n] = g s.radio.slices[n] := h
  simp only [modSlice, upd, hSame]

section
variable {who : Who} {c : Cond} {n : Fin 12} {sl wd ws tp t : Fin 16} {g : Fin 4} {port : Fin 4} {tuner : BitVec 6} {q : LastQ} {s : State}

/-- A slice in the segment already moves its tap alone (04 R125). -/
theorem tuneTo_tuned {u : State} (hExt : isExt n = false) (hTuned : (slice n u).tuned = some g) (hOn : (slice n u).off = false) :
    tuneTo who n g t u = ret who 0x00 0 0 (modSlice n (fun x => { x with tap := some t }) u) := by
  unfold tuneTo
  simp only [hTuned, hExt, hOn, Bool.false_and, Bool.not_false, Bool.and_true, decide_true, Bool.true_or, if_true]
  rw [modSlice_congr (g := fun x => { x with tap := some t }) (by simp [← hTuned])]
  rfl

theorem tune_answers (hName : Names who sl n) (h : Issues who c 0x30 .all s) (hReady : RadioReady who n s) (hFem : n.val ≠ 3)
    (hChan : findChannel (slice n s) (getW who ws s).toNat = some (g, t)) :
    Answers (.tune who c ws sl) who (fun u => advance who (tuneTo who n g t u)) s :=
  answersI h rfl (by
    rw [withSlice_names hName]
    simp only [getW_opened, slice_opened, condHeld_ready hReady, hChan, radioReady_ready hReady]
    simp [hFem])

theorem tune_moves (hName : Names who sl n) (h : Issues who c 0x30 .all s) (hReady : RadioReady who n s) (hFem : n.val ≠ 3)
    (hChan : findChannel (slice n s) (getW who ws s).toNat = some (g, t)) (hExt : isExt n = false)
    (hTuned : (slice n s).tuned = some g) (hOn : (slice n s).off = false) :
    Answers (.tune who c ws sl) who (fun u => advance who (ret who 0x00 0 0 (modSlice n (fun x => { x with tap := some t }) u))) s :=
  answersI h rfl (by
    rw [withSlice_names hName]
    simp only [getW_opened, slice_opened, condHeld_ready hReady, hChan, radioReady_ready hReady]
    rw [← tuneTo_tuned hExt (by simpa using hTuned) (by simpa using hOn)]
    simp [hFem])

theorem tune_unknown (hName : Names who sl n) (h : Issues who c 0x30 .all s) (hFree : condHeld who n s = false)
    (hChan : findChannel (slice n s) (getW who ws s).toNat = none) :
    GivesRegs (.tune who c ws sl) who (withStatus who 0x02 1 (getW who ws s) s) s :=
  regsOf h rfl (by
    rw [withSlice_names hName]
    simp only [getW_opened, slice_opened, condHeld_opened, hFree, hChan, retRange, w32_toNat]
    rfl) ((rs0 who s).ret ..)

theorem aerial_sets (hName : Names who sl n) (h : Issues who c 0x35 .all s) (hReady : RadioReady who n s) (hExt : isExt n = false)
    (hFem : n.val ≠ 3) (hPort : port.val < 3) (hQuiet : quietNow n s = true) :
    Answers (.aerial who c port tuner false sl) who
      (fun u => advance who (ret who 0x00 0 (w32 ((slice n s).sel + (slice n s).tuner * 16))
        (modSlice n (fun x => { x with sel := port.val, tuner := tuner.toNat,
                                       listen := if port = 2 then x.listen else port.val }) u))) s := by
  have hNamed : port ≠ 3 := fun hThree => by simp [hThree] at hPort
  have hTwo : (port.val = 2) = (port = 2) := by simp [Fin.ext_iff]
  exact answersI h rfl (by
    rw [withSlice_names hName]
    simp only [condHeld_ready hReady, radioReady_ready hReady, hExt, slice_opened, quietNow_opened, hQuiet]
    simp [hFem, hNamed, aerialSet, hTwo]
    rfl)

theorem rstate_gives (hName : Names who sl n) (h : Issues who c 0x34 .all s) (hCal : calRunning (slice n s) = false)
    (hTuned : (slice n s).tuned = some g) (hTap : (slice n s).tap = some t) :
    GivesRegs (.rstate who c wd sl) who ((withW who wd (w32 (radioState n s + (if (slice n s).locked then 16 else 0) +
      (if (slice n s).tcalPend then 32 else 0) + (slice n s).listen % 2 * 128 + ((slice n s).plan[g]).taps[t].chan * 65536)) s).status
      0x00 0 0) s :=
  regsOf h rfl (by
    rw [withSlice_names hName]
    simp only [slice_opened, radioState_opened, hCal, hTuned, hTap]
    rfl) (((rs0 who s).setW wd _).ret ..)

theorem rqualLast_none (hName : Names who sl n) (h : Issues who c 0x36 .all s) (hNone : (slice n s).lastQ = none) :
    GivesRegs (.rqualLast who c wd sl) who ((withW who wd 0 s).status 0x00 0 0xFFFFFFFF) s :=
  regsOf h rfl (by
    rw [withSlice_names hName]
    simp only [slice_opened, hNone]
    rfl) (((rs0 who s).setW wd _).ret ..)

theorem rqualLast_some (hName : Names who sl n) (h : Issues who c 0x36 .all s) (hSome : (slice n s).lastQ = some q) :
    GivesRegs (.rqualLast who c wd sl) who ((withW who wd ((i32 q.rssi &&& 0xFFFF) ||| (i32 q.snr <<< 16)) s).status 0x00 (i32 q.cfo)
      (w32 (q.idx + q.lq * 16777216))) s :=
  regsOf h rfl (by
    rw [withSlice_names hName]
    simp only [slice_opened, hSome]
    rfl) (((rs0 who s).setW wd _).ret ..)

theorem rqualFloor_gives (hName : Names who sl n) (h : Issues who c 0x36 .all s) :
    GivesRegs (.rqualFloor who c wd tp sl) who
      ((withW who wd (i32 ((slice n s).floors[tp].getD 0) &&& 0xFFFF) s).status 0x00 0 0) s :=
  regsOf h rfl (by
    rw [withSlice_names hName]
    simp only [slice_opened]
    rfl) (((rs0 who s).setW wd _).ret ..)

end

/-- Settles O12: each setting and each read by its own lemma. -/
theorem sliceSettingsAndReads : Obligations.SliceSettingsAndReads :=
  fun _ _ _ _ _ _ _ _ _ _ _ _ _ hName =>
    ⟨fun h hReady hFem hChan => ⟨tune_answers hName h hReady hFem hChan, tune_moves hName h hReady hFem hChan⟩, tune_unknown hName,
     aerial_sets hName, rstate_gives hName, rqualLast_none hName, rqualLast_some hName, rqualFloor_gives hName⟩

end Sys2Proof.Machine
end

section
/-! PROOF. Work on the air and in the queues leaves the conductor alone: what a calibration that begins does to receptions, windows,
waits and queues touches no record and no waiting instruction (04 R128; 06 R224, R225; 10 R318, R326). -/

namespace Sys2Proof.Machine

/-- Steps that leave the conductor, one for each element of a list. -/
theorem foldl_cond {α : Type} {f : State → α → State} (h : ∀ u a, (f u a).cond = u.cond) (l : List α) (s : State) :
    (l.foldl f s).cond = s.cond := by
  induction l generalizing s with
  | nil => rfl
  | cons a l ih => exact (ih _).trans (h s a)

/-! ## Notices -/

/-- A part of the state that a post on a ring and a notice leave alone: it does not look at ring memory, at the rings, at the notices
or at the twin's records. -/
structure Unposted {α : Type} (g : State → α) : Prop where
  mem : ∀ s x, g { s with host := { s.host with ringMem := x } } = g s
  modRing : ∀ w b f s, g (modRing w b f s) = g s
  notices : ∀ s x, g { s with notices := x } = g s
  recs : ∀ s x, g { s with twin := { s.twin with recs := x } } = g s

namespace Unposted

variable {α : Type} {g : State → α} (hg : Unposted g)
include hg

theorem ringMemWrite (a : Nat) (ws : List Word) (s : State) : g (ringMemWrite a ws s) = g s := by
  induction ws generalizing a s with
  | nil => rfl
  | cons v vs ih => exact (ih _ _).trans (hg.mem ..)

theorem emit (r : List Byte) (s : State) : g (emit r s) = g s := by
  unfold Machine.emit
  split
  · exact hg.recs ..
  · rfl

theorem postDescData (w : World) (b : Fin 20) (d : List Word) (data : List Byte) (s : State) :
    g (postDescData w b d data s) = g s := by
  have hEmit : ∀ r, g (if b = 2 then s else Machine.emit r s) = g s := fun r => by
    split
    · rfl
    · exact hg.emit ..
  unfold Machine.postDescData
  dsimp only
  generalize hOut : (if b = 2 then s else Machine.emit _ s) = u
  have hSame : g u = g s := hOut ▸ hEmit _
  have hRing : ∀ f, g (Machine.modRing w b f u) = g s := fun f => (hg.modRing ..).trans hSame
  have hUnread : ∀ d f t, g t = g s → g (if t.host.link = some .qspi then Machine.ringMemWrite f d t else t) = g s :=
    fun d f t h => by
      split
      · exact (hg.ringMemWrite ..).trans h
      · exact h
  split
  · exact hRing _
  · exact hUnread _ _ _ ((hg.modRing ..).trans (hRing _))

theorem post (n : Notice) (s : State) : g (n.post s).2 = g s := by
  have hDesc : ∀ w d u, g (postDesc w blkNotice d u) = g u := fun w d u => hg.postDescData ..
  unfold Notice.post
  dsimp only
  split
  · rfl
  · split
    · rfl
    · split
      · split
        · exact hDesc ..
        · split
          · exact (hDesc ..).trans (hDesc ..)
          · exact hDesc ..
      · exact hDesc ..

theorem report (kind : Nat) (subject : Word) (st : Nat) (reporter : Word) (s : State) : g (report kind subject st reporter s) = g s := by
  have hPost : ∀ {n : Notice} {o : Option Notice} {t : State}, n.post s = (o, t) → g t = g s :=
    fun {n _ _} h => (congrArg (fun p => g p.2) h).symm.trans (hg.post n s)
  unfold Machine.report
  split
  · exact hg.notices ..
  · split
    · split
      · next hEq => exact (hg.notices ..).trans (hPost hEq)
      · next hEq => exact hPost hEq
    · split
      · exact hg.notices ..
      · exact (hg.notices ..).trans (hg.post (.open_ 0x0C00 (w32 kind) stOVERRUN reporter s) s)

theorem notify (kind subject st block : Nat) (s : State) : g (notify kind subject st block s) = g s := hg.report ..

end Unposted

theorem unposted_cond : Unposted State.cond :=
  ⟨fun _ _ => rfl, fun w _ _ _ => by cases w <;> rfl, fun _ _ => rfl, fun _ _ => rfl⟩

@[simp] theorem postDescData_cond (w : World) (b : Fin 20) (d : List Word) (data : List Byte) (s : State) :
    (postDescData w b d data s).cond = s.cond := unposted_cond.postDescData ..

@[simp] theorem postDesc_cond (w : World) (b : Fin 20) (d : List Word) (s : State) : (postDesc w b d s).cond = s.cond :=
  postDescData_cond ..

@[simp] theorem report_cond (kind : Nat) (subject : Word) (st : Nat) (reporter : Word) (s : State) :
    (report kind subject st reporter s).cond = s.cond := unposted_cond.report ..

@[simp] theorem notify_cond (kind subject st block : Nat) (s : State) : (notify kind subject st block s).cond = s.cond :=
  report_cond ..

/-! ## Jobs and queues -/

@[simp] theorem reHigh_cond (q : Nat) (s : State) : (reHigh q s).cond = s.cond := by
  unfold reHigh
  dsimp only
  split
  · split
    · exact notify_cond ..
    · rfl
  · split <;> rfl

@[simp] theorem modQ_cond (q : Nat) (f : Queue → Queue) (s : State) : (modQ q f s).cond = s.cond := reHigh_cond ..

@[simp] theorem countToQueue_cond (it : Item) (s : State) : (countToQueue it s).cond = s.cond := rfl

@[simp] theorem returnHead_cond (q : Nat) (it : Item) (s : State) : (returnHead q it s).cond = s.cond := by
  unfold returnHead
  dsimp only
  split <;> simp

@[simp] theorem toException_cond (it : Item) (why : Nat) (s : State) : (toException it why s).cond = s.cond := by
  simp [toException, linkTail]

@[simp] theorem goBack_cond (it : Item) (q : Option Nat) (src flush : Nat) (s : State) : (goBack it q src flush s).cond = s.cond := by
  unfold goBack
  split
  · simp
  · split <;> simp

@[simp] theorem setStage_cond (ref st status : Nat) (s : State) : (setStage ref st status s).cond = s.cond := by
  unfold setStage
  dsimp only
  split
  · rfl
  · rfl

@[simp] theorem addAttempt_cond (ref : Nat) (s : State) : (addAttempt ref s).cond = s.cond := rfl

@[simp] theorem resetBackoff_cond (q : Nat) (s : State) : (resetBackoff q s).cond = s.cond := modQ_cond ..

@[simp] theorem noteAck_cond (ref o : Nat) (s : State) : (noteAck ref o s).cond = s.cond := by
  unfold noteAck
  split <;> rfl

@[simp] theorem noAck_cond (n : Fin 12) (it : Item) (q : Option Nat) (src flush status : Nat) (s : State) :
    (noAck n it q src flush status s).cond = s.cond := by
  unfold noAck
  dsimp only
  split
  · split
    · simp
    · split
      · simp [withDraw]
      · simp
  · split <;> simp

/-! ## Slices -/

@[simp] theorem unblockSlice_cond (n : Fin 12) (st : Nat) (w1 w2 : Word) (s : State) : (unblockSlice n st w1 w2 s).cond = s.cond := by
  unfold unblockSlice
  split <;> rfl

@[simp] theorem winDone_cond (n : Fin 12) (st : Nat) (w1 w2 : Word) (s : State) : (winDone n st w1 w2 s).cond = s.cond := by
  unfold winDone
  dsimp only
  split <;> simp

@[simp] theorem txfDone_cond (n : Fin 12) (st : Nat) (w1 w2 : Word) (s : State) : (txfDone n st w1 w2 s).cond = s.cond := by
  unfold txfDone
  dsimp only
  split <;> simp

@[simp] theorem txfResult_cond (n : Fin 12) (st job launch ts : Nat) (loss : Option Nat) (s : State) :
    (txfResult n st job launch ts loss s).cond = s.cond := by
  unfold txfResult
  split <;> simp

@[simp] theorem missedNode_cond (idx closeAt : Nat) (s : State) : (missedNode idx closeAt s).cond = s.cond := by
  unfold missedNode
  dsimp only
  split
  · rfl
  · split <;> simp

@[simp] theorem winEmpty_cond (n : Fin 12) (w : Win) (s : State) : (winEmpty n w s).cond = s.cond := by
  unfold winEmpty
  split
  · simp
  · split
    · simp
    · split <;> simp

@[simp] theorem endAckWait_cond (n : Fin 12) (status : Nat) (s : State) : (endAckWait n status s).cond = s.cond := by
  unfold endAckWait
  split <;> simp

@[simp] theorem ackFailed_cond (n : Fin 12) (s : State) : (ackFailed n s).cond = s.cond := by
  unfold ackFailed
  split
  · rfl
  · dsimp only
    split <;> simp

@[simp] theorem ackLaneLost_cond (n : Fin 12) (k : Nat) (s : State) : (ackLaneLost n k s).cond = s.cond := by
  unfold ackLaneLost
  split
  · rfl
  · split
    · split <;> simp
    · rfl

@[simp] theorem winLaneLost_cond (n : Fin 12) (k fails : Nat) (s : State) : (winLaneLost n k fails s).cond = s.cond := by
  unfold winLaneLost
  split
  · rfl
  · split
    · dsimp only
      split <;> simp
    · rfl

@[simp] theorem winFailed_cond (n : Fin 12) (k st : Nat) (s : State) : (winFailed n k st s).cond = s.cond := by
  unfold winFailed
  split
  · rfl
  · split <;> simp

@[simp] theorem loseLane_cond (k : Fin 64) (st fails : Nat) (s : State) : (loseLane k st fails s).cond = s.cond := by
  unfold loseLane
  split
  · rfl
  · dsimp only
    split <;> simp [removeAck, releaseLane, noteBusy]

@[simp] theorem abandonAll_cond (n : Fin 12) (s : State) : (abandonAll n s).cond = s.cond :=
  foldl_cond (fun u k => by unfold abandonLane; split <;> simp) _ s

@[simp] theorem offAir_cond (n : Fin 12) (endAt : Nat) (airing : Bool) (s : State) : (offAir n endAt airing s).cond = s.cond := by
  unfold offAir
  dsimp only
  split
  · rw [(modSlice_keeps ..).1]
    exact foldl_cond (fun u k => (modSlice_keeps k _ u).1) _ s
  · rfl

@[simp] theorem noteSent_cond (n : Fin 12) (launch : Nat) (s : State) : (noteSent n launch s).cond = s.cond := rfl

@[simp] theorem dropAcks_cond (n : Fin 12) (p : EnhAck → Bool) (s : State) : (dropAcks n p s).cond = s.cond := by
  have hEach : ∀ (l : List EnhAck) (u : State), (l.foldl (fun s e => offAir n e.endAt e.airing
      (noteAck e.job (if e.airing then 3 else 2) (if e.airing then noteSent n e.launch s else s))) u).cond = u.cond :=
    foldl_cond fun u e => by
      simp only [offAir_cond, noteAck_cond]
      split <;> rfl
  unfold dropAcks
  dsimp only
  split
  · split <;> simp [hEach]
  · simp [hEach]

@[simp] theorem feQueue_cond (w : FeWord) (s : State) : (feQueue w s).cond = s.cond := by
  unfold feQueue
  split <;> rfl

@[simp] theorem beginCal_cond (n : Fin 12) (s : State) : (beginCal n s).cond = s.cond := by
  unfold beginCal
  dsimp only
  split <;> simp [dropEnhAck]

@[simp] theorem startCal_cond (n : Fin 12) (mask : Nat) (ticket : Option (World × Nat)) (s : State) :
    (startCal n mask ticket s).cond = s.cond := by
  unfold startCal
  dsimp only
  split <;> simp

end Sys2Proof.Machine
end

section
/-! PROOF. CAL, RXWIN, TXF and FEOUT arm what they wait for (04 R126-R130, R134). -/

namespace Sys2Proof.Machine

@[simp] theorem xiqDown_opened (who : Who) (n : Fin 12) (s : State) : xiqDown n (opened who s) = xiqDown n s := by
  simp [xiqDown]

@[simp] theorem pendFull_opened (who : Who) (s : State) : pendFull who (opened who s) = pendFull who s := by
  simp [pendFull]

@[simp] theorem nextTicket_opened (who : Who) (s : State) : nextTicket who (opened who s) = nextTicket who s := by
  simp [nextTicket]

@[simp] theorem nodeWindow_opened (who : Who) (r : Roster) (t half : Nat) (s : State) :
    nodeWindow r t half (opened who s) = nodeWindow r t half s := by
  obtain ⟨c, u, e⟩ := opened_eq who s
  rw [e]
  rfl

/-- A slice sequencer finds its own slice free. -/
theorem condHeld_slice (n k : Fin 12) (s : State) : condHeld (.slice k) n s = false := rfl

/-! ## CAL -/

section
variable {who : Who} {c : Cond} {n : Fin 12} {sl : Fin 16} {mask : BitVec 4} {s : State}

/-- The body of a CAL whose slice may be calibrated. -/
def calBody (who : Who) (n : Fin 12) (mask : BitVec 4) (u : State) : State :=
  match who with
  | .slice _ => block who (.cal n) (startCal n mask.toNat none u)
  | _ =>
    if pendFull who u then retRefused who 0x40 u
    else startPending who 0x31 (startCal n mask.toNat (some (worldOf who u, nextTicket who u)) u)

theorem cal_named (hName : Names who sl n) (hFree : condHeld who n s = false) (hMask : mask ≠ 0)
    (hExt : isExt n = true → mask.toNat % 4 = 0) (hLane : xiqDown n s = false) (hIdle : (slice n s).cal = none) :
    withSlice who sl 2 0x31 (fun n s =>
      if condHeld who n s then ret who stREFUSED (w32 0xFF03) (w32 0x31) s
      else if mask = 0 || (isExt n && mask.toNat % 4 ≠ 0) then retRange who 1 mask.toNat s
      else if xiqDown n s then retRefused who 0x91 s
      else if (slice n s).cal.isSome then retCalBusy who n s
      else calBody who n mask s) (opened who s) = calBody who n mask (opened who s) := by
  rw [withSlice_names hName]
  have hGood : (decide (mask = 0) || (isExt n && decide (mask.toNat % 4 ≠ 0))) = false := by
    have hSome : ¬ mask = 0#4 := hMask
    cases hKind : isExt n <;> simp [hSome, hExt, hKind]
  simp only [condHeld_opened, hFree, hGood, xiqDown_opened, hLane, slice_opened, hIdle]
  rfl

/-- An instruction of a slice sequencer that blocks there, by its effect. -/
theorem answersSlice_blocks {i : Instr} {op : Nat} {p : Perm} {body e : State → State} {a : Await} (h : Issues (.slice n) c op p s)
    (hExec : exec i s = ok (issueB (.slice n) c op p body s)) (hBody : body s = block (.slice n) a (e s)) :
    Answers i (.slice n) (fun u => block (.slice n) a (e u)) s :=
  answers h hExec (by
    have hBlocks : body (opened (.slice n) s) = block (.slice n) a (e (opened (.slice n) s)) := hBody
    simp only [hBlocks, waits_block, if_true])

theorem cal_blocks (h : Issues (.slice n) c 0x31 .all s) (hName : Names (.slice n) sl n) (hMask : mask ≠ 0)
    (hExt : isExt n = true → mask.toNat % 4 = 0) (hLane : xiqDown n s = false) (hIdle : (slice n s).cal = none) :
    Answers (.cal (.slice n) c mask sl) (.slice n) (fun u => block (.slice n) (.cal n) (startCal n mask.toNat none u)) s :=
  answersSlice_blocks h rfl (cal_named hName rfl hMask hExt hLane hIdle)

/-- A conductor waits for nothing after work that leaves the conductor alone. -/
theorem waits_of_cond {u v : State} (hRing : ∀ k, who ≠ .slice k) (h : u.cond = v.cond) : waits who u = waits who v := by
  cases who with
  | slice k => exact absurd rfl (hRing k)
  | ring w => simp only [waits, h]
  | routine => simp only [waits, h]

theorem waits_startPending (op : Nat) (u : State) : waits who (startPending who op u) = waits who u := by
  simp [startPending]

theorem cal_pends (h : Issues who c 0x31 .all s) (hName : Names who sl n) (hRing : ∀ k, who ≠ .slice k)
    (hFree : condHeld who n s = false) (hMask : mask ≠ 0) (hExt : isExt n = true → mask.toNat % 4 = 0) (hLane : xiqDown n s = false)
    (hIdle : (slice n s).cal = none) (hPend : pendFull who s = false) :
    Answers (.cal who c mask sl) who (fun u => advance who
      (startPending who 0x31 (startCal n mask.toNat (some (worldOf who s, nextTicket who s)) u))) s := by
  have hBody : calBody who n mask (opened who s) =
      startPending who 0x31 (startCal n mask.toNat (some (worldOf who s, nextTicket who s)) (opened who s)) := by
    cases who with
    | slice k => exact absurd rfl (hRing k)
    | ring w => simp [calBody, hPend]
    | routine => simp [calBody, hPend]
  refine answersB_done h rfl ((cal_named hName hFree hMask hExt hLane hIdle).trans hBody) ?_
  rw [waits_startPending, waits_of_cond hRing (startCal_cond ..), waits_opened h]

end

/-! ## RXWIN and TXF -/

section
variable {c : Cond} {n : Fin 12} {ws : Fin 16} {ts : Fin 4} {res : Bool} {half : BitVec 24} {q : Fin 1024} {latest : BitVec 16} {s : State}

/-- A slice sequencer's own slice that is ready takes the instruction (04 R121, R122). -/
theorem radioReady_slice (h : RadioReady (.slice n) n s) (body : State → State) : radioReady (.slice n) n body s = body s :=
  radioReady_ready h body

theorem rxwinArm_arms {node : Option Nat} {t : TVal} {h : Nat} {w : Nat × Nat × Int} (hReady : RadioReady (.slice n) n s)
    (hTap : (slice n s).tap.isSome = true)
    (hWin : (match node with
      | some i => nodeWindow (roster i s) t.toNs h s
      | none => (t.toNs - h, t.toNs + h, (t.toNs : Int))) = w) (hAhead : tbNs s ≤ w.2.1) :
    rxwinArm (.slice n) n node t res h s = block (.slice n) (.rxwin n) (modSlice n (fun x => { x with
      win := some { node := node, openAt := w.1, closeAt := w.2.1, pred := w.2.2, wantRes := node.isSome || res } }) s) := by
  have hTap' : (slice n s).tap.isNone = false := Option.isNone_eq_false_iff.mpr hTap
  unfold rxwinArm
  rw [radioReady_slice hReady]
  cases node <;> subst hWin <;> simp only [hTap', Nat.not_lt.mpr hAhead] <;> rfl

theorem rxwin_time (h : Issues (.slice n) c 0x32 .sliceOnly s) (hReady : RadioReady (.slice n) n s)
    (hValid : (getT (.slice n) ts s).ns.toNat ≤ 999999999) (hHalf : half ≠ 0) (hTap : (slice n s).tap.isSome = true)
    (hAhead : tbNs s ≤ (getT (.slice n) ts s).toNs + half.toNat) :
    Answers (.rxwin (.slice n) c 0 ts res half) (.slice n) (fun u => block (.slice n) (.rxwin n) (modSlice n (fun x => { x with
      win := some { node := none, openAt := (getT (.slice n) ts s).toNs - half.toNat,
                    closeAt := (getT (.slice n) ts s).toNs + half.toNat, pred := ((getT (.slice n) ts s).toNs : Int),
                    wantRes := res } }) u)) s :=
  answersSlice_blocks h rfl (by
    simp only [TVal.valid_of_le hValid, hHalf, ne_eq, not_true_eq_false, decide_false, Bool.false_and, Bool.not_true, Bool.and_false,
      Bool.false_eq_true, if_false, if_true]
    exact rxwinArm_arms (node := none) (t := getT (.slice n) ts s) (h := half.toNat) (res := res)
      hReady hTap rfl hAhead)

theorem rxwin_node (h : Issues (.slice n) c 0x32 .sliceOnly s) (hReady : RadioReady (.slice n) n s)
    (hValid : (getT (.slice n) ts s).ns.toNat ≤ 999999999) (hReg : ws ≠ 0) (hIdx : (getW (.slice n) ws s).toNat < 131072)
    (hVoid : rosterVoid (getW (.slice n) ws s).toNat = false) (hUse : (roster (getW (.slice n) ws s).toNat s).use_ ≠ 0)
    (hTap : (slice n s).tap.isSome = true)
    (hAhead : tbNs s ≤ (nodeWindow (roster (getW (.slice n) ws s).toNat s) (getT (.slice n) ts s).toNs half.toNat s).2.1) :
    Answers (.rxwin (.slice n) c ws ts res half) (.slice n) (fun u => block (.slice n) (.rxwin n) (modSlice n (fun x => { x with
      win := some { node := some (getW (.slice n) ws s).toNat
                    openAt := (nodeWindow (roster (getW (.slice n) ws s).toNat s) (getT (.slice n) ts s).toNs half.toNat s).1
                    closeAt := (nodeWindow (roster (getW (.slice n) ws s).toNat s) (getT (.slice n) ts s).toNs half.toNat s).2.1
                    pred := (nodeWindow (roster (getW (.slice n) ws s).toNat s) (getT (.slice n) ts s).toNs half.toNat s).2.2
                    wantRes := true } }) u)) s :=
  answersSlice_blocks h rfl (by
    simp only [TVal.valid_of_le hValid, hReg, Nat.not_le.mpr hIdx, hVoid, hUse, decide_false, Bool.false_and, Bool.not_true,
      Bool.and_false, Bool.or_false, Bool.false_eq_true, if_false]
    exact rxwinArm_arms (node := some (getW (.slice n) ws s).toNat) (t := getT (.slice n) ts s) (h := half.toNat) (res := res)
      hReady hTap rfl hAhead)

theorem txfArm_arms {a : TxfArm} (hReady : RadioReady (.slice n) n s) (hTap : (slice n s).tap.isSome = true)
    (hGo : (slice n s).inhibit = false) (hMatch : (slice n s).mismatch = false) (hAhead : tbNs s + leadNs n ≤ a.ts + a.latest) :
    txfArm (.slice n) n a s = block (.slice n) (.txf n) (modSlice n (fun x => { x with txf := some a }) s) := by
  have hTap' : (slice n s).tap.isNone = false := Option.isNone_eq_false_iff.mpr hTap
  unfold txfArm
  rw [radioReady_slice hReady]
  simp [hTap', hGo, hMatch, Nat.not_lt.mpr hAhead]

theorem txf_arms (h : Issues (.slice n) c 0x33 .sliceOnly s) (hReady : RadioReady (.slice n) n s)
    (hValid : (getT (.slice n) ts s).ns.toNat ≤ 999999999) (hTap : (slice n s).tap.isSome = true)
    (hGo : (slice n s).inhibit = false) (hMatch : (slice n s).mismatch = false)
    (hAhead : tbNs s + leadNs n ≤ (getT (.slice n) ts s).toNs + latest.toNat * 1000) :
    exec (.txf (.slice n) c ts (.imm q) latest) s = .next (settle (block (.slice n) (.txf n) (modSlice n (fun x => { x with
      txf := some { ts := (getT (.slice n) ts s).toNs, latest := latest.toNat * 1000, q := some q.val, heldRef := 0,
                    since := tbNs s } }) s))) :=
  answersSlice_blocks (e := fun _ => _) h rfl ((withTime_valid hValid).trans (txfArm_arms hReady hTap hGo hMatch hAhead))

theorem txfHeld_arms (h : Issues (.slice n) c 0x33 .sliceOnly s) (hReady : RadioReady (.slice n) n s)
    (hValid : (getT (.slice n) ts s).ns.toNat ≤ 999999999) (hTap : (slice n s).tap.isSome = true)
    (hGo : (slice n s).inhibit = false) (hMatch : (slice n s).mismatch = false)
    (hAhead : tbNs s + leadNs n ≤ (getT (.slice n) ts s).toNs + latest.toNat * 1000)
    (hHeld : (ctx (.slice n) s).held.any (fun h => h.item.job = (getW (.slice n) ws s).toNat) = true) :
    exec (.txfHeld (.slice n) c ts ws latest) s = .next (settle (block (.slice n) (.txf n) (modSlice n (fun x => { x with
      txf := some { ts := (getT (.slice n) ts s).toNs, latest := latest.toNat * 1000, q := none,
                    heldRef := (getW (.slice n) ws s).toNat, since := tbNs s } }) s))) :=
  answersSlice_blocks (e := fun _ => _) h rfl ((withTime_valid hValid).trans
    ((if_pos hHeld).trans (txfArm_arms hReady hTap hGo hMatch hAhead)))

end

/-! ## FEOUT -/

section
variable {who : Who} {c : Cond} {n : Fin 12} {sl ws : Fin 16} {s : State} {typ bits : Nat}

/-- A front-end word is queued, a tuning word taking the slice out of lock (04 R134; 10 R351). -/
theorem feoutOp_queues (hName : Names who sl n) (hReady : RadioReady who n s) (hExt : isExt n = true)
    (hFits : (getW who ws s).toNat < 2 ^ bits) :
    feoutOp who typ bits ws sl (opened who s) = block who (.feout n)
      (if typ = 0 then modSlice n (fun x => { x with locked := false, moving := true, settleFrom := none })
          (feQueue { sl := n, typ := typ, payload := (getW who ws s).toNat } (opened who s))
        else feQueue { sl := n, typ := typ, payload := (getW who ws s).toNat } (opened who s)) := by
  unfold feoutOp
  rw [withSlice_names hName]
  simp only [getW_opened, condHeld_ready hReady, Nat.not_le.mpr hFits, hExt, radioReady_ready hReady]
  rfl

theorem feout_blocks {i : Instr} {e : State → State} (h : Issues who c 0x37 .all s)
    (hExec : exec i s = ok (issueB who c 0x37 .all (feoutOp who typ bits ws sl) s)) (hName : Names who sl n)
    (hReady : RadioReady who n s) (hExt : isExt n = true) (hFits : (getW who ws s).toNat < 2 ^ bits)
    (hEffect : (if typ = 0 then modSlice n (fun x => { x with locked := false, moving := true, settleFrom := none })
          (feQueue { sl := n, typ := typ, payload := (getW who ws s).toNat } (opened who s))
        else feQueue { sl := n, typ := typ, payload := (getW who ws s).toNat } (opened who s)) = e (opened who s)) :
    Answers i who (fun u => block who (.feout n) (e u)) s :=
  answers h hExec (by
    rw [feoutOp_queues hName hReady hExt hFits, hEffect]
    exact if_pos (waits_block ..))

end

/-- Settles O13: each instruction arms by its own lemma; a conductor's CAL pends, for a calibration that begins leaves the
conductor alone. -/
theorem radioActionsArm : Obligations.RadioActionsArm :=
  fun _ _ _ _ _ _ _ _ _ _ _ _ => ⟨cal_blocks, cal_pends, rxwin_time, rxwin_node,
    fun h hReady hValid hTap hGo hMatch hAhead => ⟨txf_arms h hReady hValid hTap hGo hMatch hAhead,
      txfHeld_arms h hReady hValid hTap hGo hMatch hAhead⟩,
    fun h hName hReady hExt => ⟨fun hFits => feout_blocks h rfl hName hReady hExt hFits rfl,
      fun hFits => feout_blocks h rfl hName hReady hExt hFits rfl, fun hFits => feout_blocks h rfl hName hReady hExt hFits rfl⟩⟩

end Sys2Proof.Machine
end

section
/-! PROOF. The queue instructions (03 R97-R103; 11 R364-R373). -/

namespace Sys2Proof.Machine

@[simp] theorem heldItem_opened (who : Who) (ref : Word) (s : State) : heldItem who ref (opened who s) = heldItem who ref s := by
  simp [heldItem]

section
variable {who : Who} {c : Cond} {q : QRef} {k : Nat} {wd ws : Fin 16} {attr : BitVec 8} {it : Item} {h : HeldItem} {y : Queue} {s : State}

theorem qpush_joins (hName : NamesQueue who q k s) (hi : Issues who c 0x40 .all s) (hHeld : heldItem who (getW who ws s) s = some h) :
    Answers (.qpush who c ws q) who (fun u => match pushItem k h.item (dropHeldItem who (getW who ws s) u) with
      | some v => advance who (ret who 0x00 (w32 (queue k v).occ) 0 v)
      | none => advance who (ret who 0x10 0 0 (bump 0x0510 u))) s :=
  answers hi rfl (by
    simp only [getW_opened, heldItem_opened, hHeld]
    rw [withQueue_names hName]
    cases pushItem k h.item (dropHeldItem who (getW who ws s) (opened who s)) <;> rfl)

theorem qpop_takes (hName : NamesQueue who q k s) (hi : Issues who c 0x41 .all s) (hRoom : (ctx who s).held.length < 8)
    (hHead : popHead k s = some it) :
    Answers (.qpop who c wd q) who (fun u => advance who (ret who 0x00 (w32 it.len)
      (w32 (queue k (modCtx who (fun c => { c with
        held := { item := it, fromQ := k, flushGen := (queue k (popItem k it u)).flushes } :: c.held }) (popItem k it u))).occ)
      (setW who wd (w32 it.job) (modCtx who (fun c => { c with
        held := { item := it, fromQ := k, flushGen := (queue k (popItem k it u)).flushes } :: c.held }) (popItem k it u))))) s :=
  answersI hi rfl (by
    rw [withQueue_names hName]
    simp only [ctx_opened, Nat.not_le.mpr hRoom, popHead_opened, hHead]
    rfl)

theorem qpop_empty (hName : NamesQueue who q k s) (hi : Issues who c 0x41 .all s) (hRoom : (ctx who s).held.length < 8)
    (hHead : popHead k s = none) : GivesRegs (.qpop who c wd q) who (withStatus who 0x11 0 0 s) s :=
  regsOf hi rfl (by
    rw [withQueue_names hName]
    simp only [ctx_opened, Nat.not_le.mpr hRoom, popHead_opened, hHead]
    rfl) ((rs0 who s).ret ..)

theorem qpeek_reads (hName : NamesQueue who q k s) (hi : Issues who c 0x42 .all s) (hHead : popHead k s = some it) :
    GivesRegs (.qpeek who c wd q) who ((withW who wd (w32 it.job) s).status 0x00 (w32 it.len)
      (w32 ((jobAt it.job s).attempts + (jobAt it.job s).stage * 256))) s :=
  regsOf hi rfl (by
    rw [withQueue_names hName]
    simp only [popHead_opened, hHead, jobAt_opened]
    rfl) (((rs0 who s).setW wd _).ret ..)

theorem qpeek_empty (hName : NamesQueue who q k s) (hi : Issues who c 0x42 .all s) (hHead : popHead k s = none) :
    GivesRegs (.qpeek who c wd q) who (withStatus who 0x11 0 0 s) s :=
  regsOf hi rfl (by
    rw [withQueue_names hName]
    simp only [popHead_opened, hHead]
    rfl) ((rs0 who s).ret ..)

theorem qdropHead_drops (hName : NamesQueue who q k s) (hi : Issues who c 0x43 .all s) (hHead : popHead k s = some it) :
    Answers (.qdropHead who c q) who
      (fun u => advance who (ret who 0x00 (w32 it.cells) 0 (retireHeld it 1 0x00 (popItem k it u)))) s :=
  answersI hi rfl (by
    rw [withQueue_names hName]
    simp only [popHead_opened, hHead]
    rfl)

theorem qdropHeld_drops (hi : Issues who c 0x43 .all s) (hHeld : heldItem who (getW who ws s) s = some h) :
    Answers (.qdropHeld who c ws) who (fun u => advance who
      (ret who 0x00 (w32 h.item.cells) 0 (retireHeld h.item 1 0x00 (dropHeldItem who (getW who ws s) u)))) s :=
  answersI hi rfl (by
    simp only [getW_opened, heldItem_opened, hHeld]
    rfl)

theorem qdropRest_drops (hName : NamesQueue who q k s) (hi : Issues who c 0x43 .all s) (hMode : (queue k s).dropMode = true)
    (hInc : (queue k s).inc = some it) :
    Answers (.qdropRest who c q) who (fun u => advance who (ret who 0x00 (w32 it.cells) 0 (txfsLost (dropRest k 0x12 u)))) s :=
  answersI hi rfl (by
    rw [withQueue_names hName]
    simp only [queue_opened, hMode, hInc]
    rfl)

theorem qflush_empties (hName : NamesQueue who q k s) (hi : Issues who c 0x44 .condOnly s) (hMode : (queue k s).dropMode = false) :
    Answers (.qflush who c q) who (fun u => advance who
      (ret who 0x00 (w32 (queue k s).occ) (w32 (queue k s).cells) (txfsLost (flushQueue k u)))) s :=
  answersI hi rfl (by
    rw [withQueue_names hName]
    simp only [queue_opened, hMode]
    rfl)

/-- The flags of QLEN, as the claim writes them. -/
theorem Queue.qlenFlags_eq (x : Queue) :
    x.qlenFlags = w32 ((if x.inc.isSome then 1 else 0) + (if x.high ≤ x.occ then 2 else 0) + x.limit * 65536) := by
  simp only [Queue.qlenFlags, bitAt, decide_eq_true_eq]
  rfl

theorem qattr_writes (hName : NamesQueue who q k s) (hi : Issues who c 0x46 .condOnly s) (hAttr : attr.toNat ≤ 6)
    (hSet : setAttr (queue k s) attr.toNat (getW who ws s).toNat = some y)
    (hMode : (queue k s).dropMode = y.dropMode ∨ (queue k s).inc = none) :
    Answers (.qattr who c q ws attr) who (fun u => advance who (ret who 0x00 0 0 (modQ k (fun _ => y) u))) s := by
  have hAllowed : ((queue k s).dropMode != y.dropMode && (queue k s).inc.isSome) = false := by
    rcases hMode with hSame | hNone
    · simp [hSame]
    · simp [hNone]
  exact answersI hi rfl (by
    rw [withQueue_names hName]
    simp only [getW_opened, queue_opened, Nat.not_lt.mpr hAttr, hSet, hAllowed]
    rfl)

end

/-- Settles O19: each instruction by its own lemma, QLEN by `qlen_givesRegs`. -/
theorem queueInstructions : Obligations.QueueInstructions :=
  fun _ _ _ k _ _ _ _ _ _ s hName =>
    ⟨qpush_joins hName, qpop_takes hName, qpop_empty hName, qpeek_reads hName, qpeek_empty hName, qdropHead_drops hName,
     qdropHeld_drops, qdropRest_drops hName, qflush_empties hName,
     fun hi => (queue k s).qlenFlags_eq ▸ qlen_givesRegs hi hName, qattr_writes hName⟩

end Sys2Proof.Machine
end

section
/-! PROOF. Notices and learning (03 R109, R115; 07 R250; 12 R405; 15 R499), and the device table (03 R106-R112; 12 R402-R406). -/

namespace Sys2Proof.Machine

/-! ## Notices -/

section
variable {who : Who} {c : Cond} {kind : BitVec 16} {ws hi : Fin 16} {dist : Bool} {s : State}

theorem note_reports (h : Issues who c 0x82 .all s) (hKind : 0x8000 ≤ kind.toNat) :
    Answers (.note who c kind ws) who (fun u => advance who (ret who 0x00
      (w32 (noticeCount kind.toNat (getW who ws s) (report kind.toNat (getW who ws s) 0x00 (noteReporter who) u))) 0
      (report kind.toNat (getW who ws s) 0x00 (noteReporter who) u))) s :=
  answersI h rfl (by
    simp only [getW_opened, Nat.not_lt.mpr hKind]
    rfl)

theorem note_reserved (h : Issues who c 0x82 .all s) (hKind : kind.toNat < 0x8000) :
    GivesRegs (.note who c kind ws) who (withStatus who 0x02 1 (w32 kind.toNat) s) s :=
  regsOf h rfl (if_pos hKind) ((rs0 who s).ret ..)

@[simp] theorem keyHash_opened (who : Who) (key : BitVec 64) (dist : Bool) (s : State) :
    keyHash key dist (opened who s) = keyHash key dist s := by
  simp [keyHash]

theorem learnack_none (h : Issues who c 0x53 .condOnly s) (hEven : ws.val % 2 = 0) (hNext : hi.val = ws.val + 1) {ins : Bool}
    (hClosed : s.notices.entries.any (openEntry 0x0601 (w32 (keyHash (pairVal who ws hi s) dist s))) = false) :
    GivesRegs (.learnack who c ws dist ins) who (withStatus who 0x00 0 0 s) s :=
  regsOf h rfl (by
    rw [withPair_even who ws hi 1 _ _ hEven hNext]
    simp only [pairVal_opened, keyHash_opened, opened_keeps, hClosed]
    rfl) ((rs0 who s).ret ..)

theorem learnack_declined (h : Issues who c 0x53 .condOnly s) (hEven : ws.val % 2 = 0) (hNext : hi.val = ws.val + 1)
    (hOpen : s.notices.entries.any (openEntry 0x0601 (w32 (keyHash (pairVal who ws hi s) dist s))) = true) :
    Answers (.learnack who c ws dist false) who (fun u => advance who (ret who 0x00 1 0
      (updNotice (openEntry 0x0601 (w32 (keyHash (pairVal who ws hi s) dist s)))
        (fun n v => (some { n with declined := some v.time.coreNs }, v)) u))) s :=
  answersI h rfl (by
    rw [withPair_even who ws hi 1 _ _ hEven hNext]
    simp only [pairVal_opened, keyHash_opened, opened_keeps, hOpen]
    rfl)

theorem learnack_inserted (h : Issues who c 0x53 .condOnly s) (hEven : ws.val % 2 = 0) (hNext : hi.val = ws.val + 1)
    (hOpen : s.notices.entries.any (openEntry 0x0601 (w32 (keyHash (pairVal who ws hi s) dist s))) = true) :
    Answers (.learnack who c ws dist true) who (fun u => advance who (ret who 0x00 1 0
      (updNotice (openEntry 0x0601 (w32 (keyHash (pairVal who ws hi s) dist s))) closeEntry u))) s :=
  answersI h rfl (by
    rw [withPair_even who ws hi 1 _ _ hEven hNext]
    simp only [pairVal_opened, keyHash_opened, opened_keeps, hOpen]
    rfl)

theorem noticeDescriptorPost_posts {w : World} (hRoom : (ring w blkNotice s).room = true) :
    Becomes (.noticeDescriptorPost w) s
      (updNotice (fun n => noticeWorld n.kind s = w && (n.due s).isSome) (fun n s => n.post s) s) :=
  becomes rfl (if_pos hRoom)

end

/-- Settles O21: the instructions by their lemmas, the notice events as their rows give them. -/
theorem noticeCommands : Obligations.NoticeCommands :=
  fun _ _ _ _ _ _ _ _ _ _ =>
    ⟨note_reports, note_reserved, fun h hEven hNext => ⟨learnack_none h hEven hNext,
      fun hOpen => ⟨learnack_declined h hEven hNext hOpen, learnack_inserted h hEven hNext hOpen⟩⟩,
     rfl, rfl, rfl, noticeDescriptorPost_posts, rfl⟩

/-! ## Searches of the table -/

/-- With no memory error waiting a search fails at no entry. -/
theorem readTables_clean {who : Who} {s : State} (key : BitVec 64) (dist : Bool) (h : s.health.errs = []) :
    readTables key dist (opened who s) = (false, opened who s) := by
  simp [readTables, h]

@[simp] theorem myPos_opened (who : Who) (s : State) : myPos (opened who s) = myPos s := by
  simp [myPos]

@[simp] theorem resultBad_opened (who : Who) (r : Word) (s : State) : resultBad r (opened who s) = resultBad r s := by
  obtain ⟨c, t, e⟩ := opened_eq who s
  rw [e]
  rfl

section
variable {who : Who} {c : Cond} {wd ws wr hi : Fin 16} {dist static : Bool} {p : Nat} {s : State}

theorem lookup_absent (h : Issues who c 0x50 .all s) (hEven : ws.val % 2 = 0) (hNext : hi.val = ws.val + 1) (hClean : s.health.errs = [])
    (hFind : findKey (pairVal who ws hi s) dist s = none) :
    GivesRegs (.lookup who c wd ws dist) who
      (withStatus who 0x00 0 (w32 (bucket0 (keyHash (pairVal who ws hi s) dist s))) s) s :=
  regsOf h rfl (by
    rw [withPair_even who ws hi 2 _ _ hEven hNext]
    simp only [pairVal_opened, keyHash_opened, readTables_clean _ _ hClean, findKey_opened, hFind]
    rfl) ((rs0 who s).ret ..)

theorem lookup_here (h : Issues who c 0x50 .all s) (hEven : ws.val % 2 = 0) (hNext : hi.val = ws.val + 1) (hClean : s.health.errs = [])
    (hFind : findKey (pairVal who ws hi s) dist s = some p) (hBucket : p < ovfBase) (hHere : resPos (tEntry p s).result = myPos s) :
    GivesRegs (.lookup who c wd ws dist) who ((withW who wd (tEntry p s).result s).status 0x00 1 (w32 (p / 4))) s :=
  regsOf h rfl (by
    rw [withPair_even who ws hi 2 _ _ hEven hNext]
    simp only [pairVal_opened, keyHash_opened, readTables_clean _ _ hClean, findKey_opened, hFind, tEntry_opened, hBucket, if_true]
    exact if_pos (by simpa [myPos] using hHere)) (((rs0 who s).setW wd _).ret ..)

theorem lookup_elsewhere (h : Issues who c 0x50 .all s) (hEven : ws.val % 2 = 0) (hNext : hi.val = ws.val + 1)
    (hClean : s.health.errs = []) (hFind : findKey (pairVal who ws hi s) dist s = some p) (hOver : ovfBase ≤ p)
    (hAway : resPos (tEntry p s).result ≠ myPos s) :
    GivesRegs (.lookup who c wd ws dist) who
      ((withW who wd (tEntry p s).result s).status 0x1B 2 (w32 (resPos (tEntry p s).result))) s :=
  regsOf h rfl (by
    rw [withPair_even who ws hi 2 _ _ hEven hNext]
    simp only [pairVal_opened, keyHash_opened, readTables_clean _ _ hClean, findKey_opened, hFind, tEntry_opened,
      Nat.not_lt.mpr hOver, if_false]
    exact if_neg (by simpa [myPos] using hAway)) (((rs0 who s).setW wd _).ret ..)

theorem lookup_failing (h : Issues who c 0x50 .all s) (hEven : ws.val % 2 = 0) (hNext : hi.val = ws.val + 1)
    (hFailed : (readTables (pairVal who ws hi s) dist (opened who s)).1 = true)
    (hFind : findKey (pairVal who ws hi s) dist (readTables (pairVal who ws hi s) dist (opened who s)).2 = none) :
    Answers (.lookup who c wd ws dist) who (fun u => advance who
      (ret who 0x00 3 (w32 (bucket0 (keyHash (pairVal who ws hi s) dist u))) (readTables (pairVal who ws hi s) dist u).2)) s :=
  answersI h rfl (by
    rw [withPair_even who ws hi 2 _ _ hEven hNext]
    simp only [pairVal_opened, hFailed, hFind]
    rfl)

/-! ## Changes of the table -/

theorem insert_inserts (h : Issues who c 0x51 .condOnly s) (hEven : ws.val % 2 = 0) (hNext : hi.val = ws.val + 1)
    (hGood : resultBad (getW who wr s) s = false) :
    Answers (.insert who c ws wr dist static) who (fun u =>
      let x := tblInsert (pairVal who ws hi s) dist static (getW who wr s) (readTables (pairVal who ws hi s) dist u).2
      advance who (ret who x.1 (w32 x.2.1) (w32 x.2.2.1) x.2.2.2)) s :=
  answersI h rfl (by
    rw [withPair_even who ws hi 1 _ _ hEven hNext]
    simp only [getW_opened, resultBad_opened, hGood, pairVal_opened]
    rfl)

theorem delete_deletes (h : Issues who c 0x52 .condOnly s) (hEven : ws.val % 2 = 0) (hNext : hi.val = ws.val + 1) :
    Answers (.delete who c ws dist static) who (fun u =>
      let x := tblDelete (pairVal who ws hi s) dist static (readTables (pairVal who ws hi s) dist u).2
      advance who (ret who x.1 (w32 x.2.1) 0 x.2.2)) s :=
  answersI h rfl (by
    rw [withPair_even who ws hi 1 _ _ hEven hNext]
    simp only [pairVal_opened])

/-- PIN and UNPIN of an entry whose STATIC is the other way (03 R110). -/
theorem pinOp_changes {v : Bool} (hEven : ws.val % 2 = 0) (hNext : hi.val = ws.val + 1) (hClean : s.health.errs = [])
    (hFind : findKey (pairVal who ws hi s) dist s = some p) (hOther : (tEntry p s).static ≠ v) :
    pinOp who ws dist v (opened who s) =
      ret who 0x00 1 0 (setEntry p { tEntry p s with static := v } (opened who s)) := by
  unfold pinOp
  rw [withPair_even who ws hi 1 _ _ hEven hNext]
  simp only [pairVal_opened, readTables_clean _ _ hClean, findKey_opened, hFind, tEntry_opened, if_neg hOther]
  rfl

theorem pin_pins (h : Issues who c 0x54 .condOnly s) (hEven : ws.val % 2 = 0) (hNext : hi.val = ws.val + 1) (hClean : s.health.errs = [])
    (hFind : findKey (pairVal who ws hi s) dist s = some p) (hFree : (tEntry p s).static = false) :
    Answers (.pin who c ws dist) who
      (fun u => advance who (ret who 0x00 1 0 (setEntry p { tEntry p s with static := true } u))) s :=
  answersI h rfl (pinOp_changes hEven hNext hClean hFind (by simp [hFree]))

theorem unpin_unpins (h : Issues who c 0x55 .condOnly s) (hEven : ws.val % 2 = 0) (hNext : hi.val = ws.val + 1)
    (hClean : s.health.errs = []) (hFind : findKey (pairVal who ws hi s) dist s = some p) (hPinned : (tEntry p s).static = true) :
    Answers (.unpin who c ws dist) who
      (fun u => advance who (ret who 0x00 1 0 (setEntry p { tEntry p s with static := false } u))) s :=
  answersI h rfl (pinOp_changes hEven hNext hClean hFind (by simp [hPinned]))

theorem lookup_odd (hOdd : ws.val % 2 = 1) (h : Issues who c 0x50 .all s) :
    GivesRegs (.lookup who c wd ws dist) who (withStatus who 0x02 2 (w32 ws.val) s) s :=
  regsOf h rfl (withPair_odd hOdd ..) ((rs0 who s).ret ..)

theorem insert_odd (hOdd : ws.val % 2 = 1) (h : Issues who c 0x51 .condOnly s) :
    GivesRegs (.insert who c ws wr dist static) who (withStatus who 0x02 1 (w32 ws.val) s) s :=
  regsOf h rfl (withPair_odd hOdd ..) ((rs0 who s).ret ..)

theorem delete_odd (hOdd : ws.val % 2 = 1) (h : Issues who c 0x52 .condOnly s) :
    GivesRegs (.delete who c ws dist static) who (withStatus who 0x02 1 (w32 ws.val) s) s :=
  regsOf h rfl (withPair_odd hOdd ..) ((rs0 who s).ret ..)

end

/-! ## Table jobs -/

section
variable {who : Who} {c : Cond} {q : QRef} {k p : Nat} {region : Fin 4} {errs : List MemErr} {j : TblJob} {s : State}

/-- The issuer's world is read of the conductor. -/
theorem worldOf_of_cond {u v : State} (h : u.cond = v.cond) : worldOf who u = worldOf who v := by
  cases who <;> simp only [worldOf, recWorld, h]

/-- Pending work starts in the issuer's world. -/
theorem worldOf_startPending (op : Nat) (u : State) : worldOf who (startPending who op u) = worldOf who u := by
  unfold startPending
  dsimp only
  exact ((RegStep.refl who _).ret ..).world.trans (worldOf_modCtx ..)

@[simp] theorem popItem_cond (q : Nat) (it : Item) (u : State) : (popItem q it u).cond = u.cond :=
  modQ_cond ..

@[simp] theorem popAll_cond (q n : Nat) (u : State) : (popAll q n u).2.cond = u.cond := by
  induction n generalizing u with
  | zero => rfl
  | succ n ih =>
    unfold popAll
    split
    · rfl
    · exact (ih _).trans (popItem_cond ..)

theorem tload_starts (h : Issues who c 0x56 .condOnly s) (hName : NamesQueue who q k s) (hRegion : region.val < 2)
    (hFree : s.tables.job = none) (hPend : pendFull who s = false) (hHead : (popHead k s).isSome = true) :
    Answers (.tload who c q region) who (fun u =>
      let x := popAll k (queue k s).poppable u
      let v := startPending who 0x56 x.2
      advance who { v with tables := { v.tables with
        job := some { world := worldOf who s, ticket := nextTicket who x.2, region := region.val, items := x.1 } } }) s := by
  have hWorld : worldOf who (startPending who 0x56 (popAll k (queue k s).poppable (opened who s)).2) = worldOf who s := by
    rw [worldOf_startPending, worldOf_of_cond (popAll_cond ..), worldOf_opened]
  refine answersI h rfl ?_
  rw [withQueue_names hName]
  simp only [Nat.not_lt.mpr (Nat.le_of_lt_succ hRegion), opened_keeps, hFree, pendFull_opened, hPend, popHead_opened,
    Option.isNone_eq_false_iff.mpr hHead, queue_opened, hWorld]
  rfl

theorem tscrub_starts (h : Issues who c 0x57 .condOnly s) (hFree : s.tables.job = none) (hPend : pendFull who s = false) :
    Answers (.tscrub who c region) who (fun u =>
      let v := startPending who 0x57 u
      advance who { v with tables := { v.tables with
        job := some { scrub := true, world := worldOf who s, ticket := nextTicket who s, region := region.val } } }) s := by
  refine answersI h rfl ?_
  simp only [opened_keeps, hFree, pendFull_opened, hPend, worldOf_startPending, worldOf_opened, nextTicket_opened]
  rfl

theorem tloadComplete_ends (hAlive : alive s = true) : BecomesThenRecord .tloadComplete s (tloadDone s) :=
  becomesThenRecord rfl (if_pos hAlive)

theorem tscrubComplete_ends (hAlive : alive (meetErrors errs s) = true) :
    BecomesThenRecord (.tscrubComplete errs) s (tscrubDone (meetErrors errs s)) :=
  becomesThenRecord rfl (if_pos hAlive)

theorem agingPass_starts (hOn : cpar 0x0605 s ≠ 0) (hActive : s.twin.standby = false) (hNone : s.tables.agingAt = none) :
    Becomes .agingPass s (startAging s) :=
  becomes rfl (by simp [hOn, hActive, hNone])

theorem agingPass_waits (hOn : cpar 0x0605 s ≠ 0) (hActive : s.twin.standby = false) (hSome : s.tables.agingAt = some p) :
    Becomes .agingPass s { s with tables := { s.tables with agingDue := true } } :=
  becomes rfl (by simp [hOn, hActive, hSome])

theorem agingResume_goesOn (hSome : s.tables.agingAt = some p) :
    Becomes .agingResume s (let u := agePass (2 * s.tables.entries.length + 1) p s
      if u.tables.agingAt.isNone && u.tables.agingDue then startAging { u with tables := { u.tables with agingDue := false } } else u) :=
  becomes rfl (by rw [hSome])

end

/-- Settles O22: each instruction and each event of the table by its own lemma. -/
theorem tableCommands : Obligations.TableCommands :=
  fun _ _ _ _ _ _ _ _ _ _ _ _ _ _ _ =>
    ⟨fun h hEven => lookup_absent h hEven.1 hEven.2, fun h hEven => lookup_here h hEven.1 hEven.2,
     fun h hEven => lookup_elsewhere h hEven.1 hEven.2, fun h hEven => insert_inserts h hEven.1 hEven.2,
     fun h hEven => delete_deletes h hEven.1 hEven.2, fun h hEven => pin_pins h hEven.1 hEven.2,
     fun h hEven => unpin_unpins h hEven.1 hEven.2, fun hOdd => ⟨lookup_odd hOdd, insert_odd hOdd, delete_odd hOdd⟩,
     tload_starts, tscrub_starts, fun hAlive _ _ => tloadComplete_ends hAlive, fun hAlive _ _ => tscrubComplete_ends hAlive,
     agingPass_starts, agingPass_waits, fun hSome _ => agingResume_goesOn hSome,
     fun h hEven => lookup_failing h hEven.1 hEven.2⟩

end Sys2Proof.Machine
end

section
/-! PROOF. The key instructions (04 R136-R142; 13 R418-R433) and the counters (04 R140, R141). -/

namespace Sys2Proof.Machine

@[simp] theorem children_opened (who : Who) (p : CacheE → Bool) (s : State) : children p (opened who s) = children p s := by
  obtain ⟨c, t, e⟩ := opened_eq who s
  rw [e]
  rfl

/-- Outside the life-cycle states in which security instructions are open none of them gets further (13 Table KS-2). -/
theorem withSlot_closed {who : Who} {k : Nat} {use : Option Nat} {body : State → State} {s : State} (h : lcOpen s = false) :
    withSlot who k use body (opened who s) = ret who 0x26 (w32 (lcState s)) 0 (opened who s) := by
  unfold withSlot
  simp only [lcOpen_opened, h, lcState_opened]
  rfl

section
variable {who : Who} {c : Cond} {wd ws : Fin 16} {k : Fin 8192} {q : QRef} {n : Nat} {it : Item} {s : State}

/-! ## KLOAD and KDERIVE -/

theorem kload_stores (h : Issues who c 0x60 .custodian s) (hOpen : lcOpen s = true) (hStored : 8 ≤ k.val) (hName : NamesQueue who q n s)
    (hEmpty : (slot k.val s).occ = false) (hHead : popHead n s = some it) :
    Answers (.kload who c k q) who (fun u =>
      match unwrapRecord k.val it.data (zeroCells it.chain (retireHeld it 0 0x00 (popItem n it u))) with
      | .inl (st, w1) => advance who (ret who st (w32 w1) 0 (zeroCells it.chain (retireHeld it 0 0x00 (popItem n it u))))
      | .inr (key, attr) => advance who (ret who 0x00
          (w32 (slot k.val (modSlot k.val (fun k => { k with key := key, attr := attr, occ := true, rev := false })
            (zeroCells it.chain (retireHeld it 0 0x00 (popItem n it u))))).gen) 0
          (modSlot k.val (fun k => { k with key := key, attr := attr, occ := true, rev := false })
            (zeroCells it.chain (retireHeld it 0 0x00 (popItem n it u)))))) s :=
  answers h rfl (by
    simp only [lcOpen_opened, hOpen, Nat.not_lt.mpr hStored]
    simp only [withQueue_names hName, slot_opened, hEmpty, popHead_opened, hHead]
    rcases hRecord : unwrapRecord k.val it.data (zeroCells it.chain (retireHeld it 0 0x00 (popItem n it (opened who s)))) with
      ⟨st, w1⟩ | ⟨key, attr⟩
    · simp only [stOK, hRecord]
      rfl
    · simp only [stOK, hRecord]
      rfl)

theorem kderive_derives (h : Issues who c 0x61 .condOnly s) (hSlot : SlotOpen who k.val (some 11) s)
    (hIdx : (getW who ws s).toNat < 131072) (hUse : (roster (getW who ws s).toNat s).use_ = 1) :
    Answers (.kderive who c wd ws k) who (fun u =>
      match needKey (getW who ws s).toNat k.val (roster (getW who ws s).toNat s) u with
      | (.have_ i _ derived, v) =>
        advance who (ret who 0x00 (if derived then 0 else 1) (w32 (slot k.val v).gen) (setW who wd (w32 i) v))
      | (.revoked, v) => advance who (ret who 0x20 0 0 v)
      | (.full, v) => advance who (ret who 0x04 0xA1 0 v)) s :=
  answers h rfl (by
    beta_reduce
    rw [withSlot_open hSlot]
    simp only [getW_opened, roster_opened, Nat.not_le.mpr hIdx, hUse]
    rcases needKey (getW who ws s).toNat k.val (roster (getW who ws s).toNat s) (opened who s) with ⟨need, v⟩
    cases need <;> rfl)

/-! ## KREVOKE, KQUERY and KZERO -/

/-- A cache entry that was derived from slot k as it stands. -/
def derivedFrom (k : Nat) (s : State) (e : CacheE) : Bool := decide (e.slot = k ∧ e.pgen = (slot k s).gen)

theorem krevoke_empties (h : Issues who c 0x62 .custodian s) (hSlot : SlotOpen who k.val none s) (hOcc : (slot k.val s).occ = true) :
    Answers (.krevoke who c k) who (fun u => advance who (ret who 0x00
      (w32 ((s.sec.cache.filter (fun kv => kv.2.state = 1 && derivedFrom k.val s kv.2)).map (·.2)).length)
      (w32 (((s.sec.cache.filter (fun kv => kv.2.state = 1 && derivedFrom k.val s kv.2)).map (·.2)).filter (fun e => 0 < e.inuse)).length)
      (modSlot k.val (fun k => { k with key := 0, gen := nextGen k.gen, occ := false, rev := true })
        (revokeEntries (derivedFrom k.val s) u)))) s :=
  answersI h rfl (by
    have hChild : derivedFrom k.val s = fun e => decide (e.slot = k.val) && decide (e.pgen = (slot k.val s).gen) :=
      funext fun e => Bool.decide_and ..
    rw [withSlot_open hSlot, hChild]
    simp only [slot_opened, hOcc, opened_keeps]
    rfl)

theorem krevoke_refused (h : Issues who c 0x62 .custodian s) (hSlot : SlotOpen who k.val none s) (hEmpty : (slot k.val s).occ = false) :
    GivesRegs (.krevoke who c k) who (withStatus who 0x04 0xA2 0 s) s :=
  regsOf h rfl (by
    rw [withSlot_open hSlot]
    simp only [slot_opened, hEmpty]
    rfl) ((rs0 who s).ret ..)

theorem kquery_reads (h : Issues who c 0x63 .condOnly s) (hSlot : SlotOpen who k.val none s) :
    GivesRegs (.kquery who c wd k) who ((withW who wd (slot k.val s).attr s).status 0x00
      (w32 ((slot k.val s).gen + (if (slot k.val s).occ then 65536 else 0) + (if (slot k.val s).rev then 131072 else 0)))
      (w32 (children (fun e => e.slot = k.val && (0 < e.inuse || e.state = 2)) s))) s :=
  regsOf h rfl (by
    simp only [lcOpen_opened, hSlot.open_, Nat.not_lt.mpr hSlot.stored, slot_opened, withSlot_open hSlot, ite_self, children_opened]
    rfl) (((rs0 who s).setW wd _).ret ..)

theorem kzero_empties (h : Issues who c 0x66 .custodian s) (hSlot : SlotOpen who k.val none s) :
    Answers (.kzero who c k) who (fun u => advance who (ret who 0x00 1
      (w32 (children (fun e => e.slot = k.val && e.state = 2) (kzeroOp k.val u))) (kzeroOp k.val u))) s :=
  answersI h rfl (by
    rw [withSlot_open hSlot]
    rfl)

theorem kzeroAll_empties (h : Issues who c 0x66 .custodian s) (hOpen : lcOpen s = true) :
    Answers (.kzeroAll who c) who (fun u => advance who (ret who 0x00 8184
      (w32 (children (fun e => e.state = 2) (kzeroAllOp u))) (kzeroAllOp u))) s :=
  answersI h rfl (by
    simp only [lcOpen_opened, hOpen]
    rfl)

/-! ## Closed life-cycle states -/

theorem kload_closed (hClosed : lcOpen s = false) (h : Issues who c 0x60 .custodian s) :
    GivesRegs (.kload who c k q) who (withStatus who 0x26 (w32 (lcState s)) 0 s) s :=
  regsOf h rfl (by
    simp only [lcOpen_opened, hClosed, lcState_opened]
    rfl) ((rs0 who s).ret ..)

theorem kderive_closed (hClosed : lcOpen s = false) (h : Issues who c 0x61 .condOnly s) :
    GivesRegs (.kderive who c wd ws k) who (withStatus who 0x26 (w32 (lcState s)) 0 s) s :=
  regsOf h rfl (withSlot_closed hClosed) ((rs0 who s).ret ..)

theorem krevoke_closed (hClosed : lcOpen s = false) (h : Issues who c 0x62 .custodian s) :
    GivesRegs (.krevoke who c k) who (withStatus who 0x26 (w32 (lcState s)) 0 s) s :=
  regsOf h rfl (withSlot_closed hClosed) ((rs0 who s).ret ..)

theorem kquery_closed (hClosed : lcOpen s = false) (h : Issues who c 0x63 .condOnly s) :
    GivesRegs (.kquery who c wd k) who (withStatus who 0x26 (w32 (lcState s)) 0 s) s :=
  regsOf h rfl (by
    simp only [lcOpen_opened, hClosed, lcState_opened]
    rfl) ((rs0 who s).ret ..)

theorem kzero_closed (hClosed : lcOpen s = false) (h : Issues who c 0x66 .custodian s) :
    GivesRegs (.kzero who c k) who (withStatus who 0x26 (w32 (lcState s)) 0 s) s :=
  regsOf h rfl (withSlot_closed hClosed) ((rs0 who s).ret ..)

end

/-- Settles O25: each instruction by its own lemma, in an open life-cycle state and in a closed one. -/
theorem keyInstructions : Obligations.KeyInstructions :=
  fun _ _ _ _ _ _ _ _ _ =>
    ⟨kload_stores, kderive_derives, krevoke_empties, krevoke_refused, kquery_reads, kzero_empties, kzeroAll_empties,
     fun hClosed => ⟨kload_closed hClosed, kderive_closed hClosed, krevoke_closed hClosed, kquery_closed hClosed, kzero_closed hClosed⟩⟩

/-! ## A counter of a node whose roster entry fails its check -/

/-- A chip whose custodian may set counters, and whose roster entry 0, of a node in use, holds an error that its check finds. -/
def failingNode : State :=
  { State.reset with
    time := { State.reset.time with coreOn := true }
    boot := { State.reset.boot with phase := 6 }
    sec := { State.reset.sec with fused := 1 }
    host := { State.reset.host with hifMax := 3 }
    roster := [(0, { use_ := 1 })]
    health := { State.reset.health with errs := [{ region := 0, place := 0, kind := .check }] } }

/-- The status that an outcome leaves the custodian. -/
def custodianStatus (o : Host.Outcome State Fault Refusal) : Word :=
  match o with
  | .next t => getW (.ring .custodian) 0 t
  | _ => 0

theorem failingNode_issues : Issues (.ring .custodian) .always 0x64 .custodian failingNode := by
  constructor <;> decide +kernel

/-- CNTSET reads the entry first (07 R236): it is quarantined, and the operand is out of range. -/
theorem cntsetOut_failingNode : custodianStatus (exec (.cntsetOut (.ring .custodian) .always 0 0) failingNode) = 0x02 := by
  decide +kernel

/-- Refutes O26: CNTSET reads the node's roster entry, so an entry in use whose check fails is quarantined first (07 R236) and the
instruction answers ST_RANGE, where the claim has ST_OK. -/
theorem not_counterCommands : ¬ Obligations.CounterCommands := by
  intro hClaim
  obtain ⟨hSet, _⟩ := hClaim (.ring .custodian) .always 0 0 (.imm 0) 0 0 failingNode
  obtain ⟨hOut, _⟩ := hSet failingNode_issues (by decide +kernel) (by decide +kernel) (by decide +kernel)
  have hStatus := cntsetOut_failingNode
  rw [hOut] at hStatus
  exact absurd hStatus (by decide +kernel)

end Sys2Proof.Machine
end

section
/-! PROOF. SETP, GETP and SETUP (02 R62-R64; 03 R113, R114, R116; 15 R509). -/

namespace Sys2Proof.Machine

/-! ## What GETP reads -/

/-- The state with another conductor and another mark for the next mirrored word: all that opening a record changes. -/
def withConductor (c : CondS) (b : Bool) (s : State) : State := { s with cond := c, twin := { s.twin with mirNext := b } }

theorem opened_eq_withConductor (who : Who) (s : State) : ∃ c b, opened who s = withConductor c b s := by
  unfold opened
  split
  · exact ⟨_, _, rfl⟩
  · exact ⟨s.cond, s.twin.mirNext, rfl⟩

/-- Waits that open read neither the conductor nor the mark. -/
theorem openWaits_withConductor (c : CondS) (b : Bool) (s : State) : openWaits (withConductor c b s) = withConductor c b (openWaits s) := by
  have hStep : ∀ (u : State) (n : Fin 12), openWait (withConductor c b u) n = withConductor c b (openWait u n) := by
    intro u n
    have hSlice : slice n (withConductor c b u) = slice n u := rfl
    have hAdmitted : resAdmitted n (withConductor c b u) = resAdmitted n u := rfl
    have hTb : tbNs (withConductor c b u) = tbNs u := rfl
    unfold openWait
    rw [hSlice]
    split
    · rfl
    · next w _ =>
      dsimp only
      rw [hAdmitted, hTb]
      cases resAdmitted n u <;> cases w.asked || decide (tbNs u < w.openAt) <;> rfl
  unfold openWaits
  induction sliceIdx generalizing s with
  | nil => rfl
  | cons n l ih => rw [List.foldl_cons, List.foldl_cons, hStep, ih]

section
variable (c : CondS) (b : Bool) (s : State)

theorem resOf_withConductor (n : Fin 12) : resOf n (withConductor c b s) = resOf n s := rfl

theorem resAll_withConductor : resAll (withConductor c b s) = resAll s := rfl

theorem lanesHeld_withConductor (n : Fin 12) : lanesHeld n (withConductor c b s) = lanesHeld n s := rfl

theorem freeLanes_withConductor : freeLanes (withConductor c b s) = freeLanes s := rfl

theorem usableLanes_withConductor : usableLanes (withConductor c b s) = usableLanes s := rfl

theorem route_withConductor (p : Nat) : route p (withConductor c b s) = route p s := rfl

theorem reachedV2_withConductor : reachedV2 (withConductor c b s) = reachedV2 s := rfl

theorem routes_withConductor : routes (withConductor c b s) = routes s := by
  simp only [routes, route_withConductor]

end

@[simp] theorem devValue_opened (who : Who) (k sc : Nat) (s : State) : devValue k sc (opened who s) = devValue k sc s := by
  obtain ⟨c, b, e⟩ := opened_eq_withConductor who s
  rw [e]
  unfold devValue
  split
  case h_14 => simp only [openWaits_withConductor, resOf_withConductor, lanesHeld_withConductor]
  case h_15 => simp only [openWaits_withConductor, resAll_withConductor, freeLanes_withConductor, usableLanes_withConductor]
  case h_47 => rw [reachedV2_withConductor]; rfl
  case h_48 => rw [routes_withConductor]
  all_goals rfl

/-! ## SETP -/

section
variable {who : Who} {c : Cond} {id : BitVec 12} {scope ws wd : Fin 16} {imm : Word} {d : ParamDef} {s : State}

/-- The value of a SETP: a register's, or the immediate when no register is named (03 R113). -/
theorem setpValue_opened (who : Who) (ws : Fin 16) (imm : Word) (s : State) :
    (if ws = 0 then imm else getW who ws (opened who s)) = if ws = 0 then imm else getW who ws s := by
  rw [getW_opened]

theorem setp_answers (h : Writes who c id.toNat scope.val (if ws = 0 then imm else getW who ws s) s) (hDef : paramDef id.toNat = some d) :
    SetsAs (.setp who c id scope ws imm) who
      (fun u => setpEffect who d id.toNat scope.val (if ws = 0 then imm else getW who ws s) u) s :=
  sets_as h hDef _ (setpValue_opened ..) rfl rfl

/-- The same for a parameter whose rule only takes effect. -/
theorem setp_sets {k : Nat} {f : State → State} (h : Writes who c id.toNat scope.val (if ws = 0 then imm else getW who ws s) s)
    (hId : id.toNat = k)
    (hRule : ∀ d, paramDef k = some d → ∀ u, setpEffect who d k scope.val (if ws = 0 then imm else getW who ws s) u = pOk (f u)) :
    Sets (.setp who c id scope ws imm) who f s := by
  obtain ⟨d, hDef, _⟩ := h.accepted
  exact sets_as (rule := fun u => (0, 0, f u)) h hDef _ (setpValue_opened ..) rfl (hId ▸ hRule d (hId ▸ hDef) _)

/-- A parameter's class, where its definition is known by evaluation. -/
theorem cls_of_paramDef {k : Nat} {p : PClass} (hClass : (paramDef k).map (·.cls) = some p) (h : paramDef k = some d) : d.cls = p := by
  rw [h] at hClass
  exact Option.some.inj hClass

theorem setByClass_latched {k sc : Nat} {v : Word} {u : State} (h : d.cls = .latched) : setByClass d k sc v u = setPend k sc (some v) u := by
  simp only [setByClass, h]

theorem setByClass_sealed {k sc : Nat} {v : Word} {u : State} (h : d.cls = .sealed_) : setByClass d k sc v u =
    { setPar k sc v u with par := { (setPar k sc v u).par with sealedDone := k :: (setPar k sc v u).par.sealedDone } } := by
  simp only [setByClass, h]

theorem setByClass_plain {k sc : Nat} {v : Word} {u : State} (hLatched : d.cls ≠ .latched) (hSealed : d.cls ≠ .sealed_) :
    setByClass d k sc v u = setPar k sc v u := by
  unfold setByClass
  split
  · exact absurd ‹_› hLatched
  · exact absurd ‹_› hSealed
  · rfl

theorem setp_immediate (h : Writes who c id.toNat scope.val (if ws = 0 then imm else getW who ws s) s) (hId : id.toNat = 0x0001) :
    Sets (.setp who c id scope ws imm) who (setPar id.toNat scope.val (if ws = 0 then imm else getW who ws s)) s :=
  setp_sets h hId fun d hDef u => by
    have hClass : d.cls = .imm := cls_of_paramDef (by decide +kernel) hDef
    rw [hId]
    exact congrArg pOk (setByClass_plain (by simp [hClass]) (by simp [hClass]))

theorem setp_slotLatched (h : Writes who c id.toNat scope.val (if ws = 0 then imm else getW who ws s) s) (hId : id.toNat = 0x0101) :
    Sets (.setp who c id scope ws imm) who (setPend id.toNat scope.val (some (if ws = 0 then imm else getW who ws s))) s :=
  setp_sets h hId fun d hDef u => by
    have hClass : d.cls = .latched := cls_of_paramDef (by decide +kernel) hDef
    rw [hId]
    exact congrArg pOk (setByClass_latched hClass)

theorem setp_nextStart (h : Writes who c id.toNat scope.val (if ws = 0 then imm else getW who ws s) s) (hId : id.toNat = 0x0011) :
    Sets (.setp who c id scope ws imm) who (setPar id.toNat scope.val (if ws = 0 then imm else getW who ws s)) s :=
  setp_sets h hId fun d hDef u => by
    have hClass : d.cls = .next := cls_of_paramDef (by decide +kernel) hDef
    rw [hId]
    exact congrArg pOk (setByClass_plain (by simp [hClass]) (by simp [hClass]))

theorem setp_sealed (h : Writes who c id.toNat scope.val (if ws = 0 then imm else getW who ws s) s) (hId : id.toNat = 0x0830) :
    Sets (.setp who c id scope ws imm) who (fun u =>
      { setPar id.toNat scope.val (if ws = 0 then imm else getW who ws s) u with
        par := { (setPar id.toNat scope.val (if ws = 0 then imm else getW who ws s) u).par with
          sealedDone := id.toNat :: u.par.sealedDone } }) s :=
  setp_sets h hId fun d hDef u => by
    have hClass : d.cls = .sealed_ := cls_of_paramDef (by decide +kernel) hDef
    rw [hId]
    exact congrArg pOk (setByClass_sealed hClass)

/-! ## GETP -/

@[simp] theorem getpValue_opened (who : Who) (d : ParamDef) (k sc : Nat) (s : State) :
    getpValue d k sc (opened who s) = getpValue d k sc s := by
  simp only [getpValue, devValue_opened, par_opened, count, opened_keeps]

@[simp] theorem pendDiffers_opened (who : Who) (k sc : Nat) (s : State) : pendDiffers k sc (opened who s) = pendDiffers k sc s := by
  obtain ⟨c, t, e⟩ := opened_eq who s
  rw [e]
  rfl

theorem getp_reads (h : Issues who c 0x81 .all s) (hDef : paramDef id.toNat = some d) (hScope : scopeFail d id.toNat scope.val = none)
    (hAllowed : getpDenied who scope.val = false) :
    GivesRegs (.getp who c wd id scope) who ((withW who wd (getpValue d id.toNat scope.val s) s).status 0x00
      (if pendDiffers id.toNat scope.val s then 1 else 0) 0) s :=
  regsOf h rfl (by
    simp only [hDef, hScope, hAllowed, getpValue_opened, pendDiffers_opened]
    cases pendDiffers id.toNat scope.val s <;> rfl) (((rs0 who s).setW wd _).ret ..)

theorem getp_unassigned (h : Issues who c 0x81 .all s) (hDef : paramDef id.toNat = none) :
    GivesRegs (.getp who c wd id scope) who (withStatus who 0x02 1 0 s) s :=
  regsOf h rfl (by
    simp only [hDef]
    rfl) ((rs0 who s).ret ..)

theorem getp_denied (h : Issues who c 0x81 .all s) (hDef : paramDef id.toNat = some d) (hScope : scopeFail d id.toNat scope.val = none)
    (hDenied : getpDenied who scope.val = true) :
    GivesRegs (.getp who c wd id scope) who (withStatus who 0x04 0xFF01 0x81 s) s :=
  regsOf h rfl (by
    simp only [hDef, hScope, hDenied]
    rfl) ((rs0 who s).ret ..)

end

/-! ## SETUP -/

section
variable {who : Who} {c : Cond} {q : QRef} {k t off : Nat} {w : World} {it : Item} {s : State}

/-- What Table FM-1 keeps for the conductor no slice sequencer executes. -/
theorem Issues.conductor {op : Nat} (h : Issues who c op .condOnly s) (k : Fin 12) : who ≠ .slice k := by
  rintro rfl
  exact absurd h.permitted (by simp [permFail])

/-- A conductor's context is read of the conductor. -/
theorem ctx_of_cond {u v : State} (hRing : ∀ k, who ≠ .slice k) (h : u.cond = v.cond) : ctx who u = ctx who v := by
  cases who with
  | slice k => exact absurd rfl (hRing k)
  | ring w => cases w <;> simp only [ctx, worldOf, worldCtx, h]
  | routine => simp only [ctx, worldOf, recWorld, worldCtx, h]

theorem setup_parses (h : Issues who c 0x83 .condOnly s) (hName : NamesQueue who q k s) (hFree : s.host.setup = none)
    (hPend : pendFull who s = false) (hHead : popHead k s = some it) :
    Answers (.setup who c q) who (fun u =>
      let v := popItem k it u
      let x := startPending who 0x83 v
      advance who { x with host := { x.host with
        setup := some (worldOf who s, nextTicket who s, it), setupBad := checkBlock (worldOf who s) it.data v } }) s := by
  have hWorld : worldOf who (popItem k it (opened who s)) = worldOf who s := (worldOf_of_cond (popItem_cond ..)).trans (worldOf_opened ..)
  have hTicket : nextTicket who (popItem k it (opened who s)) = nextTicket who s :=
    (congrArg Ctx.nextTicket (ctx_of_cond h.conductor (popItem_cond ..))).trans (nextTicket_opened ..)
  refine answersI h rfl ?_
  rw [withQueue_names hName]
  simp only [opened_keeps, hFree, pendFull_opened, hPend, popHead_opened, hHead, hWorld, hTicket]
  rfl

theorem setup_empty (h : Issues who c 0x83 .condOnly s) (hName : NamesQueue who q k s) (hFree : s.host.setup = none)
    (hPend : pendFull who s = false) (hHead : popHead k s = none) :
    GivesRegs (.setup who c q) who (withStatus who 0x11 0 0 s) s :=
  regsOf h rfl (by
    rw [withQueue_names hName]
    simp only [opened_keeps, hFree, pendFull_opened, hPend, popHead_opened, hHead]
    rfl) ((rs0 who s).ret ..)

theorem setup_busy (h : Issues who c 0x83 .condOnly s) (hName : NamesQueue who q k s) (hBusy : s.host.setup.isSome = true) :
    GivesRegs (.setup who c q) who (withStatus who 0x04 0x60 0 s) s :=
  regsOf h rfl (by
    rw [withQueue_names hName]
    simp only [opened_keeps, hBusy]
    rfl) ((rs0 who s).ret ..)

/-- The state in which a block has left the parser. -/
def parserFreed (it : Item) (s : State) : State :=
  retireHeld it 0 stOK { s with host := { s.host with setup := none, setupBad := none } }

/-- A block that is refused at an offset. -/
def blockFails (w : World) (t off : Nat) (u : State) : State := endPending (.ring w) t 0x83 0x39 (w32 off) 0 (partFailed u)

theorem setupComplete_refused (hAlive : alive s = true) (hSetup : s.host.setup = some (w, t, it)) (hBad : s.host.setupBad = some off) :
    BecomesThenRecord .setupComplete s (blockFails w t off (parserFreed it s)) :=
  becomesThenRecord rfl (by
    simp only [setupParsed, hSetup, hAlive, hBad]
    rfl)

theorem setupComplete_applies (hAlive : alive s = true) (hSetup : s.host.setup = some (w, t, it)) (hGood : s.host.setupBad = none) :
    BecomesThenRecord .setupComplete s (match applyBlock w it.data (parserFreed it s) with
      | (none, u) => endPending (.ring w) t 0x83 0x00 0 0 (partApplied it.data u)
      | (some off, u) => blockFails w t off u) :=
  becomesThenRecord rfl (by
    rcases hApply : applyBlock w it.data (parserFreed it s) with ⟨off | off, u⟩ <;>
    · unfold parserFreed at hApply
      simp only [setupParsed, hSetup, hAlive, hGood, hApply, Bool.not_true, Option.isSome_none, Bool.false_eq_true, if_false]
      rfl)

end

/-- Settles O27: SETP by its parameter's rule or class, GETP, SETUP and its end, each by its own lemma. -/
theorem parametersAndSettings : Obligations.ParametersAndSettings :=
  ⟨fun _ _ _ _ _ _ _ _ _ => ⟨setp_answers, setp_immediate, setp_nextStart, setp_slotLatched, setp_sealed, getp_reads, getp_unassigned,
     getp_denied⟩,
   fun _ _ _ _ _ _ _ _ _ => ⟨fun h hName => ⟨setup_parses h hName, setup_empty h hName, setup_busy h hName⟩,
     fun hAlive hSetup => ⟨setupComplete_refused hAlive hSetup, setupComplete_applies hAlive hSetup⟩⟩⟩

end Sys2Proof.Machine
end

section
/-! PROOF. The sequencer parameters (02 R46, R66, R70, R71). -/

namespace Sys2Proof.Machine

theorem scopeSl_val (n : Fin 12) : scopeSl n.val = n := Fin.ext (Nat.mod_eq_of_lt n.isLt)

@[simp] theorem inFeout_opened (who : Who) (n : Fin 12) (s : State) : inFeout n (opened who s) = inFeout n s := by
  simp [inFeout]

@[simp] theorem ownStartable_opened (who : Who) (n : Fin 12) (s : State) : ownStartable n (opened who s) = ownStartable n s := by
  simp [ownStartable]

/-! ## What the control of a sequencer does, by its state -/

section
variable {n : Fin 12} {v : Nat} {s : State}

/-- The slice's sequencer runs or waits. -/
def SeqBusy (n : Fin 12) (s : State) : Prop := (seq n s).state = .running ∨ (seq n s).state = .blocked

theorem not_seqBusy (hRun : (seq n s).state ≠ .running) (hBlock : (seq n s).state ≠ .blocked) : ¬ SeqBusy n s :=
  fun h => h.elim hRun hBlock

theorem inFeout_idle (h : ¬ SeqBusy n s) : inFeout n s = false := by
  have hBlock : (seq n s).state ≠ .blocked := fun hb => h (.inr hb)
  simp [inFeout, hBlock]

theorem hostHalt_feout (h : inFeout n s = true) : hostHalt n v s = modSeq n (fun q => { q with haltDue := v }) s := by
  simp [hostHalt, h]

theorem hostHalt_busy (h : SeqBusy n s) (hOut : inFeout n s = false) : hostHalt n v s = haltSlice n 8 0x00 0 false s := by
  simp only [SeqBusy] at h
  simp [hostHalt, hOut, h]
  rfl

theorem hostHalt_idle (h : ¬ SeqBusy n s) : hostHalt n v s = s := by
  have hOut := inFeout_idle h
  simp only [SeqBusy] at h
  simp [hostHalt, hOut, h]

theorem seqStart_starts (h : ¬ SeqBusy n s) (hOn : (slice n s).offline = false) (hOwn : ownStartable n s = true) :
    seqStart n s = pOk (startSeq n (par 0x0012 n.val s) (par 0x0011 n.val s) s) := by
  simp only [SeqBusy] at h
  simp [seqStart, startOwn, h, hOn, hOwn]

theorem seqStart_busy (h : SeqBusy n s) : seqStart n s = pRef 1 s := by
  simp only [SeqBusy] at h
  simp [seqStart, h]

theorem seqRestart_feout (hOn : (slice n s).offline = false) (hOwn : ownStartable n s = true) (hIn : inFeout n s = true) :
    seqRestart n s = pOk (modSeq n (fun q => { q with haltDue := 3 }) s) := by
  simp [seqRestart, hOn, hOwn, hIn, hostHalt_feout hIn]

theorem seqRestart_out (hOn : (slice n s).offline = false) (hOwn : ownStartable n s = true) (hOut : inFeout n s = false) :
    seqRestart n s = pOk (startOwn n (hostHalt n 3 s)) := by
  simp [seqRestart, hOn, hOwn, hOut]

theorem startOwn_starts (hOwn : ownStartable n s = true) : startOwn n s = startSeq n (par 0x0012 n.val s) (par 0x0011 n.val s) s :=
  if_pos hOwn

end

/-! ## The parameters -/

section
variable {who : Who} {c : Cond} {n : Fin 12} {s : State}

theorem seqBusy_opened : SeqBusy n (opened who s) ↔ SeqBusy n s := by
  simp only [SeqBusy, seq_opened]

/-- SEQ.CTRL as its SETP gives it. -/
theorem setpEffect_seqCtrl (d : ParamDef) (v : Word) (u : State) : setpEffect who d 0x0010 n.val v u = seqCtrl n v.toNat u := by
  show seqCtrl (scopeSl n.val) v.toNat u = _
  rw [scopeSl_val]

theorem setpEffect_seqHandover (d : ParamDef) (v : Word) (u : State) :
    setpEffect who d 0x0015 n.val v u = seqHandover n (decide (v.toNat = 1)) u := by
  show seqHandover (scopeSl n.val) (decide (v.toNat = 1)) u = _
  rw [scopeSl_val]

theorem seqStart_sets (h : Writes who c 0x0010 n.val 1 s) (hRun : (seq n s).state ≠ .running) (hBlock : (seq n s).state ≠ .blocked)
    (hOn : (slice n s).offline = false) (hOwn : ownStartable n s = true) :
    Sets (.seqStart who c n) who (startSeq n (par 0x0012 n.val s) (par 0x0011 n.val s)) s :=
  sets_rule h rfl fun _ => by
    rw [setpEffect_seqCtrl]
    have hStart := seqStart_starts (s := opened who s) (n := n) (seqBusy_opened.not.mpr (not_seqBusy hRun hBlock)) (by simpa using hOn)
      (by simpa using hOwn)
    rwa [par_opened, par_opened] at hStart

theorem seqStart_refused (h : Writes who c 0x0010 n.val 1 s) (hBusy : SeqBusy n s) :
    SetsAs (.seqStart who c n) who (fun u => (0x04, 1, u)) s :=
  setsAs_rule h rfl fun _ => by
    rw [setpEffect_seqCtrl]
    exact seqStart_busy (seqBusy_opened.mpr hBusy)

theorem seqHalt_halts (h : Writes who c 0x0010 n.val 2 s) (hBusy : SeqBusy n s) (hOut : inFeout n s = false) :
    Sets (.seqHalt who c n) who (haltSlice n 8 0x00 0 false) s :=
  sets_rule h rfl fun _ => by
    rw [setpEffect_seqCtrl]
    exact congrArg pOk (hostHalt_busy (seqBusy_opened.mpr hBusy) (by simpa using hOut))

theorem seqHalt_due (h : Writes who c 0x0010 n.val 2 s) (hIn : inFeout n s = true) :
    Sets (.seqHalt who c n) who (modSeq n (fun q => { q with haltDue := 2 })) s :=
  sets_rule h rfl fun _ => by
    rw [setpEffect_seqCtrl]
    exact congrArg pOk (hostHalt_feout (by simpa using hIn))

theorem seqHalt_idle (h : Writes who c 0x0010 n.val 2 s) (hRun : (seq n s).state ≠ .running) (hBlock : (seq n s).state ≠ .blocked) :
    Sets (.seqHalt who c n) who id s :=
  sets_rule h rfl fun _ => by
    rw [setpEffect_seqCtrl]
    exact congrArg pOk (hostHalt_idle (seqBusy_opened.not.mpr (not_seqBusy hRun hBlock)))

theorem seqRestart_idle (h : Writes who c 0x0010 n.val 3 s) (hRun : (seq n s).state ≠ .running) (hBlock : (seq n s).state ≠ .blocked)
    (hOn : (slice n s).offline = false) (hOwn : ownStartable n s = true) :
    Sets (.seqRestart who c n) who (startSeq n (par 0x0012 n.val s) (par 0x0011 n.val s)) s :=
  sets_rule h rfl fun _ => by
    have hIdle : ¬ SeqBusy n (opened who s) := seqBusy_opened.not.mpr (not_seqBusy hRun hBlock)
    have hOwn' : ownStartable n (opened who s) = true := by simpa using hOwn
    rw [setpEffect_seqCtrl]
    show seqRestart n (opened who s) = _
    rw [seqRestart_out (by simpa using hOn) hOwn' (inFeout_idle hIdle), hostHalt_idle hIdle, startOwn_starts hOwn', par_opened, par_opened]

theorem seqRestart_halts (h : Writes who c 0x0010 n.val 3 s) (hBusy : SeqBusy n s) (hOn : (slice n s).offline = false)
    (hOwn : ownStartable n s = true) (hOut : inFeout n s = false) :
    Sets (.seqRestart who c n) who (fun u => startOwn n (haltSlice n 8 0x00 0 false u)) s :=
  sets_rule h rfl fun _ => by
    have hOut' : inFeout n (opened who s) = false := by simpa using hOut
    rw [setpEffect_seqCtrl]
    show seqRestart n (opened who s) = _
    rw [seqRestart_out (by simpa using hOn) (by simpa using hOwn) hOut', hostHalt_busy (seqBusy_opened.mpr hBusy) hOut']

theorem seqRestart_due (h : Writes who c 0x0010 n.val 3 s) (hOn : (slice n s).offline = false) (hOwn : ownStartable n s = true)
    (hIn : inFeout n s = true) : Sets (.seqRestart who c n) who (modSeq n (fun q => { q with haltDue := 3 })) s :=
  sets_rule h rfl fun _ => by
    rw [setpEffect_seqCtrl]
    exact seqRestart_feout (by simpa using hOn) (by simpa using hOwn) (by simpa using hIn)

theorem seqRestart_refused (h : Writes who c 0x0010 n.val 3 s) (hOn : (slice n s).offline = false) (hOwn : ownStartable n s = false) :
    SetsAs (.seqRestart who c n) who (fun u => (0x04, 2, u)) s :=
  setsAs_rule h rfl fun _ => by
    rw [setpEffect_seqCtrl]
    show seqRestart n (opened who s) = _
    simp [seqRestart, hOn, hOwn]
    rfl

theorem seqHandover_arms (h : Writes who c 0x0015 n.val 1 s)
    (hStart : startable_ (par 0x0014 n.val s).toNat (par 0x0013 n.val s).toNat = true) :
    Sets (.seqHandover who c n true) who (modSeq n (fun q => { q with handover := true, rescan := false })) s :=
  sets_rule h rfl fun _ => by
    rw [setpEffect_seqHandover]
    show (if startable_ (par 0x0014 n.val (opened who s)).toNat (par 0x0013 n.val (opened who s)).toNat then _ else _) = _
    rw [par_opened, par_opened, if_pos hStart]

theorem seqHandover_disarms (h : Writes who c 0x0015 n.val 0 s) :
    Sets (.seqHandover who c n false) who (modSeq n (fun q => { q with handover := false, rescan := false })) s :=
  sets_rule h rfl fun _ => by
    rw [setpEffect_seqHandover]
    rfl

end

/-- Settles O28: each write by its own lemma, over the state its sequencer is in. -/
theorem sequencerControl : Obligations.SequencerControl :=
  fun _ _ _ _ =>
    ⟨seqStart_sets, seqStart_refused, fun h hBusy => ⟨seqHalt_halts h hBusy, seqHalt_due h⟩, seqHalt_idle, seqRestart_idle,
     fun h hBusy hOn hOwn => ⟨seqRestart_halts h hBusy hOn hOwn, seqRestart_due h hOn hOwn⟩, seqRestart_refused, seqHandover_arms,
     seqHandover_disarms⟩

end Sys2Proof.Machine
end

section
/-! PROOF. The radio parameters with rules of their own (08 R262; 09 R290, R308, R313). -/

namespace Sys2Proof.Machine

/-! ## Profiles -/

section
variable {who : Who} {c : Cond} {idx : Fin 256} {dist : Bool} {s : State}

/-- The profile slot that a commit names. -/
def profSlot (idx : Fin 256) (dist : Bool) : Nat := idx.val + (if dist then 256 else 0)

theorem profSlot_lt (idx : Fin 256) (dist : Bool) : profSlot idx dist < 512 := by
  have hIdx := idx.isLt
  unfold profSlot
  split <;> omega

/-- OM.PROF_COMMIT as its SETP gives it. -/
def profRule (n : Nat) (u : State) : PRes := ((profCommit n u).1, if (profCommit n u).1 = stRANGE then 2 else 0, (profCommit n u).2)

theorem setpEffect_profCommit (d : ParamDef) (n : Nat) (hn : n < 4294967296) (u : State) :
    setpEffect who d 0x034F 15 (w32 n) u = profRule n u := by
  show profRule (w32 n).toNat u = _
  rw [toNat_w32, Nat.mod_eq_of_lt hn]

@[simp] theorem stagedProfile_opened (who : Who) (s : State) : stagedProfile (opened who s) = stagedProfile s := by
  simp [stagedProfile]

theorem profRule_writes {u : State} {k : Nat} (hSlot : k < 512) (hGood : profileOk (stagedProfile u) = true) :
    profRule k u = pOk (modProfile k (fun x => {
      cur := stagedProfile u, prev := if x.cur = [] then x.prev else x.cur, gen := (x.gen + 1) % 256 }) u) := by
  have hOp : k / 4096 % 4 = 0 := by omega
  have hForm : k / 16384 = 0 ∧ k / 512 % 8 = 0 := by omega
  have hIdx : k % 512 = k := by omega
  simp [profRule, profCommit, hOp, hForm, hIdx, hGood]
  rfl

theorem profRule_refuses {u : State} {k : Nat} (hSlot : k < 512) (hBad : profileOk (stagedProfile u) = false) :
    profRule k u = (0x02, 2, u) := by
  have hOp : k / 4096 % 4 = 0 := by omega
  have hForm : k / 16384 = 0 ∧ k / 512 % 8 = 0 := by omega
  simp [profRule, profCommit, hOp, hForm, hBad]
  rfl

theorem profRule_invalidates {u : State} {k : Nat} (hSlot : k < 512) :
    profRule (k + 4096) u = pOk (modProfile k (fun x => { cur := [], prev := [], gen := (x.gen + 1) % 256 }) u) := by
  have hOp : (k + 4096) / 4096 % 4 = 1 := by omega
  have hForm : (k + 4096) / 16384 = 0 ∧ (k + 4096) / 512 % 8 = 0 := by omega
  have hIdx : (k + 4096) % 512 = k := by omega
  simp only [profRule, profCommit, hOp, hForm, hIdx]
  rfl

/-- The words of profile k go back to the staging parameters. -/
def profileRead (k : Nat) (u : State) : State :=
  let v := (List.range 10).foldl (fun v j => setPar (0x340 + j) 15 ((Tbl.get {} u.modem.profiles k).cur.getD j 0) v) u
  { v with modem := { v.modem with last := k } }

theorem profRule_reads {u : State} {k : Nat} (hSlot : k < 512) : profRule (k + 8192) u = pOk (profileRead k u) := by
  have hOp : (k + 8192) / 4096 % 4 = 2 := by omega
  have hForm : (k + 8192) / 16384 = 0 ∧ (k + 8192) / 512 % 8 = 0 := by omega
  have hIdx : (k + 8192) % 512 = k := by omega
  simp [profRule, profCommit, hOp, hForm, hIdx, profileRead, pOk, chip, stOK, stRANGE]

theorem profCommitWrite_sets (h : Writes who c 0x034F 15 (w32 (profSlot idx dist)) s) (hGood : profileOk (stagedProfile s) = true) :
    Sets (.profCommitWrite who c idx dist) who (modProfile (profSlot idx dist) (fun x => {
      cur := stagedProfile s, prev := if x.cur = [] then x.prev else x.cur, gen := (x.gen + 1) % 256 })) s := by
  have hSlot := profSlot_lt idx dist
  refine sets_rule h rfl fun d => ?_
  rw [setpEffect_profCommit d _ (by omega), profRule_writes hSlot (by simpa using hGood), stagedProfile_opened]

theorem profCommitWrite_refused (h : Writes who c 0x034F 15 (w32 (profSlot idx dist)) s) (hBad : profileOk (stagedProfile s) = false) :
    SetsAs (.profCommitWrite who c idx dist) who (fun u => (0x02, 2, u)) s := by
  have hSlot := profSlot_lt idx dist
  refine setsAs_rule h rfl fun d => ?_
  rw [setpEffect_profCommit d _ (by omega), profRule_refuses hSlot (by simpa using hBad)]

theorem profCommitInvalidate_sets (h : Writes who c 0x034F 15 (w32 (profSlot idx dist + 4096)) s) :
    Sets (.profCommitInvalidate who c idx dist) who
      (modProfile (profSlot idx dist) (fun x => { cur := [], prev := [], gen := (x.gen + 1) % 256 })) s := by
  have hSlot := profSlot_lt idx dist
  refine sets_rule h rfl fun d => ?_
  rw [setpEffect_profCommit d _ (by omega), profRule_invalidates hSlot]

theorem profCommitRead_sets (h : Writes who c 0x034F 15 (w32 (profSlot idx dist + 8192)) s) :
    Sets (.profCommitRead who c idx dist) who (profileRead (profSlot idx dist)) s := by
  have hSlot := profSlot_lt idx dist
  refine sets_rule h rfl fun d => ?_
  rw [setpEffect_profCommit d _ (by omega), profRule_reads hSlot]

end

/-! ## Segments -/

section
variable {who : Who} {c : Cond} {n : Fin 12} {g : Fin 4} {s : State}

@[simp] theorem stagedSeg_opened (who : Who) (n : Fin 12) (s : State) : stagedSeg n (opened who s) = stagedSeg n s := by
  simp [stagedSeg]

@[simp] theorem segOk_opened (who : Who) (n : Fin 12) (k : Fin 4) (x : Seg) (s : State) : segOk n k x (opened who s) = segOk n k x s := by
  obtain ⟨c, t, e⟩ := opened_eq who s
  rw [e]
  rfl

/-- CH.SEG_COMMIT as its SETP gives it. -/
theorem setpEffect_segCommit (d : ParamDef) (m : Nat) (hm : m < 4294967296) (u : State) :
    setpEffect who d 0x045F n.val (w32 m) u = segCommit n m u := by
  show segCommit (scopeSl n.val) (w32 m).toNat u = _
  rw [scopeSl_val, toNat_w32, Nat.mod_eq_of_lt hm]

/-- The segment and the operation of a commit's value. -/
theorem segCommit_fields (g : Fin 4) (op : Nat) :
    (⟨(g.val + 256 * op) % 4, Nat.mod_lt _ (by decide)⟩ : Fin 4) = g ∧ (g.val + 256 * op) / 256 = op ∧ (g.val + 256 * op) / 4 % 64 = 0 := by
  have hSeg := g.isLt
  exact ⟨Fin.ext (by dsimp only; omega), by omega, by omega⟩

theorem putSeg_untuned {u : State} {x : Seg} {clear : Bool} (h : (slice n u).tuned ≠ some g) :
    putSeg n g x clear u = modSlice n (fun y => { y with plan := y.plan.set g x }) u := by
  simp [putSeg, h]

theorem segCommit_writes {u : State} (hOk : segOk n g (stagedSeg n u) u = true) (hAway : (slice n u).tuned ≠ some g) :
    segCommit n g.val u = pOk (setPar 0x045F n.val (w32 g.val) (modSlice n (fun x => { x with plan := x.plan.set g (stagedSeg n u) }) u)) := by
  obtain ⟨hSeg, hOp, hForm⟩ := segCommit_fields g 0
  simp only [Nat.mul_zero, Nat.add_zero] at hSeg hOp hForm
  simp [segCommit, hSeg, hOp, hForm, hOk, hAway, putSeg_untuned]

theorem segCommit_refuses {u : State} (hBad : segOk n g (stagedSeg n u) u = false) : segCommit n g.val u = (0x02, 2, u) := by
  obtain ⟨hSeg, hOp, hForm⟩ := segCommit_fields g 0
  simp only [Nat.mul_zero, Nat.add_zero] at hSeg hOp hForm
  simp [segCommit, hSeg, hOp, hForm, hBad]
  rfl

theorem segCommit_clears {u : State} (hAway : (slice n u).tuned ≠ some g) :
    segCommit n (g.val + 256) u = pOk (setPar 0x045F n.val (w32 (g.val + 256)) (modSlice n (fun x => { x with plan := x.plan.set g {} }) u)) := by
  obtain ⟨hSeg, hOp, hForm⟩ := segCommit_fields g 1
  simp only [Nat.mul_one] at hSeg hOp hForm
  simp [segCommit, hSeg, hOp, hForm, hAway, putSeg_untuned]

theorem segCommit_reads {u : State} : segCommit n (g.val + 512) u = pOk (setPar 0x045F n.val (w32 (g.val + 512))
    ((List.range 18).foldl (fun v j => setPar (0x0440 + j) n.val (((slice n u).plan[g]).words.getD j 0) v) u)) := by
  obtain ⟨hSeg, hOp, hForm⟩ := segCommit_fields g 2
  simp only [Nat.reduceMul] at hSeg hOp hForm
  simp [segCommit, hSeg, hOp, hForm]

theorem segCommitWrite_sets (h : Writes who c 0x045F n.val (w32 g.val) s) (hOk : segOk n g (stagedSeg n s) s = true)
    (hAway : (slice n s).tuned ≠ some g) :
    Sets (.segCommitWrite who c n g) who (fun u => setPar 0x045F n.val (w32 g.val)
      (modSlice n (fun x => { x with plan := x.plan.set g (stagedSeg n s) }) u)) s := by
  refine sets_rule h rfl fun d => ?_
  rw [setpEffect_segCommit d _ (by omega), segCommit_writes (by simpa using hOk) (by simpa using hAway), stagedSeg_opened]

theorem segCommitWrite_refused (h : Writes who c 0x045F n.val (w32 g.val) s) (hBad : segOk n g (stagedSeg n s) s = false) :
    SetsAs (.segCommitWrite who c n g) who (fun u => (0x02, 2, u)) s := by
  refine setsAs_rule h rfl fun d => ?_
  rw [setpEffect_segCommit d _ (by omega), segCommit_refuses (by simpa using hBad)]

theorem segCommitClear_sets (h : Writes who c 0x045F n.val (w32 (g.val + 256)) s) (hAway : (slice n s).tuned ≠ some g) :
    Sets (.segCommitClear who c n g) who (fun u => setPar 0x045F n.val (w32 (g.val + 256))
      (modSlice n (fun x => { x with plan := x.plan.set g {} }) u)) s := by
  refine sets_rule h rfl fun d => ?_
  rw [setpEffect_segCommit d _ (by omega), segCommit_clears (by simpa using hAway)]

theorem segCommitRead_sets (h : Writes who c 0x045F n.val (w32 (g.val + 512)) s) :
    Sets (.segCommitRead who c n g) who (fun u => setPar 0x045F n.val (w32 (g.val + 512))
      ((List.range 18).foldl (fun u j => setPar (0x0440 + j) n.val (((slice n s).plan[g]).words.getD j 0) u) u)) s := by
  refine sets_rule h rfl fun d => ?_
  rw [setpEffect_segCommit d _ (by omega), segCommit_reads, slice_opened]

end

/-! ## XIQ lanes -/

/-- The places of the three bits above bit 0. -/
theorem mask14_getLsbD : ∀ i : Fin 32, (0xE : Word).getLsbD i.val = (decide (1 ≤ i.val) && decide (i.val ≤ 3)) := by decide

/-- Two words whose three bits above bit 0 agree differ in none of them. -/
theorem xiqBits_agree {o v : Word} (h : o.toNat / 2 % 2 ^ 3 = v.toNat / 2 % 2 ^ 3) : (o ^^^ v) &&& 0xE = 0 := by
  have hBit : ∀ i, i < 3 → o.getLsbD (i + 1) = v.getLsbD (i + 1) := by
    intro i hi
    have hSame := congrArg (Nat.testBit · i) h
    simpa only [BitVec.getLsbD, Nat.testBit_mod_two_pow, Nat.testBit_div_two, hi, decide_true, Bool.true_and] using hSame
  apply BitVec.eq_of_getLsbD_eq
  intro i hi
  rw [BitVec.getLsbD_and, BitVec.getLsbD_xor, mask14_getLsbD ⟨i, hi⟩]
  by_cases hMask : 1 ≤ i ∧ i ≤ 3
  · obtain ⟨j, rfl⟩ := Nat.exists_eq_add_of_le' hMask.1
    simp [hBit j (by omega)]
  · have hOut : (decide (1 ≤ i) && decide (i ≤ 3)) = false := by simpa using hMask
    simp [hOut]

theorem xiqValue_on (bits : BitVec 3) :
    (w32 (1 + 2 * bits.toNat)).getLsbD 0 = true ∧ (w32 (1 + 2 * bits.toNat)).toNat / 2 % 2 ^ 3 = bits.toNat := by
  have hBits := bits.isLt
  constructor
  · simp only [w32, BitVec.getLsbD_ofNat, Nat.testBit_zero, Nat.ofNat_pos, decide_true, Bool.true_and, decide_eq_true_eq]
    omega
  · simp [w32]
    omega

theorem xiqValue_off (bits : BitVec 3) :
    (w32 (2 * bits.toNat)).getLsbD 0 = false ∧ (w32 (2 * bits.toNat)).toNat / 2 % 2 ^ 3 = bits.toNat := by
  have hBits := bits.isLt
  constructor
  · simp only [w32, BitVec.getLsbD_ofNat, Nat.testBit_zero, decide_eq_false_iff_not, Bool.and_eq_false_iff]
    omega
  · simp [w32]
    omega

section
variable {who : Who} {c : Cond} {n : Fin 12} {bits : BitVec 3} {s : State}
/-- CH.XIQ_CTRL as its SETP gives it. -/
theorem setpEffect_xiqCtrl (d : ParamDef) (v : Word) (u : State) : setpEffect who d 0x0403 n.val v u = xiqCtrl n v u := by
  show xiqCtrl (scopeSl n.val) v u = _
  rw [scopeSl_val]

/-- The enable of a lane moves while the bits beside it stand. -/
theorem xiqCtrl_moves {v : Word} {u : State} (hBits : (par 0x0403 n.val u).toNat / 2 % 2 ^ 3 = v.toNat / 2 % 2 ^ 3)
    (hMoves : (par 0x0403 n.val u).getLsbD 0 ≠ v.getLsbD 0) :
    xiqCtrl n v u = pOk (modSlice n (fun x => { x with
      xiq := bitAt (v.getLsbD 0) 0, xiqSince := u.time.elapsed, xiqGood := 0, xiqBad := [] }) (setPar 0x0403 n.val v u)) := by
  unfold xiqCtrl
  simp only [xiqBits_agree hBits, ne_eq, not_true_eq_false, decide_false, Bool.false_and, Bool.false_eq_true, if_false, if_neg hMoves]

theorem xiqEnable_trains (h : Writes who c 0x0403 n.val (w32 (1 + 2 * bits.toNat)) s) (hOff : (par 0x0403 n.val s).getLsbD 0 = false)
    (hBits : (par 0x0403 n.val s).toNat / 2 % 8 = bits.toNat) :
    Sets (.xiqEnable who c n bits) who (fun u => modSlice n (fun x => { x with
      xiq := 1, xiqSince := u.time.elapsed, xiqGood := 0, xiqBad := [] }) (setPar 0x0403 n.val (w32 (1 + 2 * bits.toNat)) u)) s := by
  obtain ⟨hOn, hSame⟩ := xiqValue_on bits
  refine sets_rule h rfl fun d => ?_
  rw [setpEffect_xiqCtrl, xiqCtrl_moves (by rw [par_opened, hSame]; exact hBits) (by rw [par_opened, hOff, hOn]; decide), hOn]
  rfl

theorem xiqDisable_stops (h : Writes who c 0x0403 n.val (w32 (2 * bits.toNat)) s) (hOn : (par 0x0403 n.val s).getLsbD 0 = true)
    (hBits : (par 0x0403 n.val s).toNat / 2 % 8 = bits.toNat) :
    Sets (.xiqDisable who c n bits) who (fun u => modSlice n (fun x => { x with
      xiq := 0, xiqSince := u.time.elapsed, xiqGood := 0, xiqBad := [] }) (setPar 0x0403 n.val (w32 (2 * bits.toNat)) u)) s := by
  obtain ⟨hOff, hSame⟩ := xiqValue_off bits
  refine sets_rule h rfl fun d => ?_
  rw [setpEffect_xiqCtrl, xiqCtrl_moves (by rw [par_opened, hSame]; exact hBits) (by rw [par_opened, hOff, hOn]; decide), hOff]
  rfl

end
/-- Settles O29: profiles, segments and lanes, each write by its own lemma. -/
theorem profileAndPlanCommits : Obligations.ProfileAndPlanCommits :=
  fun _ _ _ _ _ _ _ _ =>
    ⟨profCommitWrite_sets, profCommitWrite_refused, profCommitInvalidate_sets, profCommitRead_sets, segCommitWrite_sets,
     segCommitWrite_refused, segCommitClear_sets, segCommitRead_sets, xiqEnable_trains, xiqDisable_stops⟩

end Sys2Proof.Machine
end

section
/-! PROOF. The security, power, host and cascade parameters with rules of their own (13 R413-R445; 14 R476; 16 R534, R537; 17 R574). -/

namespace Sys2Proof.Machine

section
variable {who : Who} {c : Cond} {v : Word} {s : State}

/-! ## Life cycle and lock -/

@[simp] theorem burnLow_opened (who : Who) (s : State) : burnLow (opened who s) = burnLow s := by
  simp [burnLow]

theorem lcAdvance_deploys {u : State} (hUnlocked : u.sec.locked = false) (hFrom : u.sec.fused = 1) (hSupply : burnLow u = false) :
    lcAdvance 2 u = pOk { u with sec := { u.sec with fused := 2 } } := by
  simp [lcAdvance, hUnlocked, hFrom, hSupply]

theorem lcAdvance_returns {u : State} (hUnlocked : u.sec.locked = false) (hFrom : u.sec.fused = 1 ∨ u.sec.fused = 2)
    (hSupply : burnLow u = false) :
    lcAdvance 4 u = pOk (deriveDevice (zeroVault { u with sec := { u.sec with fused := 4 } })) := by
  rcases hFrom with hFrom | hFrom <;> simp [lcAdvance, hUnlocked, hFrom, hSupply]

theorem lcAdvanceDeploy_sets (h : Writes who c 0x0701 15 2 s) (hUnlocked : s.sec.locked = false) (hFrom : s.sec.fused = 1)
    (hSupply : burnLow s = false) : Sets (.lcAdvanceDeploy who c) who (fun u => { u with sec := { u.sec with fused := 2 } }) s :=
  sets_rule h rfl fun _ => lcAdvance_deploys (by simpa using hUnlocked) (by simpa using hFrom) (by simpa using hSupply)

theorem lcAdvanceReturn_sets (h : Writes who c 0x0701 15 4 s) (hUnlocked : s.sec.locked = false)
    (hFrom : s.sec.fused = 1 ∨ s.sec.fused = 2) (hSupply : burnLow s = false) :
    Sets (.lcAdvanceReturn who c) who (fun u => deriveDevice (zeroVault { u with sec := { u.sec with fused := 4 } })) s :=
  sets_rule h rfl fun _ => lcAdvance_returns (by simpa using hUnlocked) (by simpa using hFrom) (by simpa using hSupply)

/-- The start that goes on once a lock is acknowledged (17 R561). -/
def lockAcked (u : State) : State :=
  let u := stopRings .custodian (stopRings .operator u)
  keysAndBootsel { u with
    sec := { u.sec with locked := false, lockId := 0 }
    host := { u.host with hifMin := 0, hifMax := 0 }
    cond := { u.cond with record := none, await := none } }

theorem lockAck_sets (h : Writes who c 0x0703 15 v s) (hLocked : s.sec.locked = true) (hId : v.toNat = s.sec.lockId) :
    Sets (.lockAck who c v) who lockAcked s :=
  sets_rule h rfl fun _ => by
    show lockAck v.toNat (opened who s) = _
    unfold lockAck
    rw [if_neg (by simp [hLocked, hId])]
    rfl

theorem lockAck_refused (h : Writes who c 0x0703 15 v s) (hOther : s.sec.locked = false ∨ v.toNat ≠ s.sec.lockId) :
    SetsAs (.lockAck who c v) who (fun u => (0x04, 0x74, u)) s :=
  setsAs_rule h rfl fun _ => by
    show lockAck v.toNat (opened who s) = _
    unfold lockAck
    rw [if_pos (by simpa using hOther)]
    rfl

/-! ## Tamper, group floors, backup status, silence -/

theorem tampCtrlWrite_sets (h : Writes who c 0x0704 15 v s) (hFree : lcState s ≠ 2) :
    Sets (.tampCtrlWrite who c v) who (fun u => { u with sec := { u.sec with tampCtrl := v } }) s :=
  sets_rule h rfl fun _ => by
    show tampCtrl v (opened who s) = _
    unfold tampCtrl
    exact if_neg (by simp [hFree])

theorem tampClear_sets (h : Writes who c 0x0709 15 1 s) :
    Sets (.tampClear who c) who
      (fun u => { u with sec := { u.sec with tampRec0 := 0, tampRec1 := 0, tampRec2 := 0, tampRec3 := 0 } }) s :=
  sets_rule h rfl fun _ => rfl

theorem grpFloorRaise_sets {dist : Bool} (h : Writes who c (if dist then 0x0736 else 0x0735) 15 v s) :
    Sets (.grpFloorRaise who c dist v) who (fun u =>
      let u := setPar (if dist then 0x0736 else 0x0735) 15 v u
      { u with sec := { u.sec with grp := upd u.sec.grp (if dist then 1 else 0) (fun c => max c v.toNat) } }) s := by
  obtain ⟨d, hDef, _⟩ := h.accepted
  cases dist with
  | false =>
    have hClass : d.cls = .imm := cls_of_paramDef (k := 0x0735) (by decide +kernel) hDef
    exact sets_of h hDef rfl (congrArg (grpFloor 0 v) (setByClass_plain (by simp [hClass]) (by simp [hClass])))
  | true =>
    have hClass : d.cls = .imm := cls_of_paramDef (k := 0x0736) (by decide +kernel) hDef
    exact sets_of h hDef rfl (congrArg (grpFloor 1 v) (setByClass_plain (by simp [hClass]) (by simp [hClass])))

theorem bkpStatusClear_sets (h : Writes who c 0x0909 15 1 s) :
    Sets (.bkpStatusClear who c) who (fun u => { u with pw := { u.pw with integ := false, why := 0 } }) s :=
  sets_rule h rfl fun _ => rfl

theorem silentTimeoutChange_sets (h : Writes who c 0x0A40 15 v s) (hSilent : s.host.silent = true) :
    Sets (.silentTimeoutChange who c v) who (setPar 0x0A40 15 v) s :=
  sets_rule h rfl fun _ => by
    have hStill : (setPar 0x0A40 chip v (opened who s)).host.silent = true := by simpa using hSilent
    show pOk (if _ then _ else _) = _
    simp only [hStill, Bool.not_true, Bool.and_false, Bool.false_and, Bool.false_eq_true, if_false]
    rfl

/-! ## Claim, relay, restart -/

theorem activate_claims {u : State} (hStandby : u.twin.role = 2) (hIn : u.twin.roleIn = false)
    (hHeld : u.twin.roleInAt + cpar 0x0B31 u * 1000 ≤ u.time.elapsed) (hPeer : peerActive u = false) :
    activate u = pOk (withDraw 4294967296 u fun d u =>
      { u with twin := { u.twin with claim := some d, claimAt := u.time.elapsed, peerClaim := none } }) := by
  simp [activate, hStandby, hIn, Nat.not_lt.mpr hHeld, hPeer]

theorem activate_sets (h : Writes who c 0x0B35 15 1 s) (hStandby : s.twin.role = 2) (hIn : s.twin.roleIn = false)
    (hHeld : s.twin.roleInAt + cpar 0x0B31 s * 1000 ≤ s.time.elapsed) (hPeer : peerActive s = false) :
    Sets (.activate who c) who (fun u => withDraw 4294967296 u fun d u =>
      { u with twin := { u.twin with claim := some d, claimAt := u.time.elapsed, peerClaim := none } }) s :=
  sets_rule h rfl fun _ => by
    show activate (opened who s) = _
    obtain ⟨k, b, e⟩ := opened_eq_withConductor who s
    rw [e]
    exact activate_claims hStandby hIn hHeld hPeer

@[simp] theorem route_opened (who : Who) (p : Nat) (s : State) : route p (opened who s) = route p s := by
  obtain ⟨k, b, e⟩ := opened_eq_withConductor who s
  rw [e]
  rfl

@[simp] theorem link_opened (who : Who) (l : Fin 6) (s : State) : link l (opened who s) = link l s := by
  simp [link]

theorem relayGo_sends {p : Fin 8} {cnt : Fin 4} {l : Fin 6} (h : Writes who c 0x0B1F 15 (w32 (p.val + 16 * cnt.val)) s) (hSome : cnt ≠ 0)
    (hOther : p.val ≠ ownPos s) (hKnown : s.cas.known.getLsbD p.val = true) (hFree : s.cas.relay = none)
    (hRoute : route p.val s = some l) (hVer : (link l s).ver ≠ 1) :
    Sets (.relayGo who c p cnt) who (fun u => sendMsg {
        kind := 3, dest := p.val, src := ownPos s, m1 := w32 cnt.val, m2 := if worldOf who s = .operator then 0 else 1
        more := (List.range (2 * cnt.val)).map (fun k => par (0x0B19 + k) 15 s) }
      { u with cas := { u.cas with relay := some { pos := p.val, world := worldOf who s, at_ := u.time.elapsed } } }) s :=
  sets_rule h rfl fun _ => by
    have hPos := p.isLt
    have hCnt := cnt.isLt
    have hWord : (w32 (p.val + 16 * cnt.val)).toNat = p.val + 16 * cnt.val := by rw [toNat_w32]; omega
    have hDest : (p.val + 16 * cnt.val) % 8 = p.val := by omega
    have hCount : (p.val + 16 * cnt.val) / 16 % 4 = cnt.val := by omega
    have hSome' : cnt.val ≠ 0 := fun hZero => hSome (Fin.ext hZero)
    show relayGo (worldOf who (opened who s)) ((w32 (p.val + 16 * cnt.val)).toNat % 8)
      ((w32 (p.val + 16 * cnt.val)).toNat / 16 % 4) (opened who s) = _
    rw [hWord, hDest, hCount, worldOf_opened]
    simp [relayGo, hSome', hOther, hKnown, hFree, hRoute, hVer, chip]

theorem bootRestart_sets (h : Writes who c 0x0036 15 1 s) :
    Sets (.bootRestart who c) who (fun u => { u with boot := { u.boot with restartDue := true } }) s :=
  sets_rule h rfl fun _ => rfl

end

/-- Settles O30: each write by its own lemma. -/
theorem systemParameters : Obligations.SystemParameters :=
  fun _ _ _ _ _ _ _ _ =>
    ⟨lcAdvanceDeploy_sets, lcAdvanceReturn_sets, lockAck_sets, lockAck_refused, tampCtrlWrite_sets, tampClear_sets, grpFloorRaise_sets,
     bkpStatusClear_sets, silentTimeoutChange_sets, activate_sets, relayGo_sends, bootRestart_sets⟩

end Sys2Proof.Machine
end

section
/-! PROOF. The power instructions (04 R143-R147; 14 R449-R452), and those of the cascade and the twin (04 R148-R151; 16 R532-R546). -/

namespace Sys2Proof.Machine

/-! ## CLKSEL, PMODE, WAKEON -/

section
variable {who : Who} {c : Cond} {ws : Fin 16} {mask : BitVec 16} {m : Fin 8} {id reason : Nat} {s : State}

theorem clksel_rc (h : Issues who c 0x70 .condOnly s) (hStopped : anyRunning s = false) (hQuiet : airArmed s = false) :
    Answers (.clksel who c 0) who (fun u => advance who (ret who 0x00 0 0 { u with pw := { u.pw with pll := false } })) s :=
  answersI h rfl (by
    simp only [anyRunning_opened, airArmed_opened, hStopped, hQuiet]
    rfl)

/-- The answer of CLKSEL 1, by the lock time. -/
theorem clksel_pll (h : Issues who c 0x70 .condOnly s) (hQual : s.time.refQual = true) :
    Answers (.clksel who c 1) who (fun u => advance who (clkPll u fun v u => match v with
      | some v => ret who 0x00 1 (w32 v) u
      | none => ret who 0x03 0 0 u)) s :=
  answersI h rfl (by
    have hRange : ¬ 1 < (1 : Fin 4).val := by decide
    have hPll : ¬ (1 : Fin 4) = 0 := by decide
    simp only [hRange, hPll, opened_keeps, hQual, Bool.not_true, Bool.false_eq_true, if_false]
    rfl)

@[simp] theorem armedDetail_opened (who : Who) (s : State) : armedDetail (opened who s) = armedDetail s := by
  simp [armedDetail]

@[simp] theorem pmodeAllowed_opened (who : Who) (m : Nat) (s : State) : pmodeAllowed m (opened who s) = pmodeAllowed m s := by
  simp [pmodeAllowed]

theorem pmode_stands (h : Issues who c 0x71 .condOnly s) (hRange : m.val ≤ 5) (hSame : m.val = s.pw.mode) (hFull : s.pw.degraded = false) :
    GivesRegs (.pmode who c m) who (withStatus who 0x00 (w32 s.pw.mode) (armedDetail s) s) s :=
  regsOf h rfl (by
    have hIn : ¬ 5 < s.pw.mode := hSame ▸ Nat.not_lt.mpr hRange
    simp only [hSame, hIn, opened_keeps, hFull, armedDetail_opened, Bool.false_and, Bool.not_false, Bool.and_true, decide_true, if_true,
      if_false]
    rfl) ((rs0 who s).ret ..)

theorem pmode_arms (h : Issues who c 0x71 .condOnly s) (hSleep : m.val ≤ 2) (hOther : m.val ≠ s.pw.mode)
    (hAllowed : pmodeAllowed m.val s = true) :
    Answers (.pmode who c m) who (fun u => advance who (ret who 0x00 (w32 s.pw.mode) (w32 m.val)
      { u with pw := { u.pw with armedMode := m.val } })) s :=
  answersI h rfl (by
    have hRange : ¬ 5 < m.val := by omega
    have hNotRun : ¬ 2 < m.val := by omega
    have hArmed : m.val ≠ 7 := by omega
    simp only [hRange, hNotRun, hSleep, opened_keeps, hOther, pmodeAllowed_opened, hAllowed, armedDetail, hArmed]
    simp
    rfl)

theorem pmode_pends (h : Issues who c 0x71 .condOnly s) (hRun : 3 ≤ m.val) (hRange : m.val ≤ 5) (hOther : m.val ≠ s.pw.mode)
    (hAllowed : pmodeAllowed m.val s = true) (hFree : s.pw.pmodeTo = none) (hPend : pendFull who s = false) :
    Answers (.pmode who c m) who (fun u => advance who (startPending who 0x71
      (if m = 5 ∨ s.time.refQual = true then { u with pw := { u.pw with pmodeTo := some (m.val, worldOf who s, nextTicket who s) } }
       else startRef { u with pw := { u.pw with pmodeTo := some (m.val, worldOf who s, nextTicket who s) } }))) s :=
  answersI h rfl (by
    have hIn : ¬ 5 < m.val := by omega
    have hNotSleep : ¬ m.val ≤ 2 := by omega
    simp only [hIn, hNotSleep, opened_keeps, hOther, pmodeAllowed_opened, hAllowed, hFree, pendFull_opened, hPend, worldOf_opened,
      nextTicket_opened]
    simp)

theorem wakeon_sets (h : Issues who c 0x73 .condOnly s) (hMask : (if ws = 0 then mask.toNat else (getW who ws s).toNat) < 256) :
    Answers (.wakeon who c ws mask) who (fun u => advance who (ret who 0x00 (w32 s.pw.wakeMask.toNat)
      (w32 (BitVec.ofNat 16 (if ws = 0 then mask.toNat else (getW who ws s).toNat) ||| 0x80 : BitVec 16).toNat)
      { u with pw := { u.pw with
        wakeMask := BitVec.ofNat 16 (if ws = 0 then mask.toNat else (getW who ws s).toNat) ||| 0x80 } })) s :=
  answersI h rfl (by
    simp only [getW_opened, Nat.not_le.mpr hMask, opened_keeps]
    rfl)

/-! ## REST -/

@[simp] theorem anyPending_opened (who : Who) (s : State) : anyPending (opened who s) = anyPending s := by
  unfold opened
  split <;> rfl

@[simp] theorem firstRefusal_opened (who : Who) (s : State) : firstRefusal (opened who s) = firstRefusal s := by
  obtain ⟨k, b, e⟩ := opened_eq_withConductor who s
  rw [e]
  rfl

/-- What the checks of REST that stop nothing have passed (04 R144). -/
theorem rest_checked (hArmed : s.pw.armedMode ≠ 7) (hNone : anyPending s = false)
    (hWake : s.pw.armedMode = 0 ∨ s.pw.wakeMask &&& 0x7F ≠ 0) (a b d e : State) :
    (if (opened who s).pw.armedMode = 7 then a
      else if anyPending (opened who s) then b
      else if (opened who s).pw.armedMode ≠ 0 && (opened who s).pw.wakeMask &&& 0x7F = 0 then d else e) = e := by
  rw [opened_keeps .. |>.2.2.2.2.2.2.2.2.2.2.2.2.1]
  have hMask : (decide (s.pw.armedMode ≠ 0) && decide (s.pw.wakeMask &&& 0x7F = 0)) = false := by
    rcases hWake with hZero | hSome
    · simp [hZero]
    · have hOn : ¬ s.pw.wakeMask &&& 127#16 = 0#16 := hSome
      simp [hOn]
  rw [if_neg hArmed, if_neg (by simp [hNone]), if_neg (by simpa using hMask)]

/-- A refusal leaves the issuer running. -/
theorem rest_refused_goes (h : Issues who c 0x72 .condOnly s) (u : State) (hCond : u.cond = (opened who s).cond) (w1 w2 : Word) :
    waits who (ret who 0x05 w1 w2 (bump 0x0923 u)) = false := by
  rw [waits_ret, waits_of_cond h.conductor ((bump_keeps 0x0923 u).1.trans hCond), waits_opened h]

theorem rest_refuses (h : Issues who c 0x72 .condOnly s) (hArmed : s.pw.armedMode ≠ 7) (hNone : anyPending s = false)
    (hWake : s.pw.armedMode = 0 ∨ s.pw.wakeMask &&& 0x7F ≠ 0) (hRefusal : firstRefusal s = some (id, reason)) :
    Answers (.rest who c) who (fun u => advance who (ret who 0x05 (w32 id) (w32 reason) (bump 0x0923 u))) s :=
  answersB_done h rfl ((rest_checked hArmed hNone hWake _ _ _ _).trans (by
    rw [firstRefusal_opened, hRefusal]
    rfl)) (rest_refused_goes h _ rfl _ _)

/-- What is done of both answers of the host PHY is done of the answer it gives. -/
theorem dmaInFlight_congr {k k' : Bool → State → State} {u : State} (f : State → State)
    (h : ∀ busy v, v.cond = u.cond → f (k busy v) = k' busy v) : f (dmaInFlight k u) = dmaInFlight k' u := by
  unfold dmaInFlight withDraw
  split
  · exact h _ _ rfl
  · exact h _ _ rfl

/-- REST enters when the host PHY is idle, and is refused when it is not. -/
theorem rest_enters (h : Issues who c 0x72 .condOnly s) (hArmed : s.pw.armedMode ≠ 7) (hNone : anyPending s = false)
    (hWake : s.pw.armedMode = 0 ∨ s.pw.wakeMask &&& 0x7F ≠ 0) (hRefusal : firstRefusal s = none) :
    Answers (.rest who c) who (dmaInFlight fun busy u =>
      if busy then advance who (ret who 0x05 0x30 3 (bump 0x0923 u))
      else block who .rest { u with pw := { u.pw with
        entering := true, frozen := true, restWaits := true, restMode := u.pw.mode, restPll := u.pw.pll
        onSlices := Vector.ofFn (fun (n : Fin 12) => !(slice n u).off), asleepAt := u.time.elapsed } }) s :=
  answers h rfl (by
    beta_reduce
    rw [rest_checked hArmed hNone hWake, firstRefusal_opened, hRefusal]
    refine dmaInFlight_congr (fun t => if waits who t then t else advance who t) fun busy v hCond => ?_
    cases busy with
    | true => exact if_neg (Bool.eq_false_iff.mp (rest_refused_goes h v hCond _ _))
    | false => exact if_pos (waits_block ..))

end

/-- Settles O32: each answer of each instruction by its own lemma. -/
theorem powerInstructions : Obligations.PowerInstructions :=
  fun _ _ _ _ _ _ _ _ =>
    ⟨clksel_rc, clksel_pll, pmode_stands, pmode_arms, pmode_pends, rest_enters, rest_refuses, wakeon_sets⟩

/-! ## CSEND and CBAR -/

@[simp] theorem pump_cond (l : Fin 6) (v : Fin 4) (s : State) : (pump l v s).cond = s.cond := by
  unfold pump
  dsimp only
  split
  · rfl
  · exact (modVc_keeps ..).1

@[simp] theorem sendOn_cond (l : Fin 6) (v : Fin 4) (f : CasFrame) (s : State) : (sendOn l v f s).2.cond = s.cond := by
  simp [sendOn, emitCas]

@[simp] theorem sendMsg_cond (f : CasFrame) (s : State) : (sendMsg f s).cond = s.cond :=
  foldl_cond (fun u l => sendOn_cond l 0 f u) _ s

/-- Steps with a result of their own that leave the conductor, one for each element of a list. -/
theorem foldl_snd_cond {α β : Type} {f : β × State → α → β × State} (h : ∀ acc a, (f acc a).2.cond = acc.2.cond) (l : List α)
    (acc : β × State) : (l.foldl f acc).2.cond = acc.2.cond := by
  induction l generalizing acc with
  | nil => rfl
  | cons a l ih => exact (ih _).trans (h acc a)

@[simp] theorem csendNow_cond (kind dest : Nat) (m1 m2 : Word) (s : State) : (csendNow kind dest m1 m2 s).2.cond = s.cond := by
  unfold csendNow
  refine foldl_snd_cond (fun acc l => ?_) _ _
  exact sendOn_cond l 0 _ acc.2

section
variable {who : Who} {c : Cond} {ws hi : Fin 16} {dest : Fin 8} {kind bar : BitVec 8} {latest : BitVec 16} {s : State}

@[simp] theorem csendReady_opened (who : Who) (d : Nat) (s : State) : csendReady d (opened who s) = csendReady d s := by
  obtain ⟨k, b, e⟩ := opened_eq_withConductor who s
  rw [e]
  rfl

@[simp] theorem hasMembers_opened (who : Who) (s : State) : hasMembers (opened who s) = hasMembers s := by
  obtain ⟨k, b, e⟩ := opened_eq_withConductor who s
  rw [e]
  rfl

@[simp] theorem isMaster_opened (who : Who) (s : State) : isMaster (opened who s) = isMaster s := by
  simp [isMaster]

/-- CSEND to one position that can be reached, past its checks (04 R148). -/
theorem csend_sends (h : Issues who c 0x90 .condOnly s) (hEven : ws.val % 2 = 0) (hNext : hi.val = ws.val + 1) (hKind : 0x80 ≤ kind.toNat)
    (hOther : dest.val ≠ ownPos s) (hKnown : s.cas.known.getLsbD dest.val = true) (hReady : csendReady dest.val s = true) :
    Answers (.csend who c ws ⟨dest.val, by omega⟩ kind latest) who (fun u =>
      let x := csendNow kind.toNat dest.val (getW who ws s) (getW who hi s) u
      advance who (ret who 0x00 (w32 x.1) 0 x.2)) s := by
  obtain ⟨hSingle, hShort⟩ : dest.val ≠ 15 ∧ ¬ 8 ≤ dest.val := by omega
  refine answersB_done h rfl ((withPair_even who ws hi 1 _ _ hEven hNext).trans ?_) ?_
  · simp [hSingle, hShort, Nat.not_lt.mpr hKind, hOther, hKnown, hReady, -BitVec.getLsbD_eq_getElem]
    rfl
  · rw [waits_ret, waits_of_cond h.conductor (csendNow_cond ..), waits_opened h]

theorem csend_waits (h : Issues who c 0x90 .condOnly s) (hEven : ws.val % 2 = 0) (hNext : hi.val = ws.val + 1) (hKind : 0x80 ≤ kind.toNat)
    (hOther : dest.val ≠ ownPos s) (hKnown : s.cas.known.getLsbD dest.val = true) (hReady : csendReady dest.val s = false) :
    Answers (.csend who c ws ⟨dest.val, by omega⟩ kind latest) who (block who
      (.csend (getW who ws s) (getW who hi s) dest.val kind.toNat (s.time.elapsed + latest.toNat * 1000))) s := by
  obtain ⟨hSingle, hShort⟩ : dest.val ≠ 15 ∧ ¬ 8 ≤ dest.val := by omega
  refine answersB_waits h rfl ((withPair_even who ws hi 1 _ _ hEven hNext).trans ?_)
  simp [hSingle, hShort, Nat.not_lt.mpr hKind, hOther, hKnown, hReady, -BitVec.getLsbD_eq_getElem]

theorem csend_unreachable (h : Issues who c 0x90 .condOnly s) (hEven : ws.val % 2 = 0) (hKind : 0x80 ≤ kind.toNat)
    (hAway : dest.val = ownPos s ∨ s.cas.known.getLsbD dest.val = false) :
    GivesRegs (.csend who c ws ⟨dest.val, by omega⟩ kind latest) who (withStatus who 0x04 0xC0 0 s) s := by
  obtain ⟨hSingle, hShort⟩ : dest.val ≠ 15 ∧ ¬ 8 ≤ dest.val := by omega
  refine regsOfB h rfl ((withPair_even who ws ⟨ws.val + 1, by omega⟩ 1 _ _ hEven rfl).trans ?_) ?_ ((rs0 who s).ret 0x04 0xC0 0)
  · have hBad : (decide (dest.val = ownPos s) || !s.cas.known.getLsbD dest.val) = true := by simpa using hAway
    simp only [ownPos_opened, opened_keeps, hBad, Nat.not_lt.mpr hKind, hSingle, hShort, ne_eq, not_false_eq_true, decide_false,
      decide_true, Bool.false_and, Bool.true_and, Bool.false_eq_true, if_false, if_true]
    rfl
  · rw [waits_ret, waits_opened h]

theorem cbar_alone (h : Issues who c 0x91 .condOnly s) (hAlone : hasMembers s = false) :
    GivesRegs (.cbar who c bar latest) who (withStatus who 0x00 (w32 (2 ^ ownPos s)) 0 s) s :=
  regsOfB h rfl (by
    simp only [hasMembers_opened, hAlone, ownPos_opened]
    rfl) (by rw [waits_ret, waits_opened h]) ((rs0 who s).ret 0x00 (w32 (2 ^ ownPos s)) 0)

theorem cbar_member (h : Issues who c 0x91 .condOnly s) (hMembers : hasMembers s = true) (hMember : isMaster s = false) :
    Answers (.cbar who c bar latest) who (fun u => sendMsg { kind := 1, dest := 0, src := ownPos s, m1 := w32 bar.toNat }
      (block who (.cbar bar.toNat (s.time.elapsed + latest.toNat * 1000)) u)) s := by
  have hWaits : waits who (sendMsg { kind := 1, dest := 0, src := ownPos s, m1 := w32 bar.toNat }
      (block who (.cbar bar.toNat (s.time.elapsed + latest.toNat * 1000)) (opened who s))) = true := by
    rw [waits_of_cond h.conductor (sendMsg_cond ..), waits_block]
  refine answers h rfl ?_
  simp only [hasMembers_opened, hMembers, isMaster, ownPos, block_keeps, opened_keeps, Bool.not_true, Bool.false_eq_true, if_false]
  rw [isMaster] at hMember
  simp only [hMember, Bool.false_eq_true, if_false]
  exact if_pos hWaits

end

/-! ## MIRROR and ROLE -/

section
variable {who : Who} {c : Cond} {wd : Fin 16} {s : State}

/-- What opening a record leaves of the twin. -/
@[simp] theorem opened_twin_keeps (who : Who) (s : State) :
    (opened who s).twin.mirror = s.twin.mirror ∧ (opened who s).twin.comparedAsn = s.twin.comparedAsn ∧
    (opened who s).twin.matched = s.twin.matched ∧ (opened who s).twin.digest = s.twin.digest ∧
    (opened who s).twin.diverged = s.twin.diverged ∧ (opened who s).twin.syncTicket = s.twin.syncTicket := by
  obtain ⟨k, b, e⟩ := opened_eq_withConductor who s
  rw [e]
  exact ⟨rfl, rfl, rfl, rfl, rfl, rfl⟩

theorem mirrorStatus_reads (h : Issues who c 0x92 .condOnly s) :
    GivesRegs (.mirrorStatus who c wd) who
      ((withW who wd (w32 s.twin.mirror) s).status 0x00 (w32 s.twin.comparedAsn) (w32 s.twin.matched)) s :=
  regsOf h rfl (by
    simp only [opened_twin_keeps]
    rfl) (((rs0 who s).setW wd _).ret ..)

theorem mirrorDigest_reads (h : Issues who c 0x92 .condOnly s) :
    GivesRegs (.mirrorDigest who c wd) who
      ((withW who wd (s.twin.digest.extractLsb' 0 32) s).status 0x00 (s.twin.digest.extractLsb' 32 32) 0) s :=
  regsOf h rfl (by
    simp only [opened_twin_keeps]
    rfl) (((rs0 who s).setW wd _).ret ..)

theorem mirrorSync_refused (h : Issues who c 0x92 .condOnly s) (hRole : s.twin.role ≠ 1) :
    GivesRegs (.mirrorSync who c wd) who (withStatus who 0x04 0xC2 0 s) s :=
  regsOf h rfl (if_pos (by simpa using hRole)) ((rs0 who s).ret ..)

theorem mirrorSync_begins (h : Issues who c 0x92 .condOnly s) (hRole : s.twin.role = 1) (hPend : pendFull who s = false) :
    Answers (.mirrorSync who c wd) who (fun u =>
      let v := startPending who 0x92 u
      advance who (beginSync { v with twin := { v.twin with
        syncTicket := v.twin.syncTicket ++ [(worldOf who s, nextTicket who s)] } })) s :=
  answersI h rfl (by
    simp only [opened_keeps, hRole, pendFull_opened, hPend, worldOf_startPending, worldOf_opened, nextTicket_opened]
    rfl)

theorem roleRead_reads (h : Issues who c 0x93 .custodian s) :
    GivesRegs (.roleRead who c wd) who ((withW who wd (w32 s.twin.role) s).status 0x00 0 0) s :=
  regsOf h rfl (by
    simp only [opened_keeps]
    rfl) (((rs0 who s).setW wd _).ret ..)

theorem roleYield_notActive (h : Issues who c 0x93 .custodian s) (hRole : s.twin.role ≠ 1) :
    GivesRegs (.roleYield who c wd) who (withStatus who 0x04 0xC4 0 s) s :=
  regsOfB h rfl (if_pos (by simpa using hRole)) (by rw [retRefused, waits_ret, waits_opened h]) ((rs0 who s).ret ..)

theorem roleYield_unmirrored (h : Issues who c 0x93 .custodian s) (hRole : s.twin.role = 1)
    (hMirror : s.twin.mirror ≠ 2 ∨ s.twin.diverged = true) :
    GivesRegs (.roleYield who c wd) who (withStatus who 0x04 0xC3 0 s) s :=
  regsOfB h rfl ((if_neg (by simp [hRole])).trans (if_pos (by simpa using hMirror)))
    (by rw [retRefused, waits_ret, waits_opened h]) ((rs0 who s).ret ..)

theorem roleYield_waits (h : Issues who c 0x93 .custodian s) (hRole : s.twin.role = 1) (hMirror : s.twin.mirror = 2)
    (hSame : s.twin.diverged = false) :
    Answers (.roleYield who c wd) who (block who (.yield (s.time.elapsed + s.grid.len + 1000000))) s :=
  answersB_waits h rfl (by
    simp only [opened_keeps, opened_twin_keeps, hRole, hMirror, hSame]
    rfl)

theorem roleWithdraw_withdraws (h : Issues who c 0x93 .custodian s) :
    Answers (.roleWithdraw who c wd) who (fun u => advance who (ret who 0x00 0 0 (withdraw u))) s :=
  answersI h rfl rfl

end

/-- Settles O41: each answer of each instruction by its own lemma. -/
theorem cascadeAndTwinInstructions : Obligations.CascadeAndTwinInstructions :=
  ⟨fun _ _ _ _ _ _ _ _ _ => ⟨fun h hEven hNext hKind hOther hKnown =>
      ⟨csend_sends h hEven hNext hKind hOther hKnown, csend_waits h hEven hNext hKind hOther hKnown⟩,
    csend_unreachable, cbar_alone, cbar_member⟩,
   fun _ _ _ _ => ⟨fun h => ⟨mirrorStatus_reads h, mirrorDigest_reads h, mirrorSync_refused h, mirrorSync_begins h⟩,
    fun h => ⟨roleRead_reads h, roleYield_notActive h, roleYield_unmirrored h, roleYield_waits h, roleWithdraw_withdraws h⟩⟩⟩

end Sys2Proof.Machine
end

section
/-! PROOF. The events of windows, of armed transmissions and of a transmission on the air (04 R128-R130; 06 R207-R226; 09 R302; 10 R318,
R326; 11 R370-R375). -/

namespace Sys2Proof.Machine

@[simp] theorem slice_modSlice (n : Fin 12) (f : SliceS → SliceS) (s : State) : slice n (modSlice n f s) = f (slice n s) := by
  simp [slice, modSlice, upd]

@[simp] theorem slice_reachTb (n : Fin 12) (t : Nat) (s : State) : slice n (reachTb t s) = slice n s := rfl

/-! ## Windows -/

section
variable {n : Fin 12} {w : Win} {s : State}

theorem rxwinOpen_opens (hWin : (slice n s).win = some w) (hNew : w.opened = false) (hReach : tbCanReach w.openAt s = true)
    (hLock : (slice n s).locked = true) (hCal : calRunning (slice n s) = false) (hBefore : tbNs (reachTb w.openAt s) < w.closeAt) :
    Becomes (.rxwinOpen n) s (openWin n (reachTb w.openAt s)) :=
  becomes rfl (by
    simp [hWin, hNew, hReach, hLock, hCal, hBefore])

/-- The state at a window's close, after the waits that are due have opened. -/
def closingAt (w : Win) (s : State) : State := openWaits (reachTb w.closeAt s)

/-- The window of slice n is closed there. -/
def closedWin (n : Fin 12) (w : Win) (s : State) : State := modSlice n (fun x => { x with win := some { w with closed := true } }) (closingAt w s)

theorem rxwinClose_unlocked (hWin : (slice n s).win = some w) (hOpen : w.closed = false) (hReach : tbCanReach w.closeAt s = true)
    (hNever : w.opened = false) (hLock : (slice n (closingAt w s)).locked = false) :
    Becomes (.rxwinClose n) s (winDone n 0x08 0 0 (closingAt w s)) :=
  becomes rfl (by
    unfold closingAt at hLock ⊢
    simp [hWin, hOpen, hReach, hNever, hLock, stLATE_LOCK])

theorem rxwinClose_neverOpened (hWin : (slice n s).win = some w) (hOpen : w.closed = false) (hReach : tbCanReach w.closeAt s = true)
    (hNever : w.opened = false) (hLock : (slice n (closingAt w s)).locked = true) :
    Becomes (.rxwinClose n) s (winEmpty n w (closingAt w s)) :=
  becomes rfl (by
    unfold closingAt at hLock ⊢
    simp [hWin, hOpen, hReach, hNever, hLock])

theorem rxwinClose_empty (hWin : (slice n s).win = some w) (hOpen : w.closed = false) (hReach : tbCanReach w.closeAt s = true)
    (hOpened : w.opened = true) (hNone : w.passed = false) (hLane : w.lane = none) :
    Becomes (.rxwinClose n) s (winEmpty n { w with closed := true } (closedWin n w s)) :=
  becomes rfl (by
    simp [hWin, hOpen, hReach, hOpened, hNone, hLane, closedWin, closingAt])

theorem rxwinClose_goesOn (hWin : (slice n s).win = some w) (hOpen : w.closed = false) (hReach : tbCanReach w.closeAt s = true)
    (hOpened : w.opened = true) (hBusy : w.passed = true ∨ w.lane.isSome = true) :
    Becomes (.rxwinClose n) s (closedWin n w s) :=
  becomes rfl (by
    have hGoes : (w.passed || w.lane.isSome) = true := by simpa using hBusy
    simp only [hWin, hOpen, hReach, hOpened, hGoes, Bool.not_true, Bool.or_self, Bool.false_eq_true, if_false, if_true,
      closedWin, closingAt])

end

/-! ## Armed transmissions -/

section
variable {n : Fin 12} {a : TxfArm} {q d : Nat} {it : Item} {h : HeldItem} {s : State}

theorem txfSelection_queue (hArm : (slice n s).txf = some a) (hNew : a.sel = none) (hReach : tbCanReach (a.ts - leadNs n) s = true)
    (hQueue : a.q = some q) : Becomes (.txfSelection n) s (txfSelectQ n a q (reachTb (a.ts - leadNs n) s)) :=
  becomes rfl (by
    simp only [hArm, hNew, hReach, hQueue]
    rfl)

theorem txfSelection_held (hArm : (slice n s).txf = some a) (hNew : a.sel = none) (hReach : tbCanReach (a.ts - leadNs n) s = true)
    (hQueue : a.q = none) (hHeld : (ctx (.slice n) s).held.find? (fun h => h.item.job = a.heldRef) = some h) :
    Becomes (.txfSelection n) s (tryLaunch n (modSlice n (fun x => { x with
      txf := some { a with sel := some h.item.job, heldFrom := h.fromQ, heldFlush := h.flushGen } }) (reachTb (a.ts - leadNs n) s))) :=
  becomes rfl (by
    have hStill : (ctx (.slice n) (reachTb (a.ts - leadNs n) s)).held.find? (fun h => h.item.job = a.heldRef) = some h := hHeld
    simp only [hArm, hNew, hReach, hQueue, hStill]
    rfl)

/-- The state at a TXF's deadline, after a launch was tried. -/
def deadlineAt (n : Fin 12) (a : TxfArm) (s : State) : State := tryLaunch n (reachTb (a.ts + a.latest - leadNs n) s)

/-- Slice n can transmit: it is locked and no calibration runs. -/
def clearToSend (n : Fin 12) (u : State) : Prop := (slice n u).locked = true ∧ calRunning (slice n u) = false

theorem txfDeadline_launched (hArm : (slice n s).txf = some a) (hSel : selected n a s = some it)
    (hReach : tbCanReach (a.ts + a.latest - leadNs n) s = true) (hGone : (slice n (deadlineAt n a s)).txf = none) :
    Becomes (.txfDeadline n) s (deadlineAt n a s) :=
  becomes rfl (by
    unfold deadlineAt at hGone
    simp only [hArm, hSel, hReach, hGone]
    rfl)

/-- A deadline that is missed, by what kept the frame back (04 R129, R130). -/
theorem txfDeadline_missed (hArm : (slice n s).txf = some a) (hSel : selected n a s = some it)
    (hReach : tbCanReach (a.ts + a.latest - leadNs n) s = true) (hStays : (slice n (deadlineAt n a s)).txf.isSome = true) :
    execTxfDeadline n s = ok (
      if !(slice n (unselect a (deadlineAt n a s))).locked || calRunning (slice n (unselect a (deadlineAt n a s))) then
        txfDone n stLATE_LOCK (w32 it.job) (lateLock (slice n (unselect a (deadlineAt n a s))) (a.ts + a.latest - leadNs n))
          (unselect a (deadlineAt n a s))
      else if !ctLeadMet it (unselect a (deadlineAt n a s)) then txfDone n stUNDERRUN (w32 it.job) 0 (unselect a (deadlineAt n a s))
      else match noTxEngine (unselect a (deadlineAt n a s)) with
        | some k => txfDone n stREFUSED (w32 k) 0 (unselect a (deadlineAt n a s))
        | none => txfDone n stLATE_LOCK (w32 it.job) (lateLock (slice n (unselect a (deadlineAt n a s))) (a.ts + a.latest - leadNs n))
          (unselect a (deadlineAt n a s))) := by
  have hNotNone := Option.isNone_eq_false_iff.mpr hStays
  unfold deadlineAt at hNotNone
  unfold execTxfDeadline
  simp only [hArm, hSel, hReach, hNotNone]
  rfl

theorem txfDeadline_late (hArm : (slice n s).txf = some a) (hSel : selected n a s = some it)
    (hReach : tbCanReach (a.ts + a.latest - leadNs n) s = true) (hStays : (slice n (deadlineAt n a s)).txf.isSome = true)
    (hLock : ¬ clearToSend n (unselect a (deadlineAt n a s))) :
    Becomes (.txfDeadline n) s (txfDone n 0x08 (w32 it.job)
      (lateLock (slice n (unselect a (deadlineAt n a s))) (a.ts + a.latest - leadNs n)) (unselect a (deadlineAt n a s))) :=
  (txfDeadline_missed hArm hSel hReach hStays).trans (congrArg ok (if_pos (by
    unfold clearToSend at hLock
    cases hOn : (slice n (unselect a (deadlineAt n a s))).locked <;> simp_all)))

theorem txfDeadline_underrun (hArm : (slice n s).txf = some a) (hSel : selected n a s = some it)
    (hReach : tbCanReach (a.ts + a.latest - leadNs n) s = true) (hStays : (slice n (deadlineAt n a s)).txf.isSome = true)
    (hReady : clearToSend n (unselect a (deadlineAt n a s))) (hLead : ctLeadMet it (unselect a (deadlineAt n a s)) = false) :
    Becomes (.txfDeadline n) s (txfDone n 0x16 (w32 it.job) 0 (unselect a (deadlineAt n a s))) :=
  (txfDeadline_missed hArm hSel hReach hStays).trans (congrArg ok ((if_neg (by simp [hReady.1, hReady.2])).trans
    (if_pos (by simp [hLead]))))

theorem txfDeadline_noEngine (hArm : (slice n s).txf = some a) (hSel : selected n a s = some it)
    (hReach : tbCanReach (a.ts + a.latest - leadNs n) s = true) (hStays : (slice n (deadlineAt n a s)).txf.isSome = true)
    (hReady : clearToSend n (unselect a (deadlineAt n a s))) (hLead : ctLeadMet it (unselect a (deadlineAt n a s)) = true)
    (hEngine : noTxEngine (unselect a (deadlineAt n a s)) = some d) :
    Becomes (.txfDeadline n) s (txfDone n 0x04 (w32 d) 0 (unselect a (deadlineAt n a s))) :=
  (txfDeadline_missed hArm hSel hReach hStays).trans (congrArg ok ((if_neg (by simp [hReady.1, hReady.2])).trans
    ((if_neg (by simp [hLead])).trans (by rw [hEngine]; rfl))))

end

/-- Settles O14: each event by its own lemma. -/
theorem windowAndSelectionEvents : Obligations.WindowAndSelectionEvents :=
  fun _ _ _ _ _ _ _ _ =>
    ⟨rxwinOpen_opens, fun hWin hOpen hReach => ⟨rxwinClose_unlocked hWin hOpen hReach, rxwinClose_neverOpened hWin hOpen hReach,
       rxwinClose_empty hWin hOpen hReach, rxwinClose_goesOn hWin hOpen hReach⟩,
     txfSelection_queue, txfSelection_held,
     fun hArm hSel hReach hStays => ⟨txfDeadline_late hArm hSel hReach hStays,
       fun hReady => txfDeadline_underrun hArm hSel hReach hStays hReady,
       fun hReady => txfDeadline_noEngine hArm hSel hReach hStays hReady⟩,
     txfDeadline_launched⟩

end Sys2Proof.Machine
end

section
/-! PROOF. The events of a transmission on the air, of acknowledgements, and of a slice's synthesiser, calibrations and temperature
(06 R207, R224, R225; 09 R302; 10 R318-R345; 11 R375; 16 R541). -/

namespace Sys2Proof.Machine

/-! ## A transmission on the air -/

section
variable {n : Fin 12} {t : TxRun} {l e : Nat} {c : CalRun} {s : State}

theorem blankingStart_blanks (hNext : nextAir n s = some (l, e)) (hReach : tbCanReach (l - 20000) s = true) :
    Becomes (.blankingStart n) s (startBlanking n l e (reachTb (l - 20000) s)) :=
  becomes rfl (by simp only [hNext, hReach, if_true])

/-- The transmission as it is launched: S11 has written the Synchronization IE of a beacon. -/
def launched (t : TxRun) (s : State) : TxRun :=
  { t with item := { t.item with data := patchBeacon t (reachTb t.launch s) } }

/-- The state in which S12 is given the frame: the transmission is AIRING. -/
def airingAt (n : Fin 12) (t : TxRun) (s : State) : State :=
  modSlice n (fun x => { x with tx := some { launched t s with airing := true } }) (reachTb t.launch s)

theorem launch_airs (hTx : (slice n s).tx = some t) (hNew : t.airing = false) (hReach : tbCanReach t.launch s = true)
    (hCal : calRunning (slice n s) = false) (hOn : (slice n s).txOn = true) :
    Becomes (.launch n) s (captureTx n t.launch (setStage t.item.job 5 0x00
      (emitLaunch n t.launch (if t.item.info.beacon then 2 else 0) t.item.job t.mode
        ((if t.item.written then t.item.len else t.item.decl) + spar 0x0301 n s) (launched t s).item.data
        (putOnAir n t.tap (txFrame n (launched t s) (airingAt n t s)) (airingAt n t s))))) :=
  becomes rfl (by
    simp only [hTx, hNew, hReach, Bool.not_true, Bool.or_self, Bool.false_eq_true, if_false, slice_reachTb, hCal, hOn, if_true]
    rfl)

theorem frameAired_frame (hTx : (slice n s).tx = some t) (hAiring : t.airing = true) (hAired : t.aired = false)
    (hReach : tbCanReach t.endAt s = true) : Becomes (.frameAired n) s (retryLaunches (frameAired n t (reachTb t.endAt s))) :=
  becomes rfl (by simp [hTx, hAiring, hAired, hReach, Option.filter])

theorem ctCellDeadline_underruns (hTx : (slice n s).tx = some t) (hAiring : t.airing = true) (hAired : t.aired = false)
    (hCt : t.item.ct = true) (hWritten : t.item.written = false)
    (hReach : tbCanReach (t.launch + octetNs t.mode t.map (spar 0x0303 n s) (120 * ((t.item.data.length + 16) / 120) - 16) - 20000) s = true) :
    Becomes (.ctCellDeadline n) s (underrun n t
      (reachTb (t.launch + octetNs t.mode t.map (spar 0x0303 n s) (120 * ((t.item.data.length + 16) / 120) - 16) - 20000) s)) :=
  becomes rfl (by simp [hTx, hAiring, hAired, hCt, hWritten, hReach])

/-- The slice's power amplifier is down and what it sent is gone. -/
def rampedDown (n : Fin 12) (s : State) : State :=
  modSlice n (fun x => { x with txOn := false, tx := x.tx.filter (fun t => !t.aired) }) (reachTb (slice n s).rampEnd s)

/-- What the end of the ramp-down does: it begins the CAL that waited for it. -/
theorem txRampDownEnd_eq (hOn : (slice n s).txOn = true) (hTx : (slice n s).tx.any (fun t => t.airing && !t.aired) = false)
    (hAcks : (slice n s).enhAcks.any (·.airing) = false) (hReach : tbCanReach (slice n s).rampEnd s = true) :
    execTxRampDownEnd n s = ok (match (slice n s).cal with
      | some c =>
        if c.waiting then beginCal n (modSlice n (fun x => { x with
          cal := some { c with endAt := (rampedDown n s).time.elapsed + calNs n c.mask (rampedDown n s) } }) (rampedDown n s))
        else rampedDown n s
      | none => rampedDown n s) := by
  unfold execTxRampDownEnd
  simp only [hOn, hTx, hAcks, hReach, Bool.not_true, Bool.or_self, Bool.false_eq_true, if_false, slice_modSlice, slice_reachTb]
  rfl

theorem txRampDownEnd_down (hOn : (slice n s).txOn = true) (hTx : (slice n s).tx.any (fun t => t.airing && !t.aired) = false)
    (hAcks : (slice n s).enhAcks.any (·.airing) = false) (hReach : tbCanReach (slice n s).rampEnd s = true)
    (hCal : (slice n s).cal = none ∨ (slice n s).cal = some c ∧ c.waiting = false) :
    Becomes (.txRampDownEnd n) s (rampedDown n s) :=
  (txRampDownEnd_eq hOn hTx hAcks hReach).trans (congrArg ok (by
    obtain hNone | ⟨hSome, hIdle⟩ := hCal
    · simp only [hNone]
    · simp [hSome, hIdle]))

theorem txRampDownEnd_calibrates (hOn : (slice n s).txOn = true) (hTx : (slice n s).tx.any (fun t => t.airing && !t.aired) = false)
    (hAcks : (slice n s).enhAcks.any (·.airing) = false) (hReach : tbCanReach (slice n s).rampEnd s = true)
    (hCal : (slice n s).cal = some c) (hWaits : c.waiting = true) :
    Becomes (.txRampDownEnd n) s (beginCal n (modSlice n (fun x => { x with
      cal := some { c with endAt := (rampedDown n s).time.elapsed + calNs n c.mask (rampedDown n s) } }) (rampedDown n s))) :=
  (txRampDownEnd_eq hOn hTx hAcks hReach).trans (congrArg ok (by simp only [hCal, hWaits, if_true]))

theorem blankingEnd_ends (hBlank : (slice n s).blank = true) (hReach : tbCanReach (slice n s).blankEnd s = true) :
    Becomes (.blankingEnd n) s
      (modSlice n (fun x => { x with blank := false, blankEnd := 0 }) (reachTb (slice n s).blankEnd s)) :=
  becomes rfl (by simp only [hBlank, hReach, Bool.and_self, if_true])

end

/-- Settles O15: each event by its own lemma. -/
theorem airEvents : Obligations.AirEvents :=
  fun _ _ _ _ _ _ =>
    ⟨blankingStart_blanks, launch_airs, frameAired_frame, ctCellDeadline_underruns,
     fun hOn hTx hAcks hReach =>
       ⟨txRampDownEnd_down hOn hTx hAcks hReach, txRampDownEnd_calibrates hOn hTx hAcks hReach⟩,
     blankingEnd_ends⟩

/-! ## Acknowledgements and the measured reflection -/

section
variable {n : Fin 12} {t : TxRun} {k : AckWait} {ea : EnhAck} {loss : BitVec 8} {s : State}

theorem ackWaitExpiry_fails (hWait : (slice n s).ackWait = some k) (hReach : tbCanReach k.closeAt s = true) (hLane : k.lane = none) :
    Becomes (.ackWaitExpiry n) s (ackFailed n (openWaits (reachTb k.closeAt s))) :=
  becomes rfl (by simp [hWait, hReach, hLane])

theorem ackWaitExpiry_detected (hWait : (slice n s).ackWait = some k) (hReach : tbCanReach k.closeAt s = true)
    (hLane : k.lane.isSome = true) : Becomes (.ackWaitExpiry n) s
      (modSlice n (fun x => { x with ackWait := some { k with opened := false } }) (openWaits (reachTb k.closeAt s))) :=
  becomes rfl (by simp [hWait, hReach, hLane])

theorem enhAckLaunch_airs (hAck : (slice n s).enhAcks = [ea]) (hNew : ea.airing = false) (hBuilt : ea.built = true)
    (hReach : tbCanReach ea.launch s = true) (hOn : (slice n s).txOn = true) :
    Becomes (.enhAckLaunch n) s (captureTx n ea.launch (modSlice n (fun x => { x with
        enhAcks := modFirst (fun k => k = ea) (fun e => { e with airing := true }) x.enhAcks })
      (emitLaunch n ea.launch 1 0 ea.mode (ea.octets.length + spar 0x0301 n s) ea.octets
        (putOnAir n ea.tap (ackAirFrame n ea (reachTb ea.launch s)) (reachTb ea.launch s))))) :=
  becomes rfl (by
    simp [hAck, hNew, hBuilt, hReach, hOn]
    rfl)

theorem enhAckLaunch_late (hAck : (slice n s).enhAcks = [ea]) (hNew : ea.airing = false) (hBuilt : ea.built = false)
    (hReach : tbCanReach ea.launch s = true) :
    Becomes (.enhAckLaunch n) s (dropAcks n (fun k => k = ea) (reachTb ea.launch s)) :=
  becomes rfl (by simp [hAck, hNew, hBuilt, hReach])

theorem frameAired_enhAck (hTx : (slice n s).tx = none) (hAck : (slice n s).enhAcks = [ea]) (hAiring : ea.airing = true)
    (hReach : tbCanReach ea.endAt s = true) :
    Becomes (.frameAired n) s (retryLaunches (enhAckAired n ea (reachTb ea.endAt s))) :=
  becomes rfl (by simp [hTx, hAck, hAiring, hReach])

/-- The state after a mismatch was counted and reported. -/
def mismatchTold (n : Fin 12) (s : State) : State := notify 0x0102 n.val 0x00 (blkSlice n) (bumpSl 0x0126 n s)

/-- The mismatch is kept with the slice and with its transmission. -/
def mismatchKept (n : Fin 12) (loss : BitVec 8) (t : TxRun) (s : State) : State :=
  modSlice n (fun x => { x with
    lastLoss := loss.toNat
    mismatch := x.mismatch || spar 0x0105 n (mismatchTold n s) ≠ 0
    tx := some { t with
      minLoss := some (min loss.toNat (t.minLoss.getD loss.toNat))
      backoff := t.backoff || spar 0x0105 n (mismatchTold n s) = 1 } }) (mismatchTold n s)

theorem txMismatchMeasure_below (hInt : isExt n = false) (hTx : (slice n s).tx = some t) (hAiring : t.airing = true)
    (hAired : t.aired = false) (hBelow : loss.toNat < spar 0x0104 n s) :
    Becomes (.txMismatchMeasure n loss) s (if spar 0x0105 n (mismatchTold n s) = 2 then
      cutFor n 0x30 (w32 loss.toNat) (mismatchKept n loss t s) else mismatchKept n loss t s) :=
  becomes rfl (by
    have hMeasures : (isExt n || !t.airing || t.aired || decide (spar 0x0104 n s ≤ loss.toNat)) = false := by
      simp [hInt, hAiring, hAired, hBelow]
    simp only [hTx, hMeasures, Bool.false_eq_true, if_false]
    rfl)

end

/-- Settles O16: each event by its own lemma. -/
theorem acknowledgementEvents : Obligations.AcknowledgementEvents :=
  fun _ _ _ _ _ _ =>
    ⟨ackWaitExpiry_fails, ackWaitExpiry_detected, enhAckLaunch_airs, enhAckLaunch_late, frameAired_enhAck, txMismatchMeasure_below⟩

/-! ## Lock, calibrations and temperature -/

section
variable {n : Fin 12} {c : CalRun} {e : Nat} {t : Int} {r : TxRun} {s : State}

/-- The calibration triggered during a CAL that did not do both of the first two is late (10 R330). -/
def lateTrigger (n : Fin 12) (c : CalRun) (s : State) : Bool :=
  !(slice n s).tcalPend && c.trigger && !(c.mask.testBit 0 && c.mask.testBit 1)

/-- The slice after all the calibrations of a CAL have converged. -/
def calConverged (n : Fin 12) (c : CalRun) (s : State) : State :=
  afterCal n (modSlice n (fun x => { x with
    tempRef := if c.mask.testBit 0 then c.irTemp else x.tempRef
    tcalPend := (x.tcalPend && !(c.mask.testBit 0 && c.mask.testBit 1)) || lateTrigger n c s
    tcalSince := if lateTrigger n c s then (reachElapsed c.endAt s).time.elapsed else x.tcalSince
    tcalTold := x.tcalTold && !lateTrigger n c s, calOk := true, calDoneOk := true, offline := false }) (reachElapsed c.endAt s))

theorem calDone_converged (hCal : (slice n s).cal = some c) (hTemp : c.temp = false) (hWaits : c.waiting = false)
    (hInt : isExt n = false) (hWord : c.wordFail = false) (hTicket : c.ticket = none) :
    calDone n none s = if (seq n (calConverged n c s)).await = some (.cal n) then
      unblockSlice n 0x00 0 0 (calConverged n c s) else calConverged n c s := by
  unfold calDone calConverged lateTrigger
  simp [hCal, hTemp, hWaits, hInt, hWord, hTicket, -Nat.testBit_zero, stOK]
  rfl

theorem calComplete_converged (hAlive : alive s = true) (hCal : (slice n s).cal = some c) (hTemp : c.temp = false)
    (hWaits : c.waiting = false) (hInt : isExt n = false) (hWord : c.wordFail = false) (hTicket : c.ticket = none) :
    BecomesThenRecord (.calComplete n none) s (if (seq n (calConverged n c s)).await = some (.cal n) then
      unblockSlice n 0x00 0 0 (calConverged n c s) else calConverged n c s) :=
  becomesThenRecord rfl (by
    rw [if_pos hAlive, calDone_converged hCal hTemp hWaits hInt hWord hTicket])

theorem tempCalStart_starts (hPend : (slice n s).tcalPend = true) (hCal : (slice n s).cal = none) (hInt : isExt n = false)
    (hOff : (slice n s).off = false) (hOffline : (slice n s).offline = false) (hWin : (slice n s).win = none)
    (hTxf : (slice n s).txf = none) (hTx : (slice n s).tx = none) (hOn : (slice n s).txOn = false) (hAcks : (slice n s).enhAcks = [])
    (hWait : (slice n s).ackWait = none) (hLanes : ∀ l ∈ s.radio.lanes.toList, l = none) :
    Becomes (.tempCalStart n) s (bumpSl 0x0129 n (beginCal n (modSlice n (fun x => { x with
      tcalPend := false, cal := some { temp := true, mask := 3, endAt := s.time.elapsed + 2700000 } }) s))) :=
  becomes rfl (by
    unfold tempCalStart
    have hIdle : s.radio.lanes.toList.any (fun l => l.any (fun l => l.sl = n && l.passed)) = false :=
      List.any_eq_false.mpr (fun l hl => by simp [hLanes l hl])
    simp [hPend, hCal, hInt, hOff, hOffline, hWin, hTxf, hTx, hOn, hAcks, hWait, hIdle])

theorem tempCalEnd_ends (hCal : (slice n s).cal = some c) (hTemp : c.temp = true) :
    Becomes (.tempCalEnd n) s (afterCal n (modSlice n (fun x => { x with tempRef := c.irTemp }) (reachElapsed c.endAt s))) :=
  becomes rfl (by simp only [hCal, hTemp, if_true])

theorem tcalDeferTimeout_tells (hPend : (slice n s).tcalPend = true) (hTold : (slice n s).tcalTold = false) :
    Becomes (.tcalDeferTimeout n) s (notify 0x0101 n.val 0x00 (blkSlice n) (modSlice n (fun x => { x with tcalTold := true })
      (reachElapsed ((slice n s).tcalSince + spar 0x0107 n s * 1000000000) s))) :=
  becomes rfl (by simp [hPend, hTold, stOK])

/-- The measured temperature is the slice's, and that of a calibration's image rejection that goes on. -/
def heated (n : Fin 12) (t : Int) (s : State) : State :=
  modSlice n (fun x => { x with
    temp := t
    cal := x.cal.map (fun c => if s.time.elapsed ≤ c.irEnd && !c.waiting then { c with irTemp := t } else c) }) s

/-- A measurement far from the reference triggers a calibration, during a CAL for its end (10 R327, R330). -/
def tempTriggered (n : Fin 12) (t : Int) (u : State) : State :=
  if (spar 0x0106 n u : Int) * 8 ≤ |t - (slice n u).tempRef| && !(slice n u).tcalPend && !((slice n u).cal.any (·.temp)) then
    if calRunning (slice n u) then modSlice n (fun x => { x with cal := x.cal.map (fun c => { c with trigger := true }) }) u
    else modSlice n (fun x => { x with tcalPend := true, tcalSince := u.time.elapsed, tcalTold := false }) u
  else u

theorem tempTriggered_of_pending {u : State} (hPend : (slice n u).tcalPend = true) : tempTriggered n t u = u :=
  if_neg (by simp [hPend])

theorem tempTriggered_of_far {u : State} (hPend : (slice n u).tcalPend = false) (hCal : (slice n u).cal = none)
    (hFar : (spar 0x0106 n u : Int) * 8 ≤ |t - (slice n u).tempRef|) :
    tempTriggered n t u = modSlice n (fun x => { x with tcalPend := true, tcalSince := u.time.elapsed, tcalTold := false }) u :=
  (if_pos (by simp [hPend, hCal, hFar])).trans (if_neg (by simp [calRunning, hCal]))

theorem sliceTempMeasure_int (hInt : isExt n = false) : exec (.sliceTempMeasure n t) s =
    ok (if 1080 < t then sliceFault n 5 (tempTriggered n t (heated n t s)) else tempTriggered n t (heated n t s)) :=
  congrArg ok (if_neg (by simp [hInt]))

theorem heated_tcalPend : (slice n (heated n t s)).tcalPend = (slice n s).tcalPend := by simp [heated]

theorem heated_cal_of_none (hCal : (slice n s).cal = none) : (slice n (heated n t s)).cal = none := by simp [heated, hCal]

theorem heated_tempRef : (slice n (heated n t s)).tempRef = (slice n s).tempRef := by simp [heated]

theorem sliceTempMeasure_keeps (hInt : isExt n = false) (hCool : t ≤ 1080) (hPend : (slice n s).tcalPend = true) :
    Becomes (.sliceTempMeasure n t) s (heated n t s) :=
  becomes (sliceTempMeasure_int hInt) ((if_neg (Int.not_lt.mpr hCool)).trans
    (tempTriggered_of_pending (heated_tcalPend.trans hPend)))

theorem sliceTempMeasure_faults (hInt : isExt n = false) (hHot : 1080 < t) (hPend : (slice n s).tcalPend = true) :
    Becomes (.sliceTempMeasure n t) s (sliceFault n 5 (heated n t s)) :=
  becomes (sliceTempMeasure_int hInt) ((if_pos hHot).trans
    (congrArg (sliceFault n 5) (tempTriggered_of_pending (heated_tcalPend.trans hPend))))

theorem sliceTempMeasure_triggers (hInt : isExt n = false) (hCool : t ≤ 1080) (hPend : (slice n s).tcalPend = false)
    (hCal : (slice n s).cal = none) (hFar : (spar 0x0106 n s : Int) * 8 ≤ |t - (slice n s).tempRef|) :
    Becomes (.sliceTempMeasure n t) s
      (modSlice n (fun x => { x with tcalPend := true, tcalSince := s.time.elapsed, tcalTold := false }) (heated n t s)) :=
  becomes (sliceTempMeasure_int hInt) ((if_neg (Int.not_lt.mpr hCool)).trans
    (tempTriggered_of_far (heated_tcalPend.trans hPend) (heated_cal_of_none hCal) (heated_tempRef.symm ▸ hFar)))

theorem synthLock_locks (hInt : isExt n = false) (hMoving : (slice n s).moving = true) (hRetune : (slice n s).retune = false)
    (hCal : calRunning (slice n s) = false) (hOffline : (slice n s).offline = false) (hTuned : (slice n s).tuned.isSome = true) :
    Becomes (.synthLock n) s (onLock n (modSlice n (fun x => { x with
      locked := true, lockAt := tbNs s, moving := false, lostAt := none, calDoneOk := false }) s)) :=
  becomes rfl (by simp [hInt, hMoving, hRetune, hCal, hOffline, hTuned])

/-- The slice has lost its lock: counted, its receptions abandoned. -/
def lockLost (n : Fin 12) (s : State) : State :=
  abandonAll n (bumpSl 0x0122 n (modSlice n (fun x => { x with
    locked := false, oldSeg := none, moving := true, lostAt := some s.time.elapsed, lossTold := false }) s))

theorem lockLoss_noFrame (hInt : isExt n = false) (hLocked : (slice n s).locked = true ∨ (slice n s).oldSeg.isSome = true)
    (hTx : (slice n (lockLost n s)).tx = none) : Becomes (.lockLoss n) s (dropEnhAck n (lockLost n s)) :=
  becomes rfl (by
    have hHad : ((slice n s).locked || (slice n s).oldSeg.isSome) = true := by simpa using hLocked
    unfold lockLost at hTx ⊢
    simp only [hInt, hHad, Bool.not_true, Bool.or_self, Bool.false_eq_true, if_false, hTx])

theorem lockLoss_cut (hInt : isExt n = false) (hLocked : (slice n s).locked = true ∨ (slice n s).oldSeg.isSome = true)
    (hTx : (slice n (lockLost n s)).tx = some r) (hAired : r.aired = false) (hAiring : r.airing = true) :
    Becomes (.lockLoss n) s (dropEnhAck n (cutFor n 0x08 0xFFFFFFFF (lockLost n s))) :=
  becomes rfl (by
    have hHad : ((slice n s).locked || (slice n s).oldSeg.isSome) = true := by simpa using hLocked
    unfold lockLost at hTx ⊢
    simp only [hInt, hHad, Bool.not_true, Bool.or_self, Bool.false_eq_true, if_false, if_true, hTx, hAired, hAiring, stLATE_LOCK])

theorem relockTimeout_tells (hLost : (slice n s).lostAt = some e) (hTold : (slice n s).lossTold = false)
    (hLocked : (slice n s).locked = false) :
    Becomes (.relockTimeout n) s (notify 0x0103 n.val 0x00 (blkSlice n)
      (modSlice n (fun x => { x with lossTold := true }) (reachElapsed (e + 1000000) s))) :=
  becomes rfl (by simp [hLost, hTold, hLocked, stOK])

theorem deferredRetuneStart_starts (hRetune : (slice n s).retune = true) (hHeld : retuneHeld (slice n s) = false)
    (hCal : calRunning (slice n s) = false) (hOffline : (slice n s).offline = false) :
    Becomes (.deferredRetuneStart n) s (beginRetune n s) :=
  becomes rfl (by simp [hRetune, hHeld, hCal, hOffline])

end

/-- Settles O17: each event by its own lemma. -/
theorem lockAndCalibrationEvents : Obligations.LockAndCalibrationEvents :=
  fun _ _ _ _ _ _ =>
    ⟨calComplete_converged, tempCalStart_starts, tempCalEnd_ends, tcalDeferTimeout_tells,
     fun hInt => ⟨sliceTempMeasure_keeps hInt, sliceTempMeasure_triggers hInt, sliceTempMeasure_faults hInt⟩,
     synthLock_locks,
     fun hInt hLocked => ⟨lockLoss_noFrame hInt hLocked, lockLoss_cut hInt hLocked⟩,
     relockTimeout_tells, deferredRetuneStart_starts⟩

end Sys2Proof.Machine
end

section
/-! PROOF. Front-end transfers, settling, gain, diversity, XIQ lanes and slice faults (01 R14, R15; 09 R304-R309; 10 R333-R353). -/

namespace Sys2Proof.Machine

/-- Two changes of a slice are one. -/
theorem modSlice_modSlice (n : Fin 12) (f g : SliceS → SliceS) (s : State) :
    modSlice n f (modSlice n g s) = modSlice n (fun x => f (g x)) s := by
  simp [modSlice, upd]

/-! ## Front-ends -/

section
variable {n : Fin 12} {w : FeWord} {rest : List FeWord} {ack : BitVec 8} {c : CalRun} {e : Nat} {p : Int} {clip : Bool} {s : State}

theorem fectlTransfer_tune (hWords : s.radio.fe0 = w :: rest) (hTune : w.fromTune = true) (hTyp : w.typ = 0)
    (hAck : ack = 0xA0 ||| s.radio.feSeq0.setWidth 8) : BecomesThenRecord (.fectlTransfer 0 ack) s
      (modSlice w.sl (fun x => { x with settleFrom := some s.time.elapsed })
        { s with radio := { s.radio with fe0 := rest, feSeq0 := s.radio.feSeq0 + 1 } }) :=
  becomesThenRecord rfl (congrArg resume (by simp [feTransfer, hWords, hTune, hTyp, hAck, feOutcome]))

theorem fectlTransfer_feout (hWords : s.radio.fe1 = w :: rest) (hTune : w.fromTune = false) (hTyp : w.typ = 1)
    (hAck : ack = 0xA0 ||| s.radio.feSeq1.setWidth 8) (hAwait : (seq w.sl s).await = some (.feout w.sl)) :
    BecomesThenRecord (.fectlTransfer 1 ack) s (endFeout w.sl 0x00 0 0
      (modSlice w.sl (fun x => { x with statics := w.payload, inhibit := w.payload.testBit 3 })
        { s with radio := { s.radio with fe1 := rest, feSeq1 := s.radio.feSeq1 + 1 } })) :=
  becomesThenRecord rfl (congrArg resume (by
    have hStill : ∀ f r, (seq w.sl (modSlice w.sl f { s with radio := r })).await = some (.feout w.sl) := fun _ _ => hAwait
    simp [feTransfer, hWords, hTune, hTyp, hAck, feOutcome, hStill, stOK]))

/-- The external slice's front-end has settled. -/
def settledAt (n : Fin 12) (e : Nat) (s : State) : State :=
  modSlice n (fun x => { x with settleFrom := none, moving := false }) (reachElapsed (e + spar 0x0110 n s * 1000) s)

theorem extSettleElapsed_eq (hFrom : (slice n s).settleFrom = some e) (hExt : isExt n = true) (hMoving : (slice n s).moving = true)
    (hOffline : (slice n s).offline = false) : exec (.extSettleElapsed n) s = ok (
      if calRunning (slice n (settledAt n e s)) then
        modSlice n (fun x => { x with cal := x.cal.map (fun c => { c with wasLocked := true }) }) (settledAt n e s)
      else onLock n (modSlice n (fun x => { x with locked := true, lockAt := tbNs (settledAt n e s) }) (settledAt n e s))) := by
  show execExtSettleElapsed n s = _
  unfold execExtSettleElapsed
  simp only [hFrom, hExt, hMoving, hOffline, Bool.not_true, Bool.or_self, Bool.false_eq_true, if_false]
  rfl

theorem calRunning_settledAt : calRunning (slice n (settledAt n e s)) = calRunning (slice n s) := by
  simp only [settledAt, slice_modSlice]
  rfl

theorem extSettleElapsed_locks (hFrom : (slice n s).settleFrom = some e) (hExt : isExt n = true) (hMoving : (slice n s).moving = true)
    (hOffline : (slice n s).offline = false) (hCal : calRunning (slice n s) = false) :
    Becomes (.extSettleElapsed n) s
      (onLock n (modSlice n (fun x => { x with locked := true, lockAt := tbNs (settledAt n e s) }) (settledAt n e s))) :=
  becomes (extSettleElapsed_eq hFrom hExt hMoving hOffline) (if_neg (by rw [calRunning_settledAt, hCal]; exact Bool.false_ne_true))

theorem extSettleElapsed_calibrating (hFrom : (slice n s).settleFrom = some e) (hExt : isExt n = true)
    (hMoving : (slice n s).moving = true) (hOffline : (slice n s).offline = false) (hCal : calRunning (slice n s) = true) :
    Becomes (.extSettleElapsed n) s
      (modSlice n (fun x => { x with cal := x.cal.map (fun c => { c with wasLocked := true }) }) (settledAt n e s)) :=
  becomes (extSettleElapsed_eq hFrom hExt hMoving hOffline) (if_pos (calRunning_settledAt.trans hCal))

theorem extCalTimeElapsed_ends (hCal : (slice n s).cal = some c) (hExt : isExt n = true) (hTemp : c.temp = false)
    (hWaits : c.waiting = false) (hMask : c.mask.testBit 2 = true) (hWord : c.wordFail = false) (hDone : c.extDone = false)
    (hWords0 : s.radio.fe0 = []) (hWords1 : s.radio.fe1 = []) :
    Becomes (.extCalTimeElapsed n) s (modSlice n (fun x => { x with cal := some { c with extDone := true } })
      (reachElapsed (c.endAt - (if c.mask.testBit 3 then 300000 else 0)) s)) :=
  becomes rfl (by
    have hNoWords : (if fePort n = 0 then s.radio.fe0 else s.radio.fe1) = [] := by rw [hWords0, hWords1, ite_self]
    have hRuns : (!isExt n || c.temp || c.waiting || !c.mask.testBit 2 || c.wordFail || c.extDone) = false := by
      rw [hExt, hTemp, hWaits, hMask, hWord, hDone]
      rfl
    simp only [hCal, hRuns, hNoWords, List.any_nil, Bool.or_self, Bool.false_eq_true, if_false])

/-- The gain state becomes g once the hold time after the last step is over. -/
def gainStepped (n : Fin 12) (hold g : Nat) (s : State) : State :=
  setGain n g (modSlice n (fun x => { x with agcAt := (reachElapsed ((slice n s).agcAt + hold) s).time.elapsed })
    (reachElapsed ((slice n s).agcAt + hold) s))

theorem agcStepDown_steps (hInt : isExt n = false) (hRx : receiving n s = false) (hOn : (slice n s).off = false)
    (hHigh : clip = true ∨ (par 0x0102 n.val s).toInt < p) :
    Becomes (.agcStepDown { sl := n, power := p, clip := clip }) s (gainStepped n 2000 (min 15 ((slice n s).gain + 1)) s) :=
  becomes rfl (by
    have hSteps : (isExt n || receiving n s || (slice n s).off || !(clip || decide ((par 0x0102 n.val s).toInt < p))) = false := by
      obtain hClip | hPower := hHigh <;> simp [*]
    simp only [hSteps, Bool.false_eq_true, if_false]
    rfl)

theorem agcStepUp_steps (hInt : isExt n = false) (hRx : receiving n s = false) (hOn : (slice n s).off = false)
    (hLow : p < (par 0x0103 n.val s).toInt) :
    Becomes (.agcStepUp { sl := n, power := p }) s (gainStepped n 64000 ((slice n s).gain - 1) s) :=
  becomes rfl (by
    have hSteps : (isExt n || receiving n s || (slice n s).off || decide ((par 0x0103 n.val s).toInt ≤ p)) = false := by
      simp [hInt, hRx, hOn, hLow]
    simp only [hSteps, Bool.false_eq_true, if_false]
    rfl)

theorem forcedGainStep_steps (hInt : isExt n = false) (hRx : receiving n s = true) (hGain : (slice n s).gain < 15) :
    Becomes (.forcedGainStep n) s (bumpSl 0x0120 n (bumpSl 0x0121 n
      (setGain n ((slice n s).gain + 1) (modSlice n (fun x => { x with agcAt := s.time.elapsed }) s)))) :=
  becomes rfl (by simp only [hInt, hRx, Nat.not_le.mpr hGain, decide_false, Bool.not_true, Bool.or_self, Bool.false_eq_true, if_false])

theorem diversitySwitch_draws (hInt : isExt n = false) (hSel : (slice n s).sel = 2) (hQuiet : quietNow n s = true) :
    Becomes (.diversitySwitch n) s (withDraw 2 s fun long u =>
      if (if long = 1 && ((slice n s).quiet + long) % 8 = 0 then 1 - (slice n s).listen else betterPort (slice n s)) = (slice n s).listen then
        modSlice n (fun x => { x with
          quiet := ((slice n s).quiet + long) % 8
          listen := if long = 1 && ((slice n s).quiet + long) % 8 = 0 then 1 - (slice n s).listen else betterPort (slice n s) }) u
      else bumpSl 0x0127 n (modSlice n (fun x => { x with
          quiet := ((slice n s).quiet + long) % 8
          listen := if long = 1 && ((slice n s).quiet + long) % 8 = 0 then 1 - (slice n s).listen else betterPort (slice n s) }) u)) :=
  becomes rfl (by
    have hSwitches : (isExt n || decide ((slice n s).sel ≠ 2) || !quietNow n s) = false := by simp [hInt, hSel, hQuiet]
    simp only [hSwitches, Bool.false_eq_true, if_false])

end

/-! ## XIQ lanes and slice faults -/

section
variable {n : Fin 12} {b : XiqBlk} {s : State}

/-- What the block sent holds does not depend on the gain. -/
theorem xiqBlockOut_setGain (g t : Nat) : xiqBlockOut (slice n (setGain n g s)) t = xiqBlockOut (slice n s) t := by
  simp [setGain, xiqBlockOut]

theorem xiqBlock_good (hExt : isExt n = true) (hUp : (slice n s).xiq = 2) (hOk : b.ok = true) (hOvl : b.ovl = false) :
    Becomes (.xiqBlock n b) s (modSlice n (fun x => { x with
      xiqOut := xiqBlockOut (slice n s) (tbNs s), xiqGood := x.xiqGood + 1, xiqLast := s.time.elapsed
      xiqBad := (false :: x.xiqBad).take 256 }) (setGain n b.gain.val s)) :=
  becomes rfl (by
    have hNow : tbNs (setGain n b.gain.val s) = tbNs s := rfl
    have hElapsed : (setGain n b.gain.val s).time = s.time := rfl
    simp only [hExt, hUp, hOk, hOvl, if_true, Bool.and_false, Bool.false_eq_true, if_false]
    exact modSlice_congr (by rw [xiqBlockOut_setGain, hNow, hElapsed]; rfl))

theorem xiqBlock_bad (hExt : isExt n = true) (hUp : (slice n s).xiq = 2) (hBad : b.ok = false) :
    Becomes (.xiqBlock n b) s (modSlice n (fun x => { x with
      xiqOut := xiqBlockOut (slice n s) (tbNs s), xiqGood := 0, xiqBad := (true :: x.xiqBad).take 256 }) (bumpSl 0x0416 n s)) :=
  becomes rfl (by
    simp only [hExt, hUp, hBad]
    exact modSlice_congr rfl)

theorem xiqBlock_up (hExt : isExt n = true) (hTrains : (slice n s).xiq = 1) (hOk : b.ok = true) (hOvl : b.ovl = false)
    (hGood : 255 ≤ (slice n s).xiqGood) :
    Becomes (.xiqBlock n b) s (modSlice n (fun x => { x with
      xiqOut := xiqBlockOut (slice n s) (tbNs s), xiqGood := x.xiqGood + 1, xiqLast := s.time.elapsed
      xiq := 2, xiqSince := s.time.elapsed, xiqBad := [] }) (setGain n b.gain.val s)) :=
  becomes rfl (by
    have hUp : 256 ≤ (slice n (setGain n b.gain.val s)).xiqGood + 1 := by
      simpa [setGain] using hGood
    have hNow : tbNs (setGain n b.gain.val s) = tbNs s := rfl
    simp only [hExt, hTrains, hOk, hOvl, slice_modSlice, hUp, modSlice_modSlice, if_true, Bool.and_false, Bool.false_eq_true,
      if_false]
    exact modSlice_congr (by rw [xiqBlockOut_setGain, hNow]; rfl))

theorem xiqSlip_abandons {slipped : Bool} (hExt : isExt n = true) (hUp : (slice n s).xiq = 2) :
    Becomes (.xiqSlip n slipped) s (bumpSl 0x0417 n (abandonAll n s)) :=
  becomes rfl (by cases slipped <;> simp [hExt, hUp])

theorem xiqTrainingTimeout_tells (hExt : isExt n = true) (hTrains : (slice n s).xiq = 1) :
    Becomes (.xiqTrainingTimeout n) s (notify 0x0402 n.val 0x00 (blkSlice n)
      (modSlice n (fun x => { x with xiq := 3, xiqSince := (reachElapsed ((slice n s).xiqSince + 10000000) s).time.elapsed })
        (reachElapsed ((slice n s).xiqSince + 10000000) s))) :=
  becomes rfl (by simp [hExt, hTrains, stOK])

theorem xiqLaneLoss_faults (hExt : isExt n = true) (hUp : (slice n s).xiq = 2) (hBad : 32 ≤ ((slice n s).xiqBad.filter id).length) :
    Becomes (.xiqLaneLoss n) s (sliceFault n 4 (notify 0x0402 n.val 0x00 (blkSlice n)
      (modSlice n (fun x => { x with xiq := 3, xiqSince := s.time.elapsed }) s))) :=
  becomes rfl (by simp only [hExt, hUp, hBad, stOK, Bool.not_true, ne_eq, not_true, decide_false, Bool.or_self, Bool.false_eq_true,
    if_false, if_true])

end

/-- Settles O18: each event by its own lemma. -/
theorem lanesAndFrontEnds : Obligations.LanesAndFrontEnds :=
  ⟨fun _ _ _ _ _ _ _ _ _ => ⟨fectlTransfer_tune, fectlTransfer_feout,
     fun hFrom hExt hMoving hOffline => ⟨extSettleElapsed_locks hFrom hExt hMoving hOffline,
       extSettleElapsed_calibrating hFrom hExt hMoving hOffline⟩,
     extCalTimeElapsed_ends,
     fun hInt hRx hOn => ⟨agcStepDown_steps hInt hRx hOn, agcStepUp_steps hInt hRx hOn⟩,
     forcedGainStep_steps, diversitySwitch_draws⟩,
   fun _ _ _ _ _ => ⟨xiqBlock_good, xiqBlock_bad, xiqBlock_up, xiqSlip_abandons, xiqTrainingTimeout_tells, xiqLaneLoss_faults, rfl⟩⟩

end Sys2Proof.Machine
end

section
/-! PROOF. Receiving a frame: detections, the header, the check sequence, admission and the noise floor (08 R269-R278; 09 R294-R300;
11 R379). -/

namespace Sys2Proof.Machine

section
variable {d : Det} {more : List Det} {n : Fin 12} {tp : Fin 16} {e : Nat} {ln : Fin 64} {phr : Phr} {l : Lane} {m : PhrMode}
  {p : RxPay} {f : RxFrame} {info : FrameInfo} {errs : List MemErr} {blocks : List Nat} {s : State}

/-! ## Detections -/

/-- The latest instant of a detection and those of its interval. -/
def lastOf (d : Det) (more : List Det) : Nat := more.foldl (fun m e => max m e.at_) d.at_

theorem watcherDetection_serves (hReach : tbCanReach (lastOf d more) s = true) :
    Becomes (.watcherDetection d.sl d.tap d.toSeen more) s
      (serveDets (more.length + 1) (d :: more) (openWaits (reachTb (lastOf d more) s))) :=
  becomes rfl (if_neg (by
    unfold lastOf at hReach
    simp [hReach]))

/-- A detection served alone has its outcome when its watcher is armed and fires. -/
theorem serveDets_alone (hArmed : armed d.sl d.tap d.at_ s = true) (hFires : fires d s = true) :
    serveDets 1 [d] s = detection d.sl d.tap (aerialPower d.sl (gainAt (slice d.sl s) d.at_) d.power s) d.at_ s := by
  simp [serveDets, detect, hArmed, hFires]

theorem watcherDetection_alone (hReach : tbCanReach d.at_ s = true) (hArmed : armed d.sl d.tap d.at_ (openWaits (reachTb d.at_ s)) = true)
    (hFires : fires d (openWaits (reachTb d.at_ s)) = true) :
    Becomes (.watcherDetection d.sl d.tap d.toSeen []) s (detection d.sl d.tap
      (aerialPower d.sl (gainAt (slice d.sl (openWaits (reachTb d.at_ s))) d.at_) d.power (openWaits (reachTb d.at_ s)))
      d.at_ (openWaits (reachTb d.at_ s))) :=
  (watcherDetection_serves (more := []) hReach).trans (congrArg ok (serveDets_alone hArmed hFires))

theorem watcherRearm_arms (hHold : (slice n s).holdOff[tp] = some e) (hReach : tbCanReach e s = true) :
    Becomes (.watcherRearm n tp) s (modSlice n (fun x => { x with holdOff := x.holdOff.set tp none }) (reachTb e s)) :=
  becomes rfl (by
    simp only [hHold, hReach, if_true])

/-! ## The header -/

section
variable (hLane : lane ln s = some l) (hNew : l.passed = false) (hOut : l.out = none)
include hLane hNew hOut

theorem phrCheck_noMode (hMode : phrMode l phr (openWaits s) = none) :
    Becomes (.phrCheck ln phr) s (relockOrFree ln l 1 (bumpSl 0x0320 l.sl (openWaits s))) :=
  becomes rfl (by
    have hChecks : (l.passed || l.out.isSome) = false := by simp [hNew, hOut]
    simp only [hLane, hChecks, hMode, Bool.false_eq_true, if_false])

/-- What a header of a mode does, by its length (08 Table OM-8). -/
theorem phrCheck_mode (hMode : phrMode l phr (openWaits s) = some m) : exec (.phrCheck ln phr) s = ok (
    if phr.len < fcsOctets l.sl l phr (openWaits s) + 2 then relockOrFree ln l 1 (bumpSl 0x0320 l.sl (openWaits s))
    else if spar 0x0300 l.sl (openWaits s) < phr.len then
      oversize ln l (startOf l phr s) (noteLast ln { l with rssi := rssiOf l phr (openWaits s), cfo := phr.cfo } (startOf l phr s) (openWaits s))
    else phrPasses ln l phr (startOf l phr s) m (openWaits s)) := by
  show execPhrCheck ln phr s = _
  have hChecks : (l.passed || l.out.isSome) = false := by simp [hNew, hOut]
  unfold execPhrCheck
  simp only [hLane, hChecks, hMode, Bool.false_eq_true, if_false]

theorem phrCheck_short (hMode : phrMode l phr (openWaits s) = some m) (hShort : phr.len < fcsOctets l.sl l phr (openWaits s) + 2) :
    Becomes (.phrCheck ln phr) s (relockOrFree ln l 1 (bumpSl 0x0320 l.sl (openWaits s))) :=
  becomes (phrCheck_mode hLane hNew hOut hMode) (if_pos hShort)

theorem phrCheck_oversize (hMode : phrMode l phr (openWaits s) = some m) (hLong : fcsOctets l.sl l phr (openWaits s) + 2 ≤ phr.len)
    (hOver : spar 0x0300 l.sl (openWaits s) < phr.len) : Becomes (.phrCheck ln phr) s (oversize ln l (startOf l phr s)
      (noteLast ln { l with rssi := rssiOf l phr (openWaits s), cfo := phr.cfo } (startOf l phr s) (openWaits s))) :=
  becomes (phrCheck_mode hLane hNew hOut hMode) ((if_neg (Nat.not_lt.mpr hLong)).trans (if_pos hOver))

theorem phrCheck_passes (hMode : phrMode l phr (openWaits s) = some m) (hLong : fcsOctets l.sl l phr (openWaits s) + 2 ≤ phr.len)
    (hFits : phr.len ≤ spar 0x0300 l.sl (openWaits s)) :
    Becomes (.phrCheck ln phr) s (phrPasses ln l phr (startOf l phr s) m (openWaits s)) :=
  becomes (phrCheck_mode hLane hNew hOut hMode) ((if_neg (Nat.not_lt.mpr hLong)).trans (if_neg (Nat.not_lt.mpr hFits)))

end

/-! ## The check sequence and admission -/

section
variable (hLane : lane ln s = some l) (hPassed : l.passed = true) (hOut : l.out = none) (hReach : tbCanReach l.endAt s = true)
include hLane hPassed hOut hReach

/-- The SNR of the frame, and the link quality with it, go into the last quality of its slice. -/
def snrNoted (ln : Fin 64) (l : Lane) (p : RxPay) (s : State) : State :=
  modSlice l.sl (fun x => { x with lastQ := x.lastQ.map (fun v =>
    if v.ofLane = ln.val && v.start = l.start then { v with snr := (laneQuality l p).snr, lq := linkQuality (laneQuality l p).snr } else v) })
    (openWaits (reachTb l.endAt s))

theorem fcsCheck_eq : exec (.fcsCheck ln p.toFskRx p.toLtfRx p.syms) s = ok (
    if fcsRight l.fcs (lanePsdu l p (openWaits (reachTb l.endAt s))) then
      setLane ln (some { l with out := some {
        data := (lanePsdu l p (openWaits (reachTb l.endAt s))).take ((lanePsdu l p (openWaits (reachTb l.endAt s))).length - l.fcs)
        q := laneQuality l p } }) (noteBusy l.sl l.tap l.since (snrNoted ln l p s))
    else loseLane ln 0x2A 0 (bumpSl 0x0322 l.sl (snrNoted ln l p s))) := by
  show execFcsCheck ln p.toFskRx p.toLtfRx p.syms s = _
  have hEnds : (!l.passed || l.out.isSome || !tbCanReach l.endAt s) = false := by simp [hPassed, hOut, hReach]
  unfold execFcsCheck
  simp only [hLane, hEnds, Bool.false_eq_true, if_false]
  rfl

theorem fcsCheck_right (hFcs : fcsRight l.fcs (lanePsdu l p (openWaits (reachTb l.endAt s))) = true) :
    Becomes (.fcsCheck ln p.toFskRx p.toLtfRx p.syms) s (setLane ln (some { l with out := some {
      data := (lanePsdu l p (openWaits (reachTb l.endAt s))).take ((lanePsdu l p (openWaits (reachTb l.endAt s))).length - l.fcs)
      q := laneQuality l p } }) (noteBusy l.sl l.tap l.since (snrNoted ln l p s))) :=
  becomes (fcsCheck_eq hLane hPassed hOut hReach) (if_pos hFcs)

theorem fcsCheck_wrong (hFcs : fcsRight l.fcs (lanePsdu l p (openWaits (reachTb l.endAt s))) = false) :
    Becomes (.fcsCheck ln p.toFskRx p.toLtfRx p.syms) s (loseLane ln 0x2A 0 (bumpSl 0x0322 l.sl (snrNoted ln l p s))) :=
  becomes (fcsCheck_eq hLane hPassed hOut hReach) (if_neg (by simp [hFcs]))

end

theorem frameAdmission_admits (hLane : lane ln (meetErrors errs s) = some l) (hOut : l.out = some f)
    (hFirst : firstPassed l (meetErrors errs s) = true) :
    Becomes (.frameAdmission ln info errs) s (admitFrame ln l f info (meetErrors errs s)) :=
  becomes rfl (by simp only [hLane, hOut, hFirst, if_true])

end

/-- Settles O20: each event by its own lemma. -/
theorem receptionEvents : Obligations.ReceptionEvents :=
  fun _ _ _ _ _ _ _ _ _ _ _ _ _ _ _ =>
    ⟨watcherDetection_serves, watcherDetection_alone, watcherRearm_arms,
     fun hLane hNew hOut => ⟨phrCheck_noMode hLane hNew hOut, phrCheck_short hLane hNew hOut, phrCheck_oversize hLane hNew hOut,
       phrCheck_passes hLane hNew hOut⟩,
     fun hLane hPassed hOut hReach => ⟨fcsCheck_right hLane hPassed hOut hReach, fcsCheck_wrong hLane hPassed hOut hReach⟩,
     frameAdmission_admits, rfl⟩

end Sys2Proof.Machine
end

section
/-! PROOF. Health, the jobs' records, engine faults and self tests; errors of the memories (01 R7-R18; 03 R117, R118; 09 R310-R312;
18 R579, R580). -/

namespace Sys2Proof.Machine

/-! ## HEALTH and QUERY -/

section
variable {who : Who} {c : Cond} {wd ws sl : Fin 16} {sel : BitVec 16} {v : Nat} {n : Fin 12} {ref : Nat} {s : State}

@[simp] theorem worldCtx_opened (w : World) : worldCtx w (opened who s) = worldCtx w s := by
  unfold opened
  split
  · cases w <;> rfl
  · rfl

@[simp] theorem healthHalt_opened (m lo : Nat) : healthHalt who m lo (opened who s) = healthHalt who m lo s := by
  simp only [healthHalt, worldOf_opened, worldCtx_opened, seq, opened_keeps]

@[simp] theorem healthSel_opened (k : Nat) : healthSel who k (opened who s) = healthSel who k s := by
  have hStage : ∀ a b, stageValue a b (opened who s) = stageValue a b s := fun a b => by
    obtain ⟨c, b, e⟩ := opened_eq_withConductor who s
    rw [e]
    rfl
  simp only [healthSel, hStage, healthHalt_opened, healthSlice, healthMem, slice, opened_keeps]

theorem health_gives (h : Issues who c 0x85 .all s) (hSel : healthSel who sel.toNat s = some v) :
    GivesRegs (.health who c wd sel) who ((withW who wd (w32 v) s).status 0x00 0 0) s :=
  regsOf h rfl (by
    simp only [healthSel_opened, hSel]
    rfl) (((rs0 who s).setW wd _).ret ..)

theorem health_range (h : Issues who c 0x85 .all s) (hSel : healthSel who sel.toNat s = none) :
    GivesRegs (.health who c wd sel) who (withStatus who 0x02 2 (w32 sel.toNat) s) s :=
  regsOf h rfl (by
    simp only [healthSel_opened, hSel]
    rfl) ((rs0 who s).ret ..)

/-- What a QUERY answers of a record that is still the reference's. -/
theorem queryAnswer_record {u : State} (hStage : (jobAt ref u).stage ≠ 0) (hGen : (jobAt ref u).gen = ref / 32768) :
    queryAnswer who wd ref u = ret who 0x00
      (w32 ((jobAt ref u).stage + (jobAt ref u).attempts * 256 + (if (jobAt ref u).trunc then 65536 else 0)))
      (w32 (jobAt ref u).tns) (setW who wd (w32 ref) u) := by
  exact if_pos (by simp [hStage, hGen])

/-- What it answers when neither a record nor the journal knows the reference. -/
theorem queryAnswer_unknown {u : State} (hStage : (jobAt ref u).stage = 0) (hJournal : u.qp.journal = []) :
    queryAnswer who wd ref u = ret who 0x00 0 0 (setW who wd 0 u) := by
  simp only [queryAnswer, hStage, hJournal]
  rfl

theorem queryJob_record (h : Issues who c 0x84 .all s) (hStage : (jobAt (getW who ws s).toNat s).stage ≠ 0)
    (hGen : (jobAt (getW who ws s).toNat s).gen = (getW who ws s).toNat / 32768) :
    GivesRegs (.queryJob who c wd ws) who ((withW who wd (w32 (getW who ws s).toNat) s).status 0x00
      (w32 ((jobAt (getW who ws s).toNat s).stage + (jobAt (getW who ws s).toNat s).attempts * 256 +
        (if (jobAt (getW who ws s).toNat s).trunc then 65536 else 0))) (w32 (jobAt (getW who ws s).toNat s).tns)) s :=
  regsOf h rfl (by
    rw [getW_opened, queryAnswer_record (by rwa [jobAt_opened]) (by rwa [jobAt_opened]), jobAt_opened])
    (((rs0 who s).setW wd _).ret ..)

theorem queryJob_unknown (h : Issues who c 0x84 .all s) (hStage : (jobAt (getW who ws s).toNat s).stage = 0)
    (hJournal : s.qp.journal = []) : GivesRegs (.queryJob who c wd ws) who ((withW who wd 0 s).status 0x00 0 0) s :=
  regsOf h rfl (by
    rw [getW_opened, queryAnswer_unknown (by rwa [jobAt_opened]) (by simpa using hJournal)]) (((rs0 who s).setW wd _).ret ..)

theorem querySlice_record (h : Issues who c 0x84 .all s) (hSl : sl.val = n.val) (hStage : (jobAt (slice n s).lastTx s).stage ≠ 0)
    (hGen : (jobAt (slice n s).lastTx s).gen = (slice n s).lastTx / 32768) :
    GivesRegs (.querySlice who c wd sl) who ((withW who wd (w32 (slice n s).lastTx) s).status 0x00
      (w32 ((jobAt (slice n s).lastTx s).stage + (jobAt (slice n s).lastTx s).attempts * 256 +
        (if (jobAt (slice n s).lastTx s).trunc then 65536 else 0))) (w32 (jobAt (slice n s).lastTx s).tns)) s :=
  regsOf h rfl (by
    have hIn : sl.val < 12 := hSl ▸ n.isLt
    have hN : (⟨sl.val, hIn⟩ : Fin 12) = n := Fin.ext hSl
    have hSlice : slice n (opened who s) = slice n s := by simp [slice]
    rw [dif_pos hIn, hN, hSlice, queryAnswer_record (by rwa [jobAt_opened]) (by rwa [jobAt_opened]), jobAt_opened])
    (((rs0 who s).setW wd _).ret ..)

theorem healthWindowRead_latches {w : World} (hCore : s.time.coreOn = true) :
    Becomes (.healthWindowRead w) s { s with health := { s.health with
      latchId := s.health.latchId + 1, latch := healthWords (s.health.latchId + 1) s } } :=
  becomes rfl (if_pos hCore)

end

/-! ## Faults -/

section
variable {cause : Fin 3} {region : Fin 13} {unit : Nat} {s : State}

theorem chipFault_takes (h : cause ≠ 1 ∨ s.health.chipFault ≠ 0) :
    Becomes (.chipFault cause region) s (chipFaultOp (cause.val + 1) s) :=
  becomes rfl (congrArg (chipFaultOp _) (if_neg (by simpa [Classical.or_iff_not_imp_left] using h)))

theorem chipFault_error (h : s.health.chipFault = 0) :
    Becomes (.chipFault 1 region) s (chipFaultOp 2 (uncorrectable region s)) :=
  becomes rfl (congrArg (chipFaultOp _) (if_pos (by simp [h])))

/-- An engine fault of a stage shared by all slices is a chip fault when no usable engine is left. -/
theorem engineFault_s6 (h : exhausted .s6 s = false) : Becomes (.engineFault .s6 unit) s
    (if exhausted .s6 (itemEngineFault .s6 s) then chipFaultOp 1 (itemEngineFault .s6 s) else itemEngineFault .s6 s) :=
  becomes rfl (if_neg (by simp [h]))

theorem engineFault_s10 (h : exhausted .s10 s = false) : Becomes (.engineFault .s10 unit) s
    (if exhausted .s10 (txEngineFault .s10 unit s) then chipFaultOp 1 (txEngineFault .s10 unit s) else txEngineFault .s10 unit s) :=
  becomes rfl (if_neg (by simp [h]))

end

/-! ## Self tests -/

section
variable {e : Eng} {s : State}

/-- The instant of the next test of an engine kind: 10 ms after the last. -/
def testDue (e : Eng) (s : State) : State :=
  match (stg e s.health).testAt with
  | some t => reachElapsed (t + 10000000) s
  | none => s

theorem selfTestStep_tests (h1 : e ≠ .s1) (h2 : e ≠ .s2) (hSpare : (stg e s.health).spare = true)
    (hTesting : (stg e s.health).testing = false) (hIdle : idleUnit e s = true) :
    Becomes (.selfTestStep e) s (modStg e (fun g => { g with testing := true, testAt := some (testDue e s).time.elapsed }) (testDue e s)) := by
  have hDue : ((stg e s.health).spare && !(stg e s.health).testing && idleUnit e s) = true := by simp [hSpare, hTesting, hIdle]
  cases e
  case s1 => exact absurd rfl h1
  case s2 => exact absurd rfl h2
  all_goals exact becomes rfl (if_pos hDue)

/-- The test of an engine is over. -/
def testEnded (e : Eng) (s : State) : State :=
  modStg e (fun g => { g with testAt := some (reachElapsed ((stg e s.health).testAt.getD 0 + testNs e) s).time.elapsed })
    (reachElapsed ((stg e s.health).testAt.getD 0 + testNs e) s)

theorem selfTestEnd_passed (hTesting : (stg e s.health).testing = true) :
    Becomes (.selfTestEnd e true) s
      (modStg e (fun g => { g with testing := false, passedN := sat32 (g.passedN + 1) }) (testEnded e s)) :=
  becomes rfl (if_neg (by simp [hTesting]))

theorem selfTestEnd_failed (hTesting : (stg e s.health).testing = true) :
    Becomes (.selfTestEnd e false) s (substitute e (modStg e (fun g => { g with failedN := sat32 (g.failedN + 1) }) (testEnded e s))) :=
  becomes rfl (if_neg (by simp [hTesting]))

end

/-- Settles O23: each instruction and event by its own lemma. -/
theorem healthCommands : Obligations.HealthCommands :=
  fun _ _ _ _ _ _ _ _ _ _ _ _ _ =>
    ⟨health_gives, health_range, queryJob_record, queryJob_unknown, querySlice_record, healthWindowRead_latches, chipFault_takes,
     chipFault_error, fun _ => rfl, fun _ => rfl, fun _ => engineFault_s6, fun _ => engineFault_s10,
     fun _ => selfTestStep_tests, fun _ hTesting => ⟨selfTestEnd_passed hTesting, selfTestEnd_failed hTesting⟩⟩

/-! ## Errors of the memories -/

section
variable {r : Fin 13} {p : Nat} {k : ErrKind} {s : State}

/-- What a word that fails does, by its region (01 Table AR-7). -/
def regionEffect (r : Fin 13) (p : Nat) (s : State) : State :=
  if r = 3 then cellFails p s else if r = 4 ∨ r = 5 ∨ r = 9 then chipFaultOp 2 s
  else if r = 7 then journalFails p s else if r = 8 then profileFails p s else if r = 10 then cacheFails p s
  else if r = 11 then stagingFails s else if r = 12 then jobsFail s else s

theorem regionFails_eq (r : Fin 13) : regionFails r.val p s = regionEffect r p s := by
  fin_cases r <;> rfl

/-- A scrub that no job asked for does nothing but meet its errors. -/
theorem tscrubComplete_idle {errs : List MemErr} (hAlive : alive (meetErrors errs s) = true)
    (hJob : (meetErrors errs s).tables.job = none) : BecomesThenRecord (.tscrubComplete errs) s (meetErrors errs s) :=
  becomesThenRecord rfl ((if_pos hAlive).trans (congrArg resume (by simp only [tscrubDone, hJob])))

theorem meetErrors_waits (h : r.val < 3) : meetErrors [{ region := r, place := p, kind := k }] s =
    { s with health := { s.health with errs := s.health.errs ++ [{ region := r, place := p, kind := k }] } } :=
  if_pos h

theorem meetErrors_single (h : 3 ≤ r.val) : meetErrors [{ region := r, place := p, kind := .single }] s =
    { s with health := { s.health with corrected := upd s.health.corrected r (fun c => sat32 (c + 1)) } } :=
  (if_neg (Nat.not_lt.mpr h)).trans (if_pos rfl)

theorem meetErrors_double (h : 3 ≤ r.val) :
    meetErrors [{ region := r, place := p, kind := .double }] s = regionEffect r p (uncorrectable r s) :=
  ((if_neg (Nat.not_lt.mpr h)).trans (if_neg ErrKind.noConfusion)).trans (regionFails_eq r)

theorem tscrubComplete_waits (hAlive : alive s = true) (hJob : s.tables.job = none) (h : r.val < 3) :
    BecomesThenRecord (.tscrubComplete [{ region := r, place := p, kind := k }]) s
      { s with health := { s.health with errs := s.health.errs ++ [{ region := r, place := p, kind := k }] } } :=
  meetErrors_waits (k := k) h ▸ tscrubComplete_idle (by rwa [meetErrors_waits h]) (by rwa [meetErrors_waits h])

theorem tscrubComplete_single (hAlive : alive s = true) (hJob : s.tables.job = none) (h : 3 ≤ r.val) :
    BecomesThenRecord (.tscrubComplete [{ region := r, place := p, kind := .single }]) s
      { s with health := { s.health with corrected := upd s.health.corrected r (fun c => sat32 (c + 1)) } } :=
  meetErrors_single (p := p) h ▸ tscrubComplete_idle (by rwa [meetErrors_single h]) (by rwa [meetErrors_single h])

theorem tscrubComplete_double (h : 3 ≤ r.val) (hAlive : alive (regionEffect r p (uncorrectable r s)) = true)
    (hJob : (regionEffect r p (uncorrectable r s)).tables.job = none) :
    BecomesThenRecord (.tscrubComplete [{ region := r, place := p, kind := .double }]) s (regionEffect r p (uncorrectable r s)) :=
  meetErrors_double h ▸ tscrubComplete_idle (by rwa [meetErrors_double h]) (by rwa [meetErrors_double h])

end

/-- Settles O24: an error that waits to be read, one that is corrected, and one that has its region's effect. -/
theorem memoryErrors : Obligations.MemoryErrors :=
  fun _ _ _ _ => ⟨tscrubComplete_waits, tscrubComplete_single, tscrubComplete_double⟩

end Sys2Proof.Machine
end

section
/-! PROOF. The calendar clock: commits, the alarm and its own events (05 R176-R193). -/

namespace Sys2Proof.Machine

/-! ## Commits and the alarm's control -/

section
variable {who : Who} {c : Cond} {v : Word} {s : State}

/-- The date and time that the commit parameters hold. -/
def stagedTime (s : State) : RtcTime := rtcOf (par 0x0820 15 s) (par 0x0821 15 s)

/-- The rule of TIME.RTC_COMMIT, where the record is open. -/
theorem rtcCommit_opened (n : Nat) : rtcCommit n (opened who s) =
    (if (n = 1 || n = 3) && !(stagedTime s).timeOk || (n = 2 || n = 3) && !((stagedTime s).dateOk && wdayOf (par 0x0821 15 s) ≤ 6) then
      pRange (opened who s)
    else if s.rtc.inflight then pOk (setXovr 15 { opened who s with
      rtc := { (opened who s).rtc with staged := some (n = 1 || n = 3, n = 2 || n = 3, par 0x0820 15 s, par 0x0821 15 s) } })
    else pOk (rtcTransfer (n = 1 || n = 3) (n = 2 || n = 3) (par 0x0820 15 s) (par 0x0821 15 s) (opened who s))) := by
  unfold rtcCommit stagedTime
  simp only [chip, par_opened, opened_keeps]

theorem rtcCommitTime_sends (h : Writes who c 0x0822 15 1 s) (hTime : (stagedTime s).timeOk = true) (hFree : s.rtc.inflight = false) :
    Sets (.rtcCommitTime who c) who (rtcTransfer true false (par 0x0820 15 s) (par 0x0821 15 s)) s :=
  sets_rule h rfl fun d => (rtcCommit_opened 1).trans (by simp [hTime, hFree])

theorem rtcCommitDate_sends (h : Writes who c 0x0822 15 2 s) (hDate : (stagedTime s).dateOk = true)
    (hDay : wdayOf (par 0x0821 15 s) ≤ 6) (hFree : s.rtc.inflight = false) :
    Sets (.rtcCommitDate who c) who (rtcTransfer false true (par 0x0820 15 s) (par 0x0821 15 s)) s :=
  sets_rule h rfl fun d => (rtcCommit_opened 2).trans (by simp [hDate, hDay, hFree])

theorem rtcCommitBoth_sends (h : Writes who c 0x0822 15 3 s) (hTime : (stagedTime s).timeOk = true)
    (hDate : (stagedTime s).dateOk = true) (hDay : wdayOf (par 0x0821 15 s) ≤ 6) (hFree : s.rtc.inflight = false) :
    Sets (.rtcCommitBoth who c) who (rtcTransfer true true (par 0x0820 15 s) (par 0x0821 15 s)) s :=
  sets_rule h rfl fun d => (rtcCommit_opened 3).trans (by simp [hTime, hDate, hDay, hFree])

theorem rtcCommitTime_range (h : Writes who c 0x0822 15 1 s) (hTime : (stagedTime s).timeOk = false) :
    SetsAs (.rtcCommitTime who c) who (fun u => (0x02, 2, u)) s :=
  setsAs_rule h rfl fun d => (rtcCommit_opened 1).trans (if_pos (by simp [hTime]))

theorem rtcCommitTime_joins (h : Writes who c 0x0822 15 1 s) (hTime : (stagedTime s).timeOk = true) (hBusy : s.rtc.inflight = true) :
    Sets (.rtcCommitTime who c) who
      (fun u => setXovr 15 { u with rtc := { u.rtc with staged := some (true, false, par 0x0820 15 s, par 0x0821 15 s) } }) s :=
  sets_rule h rfl fun d => (rtcCommit_opened 1).trans (by simp [hTime, hBusy])

/-- The instant of the alarm that the settings last written hold. -/
def alarmWritten (s : State) : RtcTime := rtcOf s.rtc.alarmSet.time s.rtc.alarmSet.date

/-- The rule of TIME.RTC_ALARM_CTRL, where the record is open. -/
theorem alarmArm_opened : alarmCtrl true (opened who s) =
    (if !((alarmWritten s).timeOk && (alarmWritten s).dateOk) then pRange (opened who s)
    else if !s.rtc.set_ then pRef 0x14 (opened who s)
    else pOk (alarmOffer (fun a => { a with arm := some true }) (opened who s))) := by
  unfold alarmCtrl alarmWritten
  simp only [opened_keeps]
  rfl

/-- A change of the alarm settings that finds the crossing free is sent at once. -/
theorem alarmOffer_sent {f : AlarmSet → AlarmSet} (hFree : s.rtc.alarmBusy = false) :
    alarmOffer f (opened who s) = alarmSent (f s.rtc.alarmSet) (opened who s) := by
  simp [alarmOffer, hFree]

theorem alarmOffer_joins {f : AlarmSet → AlarmSet} (hBusy : s.rtc.alarmBusy = true) : alarmOffer f (opened who s) =
    setXovr 15 { opened who s with rtc := { (opened who s).rtc with alarmStaged := some (f s.rtc.alarmSet) } } := by
  simp [alarmOffer, hBusy]

section
variable (h : Writes who c 0x0828 15 1 s)
include h

theorem rtcAlarmArm_set (hTime : (alarmWritten s).timeOk = true) (hDate : (alarmWritten s).dateOk = true) (hSet : s.rtc.set_ = true)
    {f : State → State} (hOffer : alarmOffer (fun a => { a with arm := some true }) (opened who s) = f (opened who s)) :
    Sets (.rtcAlarmArm who c) who f s :=
  sets_rule h rfl fun d => alarmArm_opened.trans (by simp [hTime, hDate, hSet, hOffer])

theorem rtcAlarmArm_range (hBad : (alarmWritten s).timeOk = false ∨ (alarmWritten s).dateOk = false) :
    SetsAs (.rtcAlarmArm who c) who (fun u => (0x02, 2, u)) s :=
  setsAs_rule h rfl fun d => alarmArm_opened.trans (if_pos (by
    obtain hTime | hDate := hBad
    · simp [hTime]
    · simp [hDate]))

theorem rtcAlarmArm_unset (hTime : (alarmWritten s).timeOk = true) (hDate : (alarmWritten s).dateOk = true) (hSet : s.rtc.set_ = false) :
    SetsAs (.rtcAlarmArm who c) who (fun u => (0x04, 0x14, u)) s :=
  setsAs_rule h rfl fun d => alarmArm_opened.trans ((if_neg (by simp [hTime, hDate])).trans (if_pos (by simp [hSet])))

end

theorem rtcAlarmDisarm_sends (h : Writes who c 0x0828 15 0 s) (hFree : s.rtc.alarmBusy = false) :
    Sets (.rtcAlarmDisarm who c) who (alarmSent { s.rtc.alarmSet with arm := some false }) s :=
  sets_rule h rfl fun _ => congrArg pOk (alarmOffer_sent hFree)

end

/-! ## The clock's own events -/

section
variable {tw dw : Word} {t : Int} {a : AlarmSet} {s : State}

/-- The clock of s after its second, in the state u that pulse d has reached: the prescaler goes on without `off` counts, nx is the
reading that follows. -/
def tickedAt (d off : Nat) (nx : RtcTime × Bool × Bool) (u s : State) : State :=
  { u with rtc := { s.rtc.rebase d off u.time.elapsed with
      t := nx.1
      wday := if nx.2.1 then (s.rtc.wday + 1) % 7 else s.rtc.wday
      wrapped := s.rtc.wrapped || nx.2.2 } }

theorem tickedAt_armed (d off : Nat) (nx : RtcTime × Bool × Bool) (u s : State) : (tickedAt d off nx u s).rtc.armed = s.rtc.armed := rfl

theorem tickedAt_alarm (d off : Nat) (nx : RtcTime × Bool × Bool) (u s : State) : (tickedAt d off nx u s).rtc.alarm = s.rtc.alarm := rfl

theorem reachPulse_rtc (d : Nat) (s : State) : (reachPulse d s).rtc = s.rtc := rfl

/-- An armed alarm at or after the instant of the tick fires. -/
def alarmAt (d off : Nat) (nx : RtcTime × Bool × Bool) (u s : State) : State :=
  if (tickedAt d off nx u s).rtc.armed && decide ((tickedAt d off nx u s).rtc.alarm.key ≤ nx.1.key) then
    fireAlarm stOK false (tickedAt d off nx u s)
  else tickedAt d off nx u s

theorem alarmAt_disarmed (d off : Nat) (nx : RtcTime × Bool × Bool) (u : State) (hArmed : s.rtc.armed = false) :
    alarmAt d off nx u s = tickedAt d off nx u s :=
  if_neg (by simp [tickedAt_armed, hArmed])

theorem alarmAt_due (d off : Nat) (nx : RtcTime × Bool × Bool) (u : State) (hArmed : s.rtc.armed = true)
    (hDue : s.rtc.alarm.key ≤ nx.1.key) : alarmAt d off nx u s = fireAlarm 0x00 false (tickedAt d off nx u s) :=
  if_pos (by simp [tickedAt_armed, tickedAt_alarm, hArmed, hDue])

/-- The tick once pulse d is reached, in a state u with the clock of s. -/
theorem alarmAt_eq (d off : Nat) {u s : State} (hRtc : u.rtc = s.rtc) :
    (match u.rtc.t.succ with
    | (t, midnight, wraps) =>
      let r := u.rtc.rebase d off u.time.elapsed
      let v : State := { u with rtc := { r with
        t := t, wday := if midnight then (r.wday + 1) % 7 else r.wday, wrapped := r.wrapped || wraps } }
      if v.rtc.armed && v.rtc.alarm.key ≤ t.key then fireAlarm stOK false v else v) = alarmAt d off s.rtc.t.succ u s := by
  rw [hRtc]
  generalize s.rtc.t.succ = nx
  obtain ⟨t, midnight, wraps⟩ := nx
  rfl

theorem rtcTick_eq (hRuns : s.rtc.crystalOff = false) :
    rtcTick s = alarmAt s.rtc.secondPulses 32768 s.rtc.t.succ (reachPulse s.rtc.secondPulses s) s := by
  unfold rtcTick
  rw [if_neg (by simp [hRuns])]
  exact alarmAt_eq s.rtc.secondPulses 32768 (reachPulse_rtc s.rtc.secondPulses s)

theorem rtcSecond_ticks (hRuns : s.rtc.crystalOff = false) (hArmed : s.rtc.armed = false) :
    BecomesThenRecord .rtcSecond s (tickedAt s.rtc.secondPulses 32768 s.rtc.t.succ (reachPulse s.rtc.secondPulses s) s) :=
  becomesThenRecord rfl (congrArg resume ((rtcTick_eq hRuns).trans (alarmAt_disarmed _ _ _ _ hArmed)))

theorem rtcSecond_fires (hRuns : s.rtc.crystalOff = false) (hArmed : s.rtc.armed = true)
    (hDue : s.rtc.alarm.key ≤ s.rtc.t.succ.1.key) : BecomesThenRecord .rtcSecond s
      (fireAlarm 0x00 false (tickedAt s.rtc.secondPulses 32768 s.rtc.t.succ (reachPulse s.rtc.secondPulses s) s)) :=
  becomesThenRecord rfl (congrArg resume ((rtcTick_eq hRuns).trans (alarmAt_due _ _ _ _ hArmed hDue)))

theorem rtcSecond_stands (hStopped : s.rtc.crystalOff = true) : BecomesThenRecord .rtcSecond s s :=
  becomesThenRecord rfl (congrArg resume (if_pos hStopped))

theorem rtcCommitAck_idle (hTrim : s.rtc.trimStaged = none) (hAlarm : s.rtc.alarmStaged = none) (hStaged : s.rtc.staged = none) :
    BecomesThenRecord .rtcCommitAck s { s with rtc := s.rtc.crossLost } :=
  becomesThenRecord rfl (congrArg resume (by simp only [rtcAcked, hTrim, hAlarm, hStaged]))

theorem rtcCommitAck_commit (hTrim : s.rtc.trimStaged = none) (hAlarm : s.rtc.alarmStaged = none)
    (hStaged : s.rtc.staged = some (true, false, tw, dw)) :
    BecomesThenRecord .rtcCommitAck s (rtcTransfer true false tw dw { s with rtc := s.rtc.crossLost }) :=
  becomesThenRecord rfl (congrArg resume (by simp only [rtcAcked, hTrim, hAlarm, hStaged]))

theorem rtcCommitAck_settings (hTrim : s.rtc.trimStaged = some t) (hAlarm : s.rtc.alarmStaged = some a) (hStaged : s.rtc.staged = none) :
    BecomesThenRecord .rtcCommitAck s (alarmSent a (trimSent t { s with rtc := s.rtc.crossLost })) :=
  becomesThenRecord rfl (congrArg resume (by simp only [rtcAcked, hTrim, hAlarm, hStaged]))

theorem rtcTrimWindow_begins (hRuns : s.rtc.crystalOff = false) :
    Becomes .rtcTrimWindow s { reachPulse (1048576 - s.rtc.winP) s with
      rtc := { s.rtc.rebase (1048576 - s.rtc.winP) 0 (reachPulse (1048576 - s.rtc.winP) s).time.elapsed with
        trim := s.rtc.trimNew, trimpend := false, winP := 0 } } :=
  becomes rfl (if_neg (by simp [hRuns]))

theorem crystalStop_unsets (hRuns : s.rtc.crystalOff = false) :
    Becomes .crystalStop s { reachElapsed (s.time.elapsed + 2000000) s with
      rtc := { s.rtc.unset with stopped := true, crystalOff := true, t := {}, wday := 0 } } :=
  becomes rfl (if_neg (by simp [hRuns]))

theorem crystalRestart_counts (hStopped : s.rtc.crystalOff = true) :
    Becomes .crystalRestart s { s with rtc := { s.rtc with crystalOff := false, secAt := s.time.elapsed, presc := 0, winP := 0 } } :=
  becomes rfl (if_neg (by simp [hStopped]))

end

/-- Settles O31: each parameter and event by its own lemma. -/
theorem calendarClock : Obligations.CalendarClock :=
  ⟨fun _ _ _ => ⟨rtcCommitTime_sends, rtcCommitDate_sends, rtcCommitBoth_sends, rtcCommitTime_range, rtcCommitTime_joins,
     fun h hTime hDate hSet => ⟨fun hFree => rtcAlarmArm_set h hTime hDate hSet (alarmOffer_sent hFree),
       fun hBusy => rtcAlarmArm_set h hTime hDate hSet (alarmOffer_joins hBusy)⟩,
     rtcAlarmArm_range, rtcAlarmArm_unset, rtcAlarmDisarm_sends⟩,
   fun _ _ _ _ _ => ⟨rtcSecond_ticks, rtcSecond_fires,
     fun hTrim hAlarm => ⟨rtcCommitAck_idle hTrim hAlarm, rtcCommitAck_commit hTrim hAlarm⟩,
     rtcCommitAck_settings,
     fun hRuns => ⟨rtcTrimWindow_begins hRuns, crystalStop_unsets hRuns⟩,
     fun hStopped => ⟨rtcSecond_stands hStopped, crystalRestart_counts hStopped⟩⟩⟩

end Sys2Proof.Machine
end

section
/-! PROOF. The reference, the moves between run modes, sleeping and waking (04 R143, R146; 05 R155, R156; 14 R450-R465). -/

namespace Sys2Proof.Machine

/-! ## The reference and the run modes -/

section
variable {m : Nat} {w : World} {t n : Nat} {x : WakeRun} {ok_ : Bool} {s : State}

/-- The move to Service completes in state u, in which every air action has stopped. -/
def serviceDone (w : World) (t : Nat) (u : State) : State :=
  let u := { u with pw := { u.pw with mode := 5, listenCap := 64 } }
  endPending (.ring w) t 0x71 0x00 (w32 u.pw.mode) (armedDetail u) u

theorem pmodeDone_service (hTo : s.pw.pmodeTo = some (5, w, t)) : pmodeDone ok_ s =
    serviceDone w t (sliceIdx.foldl (fun u n => stopAir n 0xB0 false u) { s with pw := { s.pw with pmodeTo := none } }) := by
  unfold pmodeDone
  rw [hTo]
  generalize sliceIdx = l
  rfl

theorem pmodeComplete_service (hAlive : alive s = true) (hTo : s.pw.pmodeTo = some (5, w, t)) :
    BecomesThenRecord (.pmodeComplete ok_) s
      (serviceDone w t (sliceIdx.foldl (fun u n => stopAir n 0xB0 false u) { s with pw := { s.pw with pmodeTo := none } })) :=
  becomesThenRecord rfl ((if_pos hAlive).trans (congrArg resume (pmodeDone_service hTo)))

theorem pmodeComplete_fails (hAlive : alive s = true) (hTo : s.pw.pmodeTo = some (m, w, t)) (hMode : m ≠ 5) (hRef : s.time.refQual = false) :
    BecomesThenRecord (.pmodeComplete false) s (endPending (.ring w) t 0x71 0x07 0 0 (reachElapsed (s.time.elapsed + 10000000)
      { s with pw := { s.pw with pmodeTo := none }, time := { s.time with refStarted := false } })) :=
  becomesThenRecord rfl ((if_pos hAlive).trans (congrArg resume (by
    unfold pmodeDone
    simp only [hTo, hMode, hRef, Bool.false_and, Bool.or_self, Bool.false_eq_true, if_false, stWAKE_FAIL_OSC])))

section
variable (hCore : s.time.coreOn = true) (hRef : s.time.refQual = false) (hStarted : s.time.refStarted = true)
  (hKind : refKindRight s = true) (hFault : s.health.chipFault = 0)
include hCore hRef hStarted hKind hFault

theorem referenceQualified_wakes (hWake : s.pw.wake = some x) (hStep : x.step = 4) :
    BecomesThenRecord .referenceQualified s (wakeDone x s) :=
  becomesThenRecord rfl (congrArg resume (by simp [refQualified, hCore, hRef, hStarted, hKind, hFault, hWake, hStep]))

theorem referenceQualified_leaves (hWake : s.pw.wake = none) :
    BecomesThenRecord .referenceQualified s (degradedLeave (qualifyRef s)) :=
  becomesThenRecord rfl (congrArg resume (by simp [refQualified, hCore, hRef, hStarted, hKind, hFault, hWake]))

end

section
variable (hCore : s.time.coreOn = true) (hRef : s.time.refQual = true)
include hCore hRef

theorem refCount_eq (hSet : s.rtc.set_ = true) (hRuns : s.rtc.crystalOff = false) : refCount n s =
    if 78109 ≤ n && n ≤ 78141 then { s with time := { s.time with refUnver := false } } else degradedEnter s :=
  if_neg (by simp [hCore, hRef, hSet, hRuns])

theorem referenceCount_verifies (hSet : s.rtc.set_ = true) (hRuns : s.rtc.crystalOff = false) (hLow : 78109 ≤ n) (hHigh : n ≤ 78141) :
    BecomesThenRecord (.referenceCount n) s { s with time := { s.time with refUnver := false } } :=
  becomesThenRecord rfl (congrArg resume ((refCount_eq hCore hRef hSet hRuns).trans (if_pos (by simp [hLow, hHigh]))))

theorem referenceCount_degrades (hSet : s.rtc.set_ = true) (hRuns : s.rtc.crystalOff = false) (hOut : n < 78109 ∨ 78141 < n) :
    BecomesThenRecord (.referenceCount n) s (degradedEnter s) :=
  becomesThenRecord rfl (congrArg resume ((refCount_eq hCore hRef hSet hRuns).trans (if_neg (by
    simp only [Bool.and_eq_true, decide_eq_true_eq]
    omega))))

theorem referenceEdgeLost_degrades :
    BecomesThenRecord .referenceEdgeLost s (degradedEnter (reachElapsed (s.time.elapsed + 200) s)) :=
  becomesThenRecord rfl (congrArg resume (if_neg (by simp [hCore, hRef])))

end

section
variable (hDegraded : s.pw.degraded = true) (hRetry : cpar 0x0904 s ≠ 0) (hWake : s.pw.wake = none) (hTo : s.pw.pmodeTo = none)
  (hCore : s.time.coreOn = true)
include hDegraded hRetry hWake hTo hCore

/-- The reference has been started for a retry and did not qualify. -/
def retryFailed (s : State) : State :=
  reachElapsed (s.time.elapsed + 5000000) { startRef s with time := { (startRef s).time with refStarted := false } }

theorem refRetry_eq (good : Bool) : refRetry good s = if good && refKindRight (startRef s) then degradedLeave (qualifyRef (startRef s))
    else reachElapsed (s.time.elapsed + 5000000) { startRef s with time := { (startRef s).time with refStarted := false } } :=
  if_neg (by simp [hDegraded, hRetry, hWake, hTo, hCore])

theorem refRetry_good (hKind : refKindRight (startRef s) = true) :
    BecomesThenRecord (.refRetry true) s (degradedLeave (qualifyRef (startRef s))) :=
  becomesThenRecord rfl (congrArg resume ((refRetry_eq hDegraded hRetry hWake hTo hCore true).trans (if_pos (by simp [hKind]))))

theorem refRetry_fails : BecomesThenRecord (.refRetry false) s
    (reachElapsed (s.time.elapsed + 5000000) { startRef s with time := { (startRef s).time with refStarted := false } }) :=
  becomesThenRecord rfl (congrArg resume (refRetry_eq hDegraded hRetry hWake hTo hCore false))

end

end

/-- Settles O33: each event by its own lemma. -/
theorem referenceEvents : Obligations.ReferenceEvents :=
  fun _ _ _ _ _ _ _ =>
    ⟨pmodeComplete_service, pmodeComplete_fails,
     fun hCore hRef hStarted hKind hFault => ⟨referenceQualified_wakes hCore hRef hStarted hKind hFault,
       fun hWake _ => referenceQualified_leaves hCore hRef hStarted hKind hFault hWake⟩,
     fun hCore hRef hSet hRuns => ⟨referenceCount_verifies hCore hRef hSet hRuns, referenceCount_degrades hCore hRef hSet hRuns⟩,
     referenceEdgeLost_degrades,
     fun hDegraded hRetry hWake hTo hCore => ⟨refRetry_good hDegraded hRetry hWake hTo hCore,
       refRetry_fails hDegraded hRetry hWake hTo hCore⟩⟩

/-! ## What wakes keep of the power state -/

/-- The power state but for the notices that wait for the core. -/
def SamePower (s t : State) : Prop := ∃ due, t.pw = { s.pw with due := due }

theorem SamePower.of_pw {s t : State} (h : t.pw = s.pw) : SamePower s t := ⟨s.pw.due, h⟩

theorem SamePower.trans {s t u : State} (h : SamePower s t) (h' : SamePower t u) : SamePower s u := by
  obtain ⟨d, e⟩ := h
  obtain ⟨d', e'⟩ := h'
  exact ⟨d', by rw [e', e]⟩

/-- Steps that keep the power state, one for each element of a list. -/
theorem SamePower.foldl {α : Type} {f : State → α → State} (h : ∀ u a, SamePower u (f u a)) (l : List α) (s : State) :
    SamePower s (l.foldl f s) := by
  induction l generalizing s with
  | nil => exact .of_pw rfl
  | cons a l ih => exact (h s a).trans (ih _)

theorem unposted_pw : Unposted State.pw :=
  ⟨fun _ _ => rfl, fun w _ _ _ => by cases w <;> rfl, fun _ _ => rfl, fun _ _ => rfl⟩

theorem notify_pw (kind subject st block : Nat) (s : State) : (notify kind subject st block s).pw = s.pw := unposted_pw.notify ..

theorem samePower_laterNotice (kind subject st : Nat) (s : State) : SamePower s (laterNotice kind subject st s) := by
  unfold laterNotice
  split
  · exact .of_pw (notify_pw ..)
  · exact ⟨_, rfl⟩

theorem unblock_pw (q : Seqr) (st : Nat) (w1 w2 : Word) (s : State) : (unblock q st w1 w2 s).pw = s.pw := by
  unfold unblock unblockSlice unblockCond
  split
  · split <;> simp
  · split <;> simp

theorem kickWdog_pw (q : Seqr) (s : State) : (kickWdog q s).pw = s.pw := by
  cases q <;> rfl

theorem samePower_slotsFail (s : State) : SamePower s (slotsFail s) :=
  SamePower.foldl (fun u q => .of_pw (by
    split
    · exact (unblock_pw ..).trans (kickWdog_pw q u)
    · rfl)) _ s

theorem samePower_gridEnd (s : State) : SamePower s (gridEnd s) := by
  unfold gridEnd
  split
  · exact ((SamePower.of_pw rfl).trans (samePower_slotsFail (haltGrid s))).trans (samePower_laterNotice ..)
  · exact .of_pw rfl

theorem samePower_switchBank (asn : Nat) (s : State) (sf : Nat) : SamePower s (switchBank asn s sf) := by
  unfold switchBank
  dsimp only
  split
  · exact .of_pw rfl
  · split
    · exact .of_pw rfl
    · exact (SamePower.of_pw rfl).trans (samePower_laterNotice ..)

/-- Boundaries that were passed during a sleep leave the power state but for its notices (14 R454). -/
theorem samePower_gridCatchUp (s : State) : SamePower s (gridCatchUp s) := by
  unfold gridCatchUp
  extract_lets g
  split
  · refine SamePower.trans ?_ (samePower_gridEnd _)
    refine SamePower.trans ?_ (SamePower.foldl (samePower_switchBank _) _ _)
    exact .of_pw rfl
  · exact .of_pw rfl

/-! ## Sleeping and waking -/

section
variable {src : Fin 8} {x : WakeRun} {a b t : Nat} {temp : Int} {s : State}

theorem wakeSource_begins (hMask : s.pw.wakeMask.getLsbD src.val = true ∨ src = 7) (hSrc : src ≠ 1) (hRest : s.pw.restWaits = true)
    (hIn : s.pw.entering = false) (hSlot : s.pw.slotAwake = false) (hWake : s.pw.wake = none) (hAsleep : s.pw.asleep = true)
    (hMode : s.pw.mode ≠ 0) (hFree : sourceHeld src.val s = false) :
    BecomesThenRecord (.wakeSource src) s { s with pw := { s.pw with
      wake := some { step := 2, since := s.time.elapsed, src := src.val, slot := false } } } :=
  becomesThenRecord rfl (congrArg resume (by
    have hEnabled : (s.pw.wakeMask.getLsbD src.val || decide (src.val = 7)) = true := by
      simpa [Fin.ext_iff, -BitVec.getLsbD_eq_getElem] using hMask
    simp only [wakeSource, wakeEvent, hSrc, hEnabled, hRest, hIn, hSlot, hWake, hAsleep, hMode, hFree, if_false, Bool.not_true,
      Bool.or_self, Bool.false_eq_true, decide_false, beginWake]))

/-- The state in which Doze's timer expires. -/
def dozeAt (t : Nat) (s : State) : State := gridCatchUp (reachTb t s)

section
variable (hIn : s.pw.entering = false) (hTimer : s.pw.timerAt = some t) (hAsleep : s.pw.asleep = true) (hMode : s.pw.mode = 2)
  (hWake : s.pw.wake = none) (hReach : tbCanReach t s = true)
include hIn hTimer hAsleep hMode hWake hReach

theorem dozeWakeTimer_horizon (hNone : s.pw.timerSlot = none) :
    BecomesThenRecord .dozeWakeTimer s (setTimer (dozeAt t s).grid.nextAsn (dozeAt t s)) :=
  becomesThenRecord rfl (congrArg resume (by
    obtain ⟨d, hPw⟩ := samePower_gridCatchUp (reachTb t s)
    have hStill : (gridCatchUp (reachTb t s)).pw.timerSlot = none := by rw [hPw]; exact hNone
    simp [dozeTimer, settleSleep, dozeAt, hIn, hTimer, hAsleep, hMode, hWake, hReach, hStill]))

theorem dozeWakeTimer_wakes (hSome : s.pw.timerSlot = some (a, b)) (hMask : s.pw.wakeMask.getLsbD 1 = true) (hFails : s.pw.fails < 3) :
    BecomesThenRecord .dozeWakeTimer s (beginWake 1 true (dozeAt t s)) :=
  becomesThenRecord rfl (congrArg resume (by
    obtain ⟨d, hPw⟩ := samePower_gridCatchUp (reachTb t s)
    have hStill : (gridCatchUp (reachTb t s)).pw.timerSlot = some (a, b) := by rw [hPw]; exact hSome
    have hEnabled : (gridCatchUp (reachTb t s)).pw.wakeMask.getLsbD 1 = true := by rw [hPw]; exact hMask
    have hFree : (gridCatchUp (reachTb t s)).pw.fails ≠ 3 := by rw [hPw]; exact Nat.ne_of_lt hFails
    simp [dozeTimer, settleSleep, sourceHeld, dozeAt, hIn, hTimer, hAsleep, hMode, hWake, hReach, hStill, hEnabled, hFree,
      -BitVec.getLsbD_eq_getElem]))

end

theorem regulatorReady_starts (hWake : s.pw.wake = some x) (hStep : x.step = 2) :
    Becomes .regulatorReady s (postDue (startRef { s with
      pw := { s.pw with
        asleep := false, lowPower := false, wake := some { x with step := 4, since := s.time.elapsed, retried := false } }
      time := { s.time with coreOn := true } })) :=
  becomes rfl (by simp [hWake, hStep])

/-- The timeout of a step of a wake, first and again (14 R461). -/
theorem wakeTimeout_restarts {step ns : Nat} (hWake : s.pw.wake = some x) (hStep : x.step = step) (hFirst : x.retried = false) :
    wakeTimeout step ns s = { reachElapsed (x.since + ns) s with pw := { s.pw with
      wake := some { x with retried := true, since := (reachElapsed (x.since + ns) s).time.elapsed } } } := by
  simp [wakeTimeout, hWake, hStep, hFirst]

theorem wakeTimeout_fails {step ns : Nat} (hWake : s.pw.wake = some x) (hStep : x.step = step) (hAgain : x.retried = true) :
    wakeTimeout step ns s = wakeFailed x (reachElapsed (x.since + ns) s) := by
  simp [wakeTimeout, hWake, hStep, hAgain]

theorem returnToSleep_returns (hMay : mayReturn s = true) (hTimer : (setTimer s.grid.nextAsn s).pw.timerAt = some t)
    (hLater : tbNs s + cpar 0x0903 s * 1000 ≤ t) : Becomes .returnToSleep s (coreStops s) :=
  becomes rfl (by simp only [returnToSleep, hMay, hTimer, hLater, if_true])

theorem dieTempMeasure_hot (hIn : s.pw.entering = false) (hAsleep : s.pw.asleep = true) (hMode : s.pw.mode ≠ 0) :
    Becomes (.dieTempMeasure temp) s (hotDie { s with pw := { s.pw with dieTemp := temp } }) :=
  becomes rfl (by simp [settleSleep, hIn, hAsleep, hMode])

end

/-- Settles O34: each event by its own lemma. -/
theorem wakeEvents : Obligations.WakeEvents :=
  fun _ _ _ _ _ _ _ =>
    ⟨wakeSource_begins,
     fun hIn hTimer hAsleep hMode hWake hReach => ⟨dozeWakeTimer_horizon hIn hTimer hAsleep hMode hWake hReach,
       dozeWakeTimer_wakes hIn hTimer hAsleep hMode hWake hReach⟩,
     fun hWake hStep => ⟨regulatorReady_starts hWake hStep,
       fun hFirst => becomesThenRecord rfl (congrArg resume (wakeTimeout_restarts hWake hStep hFirst)),
       fun hAgain => becomesThenRecord rfl (congrArg resume (wakeTimeout_fails hWake hStep hAgain))⟩,
     fun hWake hStep => ⟨fun hFirst => becomesThenRecord rfl (congrArg resume (wakeTimeout_restarts hWake hStep hFirst)),
       fun hAgain => becomesThenRecord rfl (congrArg resume (wakeTimeout_fails hWake hStep hAgain))⟩,
     returnToSleep_returns, dieTempMeasure_hot⟩

end Sys2Proof.Machine
end

section
/-! PROOF. Supplies, resets, the backup domain and tamper events (13 R441-R444; 14 R447-R477; 19 R584, R587). -/

namespace Sys2Proof.Machine

section
variable {mv : Nat} {crc can : Bool} {st : Straps} {bank : Fin 4} {inp : Fin 2} {s : State}

/-- No sleep is being entered. -/
theorem settleSleep_settled (hIn : s.pw.entering = false) : settleSleep s = s := if_neg (by simp [hIn])

theorem lpOverload_resets (hIn : s.pw.entering = false) (hLow : s.pw.lowPower = true) (hAsleep : s.pw.asleep = true)
    (hMode : s.pw.mode ≠ 0) : Becomes .lpOverload s (modWhost .operator (fun h => { h with lpovl := true })
      (modWhost .custodian (fun h => { h with lpovl := true }) (coreReset 3 (reachElapsed (s.time.elapsed + 30000) s)))) :=
  becomes rfl (by
    rw [settleSleep_settled hIn]
    exact if_neg (by simp [hLow, hAsleep, hMode]))

theorem coreBrownOut_resets (hMain : mainOn s = true) :
    Becomes .coreBrownOut s (coreReset 2 (reachElapsed (s.time.elapsed + 20000) s)) :=
  becomes rfl (if_pos hMain)

theorem mainBrownOut_resets (hBackup : inBackup s = false) (hIn : s.pw.entering = false) :
    Becomes .mainBrownOut s { powerLost s with
      time := { (powerLost s).time with coreOn := false }
      pw := { (powerLost s).pw with mode := 5, asleep := false } } :=
  becomes rfl (by
    have hOut : (inBackup s || (s.pw.entering && decide (s.pw.armedMode = 0))) = false := by simp [hBackup, hIn]
    simp only [hOut, Bool.false_eq_true, if_false])

theorem nvInhibitEnter_enters (hNew : s.pw.nvInhibit = false) (hLow : mv < 3050) (hMain : mainOn s = true) (hCore : s.time.coreOn = true) :
    Becomes (.nvInhibitEnter mv) s
      (notify 0x0901 0 0x3B blkPower (bump 0x0925 { s with pw := { s.pw with nvInhibit := true, vin := mv } })) :=
  becomes rfl ((if_neg (by simp [hNew, hLow, hMain])).trans (if_pos hCore))

theorem nvInhibitRelease_eq (hHeld : s.pw.nvInhibit = true) (hHigh : 3100 < mv) : exec (.nvInhibitRelease mv) s = ok (
    if s.boot.phase = 1 then decideRecord { s with pw := { s.pw with nvInhibit := false, vin := mv } }
    else { s with pw := { s.pw with nvInhibit := false, vin := mv } }) :=
  congrArg ok (if_neg (by simp [hHeld, hHigh]))

theorem nvInhibitRelease_releases (hHeld : s.pw.nvInhibit = true) (hHigh : 3100 < mv) (hPhase : s.boot.phase ≠ 1) :
    Becomes (.nvInhibitRelease mv) s { s with pw := { s.pw with nvInhibit := false, vin := mv } } :=
  becomes (nvInhibitRelease_eq hHeld hHigh) (if_neg hPhase)

theorem nvInhibitRelease_decides (hHeld : s.pw.nvInhibit = true) (hHigh : 3100 < mv) (hPhase : s.boot.phase = 1) :
    Becomes (.nvInhibitRelease mv) s (decideRecord { s with pw := { s.pw with nvInhibit := false, vin := mv } }) :=
  becomes (nvInhibitRelease_eq hHeld hHigh) (if_pos hPhase)

theorem vinMeasure_takes (hCore : s.time.coreOn = true) : Becomes (.vinMeasure mv) s { s with pw := { s.pw with vin := mv } } :=
  becomes rfl (if_pos hCore)

theorem backupSwitchToVin_checks (hVbat : s.pw.onVin = false) :
    Becomes (.backupSwitchToVin crc can) s (integrityCheck crc can { s with pw := { s.pw with onVin := true } }) :=
  becomes rfl (if_neg (by simp [hVbat]))

theorem pwronDelay_releases (hIn : s.pw.entering = false) (hBackup : inBackup s = true) (hNone : s.pw.asserted = 0) :
    Becomes .pwronDelay s { reachElapsed (s.time.elapsed + cpar 0x0906 s * 1000000) s with
      pw := { (reachElapsed (s.time.elapsed + cpar 0x0906 s * 1000000) s).pw with pwron := false } } :=
  becomes rfl (by
    rw [settleSleep_settled hIn]
    exact if_pos (by simp [hBackup, hNone]))

/-- Main power is up with what woke the backup domain. -/
def poweredUp (st : Straps) (why : Nat) (u : State) : State :=
  coreStarts { u with
    straps := st
    pw := { u.pw with
      bkpWake := why ≠ 0, why := if why ≠ 0 then why else u.pw.why, asserted := 0, lastReset := if why ≠ 0 then 1 else 0 }
    time := { u.time with coreOn := true } }

theorem mainPowerUp_starts (hIn : s.pw.entering = false) (hMain : mainOn s = false) (hPwron : inBackup s = false ∨ s.pw.pwron = true) :
    Becomes (.mainPowerUp st crc can) s (poweredUp st
      (if (integrityCheck crc can (powerLost s)).pw.asserted = 0 then s.pw.asserted else (integrityCheck crc can (powerLost s)).pw.asserted)
      (rtcDefaults (integrityCheck crc can (powerLost s)))) :=
  becomes rfl (by
    rw [settleSleep_settled hIn]
    exact if_neg (by
      obtain hOut | hOn := hPwron
      · simp [hMain, hOut]
      · simp [hMain, hOn]))

theorem vioRangeChange_takes (hRange : mv ≤ 1890 ∨ (3000 ≤ mv ∧ mv ≤ 3600)) :
    Becomes (.vioRangeChange bank mv) s { s with pw := { s.pw with vio := s.pw.vio.set bank mv } } :=
  becomes (if_neg (by
    simp only [Bool.or_eq_true, Bool.and_eq_true, decide_eq_true_eq]
    omega)) rfl

end

/-- Settles O35: each event by its own lemma. -/
theorem supplyEvents : Obligations.SupplyEvents :=
  fun _ _ _ _ _ _ _ =>
    ⟨lpOverload_resets, coreBrownOut_resets, mainBrownOut_resets, nvInhibitEnter_enters,
     fun hHeld hHigh => ⟨nvInhibitRelease_releases hHeld hHigh, nvInhibitRelease_decides hHeld hHigh⟩,
     vinMeasure_takes, rfl, backupSwitchToVin_checks, pwronDelay_releases, rfl, rfl, mainPowerUp_starts, vioRangeChange_takes,
     fun _ _ => rfl, rfl⟩

end Sys2Proof.Machine
end

section
/-! PROOF. The records of the command rings; start-up, the trial of an image and CONFIRM (02 R43-R52, R68; 03 R119; 15 R495, R496;
16 R534; 17 R559-R566). -/

namespace Sys2Proof.Machine

/-! ## Records -/

section
variable {w : World} {tag : BitVec 32} {words : List (BitVec 64)} {ws : List Word} {start : BitVec 16} {addr : BitVec 18}
  {kind : BitVec 8} {chk : Fin 5} {sl : Fin 12} {r : Record} {errs : List MemErr} {s : State}

/-- What an instruction record does once it is taken, by its checks. -/
theorem instructionRecord_eq (hTake : canTake w (meetErrors errs s) = true) : exec (.instructionRecord w tag words errs) s = ok (
    if ringFails errs then badRecord w (meetErrors errs s).twin.mirNext 1 tag 0x105 (tookRecord w (meetErrors errs s))
    else if words.length = 0 || 3 < words.length then
      badRecord w (meetErrors errs s).twin.mirNext 1 tag 0x103 (tookRecord w (meetErrors errs s))
    else openRecord {
        world := w, fromRing := !(meetErrors errs s).twin.mirNext, tag := tag, words := words
        startedAt := (meetErrors errs s).time.elapsed, mirrored := (meetErrors errs s).twin.mirNext }
      (tookRecord w (meetErrors errs s))) :=
  congrArg ok (if_neg (by simp [hTake]))

theorem instructionRecord_opens (hTake : canTake w (meetErrors errs s) = true) (hLow : 1 ≤ words.length) (hHigh : words.length ≤ 3)
    (hRing : ringFails errs = false) : Becomes (.instructionRecord w tag words errs) s (openRecord {
        world := w, fromRing := !(meetErrors errs s).twin.mirNext, tag := tag, words := words
        startedAt := (meetErrors errs s).time.elapsed, mirrored := (meetErrors errs s).twin.mirNext }
      (tookRecord w (meetErrors errs s))) :=
  becomes (instructionRecord_eq hTake) ((if_neg (by simp [hRing])).trans (if_neg (by
    simp only [Bool.or_eq_true, decide_eq_true_eq]
    omega)))

theorem instructionRecord_fails (hTake : canTake w (meetErrors errs s) = true) (hRing : ringFails errs = true) :
    Becomes (.instructionRecord w tag words errs) s
      (badRecord w (meetErrors errs s).twin.mirNext 1 tag 0x105 (tookRecord w (meetErrors errs s))) :=
  becomes (instructionRecord_eq hTake) (if_pos hRing)

/-- What a program load record inside program memory does, by the windows that run. -/
theorem programLoadRecord_eq (hTake : canTake w s = true) (hLow : 1 ≤ words.length) (hHigh : words.length ≤ 4096)
    (hFits : start.toNat + words.length ≤ 65536) (hOpen : loadRefusal s.twin.mirNext (tookRecord w s) = none) :
    exec (.programLoadRecord w tag start words) s = ok (
      if touchesRunning start.toNat words.length (tookRecord w s) then closeRecord w s.twin.mirNext 2 tag 0x04 0xFF05 (tookRecord w s)
      else closeRecord w s.twin.mirNext 2 tag 0x00 words.length (loadProgram start.toNat words (tookRecord w s))) := by
  have hSize : (decide (words.length = 0) || decide (4096 < words.length) || decide (65536 < start.toNat + words.length)) = false := by
    simp only [Bool.or_eq_false_iff, decide_eq_false_iff_not]
    omega
  show execProgramLoadRecord w tag start words s = _
  unfold execProgramLoadRecord
  simp only [hTake, hSize, hOpen, Bool.not_true, Bool.false_eq_true, if_false, stREFUSED, stOK]

theorem programLoadRecord_loads (hTake : canTake w s = true) (hLow : 1 ≤ words.length) (hHigh : words.length ≤ 4096)
    (hFits : start.toNat + words.length ≤ 65536) (hOpen : loadRefusal s.twin.mirNext (tookRecord w s) = none)
    (hFree : touchesRunning start.toNat words.length (tookRecord w s) = false) :
    Becomes (.programLoadRecord w tag start words) s
      (closeRecord w s.twin.mirNext 2 tag 0x00 words.length (loadProgram start.toNat words (tookRecord w s))) :=
  becomes (programLoadRecord_eq hTake hLow hHigh hFits hOpen) (if_neg (by simp [hFree]))

theorem programLoadRecord_refused (hTake : canTake w s = true) (hLow : 1 ≤ words.length) (hHigh : words.length ≤ 4096)
    (hFits : start.toNat + words.length ≤ 65536) (hOpen : loadRefusal s.twin.mirNext (tookRecord w s) = none)
    (hRuns : touchesRunning start.toNat words.length (tookRecord w s) = true) :
    Becomes (.programLoadRecord w tag start words) s (closeRecord w s.twin.mirNext 2 tag 0x04 0xFF05 (tookRecord w s)) :=
  becomes (programLoadRecord_eq hTake hLow hHigh hFits hOpen) (if_pos hRuns)

theorem scheduleLoadRecord_loads (hTake : canTake w s = true) (hLow : 1 ≤ ws.length) (hHigh : ws.length ≤ 16384)
    (hFits : addr.toNat + ws.length ≤ 262144) (hOpen : loadRefusal s.twin.mirNext (tookRecord w s) = none) :
    Becomes (.scheduleLoadRecord w tag addr ws) s (closeRecord w s.twin.mirNext 3 tag 0x00 ws.length
      ((ws.zipIdx).foldl (fun u wk => setSchedWord (addr.toNat + wk.2) wk.1 u) (tookRecord w s))) :=
  becomes rfl (by
    have hSize : (decide (ws.length = 0) || decide (16384 < ws.length) || decide (262144 < addr.toNat + ws.length)) = false := by
      simp only [Bool.or_eq_false_iff, decide_eq_false_iff_not]
      omega
    simp only [hTake, hSize, hOpen, Bool.not_true, Bool.false_eq_true, if_false, stOK])

theorem malformedRecord_fails (hTake : canTake w s = true) :
    Becomes (.malformedRecord w tag kind chk) s (badRecord w s.twin.mirNext kind.toNat tag (0x101 + chk.val) (tookRecord w s)) :=
  becomes rfl (if_neg (by simp [hTake]))

theorem relayedRecord_opens (hAlive : alive s = true) (hFree : s.cond.record = none) (hIdle : s.cond.await = none)
    (hLow : 1 ≤ words.length) (hHigh : words.length ≤ 3) (hRelay : cpar 0x0B18 s ≠ 0) :
    Becomes (.relayedRecord w words) s (openRecord {
        world := w, posts := false, words := words, relayed := true, startedAt := s.time.elapsed, mirrored := s.twin.mirNext }
      { s with twin := { s.twin with mirNext := false } }) :=
  becomes rfl ((if_neg (by
    simp only [hAlive, hFree, hIdle, Bool.not_true, Option.isSome_none, Bool.or_self, Bool.false_or, Bool.or_eq_true, decide_eq_true_eq]
    omega)).trans (if_neg hRelay))

theorem recordTimeout_abandons (hRecord : s.cond.record = some r) (hRuns : limitRuns s = true) (hBusy : recordBusy r s = true)
    (hNoYield : ∀ d, s.cond.await ≠ some (.yield d)) :
    Becomes .recordTimeout s (restartIfDue (endRecord 0 (ret (.ring r.world) 0x03 (w32 r.executed) (w32 (if r.routine then r.pc else 0))
      { reachElapsed (r.startedAt + cpar 0x0001 s * 1000 + r.asleep) s with
        cond := { (reachElapsed (r.startedAt + cpar 0x0001 s * 1000 + r.asleep) s).cond with await := none } }))) :=
  becomes rfl (by
    simp only [hRecord, hRuns, hBusy, Bool.not_true, Bool.or_self, Bool.false_eq_true, if_false, reachElapsed_keeps, stTIMEOUT])

theorem seqWatchdog_halts (hLimit : spar 0x0016 sl s ≠ 0) (hAlive : alive s = true) (hLive : seqLive sl s = true) :
    Becomes (.seqWatchdog sl) s
      (haltSlice sl 7 0x03 0 false (reachElapsed ((seq sl s).wdogMark + spar 0x0016 sl s * 1000) s)) :=
  becomes rfl (if_neg (by simp [hLimit, hAlive, hLive]))

end

/-- Settles O36: each record and event by its own lemma. -/
theorem commandRecords : Obligations.CommandRecords :=
  fun _ _ _ _ _ _ _ _ _ _ _ _ =>
    ⟨instructionRecord_opens, programLoadRecord_loads, programLoadRecord_refused, scheduleLoadRecord_loads, malformedRecord_fails,
     relayedRecord_opens, recordTimeout_abandons, seqWatchdog_halts, instructionRecord_fails⟩

/-! ## Start-up and the trial -/

section
variable {who : Who} {c : Cond} {wd : Fin 16} {fl st ac fb : Bool} {s : State}

theorem coreResetRelease_starts (hPhase : s.boot.phase = 0) (hCore : s.time.coreOn = true) (hBank : bankOn 3 s = true)
    (hTest : s.straps.test = false) : Becomes (.coreResetRelease fl st ac fb) s
      (trailhead { s with boot := { s.boot with flash := fl, okA := ac, okF := fb, okS := st } }) :=
  becomes rfl (if_neg (by simp [hPhase, hCore, hBank, hTest]))

theorem recoveryListenTimeout_reads (hPhase : s.boot.phase = 2) (hClosed : s.boot.svcOpen = false) :
    Becomes .recoveryListenTimeout s (readFlash (reachElapsed (s.boot.svcAt + 10000000000) s)) :=
  becomes rfl (if_neg (by simp [hPhase, hClosed]))

theorem recordInhibitWait_starts (hPhase : s.boot.phase = 1) :
    Becomes .recordInhibitWait s (startUnwritten (reachElapsed (s.time.elapsed + 5000000000) s)) :=
  becomes rfl (if_neg (by simp [hPhase]))

/-- The trial window has run out, after the CONFIRMs that wait. -/
def trialOver (s : State) : State := confirmDone (reachElapsed (s.boot.trialFrom + trialNs s) s)

theorem trialExpires_eq (hTrial : s.boot.trial = true) (hPhase : s.boot.phase = 6) (hCore : s.time.coreOn = true) :
    trialExpires s = if (trialOver s).boot.trial && (trialOver s).boot.phase = 6 then
      requestFallback (if (trialOver s).host.settingsBad then 1 else 2) (trialOver s) else trialOver s :=
  if_neg (by simp [hTrial, hPhase, hCore])

theorem trialWindowExpiry_ended (hTrial : s.boot.trial = true) (hPhase : s.boot.phase = 6) (hCore : s.time.coreOn = true)
    (hEnded : (trialOver s).boot.trial = false ∨ (trialOver s).boot.phase ≠ 6) :
    BecomesThenRecord .trialWindowExpiry s (trialOver s) :=
  becomesThenRecord rfl (congrArg resume ((trialExpires_eq hTrial hPhase hCore).trans (if_neg (by
    obtain hOff | hOther := hEnded
    · simp [hOff]
    · simp [hOther]))))

theorem trialWindowExpiry_falls (hTrial : s.boot.trial = true) (hPhase : s.boot.phase = 6) (hCore : s.time.coreOn = true)
    (hStill : (trialOver s).boot.trial = true) (hRuns : (trialOver s).boot.phase = 6) :
    BecomesThenRecord .trialWindowExpiry s (requestFallback (if (trialOver s).host.settingsBad then 1 else 2) (trialOver s)) :=
  becomesThenRecord rfl (congrArg resume ((trialExpires_eq hTrial hPhase hCore).trans (if_pos (by simp [hStill, hRuns]))))

section
variable (h : Issues who c 0x86 .condOnly s)
include h

/-- A CONFIRM of mode 0 or 1 is pending. -/
theorem confirmImage_pends (hTrial : s.boot.trial = true) (hRoom : pendFull who s = false) (hDone : s.host.setupDone = true) :
    Answers (.confirmImage who c wd) who (fun u => advance who (startPending who 0x86
      { u with boot := { u.boot with confirming := u.boot.confirming ++ [(worldOf who s, nextTicket who s, false)] } })) s :=
  answersI h rfl (by simp [hTrial, hRoom, hDone, startConfirm])

theorem confirmReject_pends (hTrial : s.boot.trial = true) (hRoom : pendFull who s = false) :
    Answers (.confirmReject who c wd) who (fun u => advance who (startPending who 0x86
      { u with boot := { u.boot with confirming := u.boot.confirming ++ [(worldOf who s, nextTicket who s, true)] } })) s :=
  answersI h rfl (by simp [hTrial, hRoom, startConfirm])

theorem confirmImage_unreadable (hTrial : s.boot.trial = true) (hRoom : pendFull who s = false) (hDone : s.host.setupDone = false) :
    GivesRegs (.confirmImage who c wd) who (withStatus who 0x39 0 0 s) s :=
  regsOf h rfl (by simp [hTrial, hRoom, hDone, stSETTINGS_UNREADABLE]) ((rs0 who s).ret ..)

theorem confirm_noTrial (hTrial : s.boot.trial = false) :
    GivesRegs (.confirmImage who c wd) who (withStatus who 0x04 0x70 0 s) s ∧
    GivesRegs (.confirmReject who c wd) who (withStatus who 0x04 0x70 0 s) s :=
  ⟨regsOf h rfl (if_pos (by simp [hTrial])) ((rs0 who s).ret ..), regsOf h rfl (if_pos (by simp [hTrial])) ((rs0 who s).ret ..)⟩

theorem confirmRead_gives : GivesRegs (.confirmRead who c wd) who
    ((withW who wd (if s.boot.trial then 1 else if s.boot.confirmed then 2 else 0) s).status 0x00
      (w32 (if s.boot.trial then (s.boot.trialFrom + trialNs s - s.time.elapsed) / 1000000000 else 0)) 0) s :=
  regsOf h rfl (by
    have hWindow : trialNs (opened who s) = trialNs s := by simp [trialNs]
    simp only [hWindow, opened_keeps]
    rfl) (((rs0 who s).setW wd _).ret ..)

end

theorem confirmComplete_completes (hAlive : alive s = true) : BecomesThenRecord .confirmComplete s (confirmDone s) :=
  becomesThenRecord rfl (if_pos hAlive)

end

/-- Settles O37: each event and instruction by its own lemma. -/
theorem startAndTrial : Obligations.StartAndTrial :=
  fun _ _ _ _ _ _ _ _ =>
    ⟨coreResetRelease_starts, recoveryListenTimeout_reads, recordInhibitWait_starts,
     fun hTrial hPhase hCore => ⟨trialWindowExpiry_ended hTrial hPhase hCore, trialWindowExpiry_falls hTrial hPhase hCore⟩,
     fun h => ⟨confirmImage_pends h, confirmImage_unreadable h, confirm_noTrial h, confirmReject_pends h, confirmRead_gives h⟩,
     fun hAlive _ => confirmComplete_completes hAlive⟩

end Sys2Proof.Machine
end

section
/-! PROOF. The service port answers each request with its effect (17 R568-R573). -/

namespace Sys2Proof.Machine

section
variable {sq lo hi baud : BitVec 8} {h : ImgHdr} {off b : Nat} {body : List Byte} {rs : Bool} {s : State}

/-- A valid frame has been heard: the session's clocks start anew. -/
def heard (s : State) : State := { s with boot := { s.boot with svcAt := s.time.elapsed, svcSwitched := false } }

/-- The response to a request that an operation of the flash has carried out. -/
def respondFlash (typ : Nat) (sq : BitVec 8) (r : Nat × State) : State := respond typ sq r.1 0 [] r.2

/-! ## Requests -/

section
variable (hBank : bankOn 1 s = true) (hIn : s.pw.entering = false) (hAwake : s.pw.asleep = false) (hServed : svcServed s = true)
  (hAbort : s.boot.svcAbort = false)
include hBank hIn hAwake hServed hAbort

/-- A served port that no tamper event has aborted takes a request. -/
theorem svcRequest_takes (typ : Nat) (f : State → State) : svcRequest typ sq f s = f (heard s) := by
  unfold svcRequest
  rw [if_neg (by simp [hBank]), if_neg (by simp [hIn, hAwake]), if_neg (by simp [hServed])]
  exact if_neg (by simp [hAbort])

/-- A request of a session that may do everything. -/
theorem svcRequest_full (hFull : svcFull s = true) (typ : Nat) (f : State → State) :
    svcRequest typ sq (inFullService typ sq f) s = f (heard s) :=
  (svcRequest_takes hBank hIn hAwake hServed hAbort typ _).trans (by
    unfold inFullService
    exact if_pos hFull)

/-- The baud rate that a HELLO gets: without a time reference the slowest (17 R570). -/
def rateGiven (baud : BitVec 8) (s : State) : Nat := if s.rtc.crystalOff && !s.time.refQual then 0 else baud.toNat

theorem svcHello_opens (hLo : lo.toNat ≤ 2) (hHi : 2 ≤ hi.toNat) (hBaud : baud.toNat ≤ 3) :
    BecomesThenRecord (.svcHello sq lo hi baud) s (respond 0x01 sq 0x00 0 [2, BitVec.ofNat 8 (rateGiven baud s)]
      { heard s with boot := { (heard s).boot with svcOpen := true, svcVer := 2, svcSwitch := some (rateGiven baud s) } }) :=
  becomesThenRecord rfl (congrArg resume ((svcRequest_takes hBank hIn hAwake hServed hAbort 0x01 _).trans (by
    have hTwo : (decide (lo.toNat ≤ 2) && decide (2 ≤ hi.toNat)) = true := by simp [hLo, hHi]
    have hRate : ¬ 3 < baud.toNat := Nat.not_lt.mpr hBaud
    simp only [hTwo, hRate, Bool.not_true, Bool.and_false, decide_false, Bool.false_eq_true, if_false, if_true]
    rfl)))

theorem svcHello_version (hOne : 1 < lo.toNat ∨ hi.toNat < 1) (hTwo : 2 < lo.toNat ∨ hi.toNat < 2) :
    BecomesThenRecord (.svcHello sq lo hi baud) s (respond 0x01 sq 0x38 0 [] (closeSession (heard s))) :=
  becomesThenRecord rfl (congrArg resume ((svcRequest_takes hBank hIn hAwake hServed hAbort 0x01 _).trans (if_pos (by
    simp only [Bool.and_eq_true, Bool.not_eq_true', Bool.and_eq_false_iff, decide_eq_false_iff_not]
    omega))))

theorem svcInfo_answers : BecomesThenRecord (.svcInfo sq) s (respond 0x02 sq 0x00 0
    (leOctets 8 (0xB08832 + s.straps.caspos.val * 2 ^ 28 + bitAt s.straps.twinen 31 + bitAt s.straps.master 32 +
      s.straps.bootsel.val * 2 ^ 33) ++ leOctets 1 (lcState s) ++ leOctets 4 (bootState s) ++ leOctets 4 (bootRec s).verA.toNat ++
      leOctets 4 (bootRec s).verF.toNat ++ leOctets 4 (bootRec s).verS.toNat ++ (match s.sec.updKey with
        | some d => (Config.ecPub d ++ List.replicate 64 0).take 64
        | none => List.replicate 64 0)) (heard s)) :=
  becomesThenRecord rfl (congrArg resume (svcRequest_takes hBank hIn hAwake hServed hAbort 0x02 _))

section
variable (hFull : svcFull s = true)
include hFull

theorem svcBegin_stages (hInit : lcState s ≠ 0) (hOpen : lcState s ≠ 3) (hTrial : s.boot.trial = false)
    (hHeader : headerCheck h s = (0x00, 0)) (hPower : s.pw.nvInhibit = false) :
    BecomesThenRecord (.svcBegin sq h) s (respondFlash 0x03 sq (andThen (fun u => (0x00, { u with boot := { u.boot with
        svcOpen := true, svcStage := true, svcHdr := h, svcBody := [], svcLast := none, staging := none } }))
      (writeRec (fun r => { r with staging := 1 }) (heard s)))) :=
  becomesThenRecord rfl (congrArg resume ((svcRequest_full hBank hIn hAwake hServed hAbort hFull 0x03 _).trans (by
    have hState : lcState (heard s) = lcState s := rfl
    have hPasses : headerCheck h (heard s) = (0x00, 0) := hHeader
    have hNoTrial : (heard s).boot.trial = false := hTrial
    have hMay : (heard s).pw.nvInhibit = false := hPower
    simp only [hState, hInit, hOpen, hPasses, hNoTrial, hMay]
    rfl)))

/-- The response to DATA counts the octets of the body that the flash has taken. -/
def bodyAnswered (sq : BitVec 8) (r : Nat × State) : State := respond 0x04 sq r.1 0 (leOctets 4 r.2.boot.svcBody.length) r.2

theorem svcData_takes (hBody : body.length ≤ 1024) (hPower : s.pw.nvInhibit = false) (hStage : s.boot.svcStage = true)
    (hOff : off = s.boot.svcBody.length) (hFits : off + body.length ≤ s.boot.svcHdr.bodyLen) :
    BecomesThenRecord (.svcData sq off body) s (bodyAnswered sq (flashOp (fun u => { u with boot := { u.boot with
      svcBody := u.boot.svcBody ++ body, svcLast := some (off, body.length) } }) (heard s))) :=
  becomesThenRecord rfl (congrArg resume ((if_neg (by split <;> omega)).trans
    ((svcRequest_full hBank hIn hAwake hServed hAbort hFull 0x04 _).trans (by
      have hMay : (heard s).pw.nvInhibit = false := hPower
      have hOn : (heard s).boot.svcStage = true := hStage
      have hNext : (heard s).boot.svcBody.length = off := hOff.symm
      have hRoom : ¬ (heard s).boot.svcHdr.bodyLen < off + body.length := Nat.not_lt.mpr hFits
      simp only [hMay, hOn, hNext, hRoom, ne_eq, not_true, decide_false, Bool.and_false, Bool.not_true, Bool.or_self,
        Bool.false_eq_true, if_false]
      rfl))))

/-- What END does before it restarts the chip: the staged image is opened and kept. -/
def imageKept (sq : BitVec 8) (hdr : ImgHdr) (pt : List Byte) (u : State) : State :=
  respondFlash 0x05 sq (andThen
    (fun u => (0x00, notify 0x0032 0 0x00 blkHousekeeper { u with boot := { u.boot with svcStage := false } }))
    (andThen (writeRec (fun r => { r with staging := 2, verS := hdr.version, arbS := hdr.arb.val })) (flashOp (stageImage pt) u)))

/-- The staged image did not verify. -/
def imageRejected (sq : BitVec 8) (u : State) : State :=
  respond 0x05 sq 0x24 0 [] { (writeRec (fun r => { r with staging := 3 }) u).2 with
    boot := { (writeRec (fun r => { r with staging := 3 }) u).2.boot with svcStage := false } }

theorem svcEnd_ends (hPower : s.pw.nvInhibit = false) (hStage : s.boot.svcStage = true)
    (hWhole : s.boot.svcBody.length = s.boot.svcHdr.bodyLen) :
    BecomesThenRecord (.svcEnd sq false) s (match openTransit (heard s) with
      | some pt => imageKept sq s.boot.svcHdr pt (heard s)
      | none => imageRejected sq (heard s)) :=
  becomesThenRecord rfl (congrArg resume ((svcRequest_full hBank hIn hAwake hServed hAbort hFull 0x05 _).trans (by
    have hMay : (heard s).pw.nvInhibit = false := hPower
    have hOn : (heard s).boot.svcStage = true := hStage
    have hAll : (heard s).boot.svcBody.length = (heard s).boot.svcHdr.bodyLen := hWhole
    simp only [hMay, hOn, hAll, ne_eq, not_true, decide_false, Bool.not_true, Bool.or_self, Bool.false_eq_true, if_false]
    cases openTransit (heard s) with
    | none => rfl
    | some pt => rfl)))

theorem svcEnd_incomplete (hPower : s.pw.nvInhibit = false)
    (hPart : s.boot.svcStage = false ∨ s.boot.svcBody.length ≠ s.boot.svcHdr.bodyLen) :
    BecomesThenRecord (.svcEnd sq rs) s (respond 0x05 sq 0x02 0 [] (heard s)) :=
  becomesThenRecord rfl (congrArg resume ((svcRequest_full hBank hIn hAwake hServed hAbort hFull 0x05 _).trans
    ((if_neg (by
      have hMay : (heard s).pw.nvInhibit = false := hPower
      simp [hMay])).trans (if_pos (by
      have hLess : (!s.boot.svcStage || decide (s.boot.svcBody.length ≠ s.boot.svcHdr.bodyLen)) = true := by simpa using hPart
      exact hLess)))))

theorem svcAbort_aborts :
    BecomesThenRecord (.svcAbort sq) s (respond 0x06 sq (abortSession (heard s)).1 0 [] (abortSession (heard s)).2) :=
  becomesThenRecord rfl (congrArg resume (svcRequest_full hBank hIn hAwake hServed hAbort hFull 0x06 _))

theorem svcStatus_answers : BecomesThenRecord (.svcStatus sq) s (respond 0x07 sq 0x00 0
    (leOctets 1 (if s.boot.svcStage then 2 else if s.boot.svcOpen then 1 else 0) ++ leOctets 4 s.boot.svcBody.length) (heard s)) :=
  becomesThenRecord rfl (congrArg resume (svcRequest_full hBank hIn hAwake hServed hAbort hFull 0x07 _))

end

end

/-! ## The port's own events -/

theorem svcOctetGapTimeout_counts (hServed : svcServed s = true) : Becomes .svcOctetGapTimeout s (bump 0x0038 s) :=
  becomes rfl (if_pos hServed)

theorem svcBadFrame_counts (hServed : svcServed s = true) : Becomes .svcBadFrame s (bump 0x0038 s) :=
  becomes rfl (if_pos hServed)

theorem svcSessionIdle_aborts (hOpen : s.boot.svcOpen = true) :
    Becomes .svcSessionIdle s (abortSession (reachElapsed (s.boot.svcAt + 30000000000) s)).2 :=
  becomes rfl (if_pos hOpen)

theorem svcRateSwitch_switches (hSwitch : s.boot.svcSwitch = some b) (hOut : s.boot.svcOut = []) :
    Becomes .svcRateSwitch s { reachElapsed (s.time.elapsed + 1000000) s with boot := { s.boot with
      svcBaud := b, svcSwitch := none, svcSwitched := true
      svcAt := (reachElapsed (s.time.elapsed + 1000000) s).time.elapsed } } :=
  becomes rfl (by simp [hSwitch, hOut])

theorem svcRateSwitchTimeout_closes (hSwitched : s.boot.svcSwitched = true) :
    Becomes .svcRateSwitchTimeout s (closeSession (reachElapsed (s.boot.svcAt + 2000000000) s)) :=
  becomes rfl (if_pos hSwitched)

theorem svcCtsChange_holds (hBank : bankOn 1 s = true) :
    Becomes (.svcCtsChange true) s { s with boot := { s.boot with svcCts := true } } :=
  becomes rfl (if_neg (by simp [hBank]))

theorem svcCtsChange_sends (hBank : bankOn 1 s = true) (hRestart : s.boot.svcRestart = false) :
    Becomes (.svcCtsChange false) s { s with boot := { s.boot with
      svcCts := false, svcOut := [], svcRestart := false
      svcSent := match s.boot.svcOut.getLast? with | some r => some r | none => s.boot.svcSent } } :=
  becomes rfl ((if_neg (by simp [hBank])).trans (if_neg (ne_true_of_eq_false hRestart)))

end

/-- Settles O38: each request and event by its own lemma. -/
theorem servicePort : Obligations.ServicePort :=
  fun _ _ _ _ _ _ _ _ _ _ =>
    ⟨fun hBank hIn hAwake hServed hAbort =>
       ⟨svcHello_opens hBank hIn hAwake hServed hAbort, svcHello_version hBank hIn hAwake hServed hAbort,
        svcInfo_answers hBank hIn hAwake hServed hAbort,
        fun hFull => ⟨svcBegin_stages hBank hIn hAwake hServed hAbort hFull, svcData_takes hBank hIn hAwake hServed hAbort hFull,
          svcEnd_ends hBank hIn hAwake hServed hAbort hFull,
          svcEnd_incomplete hBank hIn hAwake hServed hAbort hFull, svcAbort_aborts hBank hIn hAwake hServed hAbort hFull,
          svcStatus_answers hBank hIn hAwake hServed hAbort hFull⟩⟩,
     fun hServed => ⟨svcOctetGapTimeout_counts hServed, svcBadFrame_counts hServed⟩,
     svcSessionIdle_aborts, svcRateSwitch_switches, svcRateSwitchTimeout_closes,
     fun hBank => ⟨svcCtsChange_holds hBank, svcCtsChange_sends hBank⟩⟩

end Sys2Proof.Machine
end

section
/-! PROOF. The cascade links: training, STATUS, credits and resynchronisation, and time on the links (16 R514-R530). -/

namespace Sys2Proof.Machine

/-! ## Links and virtual channels after a change -/

@[simp] theorem link_modLink (l : Fin 6) (f : Link → Link) (s : State) : link l (modLink l f s) = f (link l s) := by
  simp [link, modLink, upd]

@[simp] theorem link_modVc (l : Fin 6) (v : Fin 4) (f : Vc → Vc) (s : State) :
    link l (modVc l v f s) = { link l s with vcs := upd (link l s).vcs v f } := link_modLink ..

@[simp] theorem link_heardBlock (l : Fin 6) (s : State) :
    link l (heardBlock l s) = { link l s with lastBlock := s.time.elapsed } := link_modLink ..

@[simp] theorem vc_heardBlock (l : Fin 6) (v : Fin 4) (s : State) : vc l v (heardBlock l s) = vc l v s := by simp [vc]

section
variable {l : Fin 6} {v : Fin 4} {b : TrainBlk} {sb : StatusBlk} {cnt dl : BitVec 16} {g : Fin 256} {why : Nat} {s : State}
  (hRun : linksRun s = true)
include hRun

/-! ## Training -/

section
variable (hEnabled : linkEnabled l s = true) (hTraining : (link l s).st = 1)
include hEnabled hTraining

theorem train_refused (hWhy : trainRefused l b (heardBlock l s) = some why) : Becomes (.train l b) s
    (notify 0x0B01 (linkSubj l) why (linkBlk l) (modLink l (fun x => x.restarted 5 s.time.elapsed) (heardBlock l s))) :=
  becomes rfl (by
    have hGoes : (!linksRun s || !linkEnabled l s) = false := by simp [hRun, hEnabled]
    simp only [hGoes, link_heardBlock, hTraining, hWhy, Bool.false_eq_true, if_false, ne_eq, not_true]
    rfl)

/-- An acceptable TRAIN block counts. -/
def trainCounted (l : Fin 6) (b : TrainBlk) (s : State) : State :=
  modLink l (fun x => { x with
    good := x.good + 1, ackSeen := x.ackSeen || b.ack, pos := b.pos.val, master := b.master, twin := b.twinen
    role := b.role.val }) (heardBlock l s)

theorem train_counted (hWhy : trainRefused l b (heardBlock l s) = none) : exec (.train l b) s = ok (
    if 16 ≤ (link l (trainCounted l b s)).good && (link l (trainCounted l b s)).ackSeen then linkUp l b (trainCounted l b s)
    else trainCounted l b s) := by
  have hGoes : (!linksRun s || !linkEnabled l s) = false := by simp [hRun, hEnabled]
  show execTrain l b s = _
  unfold execTrain
  simp only [hGoes, link_heardBlock, hTraining, hWhy, Bool.false_eq_true, if_false, ne_eq, not_true]
  rfl

theorem train_goesOn (hWhy : trainRefused l b (heardBlock l s) = none)
    (hEarly : (link l (trainCounted l b s)).good < 16 ∨ (link l (trainCounted l b s)).ackSeen = false) :
    Becomes (.train l b) s (trainCounted l b s) :=
  becomes (train_counted hRun hEnabled hTraining hWhy) (if_neg (by
    obtain hFew | hUnseen := hEarly
    · simp [Nat.not_le.mpr hFew]
    · simp [hUnseen]))

theorem train_up (hWhy : trainRefused l b (heardBlock l s) = none) (hGood : 16 ≤ (link l (trainCounted l b s)).good)
    (hAck : (link l (trainCounted l b s)).ackSeen = true) : Becomes (.train l b) s (linkUp l b (trainCounted l b s)) :=
  becomes (train_counted hRun hEnabled hTraining hWhy) (if_pos (by simp [hGood, hAck]))

end

theorem casTrainingTimeout_restarts (hTraining : (link l s).st = 1) : Becomes (.casTrainingTimeout l) s
    (modLink l (fun x => x.restarted 5 (reachElapsed ((link l s).since + 10000000) s).time.elapsed)
      (reachElapsed ((link l s).since + 10000000) s)) :=
  becomes rfl (if_pos (by simp [hRun, hTraining]))

theorem casTrainingRetry_restarts (hFailed : (link l s).st = 5) (hEnabled : linkEnabled l s = true) : Becomes (.casTrainingRetry l) s
    (modLink l (fun x => x.restarted 1 (reachElapsed ((link l s).since + 100000000) s).time.elapsed)
      (reachElapsed ((link l s).since + 100000000) s)) :=
  becomes rfl ((if_pos (by simp [hRun, hFailed])).trans (by
    have hStill : linkEnabled l (reachElapsed ((link l s).since + 100000000) s) = true := hEnabled
    simp only [hStill, if_true]))

/-! ## A trained link -/

section
variable (hTrained : (link l s).trained = true)
include hTrained

theorem casLinkDown_falls : Becomes (.casLinkDown l) s (linkDown l 0x03 s) :=
  becomes rfl (if_pos (by
    have hCore : s.time.coreOn = true := by
      simp only [linksRun, Bool.and_eq_true] at hRun
      exact hRun.1
    simp [hCore, hTrained]))

theorem status_taken (hSame : isMate l = true ∨ (link l s).twin = false ∨ (link l s).role = 1 ∨ sb.role ≠ 1) :
    Becomes (.status l sb) s (recompute (modLink l (fun x => { x with
      pos := sb.pos.val, hop := sb.hop.val, role := sb.role.val, master := sb.master, gridRun := sb.gridRun
      tbQual := sb.tbQual, subtree := sb.subtree, present := sb.present, lastBlock := s.time.elapsed }) s)) :=
  becomes rfl (by
    have hNotTaken : ((link l s).twin && decide ((link l s).role ≠ 1) && decide (sb.role = 1) && !isMate l) = false := by
      obtain h | h | h | h := hSame <;> simp [h]
    have hGoes : (!linksRun s || !(link l s).trained) = false := by simp [hRun, hTrained]
    simp only [hGoes, hNotTaken, Bool.false_eq_true, if_false])

theorem statusSend_sends : Becomes (.statusSend l) s (modLink l (fun x => { x with statusOut := some {
      pos := s.straps.caspos, hop := Fin.ofNat 16 s.cas.hop, role := Fin.ofNat 4 s.twin.role
      master := isMaster s, gridRun := s.grid.mode = 1, tbQual := s.time.qual, subtree := subtreeMask s, present := s.cas.present
      version := Fin.ofNat 16 x.ver } }) s) :=
  becomes rfl (if_neg (by simp [hRun, hTrained]))

theorem credit_returns : BecomesThenRecord (.credit l v cnt dl) s (csendWake (pump l v (retireCovered l v dl.toNat
    (modVc l v (fun y => { y with
      credSeen := cnt.toNat
      a := y.a + min (diff16 cnt.toNat (vc l v s).credSeen) (vc l v s).sent
      sent := y.sent - min (diff16 cnt.toNat (vc l v s).credSeen) (vc l v s).sent
      progress := if 0 < min (diff16 cnt.toNat (vc l v s).credSeen) (vc l v s).sent then s.time.elapsed else y.progress })
      (heardBlock l s))))) :=
  becomesThenRecord rfl (congrArg resume (if_neg (by simp [hRun, hTrained])))

theorem creditSend_returns :
    Becomes (.creditSend l v) s (modVc l v (fun y => { y with freed := (y.freed + y.r) % 65536, r := 0 }) s) :=
  becomes rfl (if_neg (by simp [hRun, hTrained]))

theorem creditTimeout_resyncs (hSent : 0 < (vc l v s).sent) (hSteady : (vc l v s).resync = false) : Becomes (.creditTimeout l v) s
    (resyncReport l v 0x41 (reachElapsed ((vc l v s).progress + cpar 0x0B0A s * 1000) s)) :=
  becomes rfl (if_pos (by simp [hRun, hTrained, hSent, hSteady]))

theorem resyncRequest_begins :
    Becomes (.resyncRequest l v) s (resyncBegin l v (modVc l v (fun y => { y with b := 0, r := 0 }) (heardBlock l s))) :=
  becomes rfl (if_pos (by simp [hRun, hTrained]))

end

theorem resyncReplyTimeout_eq (hResync : (vc l v s).resync = true) : exec (.resyncReplyTimeout l v) s = ok (
    if (vc l v s).tries < 3 then
      modVc l v (fun y => { y with
        tries := y.tries + 1, asked := (reachElapsed ((vc l v s).asked + 1000000) s).time.elapsed })
        (reachElapsed ((vc l v s).asked + 1000000) s)
    else linkDown l 0x03 (reachElapsed ((vc l v s).asked + 1000000) s)) :=
  congrArg ok (if_neg (by simp [hRun, hResync]))

theorem linkFrameError_eq (hUp : (link l s).st = 2) : exec (.linkFrameError l v) s = ok (
    if v = 1 then modVc l v (fun y => { y with r := y.r + 1 }) (bump 0x0B40 s) else resyncBegin l v (bump 0x0B40 s)) :=
  congrArg ok (if_neg (by simp [hRun, hUp]))

end

/-- Settles O39: each event by its own lemma. -/
theorem linkEvents : Obligations.LinkEvents :=
  fun _ _ _ _ _ _ _ _ _ hRun =>
    ⟨fun hEnabled hTraining => ⟨train_refused hRun hEnabled hTraining, fun hWhy =>
       ⟨train_goesOn hRun hEnabled hTraining hWhy, train_up hRun hEnabled hTraining hWhy⟩⟩,
     casTrainingTimeout_restarts hRun, casTrainingRetry_restarts hRun,
     fun hTrained => ⟨casLinkDown_falls hRun hTrained, status_taken hRun hTrained, statusSend_sends hRun hTrained,
       credit_returns hRun hTrained, creditSend_returns hRun hTrained, creditTimeout_resyncs hRun hTrained,
       resyncRequest_begins hRun hTrained⟩,
     fun hResync => ⟨rfl, fun hFew => becomes (resyncReplyTimeout_eq hRun hResync) (if_pos hFew),
       fun hMany => becomes (resyncReplyTimeout_eq hRun hResync) (if_neg (Nat.not_lt.mpr hMany))⟩,
     fun hUp => ⟨fun hOne => becomes (linkFrameError_eq hRun hUp) (if_pos hOne),
       fun hOther => becomes (linkFrameError_eq hRun hUp) (if_neg hOther)⟩⟩

/-! ## Time on the links -/

section
variable {l : Fin 6} {f : TimeFr} {dly : Int} {t1 t2 t3 t4 last : Nat} {s : State} (hRun : linksRun s = true)
include hRun

section
variable (hUp : (link l s).st = 2)
include hUp

theorem linkDelayMeasure_leaves : Becomes (.linkDelayMeasure l) s (modLink l (fun x => { x with dreqAt := some (tbNs s) }) s) :=
  becomes rfl (if_pos (by simp [hRun, hUp]))

theorem dreq_answered :
    Becomes (.dreq l t2) s (modLink l (fun x => { x with drespOut := some (t2, tbNs s), lastBlock := s.time.elapsed }) s) :=
  becomes rfl (if_pos (by simp [hRun, hUp]))

theorem dresp_measures (hAsked : (link l s).dreqAt = some t1) : Becomes (.dresp l t2 t3 t4) s (modLink l (fun x => { x with
    delay := some (roundDiv (((t4 : Int) - t1) - ((t3 : Int) - t2)) 2 + asym l s), dreqAt := none
    lastBlock := s.time.elapsed }) s) :=
  becomes rfl (by
    have hGoes : (linksRun s && decide ((link l s).st = 2)) = true := by simp [hRun, hUp]
    simp only [hAsked, hGoes, if_true])

/-- A TIME frame has come: its buffer is to be returned. -/
def timeHeard (l : Fin 6) (s : State) : State :=
  modVc l (if isMate l then 0 else 1) (fun x => { x with r := x.r + 1 }) (heardBlock l s)

omit hRun hUp in
theorem delay_timeHeard : (link l (timeHeard l s)).delay = (link l s).delay := by simp [timeHeard]

omit hRun hUp in
theorem aligned_timeHeard : (timeHeard l s).cas.aligned = s.cas.aligned := rfl

theorem timeFrame_unmeasured (hDelay : (link l s).delay = none) : BecomesThenRecord (.timeFrame l f) s (timeHeard l s) :=
  becomesThenRecord rfl (congrArg resume ((if_neg (by simp [hRun, hUp])).trans (by
    have hNone := delay_timeHeard.trans hDelay
    unfold timeHeard at hNone ⊢
    simp only [hNone])))

/-- The time frame's offset from the timebase. -/
def timeOffset (f : TimeFr) (dly : Int) : Int := (f.tArr : Int) - f.tDep - dly

/-- What a TIME frame of the followed link does. -/
theorem timeFrame_followed (hDelay : (link l s).delay = some dly) (hFollows : followsTime l (timeHeard l s) = true) :
    timeFrame l f s = (if !s.cas.aligned then
        followGrid f { alignTime (timeOffset f dly) (timeHeard l s) with
          cas := { (alignTime (timeOffset f dly) (timeHeard l s)).cas with
            tLast := some ((f.tArr : Int) - timeOffset f dly).toNat, tFirst := false, tMissed := 0 } }
      else if timeAccepts f.tArr (timeHeard l s) then followGrid f (timeServo f.tArr (timeOffset f dly) (timeHeard l s))
      else bump 0x0B45 (timeHeard l s)) := by
  have hSome := delay_timeHeard.trans hDelay
  have hAligned : (timeHeard l s).cas.aligned = s.cas.aligned := rfl
  unfold timeFrame
  rw [if_neg (by simp [hRun, hUp])]
  change (match (link l (timeHeard l s)).delay with
    | none => timeHeard l s
    | some d => if !followsTime l (timeHeard l s) then timeHeard l s else _) = _
  simp only [hSome, hFollows]
  rfl

theorem timeFrame_accepted (hDelay : (link l s).delay = some dly) (hFollows : followsTime l (timeHeard l s) = true)
    (hAligned : s.cas.aligned = true) (hAccepts : timeAccepts f.tArr (timeHeard l s) = true) :
    BecomesThenRecord (.timeFrame l f) s (followGrid f (timeServo f.tArr (timeOffset f dly) (timeHeard l s))) :=
  becomesThenRecord rfl (congrArg resume ((timeFrame_followed hRun hUp hDelay hFollows).trans
    ((if_neg (by simp [hAligned])).trans (if_pos hAccepts))))

theorem timeFrame_rejected (hDelay : (link l s).delay = some dly) (hFollows : followsTime l (timeHeard l s) = true)
    (hAligned : s.cas.aligned = true) (hAccepts : timeAccepts f.tArr (timeHeard l s) = false) :
    BecomesThenRecord (.timeFrame l f) s (bump 0x0B45 (timeHeard l s)) :=
  becomesThenRecord rfl (congrArg resume ((timeFrame_followed hRun hUp hDelay hFollows).trans
    ((if_neg (by simp [hAligned])).trans (if_neg (by simp [hAccepts])))))

theorem timeFrame_aligns (hDelay : (link l s).delay = some dly) (hFollows : followsTime l (timeHeard l s) = true)
    (hAligned : s.cas.aligned = false) : BecomesThenRecord (.timeFrame l f) s (followGrid f
      { alignTime (timeOffset f dly) (timeHeard l s) with
        cas := { (alignTime (timeOffset f dly) (timeHeard l s)).cas with
          tLast := some ((f.tArr : Int) - timeOffset f dly).toNat, tFirst := false, tMissed := 0 } }) :=
  becomesThenRecord rfl (congrArg resume ((timeFrame_followed hRun hUp hDelay hFollows).trans (if_pos (by simp [hAligned]))))

end

/-- The end of the tolerance of a TIME frame that has not come. -/
def missedAt (last : Nat) (s : State) : State :=
  { reachTb (last + (s.cas.tMissed + 1) * timeCycle s + (s.cas.tMissed + 1) * cpar 0x0B09 s) s with
    cas := { s.cas with tMissed := s.cas.tMissed + 1, tAfterMiss := true, tRecover := 0 } }

/-- A TIME frame is missed: the rate is held, and from the third the chip is in holdover (05 R168; 16 R529). -/
theorem timeFrameMissed_eq (hLast : s.cas.tLast = some last) (hDisc : s.time.disc = 2 ∨ s.twin.role = 2) (hLater : s.cas.tFirst = false)
    (hReach : tbCanReach (last + (s.cas.tMissed + 1) * timeCycle s + (s.cas.tMissed + 1) * cpar 0x0B09 s) s = true) :
    exec .timeFrameMissed s = ok (
      if s.cas.tMissed + 1 < 3 then setRate (missedAt last s).time.rFreq (missedAt last s)
      else if s.cas.tMissed + 1 = 3 then enterHoldover 2 (missedAt last s) else missedAt last s) := by
  have hGoes : (linksRun s && (decide (s.time.disc = 2) || decide (s.twin.role = 2)) && !s.cas.tFirst && tbCanReach
      (last + (s.cas.tMissed + 1) * timeCycle s + (s.cas.tMissed + 1) * cpar 0x0B09 s) s) = true := by
    simp only [hRun, hLater, hReach, Bool.not_false, Bool.true_and, Bool.and_true, Bool.or_eq_true, decide_eq_true_eq]
    exact hDisc
  show execTimeFrameMissed s = _
  unfold execTimeFrameMissed
  simp only [hLast, hGoes, if_true]
  rfl

end

/-- Settles O42: each event by its own lemma. -/
theorem linkTime : Obligations.LinkTime :=
  fun _ _ _ _ _ _ _ _ _ hRun =>
    ⟨fun hUp => ⟨linkDelayMeasure_leaves hRun hUp, dreq_answered hRun hUp, dresp_measures hRun hUp, timeFrame_unmeasured hRun hUp,
       fun hDelay hFollows => ⟨timeFrame_accepted hRun hUp hDelay hFollows, timeFrame_rejected hRun hUp hDelay hFollows,
         timeFrame_aligns hRun hUp hDelay hFollows⟩⟩,
     fun hLast hDisc hLater hReach =>
       ⟨fun hFew => becomes (timeFrameMissed_eq hRun hLast hDisc hLater hReach) (if_pos hFew),
        fun hThird => becomes (timeFrameMissed_eq hRun hLast hDisc hLater hReach) ((if_neg (by omega)).trans (if_pos hThird)),
        fun hMore => becomes (timeFrameMissed_eq hRun hLast hDisc hLater hReach) ((if_neg (by omega)).trans (if_neg (by omega)))⟩⟩

end Sys2Proof.Machine
end

section
/-! PROOF. Items, messages, barriers and relays on the cascade links (16 R515, R524-R534). -/

namespace Sys2Proof.Machine

section
variable {l : Fin 6} {v : Fin 4} {p : Fin 8} {q dq d t : Nat} {it : Item} {f : CasItemF} {m : CasMsg} {bar mask : BitVec 8}
  {e w0 w1 w2 : Word} {r : Relay} {b : Barrier} {dest kind : Nat} {m1 m2 : Word} {s : State} (hRun : linksRun s = true)
include hRun

/-! ## Items and messages on a link that is up -/

section
variable (hCascade : isMate l = false) (hUp : (link l s).st = 2)
include hCascade hUp

theorem casItemSend_sends (hRole : s.twin.role ≠ 2) (hSteady : (vc l (dataVc l s) s).resync = false)
    (hCredit : (vc l (dataVc l s) s).a ≠ 0) (hNone : (vc l (dataVc l s) s).retained = []) (hTurn : fwdTurn l s = some p.val)
    (hFwd : fwd p.val s = some (q, dq)) (hHead : popHead q s = some it) : Becomes (.casItemSend l p) s
    (sendOn l (dataVc l s) { item := some it, q := q, dest := p.val, destQ := dq }
      (modVc l (dataVc l s) (fun x => { x with turn := p.val }) (popItem q it s))).2 :=
  becomes rfl ((if_neg (by simp [hRun, hCascade, hUp, hRole, hSteady, hCredit, hNone, hTurn])).trans (by
    simp only [hFwd, hHead]))

/-- What an item of a data channel that comes on the link does. -/
theorem casItem_eq (hData : 2 ≤ v.val) : exec (.casItem l v f) s = ok (
    if covered f.num.toNat (vc l v (heardBlock l s)).delivered then
      bump 0x0B43 (modVc l v (fun x => { x with r := x.r + frameCount f.data.length }) (heardBlock l s))
    else disposed l v f.num.toNat (frameCount f.data.length)
      (if f.dest.val = ownPos s then casItemIn l f.destQ.val f (heardBlock l s)
      else match fwd f.dest.val s with
        | some (q, _) => casItemIn l q f (heardBlock l s)
        | none => bump 0x0B44 (heardBlock l s))) :=
  congrArg ok ((if_neg (by simp [hRun, hCascade, hUp, Nat.not_lt.mpr hData])).trans rfl)

theorem casItem_repeated (hData : 2 ≤ v.val) (hKnown : covered f.num.toNat (vc l v (heardBlock l s)).delivered = true) :
    Becomes (.casItem l v f) s
      (bump 0x0B43 (modVc l v (fun x => { x with r := x.r + frameCount f.data.length }) (heardBlock l s))) :=
  becomes (casItem_eq hRun hCascade hUp hData) (if_pos hKnown)

theorem casItem_ours (hData : 2 ≤ v.val) (hNew : covered f.num.toNat (vc l v (heardBlock l s)).delivered = false)
    (hOurs : f.dest.val = ownPos s) : Becomes (.casItem l v f) s
      (disposed l v f.num.toNat (frameCount f.data.length) (casItemIn l f.destQ.val f (heardBlock l s))) :=
  becomes (casItem_eq hRun hCascade hUp hData) ((if_neg (Bool.eq_false_iff.mp hNew)).trans (by rw [if_pos hOurs]))

theorem casItem_forwarded (hData : 2 ≤ v.val) (hNew : covered f.num.toNat (vc l v (heardBlock l s)).delivered = false)
    (hOther : f.dest.val ≠ ownPos s) (hFwd : fwd f.dest.val s = some (q, dq)) : Becomes (.casItem l v f) s
      (disposed l v f.num.toNat (frameCount f.data.length) (casItemIn l q f (heardBlock l s))) :=
  becomes (casItem_eq hRun hCascade hUp hData) ((if_neg (Bool.eq_false_iff.mp hNew)).trans (by rw [if_neg hOther, hFwd]))

theorem casItem_unroutable (hData : 2 ≤ v.val) (hNew : covered f.num.toNat (vc l v (heardBlock l s)).delivered = false)
    (hOther : f.dest.val ≠ ownPos s) (hFwd : fwd f.dest.val s = none) : Becomes (.casItem l v f) s
      (disposed l v f.num.toNat (frameCount f.data.length) (bump 0x0B44 (heardBlock l s))) :=
  becomes (casItem_eq hRun hCascade hUp hData) ((if_neg (Bool.eq_false_iff.mp hNew)).trans (by rw [if_neg hOther, hFwd]))

theorem casMessage_repeated (hKnown : covered m.num.toNat (vc l 0 (heardBlock l s)).delivered = true) :
    Becomes (.casMessage l m) s (bump 0x0B43 (modVc l 0 (fun x => { x with r := x.r + 1 }) (heardBlock l s))) :=
  becomes rfl ((if_neg (by simp [hRun, hCascade, hUp])).trans (if_pos hKnown))

theorem casMessage_ours (hNew : covered m.num.toNat (vc l 0 (heardBlock l s)).delivered = false) (hOurs : m.dest.val = ownPos s) :
    Becomes (.casMessage l m) s (if 0x80 ≤ m.kind.toNat then msgIn m (disposed l 0 m.num.toNat 1 (heardBlock l s))
      else disposed l 0 m.num.toNat 1 (heardBlock l s)) :=
  becomes rfl ((if_neg (by simp [hRun, hCascade, hUp])).trans ((if_neg (Bool.eq_false_iff.mp hNew)).trans (by
    have hHere : m.dest.val = ownPos (disposed l 0 m.num.toNat 1 (heardBlock l s)) := hOurs
    simp only [hHere, ne_eq, not_true, if_false, decide_true, Bool.true_or, Bool.and_true, decide_eq_true_eq])))

end

/-! ## Barriers, relays and positions -/

theorem barrierArrival_arrives (hMaster : isMaster s = true) :
    BecomesThenRecord (.barrierArrival p bar) s (arrive p.val bar.toNat s) :=
  becomesThenRecord rfl (congrArg resume (if_pos (by simp [hRun, hMaster])))

theorem barrierAnnounce_passes : BecomesThenRecord (.barrierAnnounce bar mask) s (cbarDone bar.toNat mask s) :=
  becomesThenRecord rfl (congrArg resume (if_pos hRun))

omit hRun in
theorem barrierForget_drops (hFound : s.cas.barriers.find? (fun b => b.bar = bar.toNat) = some b) : Becomes (.barrierForget bar) s
    { reachElapsed (b.at_ + 1000000000) s with
      cas := { s.cas with barriers := dropFirst (fun b => b.bar = bar.toNat) s.cas.barriers } } :=
  becomes rfl (by simp only [hFound]; rfl)

/-- A relay ends: its result stands, and is reported. -/
def relayEnded (r : Relay) (e w0 w1 w2 : Word) (s : State) : State :=
  notify 0x0B05 r.pos w0.toNat (blkCas 0) { s with cas := { s.cas with relay := none, relayRes := #v[e, w0, w1, w2] } }

omit hRun in
theorem relayEnds_ended (hRelay : s.cas.relay = some r) : relayEnds e w0 w1 w2 s = relayEnded r e w0 w1 w2 s := by
  simp only [relayEnds, hRelay]; rfl

theorem relayResult_ends (hRelay : s.cas.relay = some r) :
    Becomes (.relayResult e w0 w1 w2) s (relayEnded r e w0 w1 w2 s) :=
  becomes rfl ((if_pos hRun).trans (relayEnds_ended hRelay))

theorem relayTimeout_ends (hRelay : s.cas.relay = some r) : Becomes .relayTimeout s
    (relayEnded r 0 0x03 0 0 (reachElapsed (r.at_ + cpar 0x0001 s * 1000 + 10000000) s)) :=
  becomes rfl (by
    have hStill : (reachElapsed (r.at_ + cpar 0x0001 s * 1000 + 10000000) s).cas.relay = some r := by simp [hRelay]
    simp only [hRelay, hRun, if_true]
    exact relayEnds_ended hStill)

omit hRun in
theorem isMaster_notify (kind subject st block : Nat) : isMaster (notify kind subject st block s) = isMaster s := by
  have hStraps : Unposted State.straps :=
    ⟨fun _ _ => rfl, fun w _ _ _ => by cases w <;> rfl, fun _ _ => rfl, fun _ _ => rfl⟩
  rw [isMaster, hStraps.notify, isMaster]

theorem positionAbsent_reports (hLost : s.cas.lostAt[p] = some t) (hKnown : s.cas.known.getLsbD p.val = true)
    (hMember : isMaster s = false) : BecomesThenRecord (.positionAbsent p) s (notify 0x0B02 p.val 0x03 (blkCas 0)
      { reachElapsed (t + cpar 0x0B0B s * 1000000) s with cas := { s.cas with
          known := s.cas.known &&& ~~~ BitVec.ofNat 8 (2 ^ p.val), lostAt := s.cas.lostAt.set p none } }) :=
  becomesThenRecord rfl (congrArg resume (by
    have hGoes : (linksRun s && s.cas.known.getLsbD p.val) = true := by rw [hRun, hKnown]; rfl
    simp only [positionAbsent, hLost, hGoes, if_true, isMaster_notify, reachElapsed_keeps]
    exact if_neg (Bool.eq_false_iff.mp hMember)))

/-! ## The deadline of a waiting CSEND or CBAR -/

theorem latestDeadline_csend (hAwait : s.cond.await = some (.csend m1 m2 dest kind d))
    (hLacks : lacksCredit dest (reachElapsed d s) = some l) : BecomesThenRecord (.latestDeadline .cond) s
      (unblockCond 0x41 (w32 (link l (reachElapsed d s)).pos) 0 (reachElapsed d s)) :=
  becomesThenRecord rfl ((if_pos hRun).trans (congrArg resume (by simp only [latestReached, hAwait, hLacks]; rfl)))

theorem latestDeadline_cbar (hAwait : s.cond.await = some (.cbar bar.toNat d)) (hMaster : isMaster s = true) :
    BecomesThenRecord (.latestDeadline .cond) s (unblockCond 0x03 (w32 (arrivedMask bar.toNat (reachElapsed d s)).toNat)
      (w32 ((reachElapsed d s).cas.known &&& ~~~arrivedMask bar.toNat (reachElapsed d s)).toNat) (reachElapsed d s)) :=
  becomesThenRecord rfl ((if_pos hRun).trans (congrArg resume (by
    have hStill : isMaster (reachElapsed d s) = true := hMaster
    simp only [latestReached, hAwait, hStill, if_true]
    rfl)))

end

/-- Settles O40: each event by its own lemma. -/
theorem cascadeTraffic : Obligations.CascadeTraffic :=
  fun _ _ _ _ _ _ _ _ _ _ _ _ _ _ _ _ _ _ _ _ _ _ _ hRun =>
    ⟨fun hCascade hUp => ⟨casItemSend_sends hRun hCascade hUp,
       fun hData => ⟨casItem_repeated hRun hCascade hUp hData, casItem_ours hRun hCascade hUp hData,
         casItem_forwarded hRun hCascade hUp hData, casItem_unroutable hRun hCascade hUp hData⟩,
       casMessage_repeated hRun hCascade hUp, casMessage_ours hRun hCascade hUp⟩,
     barrierArrival_arrives hRun, barrierAnnounce_passes hRun, barrierForget_drops,
     fun hRelay => ⟨relayResult_ends hRun hRelay, relayTimeout_ends hRun hRelay⟩,
     positionAbsent_reports hRun, latestDeadline_csend hRun, latestDeadline_cbar hRun⟩

end Sys2Proof.Machine
end

section
/-! PROOF. The twin: heartbeats, claims, takeover, mirrored inputs, end markers, full sync and yield (04 R151; 16 R535-R547). -/

namespace Sys2Proof.Machine

section
variable {k : Fin 2} {h : Hb} {high : Bool} {order t d p : Nat} {m : MirIn} {e : EndMark} {reg : Regions} {s : State}

/-! ## Heartbeats and the pin of the role -/

theorem heartbeatSend_sends (hCore : s.time.coreOn = true) (hTrained : (link 4 s).trained = true ∨ (link 5 s).trained = true) :
    Becomes .heartbeatSend s { s with twin := { s.twin with hbOut := some {
      role := Fin.ofNat 4 s.twin.role, mirror := Fin.ofNat 8 s.twin.mirror, activeAsn := BitVec.ofNat 32 s.twin.activeAsn
      lastCycle := BitVec.ofNat 32 s.twin.comparedAsn, lastOk := s.twin.lastOk, fault := s.health.chipFault ≠ 0
      claim := s.twin.claim.map (BitVec.ofNat 32) } } } :=
  becomes rfl (if_pos (by obtain h | h := hTrained <;> simp [hCore, h]))

theorem roleInChange_takes (hTwin : s.straps.twinen = true) (hBank : bankOn 3 s = true) (hMoves : s.twin.roleIn ≠ high) :
    Becomes (.roleInChange high) s { s with twin := { s.twin with
      roleIn := high, roleInAt := s.time.elapsed
      roleOut := !high && s.twin.role = 1 && s.twin.yieldAt.isNone && s.health.chipFault = 0 } } :=
  becomes rfl (if_neg (by simp [hTwin, hBank, hMoves]))

/-- A standby has heard a standby. -/
def standbyHeard (k : Fin 2) (h : Hb) (s : State) : State :=
  { modVc (mate k) 0 (fun x => { x with r := x.r + 1 }) (heardBlock (mate k) s) with twin := { s.twin with
    hbAt := s.twin.hbAt.set k s.time.elapsed, hbSilent := false, peerRole := 2, peerMirror := h.mirror.val
    peerAsn := h.activeAsn.toNat, peerFault := h.fault, peerClaim := h.claim.map (·.toNat) } }

theorem bothActive_standby (hRole : s.twin.role = 2) : bothActive h s = s := if_neg (by simp [hRole])

theorem learnResult_standby (hRole : s.twin.role = 2) : learnResult h s = s := if_pos (by simp [hRole])

section
variable (hRun : linksRun s = true)
include hRun

theorem heartbeat_standby (hTrained : (link (mate k) s).trained = true) (hRole : s.twin.role = 2) (hPeer : h.role = 2) :
    heartbeat k h s = standbyHeard k h s := by
  have hNotActive : ((2 : Fin 4) = 1) = False := by decide
  have hHeard : (standbyHeard k h s).twin.role = 2 := hRole
  unfold heartbeat
  rw [if_neg (by simp [hRun, hTrained])]
  simp only [hPeer, hNotActive, decide_false, Bool.false_and, Bool.and_false, Bool.false_eq_true, if_false]
  rw [show (decide (s.twin.role = 1)) = false by simp [hRole]]
  simp only [Bool.false_and, Bool.or_false]
  change learnResult h (bothActive h (standbyHeard k h s)) = _
  rw [bothActive_standby hHeard, learnResult_standby hHeard]

theorem heartbeatTimeout_silent (hHeard : s.twin.hbSilent = false) (hRole : s.twin.role = 1) : Becomes .heartbeatTimeout s
    { reachElapsed (max s.twin.hbAt[0] s.twin.hbAt[1] + cpar 0x0B30 s * 1000) s with
      twin := { s.twin with hbSilent := true, mirror := 4 } } :=
  becomes rfl ((if_neg (by simp [hRun, hHeard, hRole])).trans (if_pos hRole))

/-! ## Claims and takeover -/

section
variable (hRole : s.twin.role = 2)
include hRole

theorem claimResolution_alone (hClaim : s.twin.claim = some d) (hPeer : s.twin.peerClaim = none) :
    Becomes .claimResolution s (becomeActive s.twin.wasActive (reachElapsed (s.twin.claimAt + 300000) s)) :=
  becomes rfl (by
    have hGoes : (!linksRun s || decide (s.twin.role ≠ 2)) = false := by simp [hRun, hRole]
    simp only [hClaim, hGoes, hPeer, Bool.false_eq_true, if_false, reachElapsed_keeps])

/-- What the end of a claim's wait does when the partner claims too. -/
theorem claimResolution_both (hClaim : s.twin.claim = some d) (hPeer : s.twin.peerClaim = some p) : exec .claimResolution s = ok (
    if d < p then notify 0x0B08 2 0x00 (blkMate 0) { reachElapsed (s.twin.claimAt + 300000) s with
      twin := { s.twin with claim := none } }
    else if d = p then withDraw 4294967296 (reachElapsed (s.twin.claimAt + 300000) s) fun v s =>
      { s with twin := { s.twin with claim := some v, claimAt := s.time.elapsed, peerClaim := none } }
    else becomeActive s.twin.wasActive (reachElapsed (s.twin.claimAt + 300000) s)) := by
  have hGoes : (!linksRun s || decide (s.twin.role ≠ 2)) = false := by simp [hRun, hRole]
  show execClaimResolution s = _
  unfold execClaimResolution
  simp only [hClaim, hGoes, hPeer, Bool.false_eq_true, if_false, stOK, reachElapsed_keeps]

theorem claimResolution_wins (hClaim : s.twin.claim = some d) (hPeer : s.twin.peerClaim = some p) (hLower : p < d) :
    Becomes .claimResolution s (becomeActive s.twin.wasActive (reachElapsed (s.twin.claimAt + 300000) s)) :=
  becomes (claimResolution_both hRun hRole hClaim hPeer)
    ((if_neg (Nat.not_lt.mpr hLower.le)).trans (if_neg hLower.ne'))

theorem claimResolution_yields (hClaim : s.twin.claim = some d) (hPeer : s.twin.peerClaim = some p) (hHigher : d < p) :
    Becomes .claimResolution s (notify 0x0B08 2 0x00 (blkMate 0) { reachElapsed (s.twin.claimAt + 300000) s with
      twin := { s.twin with claim := none } }) :=
  becomes (claimResolution_both hRun hRole hClaim hPeer) (if_pos hHigher)

/-- What the witnesses' agreement that the partner is gone does. -/
theorem takeover_eq (hLow : s.twin.roleIn = false)
    (hGone : s.twin.peerFault = true ∨ s.twin.peerRole = 3 ∨ s.twin.hbSilent = true) : takeoverDue s =
      if s.twin.mirror = 2 then takeover true (reachElapsed (s.twin.roleInAt + cpar 0x0B31 s * 1000) s)
      else reportLost (reachElapsed (s.twin.roleInAt + cpar 0x0B31 s * 1000) s) :=
  if_neg (by obtain h | h | h := hGone <;> simp [hRun, hRole, hLow, h])

/-! ## Mirrored inputs and end markers -/

section
variable (hMirror : s.twin.mirror = 1 ∨ s.twin.mirror = 2)
include hMirror

theorem mirrorInput_taken (hTurn : order = s.twin.order) : Becomes (.mirrorInput order m) s
    (mirrorEffect m { s with twin := { s.twin with order := order + 1 } }) :=
  becomes rfl (if_neg (by obtain h | h := hMirror <;> simp [hRun, hRole, hTurn, h]))

omit hRun hRole hMirror in
theorem mirrorInput_passed (hTurn : order ≠ s.twin.order) : Becomes (.mirrorInput order m) s s :=
  becomes rfl (if_pos (by simp [hTurn]))

/-- What the end marker of a cycle does. -/
theorem endMarker_eq (hCycle : s.twin.cycle = some reg) : endMarker e s = (
    if !e.ledgerOk || !s.twin.ownLedger then diverge 3 { s with twin := { s.twin with comparedAsn := e.asn } }
    else if e.lost || e.digest ≠ s.twin.own then diverge 1 { s with twin := { s.twin with comparedAsn := e.asn } }
    else if e.yielding then takeover false (compareMatched e.asn e.digest
      { s with twin := { s.twin with comparedAsn := e.asn, start := some reg, cycle := none, staged := 0 } })
    else compareMatched e.asn e.digest
      { s with twin := { s.twin with comparedAsn := e.asn, start := some reg, cycle := none, staged := 0 } }) := by
  have hGoes : (!linksRun s || decide (s.twin.role ≠ 2) || decide (s.twin.mirror ≠ 1) && decide (s.twin.mirror ≠ 2)) = false := by
    obtain h | h := hMirror <;> simp [hRun, hRole, h]
  unfold endMarker
  simp only [hGoes, hCycle, Bool.false_eq_true, if_false]

theorem endMarker_ledger (hCycle : s.twin.cycle = some reg) (hLedger : e.ledgerOk = false ∨ s.twin.ownLedger = false) :
    BecomesThenRecord (.endMarker e) s (diverge 3 { s with twin := { s.twin with comparedAsn := e.asn } }) :=
  becomesThenRecord rfl (congrArg resume ((endMarker_eq hRun hRole hMirror hCycle).trans (if_pos (by
    obtain h | h := hLedger <;> simp [h]))))

section
variable (hTheirs : e.ledgerOk = true) (hOurs : s.twin.ownLedger = true)
include hTheirs hOurs

theorem endMarker_digest (hCycle : s.twin.cycle = some reg) (hDiffers : e.lost = true ∨ e.digest ≠ s.twin.own) :
    BecomesThenRecord (.endMarker e) s (diverge 1 { s with twin := { s.twin with comparedAsn := e.asn } }) :=
  becomesThenRecord rfl (congrArg resume ((endMarker_eq hRun hRole hMirror hCycle).trans
    ((if_neg (by simp [hTheirs, hOurs])).trans (if_pos (by obtain h | h := hDiffers <;> simp [h])))))

theorem endMarker_matched (hCycle : s.twin.cycle = some reg) (hWhole : e.lost = false) (hSame : e.digest = s.twin.own)
    (hStays : e.yielding = false) : BecomesThenRecord (.endMarker e) s (compareMatched e.asn e.digest
      { s with twin := { s.twin with comparedAsn := e.asn, start := some reg, cycle := none, staged := 0 } }) :=
  becomesThenRecord rfl (congrArg resume ((endMarker_eq hRun hRole hMirror hCycle).trans
    ((if_neg (by simp [hTheirs, hOurs])).trans ((if_neg (by simp [hWhole, hSame])).trans (if_neg (by simp [hStays]))))))

end

end

end

/-! ## Full sync and yield -/

theorem fullSyncStart_begins (hTrained : (link 4 s).trained = true ∨ (link 5 s).trained = true) (hRole : s.twin.role = 1)
    (hPeer : s.twin.peerRole = 2) : Becomes .fullSyncStart s (beginSync s) :=
  becomes rfl ((if_neg (by obtain h | h := hTrained <;> simp [hRun, h])).trans (if_pos (by simp [hRole, hPeer])))

/-- What a full sync that fails leaves. -/
def syncFailed (t : Nat) (s : State) : State :=
  { reachElapsed (t + cpar 0x0B33 s * 1000000000) s with twin := { s.twin with
    syncAt := none, mirror := if s.twin.mirror = 1 then 3 else s.twin.mirror
    cycle := if s.twin.mirror = 1 then none else s.twin.cycle } }

theorem fullSyncTimeout_fails (hSync : s.twin.syncAt = some t) : BecomesThenRecord .fullSyncTimeout s
    (notify 0x0B09 0 0x03 (blkMate 0) (endSyncTickets 0x03 (syncFailed t s))) :=
  becomesThenRecord rfl (congrArg resume (by
    simp only [fullSyncTimedOut, hSync, hRun, Bool.not_true, Bool.false_eq_true, if_false, reachElapsed_keeps, syncFailed]
    by_cases hMirror : s.twin.mirror = 1
    · simp only [hMirror, if_true]; rfl
    · simp only [hMirror, if_false]; rfl))

theorem yieldTimeout_ends (hAwait : s.cond.await = some (.yield d)) : BecomesThenRecord .yieldTimeout s
    (unblockCond 0x03 0 0 (unfreeze { reachElapsed d s with twin := { s.twin with
      yieldAt := none, roleOut := s.twin.role = 1 && !s.twin.roleIn } })) :=
  becomesThenRecord rfl ((if_pos hRun).trans (congrArg resume (by simp only [yieldTimedOut, hAwait]; rfl)))

end

end

/-- Settles O43: each event by its own lemma. -/
theorem twinEvents : Obligations.TwinEvents :=
  fun _ _ _ _ _ _ _ _ _ _ _ =>
    ⟨heartbeatSend_sends,
     fun hRun hTrained hRole hPeer _ => becomesThenRecord rfl (congrArg resume (heartbeat_standby hRun hTrained hRole hPeer)),
     heartbeatTimeout_silent, roleInChange_takes,
     fun hRun hRole hClaim => ⟨claimResolution_alone hRun hRole hClaim, claimResolution_wins hRun hRole hClaim,
       claimResolution_yields hRun hRole hClaim⟩,
     fun hRun hRole hLow hGone =>
       ⟨fun hMirrored => becomesThenRecord rfl (congrArg resume ((takeover_eq hRun hRole hLow hGone).trans (if_pos hMirrored))),
        fun hOther => becomesThenRecord rfl (congrArg resume ((takeover_eq hRun hRole hLow hGone).trans (if_neg hOther)))⟩,
     fun hRun hRole hMirror => ⟨mirrorInput_taken hRun hRole hMirror, mirrorInput_passed,
       fun hCycle => ⟨endMarker_ledger hRun hRole hMirror hCycle,
         fun hTheirs hOurs => endMarker_digest hRun hRole hMirror hTheirs hOurs hCycle,
         fun hTheirs hOurs => endMarker_matched hRun hRole hMirror hTheirs hOurs hCycle⟩⟩,
     fullSyncStart_begins, fullSyncTimeout_fails, yieldTimeout_ends⟩

end Sys2Proof.Machine
end

section
/-! PROOF. The host interface: reads of its windows, QSPI transfers, transmit and receive descriptors (05 R192; 07 R251; 08 R279;
11 R361; 14 R464; 15 R480-R511; 19 R602). -/

namespace Sys2Proof.Machine

/-! ## Reads and transfers -/

section
variable {w : World} {addr : BitVec 24} {len : Nat} {data : List Word} {b : Bool} {s : State}

section
variable (hCore : s.time.coreOn = true)
include hCore

theorem psumRead_reads : Becomes (.psumRead w) s (readPsum w s) := becomes rfl (if_pos hCore)

theorem timeSnapshotRead_latches : Becomes (.timeSnapshotRead w) s (readXovr (latchTime s)) := becomes rfl (if_pos hCore)

theorem nfloorRead_latches : Becomes (.nfloorRead w) s { s with radio := { s.radio with nfLatch := nfWords s } } :=
  becomes rfl (if_pos hCore)

theorem hostSilence_shows (hHeard : s.host.silent = false) : Becomes .hostSilence s
    (showSilent (reachElapsed (s.host.lastPsum + cpar 0x0A40 s * 1000000) s)) :=
  becomes rfl (if_neg (by simp [hCore, hHeard]))

end

/-- The instant of the next write of the PSUM mirror has come. -/
def mirrorReached (w : World) (s : State) : State := reachElapsed ((whost w s).mirrorAt + cpar 0x0A10 s * 1000) s

theorem psumMirrorWrite_writes (hUp : hostUp s = true) (hRuns : (ring w 19 s).runs = true) (hDue : (whost w s).mirrorDue = true) :
    Becomes (.psumMirrorWrite w) s (modWhost w (fun h => { h with
      mirrorDue := false, mirrorAt := (mirrorReached w s).time.elapsed, mirrorOut := psum w (mirrorReached w s) })
      (mirrorReached w s)) :=
  becomes rfl (if_neg (by simp [hUp, hRuns, hDue]))

section
variable (hUp : hostLinkUp .qspi s = true)
include hUp

theorem qspiRead_eq (hAwake : s.pw.asleep = false) : exec (.qspiRead w addr len) s = ok (qspiReadOp w addr.toNat len s) :=
  congrArg ok ((if_neg (by simp [hAwake])).trans (if_pos hUp))

theorem qspiRead_reads (hAwake : s.pw.asleep = false) (hOk : transferOk addr.toNat len = true)
    (hPart : strays w addr.toNat (len / 4) s = false) : Becomes (.qspiRead w addr len) s
      { (readWords w (len / 4) addr.toNat s).2 with
        host := { (readWords w (len / 4) addr.toNat s).2.host with qspiOut := (readWords w (len / 4) addr.toNat s).1 } } :=
  becomes (qspiRead_eq hUp hAwake) ((if_neg (by simp [hOk])).trans (by simp only [hPart, Bool.false_eq_true, if_false]))

theorem qspiRead_bad (hAwake : s.pw.asleep = false) (hBad : transferOk addr.toNat len = false) :
    Becomes (.qspiRead w addr len) s (bump 0x0A23 s) :=
  becomes (qspiRead_eq hUp hAwake) (if_pos (by simp [hBad]))

/-- What a write of a length and an alignment that are allowed does. -/
theorem qspiWrite_eq (hOk : transferOk addr.toNat (4 * data.length) = true) : exec (.qspiWrite w addr data) s = ok
    (writeWords w data addr.toNat (if strays w addr.toNat data.length s then bump 0x0A20 s else s)) :=
  congrArg ok ((if_neg (by simp [hUp])).trans (if_neg (by simp [hOk])))

theorem qspiWrite_writes (hOk : transferOk addr.toNat (4 * data.length) = true) (hPart : strays w addr.toNat data.length s = false) :
    Becomes (.qspiWrite w addr data) s (writeWords w data addr.toNat s) :=
  becomes (qspiWrite_eq hUp hOk) (by simp only [hPart, Bool.false_eq_true, if_false])

theorem qspiWrite_strays (hOk : transferOk addr.toNat (4 * data.length) = true) (hOut : strays w addr.toNat data.length s = true) :
    Becomes (.qspiWrite w addr data) s (writeWords w data addr.toNat (bump 0x0A20 s)) :=
  becomes (qspiWrite_eq hUp hOk) (by simp only [hOut, if_true])

theorem qspiWrite_bad (hBad : transferOk addr.toNat (4 * data.length) = false) :
    Becomes (.qspiWrite w addr data) s (bump 0x0A23 s) :=
  becomes rfl ((if_neg (by simp [hUp])).trans (if_pos (by simp [hBad])))

theorem qspiBadTransfer_counts : Becomes (.qspiBadTransfer w) s (bump 0x0A23 s) := becomes rfl (if_pos hUp)

end

theorem asleepQspiRead_wakes (hAsleep : s.pw.asleep = true) (hMode : s.pw.mode ≠ 0) (hBank : bankOn 1 s = true) :
    BecomesThenRecord (.asleepQspiRead w) s (wakeEvent 3 { s with host := { s.host with qspiOut := [w32 (aonStatus s)] } }) :=
  becomesThenRecord rfl (congrArg resume (if_pos (by simp [hAsleep, hMode, hBank])))

theorem perstN_sets (hBank : bankOn 3 s = true) : Becomes (.perstN b) s { s with host := { s.host with pcieUp := !b } } :=
  becomes rfl (if_pos hBank)

end

/-- Settles O45: each event by its own lemma. -/
theorem hostReads : Obligations.HostReads :=
  fun _ _ _ _ _ _ =>
    ⟨fun hCore => ⟨psumRead_reads hCore, timeSnapshotRead_latches hCore, nfloorRead_latches hCore, hostSilence_shows hCore⟩,
     psumMirrorWrite_writes,
     fun hUp hAwake => ⟨qspiRead_reads hUp hAwake, qspiRead_bad hUp hAwake⟩,
     fun hUp => ⟨qspiWrite_writes hUp, qspiWrite_strays hUp, qspiWrite_bad hUp, qspiBadTransfer_counts hUp⟩,
     asleepQspiRead_wakes, perstN_sets⟩

/-! ## Transmit descriptors -/

section
variable {w : World} {r : Fin 8} {d : TxDesc} {q : Fin 1024} {v : Wait} {it : Item} {n : Nat} {b : Fin 20} {tag : BitVec 32}
  {k : Fin 2} {errs : List MemErr} {s : State}

theorem startItem_granted (hInc : (queue d.queue.val s).inc = none) (hWaits : s.qp.waits.any (fun v => v.q = d.queue.val) = false)
    (hGranted : startRefusal d s = none) : startItem w r d s =
      dataTaken w r true d.eoi d (grantStart w r d s) := by
  have hFree : (!d.route && !s.qp.ledger.hold &&
      ((queue d.queue.val s).inc.isSome || s.qp.waits.any (fun v => v.q = d.queue.val))) = false := by
    rw [hInc, hWaits, Option.isSome_none, Bool.or_self, Bool.and_false]
  unfold startItem
  simp only [hFree, hGranted, Bool.false_eq_true, if_false]

/-- A descriptor without SOI on an open item that is not refused. -/
theorem moreDesc_open (eoi : Bool) (hRefused : (txRing w r s).refused = none) (hOpen : (txRing w r s).open_ = true)
    (hKept : (port w s).discard = false) : moreDesc w r eoi d s = (
      if !d.fieldsOk then refuseDesc w r false eoi d stRANGE s
      else if !lengthOk d.data.length ((itemOf w (port w s).job s).getD { decl := 2047 }).data.length
          ((itemOf w (port w s).job s).getD { decl := 2047 }).decl then
        refuseDesc w r false eoi d stLEN_RANGE (bump 0x0513 s)
      else dataTaken w r false eoi d (addData w (port w s).job d.data s)) := by
  unfold moreDesc
  simp only [hRefused, hOpen, hKept, Bool.not_true, Bool.false_eq_true, if_false]

theorem moreDesc_grows (eoi : Bool) (hRefused : (txRing w r s).refused = none) (hOpen : (txRing w r s).open_ = true)
    (hKept : (port w s).discard = false) (hFields : d.fieldsOk = true) (hItem : itemOf w (port w s).job s = some it)
    (hLength : lengthOk d.data.length it.data.length it.decl = true) :
    moreDesc w r eoi d s = dataTaken w r false eoi d (addData w (port w s).job d.data s) := by
  rw [moreDesc_open eoi hRefused hOpen hKept, hItem, Option.getD_some, if_neg (by simp [hFields]), if_neg (by simp [hLength])]

section
variable (hReady : txReady w r s = true)
include hReady

theorem txStartOfItem_starts (hClosed : (txRing w r s).open_ = false) (hFields : d.fieldsOk = true) (_ : d.secured = false)
    (hUnrouted : d.route = false) (hSome : 1 ≤ d.data.length) (hFits : d.data.length ≤ d.decl) (hLimit : d.decl ≤ 2047)
    (_ : s.qp.ledger.hold = false) (hInc : (queue d.queue.val s).inc = none)
    (hWaits : s.qp.waits.any (fun v => v.q = d.queue.val) = false) (hGranted : startRefusal d s = none) :
    Becomes (.txStartOfItem w r d) s (dataTaken w r true d.eoi d (grantStart w r d s)) :=
  becomes rfl ((if_pos hReady).trans (by
    have hDecl : d.decl ≠ 0 := by omega
    have hData : d.data.length ≤ 2047 := hFits.trans hLimit
    rw [soiDesc, if_neg (by simp [hClosed, hFields, hUnrouted]),
      if_neg (by simp [lengthOk, hDecl, hLimit, hSome, hData, hFits]), startItem_granted hInc hWaits hGranted]))

theorem txData_eq : exec (.txData w r d) s = ok (moreDesc w r false d s) := congrArg ok (if_pos hReady)

theorem txEndOfItem_eq : exec (.txEndOfItem w r d []) s = ok (moreDesc w r true d s) := congrArg ok (if_pos hReady)

theorem txData_unopened (hRefused : (txRing w r s).refused = none) (hClosed : (txRing w r s).open_ = false) :
    Becomes (.txData w r d) s (refuseDesc w r false false d 0x02 s) :=
  becomes (txData_eq hReady) (by
    unfold moreDesc
    simp only [hRefused, hClosed, Bool.not_false, if_true, stRANGE])

end

theorem txEndOfItem_ringFails (hReady : txReady w r (meetErrors errs s) = true)
    (hRefused : (txRing w r (meetErrors errs s)).refused = none) (hOpen : (txRing w r (meetErrors errs s)).open_ = true)
    (hKept : (port w (meetErrors errs s)).discard = false) (hFails : ringFails errs = true) : Becomes (.txEndOfItem w r d errs) s
      (refuseDesc w r false true { d with fieldsOk := false } 0x02 (meetErrors errs s)) :=
  becomes rfl ((if_pos hReady).trans (by
    rw [if_pos hFails, moreDesc_open true hRefused hOpen hKept]
    rfl))

/-! ## Starts that wait and items that stay incomplete -/

theorem startWaitGrant_grants (hFound : s.qp.waits.find? (fun v => v.q = q.val) = some v) (hInc : (queue q.val s).inc = none)
    (hCore : s.time.coreOn = true)
    (hGranted : startRefusal v.desc { s with qp := { s.qp with waits := dropFirst (fun v => v.q = q.val) s.qp.waits } } = none) :
    Becomes (.startWaitGrant q) s (dataTaken v.world v.tx true v.desc.eoi v.desc (grantStart v.world v.tx v.desc
      { s with qp := { s.qp with waits := dropFirst (fun v => v.q = q.val) s.qp.waits } })) :=
  becomes rfl (by
    simp only [hFound, hInc, hCore, Option.isSome_none, Bool.not_true, Bool.or_self, Bool.false_eq_true, if_false, hGranted])

theorem startWaitTimeout_refuses (hFound : s.qp.waits.find? (fun v => v.cust == (w == .custodian)) = some v)
    (hCore : s.time.coreOn = true) : Becomes (.startWaitTimeout w) s (refuseStart w v.tx v.desc 0x03
      { reachElapsed (v.madeAt + cpar 0x0502 s * 1000) s with qp := { s.qp with
          waits := dropFirst (fun v => v.cust == (w == .custodian)) s.qp.waits } }) :=
  becomes rfl (by
    simp only [hFound, hCore, Bool.not_true, Bool.false_eq_true, if_false, stTIMEOUT, reachElapsed_keeps])

theorem itemTimeout_queued (hInc : (queue q.val s).inc = some it) : Becomes (.itemTimeout (.inl q)) s
    (txfsLost (dropRest q.val 0x03 (reachElapsed (it.lastData + cpar 0x0503 s * 1000000) s))) :=
  becomes rfl (by simp only [hInc]; rfl)

theorem itemTimeout_routed (hHeld : (port w s).held = some it) : Becomes (.itemTimeout (.inr w)) s
    (dropHeldOpen w 0x03 (reachElapsed (it.lastData + cpar 0x0503 s * 1000000) s)) :=
  becomes rfl (by simp only [hHeld]; rfl)

/-! ## Receive descriptors -/

theorem unposted_link : Unposted (fun s => s.host.link) :=
  ⟨fun _ _ => rfl, fun w _ _ _ => by cases w <;> rfl, fun _ _ => rfl, fun _ _ => rfl⟩

theorem reHigh_link (q : Nat) (s : State) : (reHigh q s).host.link = s.host.link := by
  unfold reHigh
  dsimp only
  split
  · split
    · exact unposted_link.notify ..
    · rfl
  · split <;> rfl

theorem popItem_link (q : Nat) (it : Item) (s : State) : (popItem q it s).host.link = s.host.link := reHigh_link ..

/-- The item that is delivered has left its queue, whose turn is over. -/
def delivering (w : World) (r : Fin 8) (n : Nat) (it : Item) (s : State) : State :=
  modWhost w (fun h => { h with rxTurn := h.rxTurn.set r n }) (popItem n it s)

theorem delivering_link : (delivering w r n it s).host.link = s.host.link := by
  cases w <;> exact popItem_link ..

theorem receiveDelivery_delivers (hUp : hostUp s = true) (hFrozen : s.pw.frozen = false) (hSlot : s.pw.slotAwake = false)
    (hRoom : (ring w (rxBlk r) s).room = true) (hLink : s.host.link = some .pcie) (hNext : rxNext w r s = some (n, it)) :
    Becomes (.receiveDelivery w r) s (retireHeld it 4 0x00
      (postDescData w (rxBlk r) (rxDesc it n (delivering w r n it s)) it.data (delivering w r n it s))) :=
  becomes rfl ((if_neg (by simp [hUp, hFrozen, hSlot, hRoom])).trans (by
    have hPcie : (decide ((delivering w r n it s).host.link = some .qspi)) = false := by
      rw [delivering_link, hLink]; rfl
    unfold delivering at hPcie ⊢
    simp only [hNext, hPcie, Bool.false_and, Bool.false_eq_true, if_false, stOK]))

/-! ## Bad DMA ends -/

/-- A ring stops at a bad DMA end, which is counted and reported. -/
def dmaStopped (w : World) (b : Fin 20) (s : State) : State :=
  bump 0x0A24 (notify 0x0A03 (32 * (if w = .operator then 0 else 1) + b.val) 0x03 blkHost (stopRing w b s))

section
variable (hLink : s.host.link = some .pcie) (hUp : hostUp s = true) (hRuns : (ring w b s).runs = true)
include hLink hUp hRuns

theorem dmaBad_stops : dmaBad w b none s = dmaStopped w b s := if_neg (by simp [hLink, hUp, hRuns])

theorem dmaError_record (hCommand : b = blkCommand) (hIdle : s.cond.record = none) : Becomes (.dmaError w b (some (k, tag))) s
    (dmaStopped w b (postCompletion w (2 + k.val) 0 tag 0x03 0 0 s)) :=
  becomes rfl ((if_neg (by simp [hLink, hUp, hRuns])).trans (by
    have hLoad : (decide (b = blkCommand) && s.cond.record.isNone) = true := by simp [hCommand, hIdle]
    simp only [hLoad, if_true]
    rfl))

theorem dmaTimeout_stops : Becomes (.dmaTimeout w b none) s (dmaStopped w b (reachElapsed (s.time.elapsed + 50000000) s)) :=
  becomes rfl ((if_neg (by simp [hLink, hUp, hRuns])).trans (dmaBad_stops hLink hUp hRuns))

end

end

/-- Settles O46: each event by its own lemma. -/
theorem ringDescriptors : Obligations.RingDescriptors :=
  fun _ _ _ _ _ _ _ _ _ _ _ _ =>
    ⟨fun hReady => ⟨txStartOfItem_starts hReady,
       fun hRefused hOpen hKept hFields hItem hLength =>
         ⟨becomes (txData_eq hReady) (moreDesc_grows false hRefused hOpen hKept hFields hItem hLength),
          becomes (txEndOfItem_eq hReady) (moreDesc_grows true hRefused hOpen hKept hFields hItem hLength)⟩,
       txData_unopened hReady⟩,
     startWaitGrant_grants, startWaitTimeout_refuses, itemTimeout_queued, itemTimeout_routed, receiveDelivery_delivers,
     fun hLink hUp hRuns => ⟨becomes rfl (dmaBad_stops hLink hUp hRuns), dmaError_record hLink hUp hRuns,
       dmaTimeout_stops hLink hUp hRuns⟩,
     txEndOfItem_ringFails⟩

end Sys2Proof.Machine
end
